-- ==== Sys2Proof/Word.lean ====
section
/-! DEFINITION. The number types of the KG9256: bytes, register words, and the limits of the fixed-point types of
00_scope.md (R7, R9, R10). Values that the manual computes with are plain Int or Nat, narrowed explicitly where a
rule narrows them; register contents are bit vectors. -/
namespace Sys2Proof

/-- One byte of a datagram, a folio or an OCTETS value, as a number below 256. -/
abbrev Byte := Nat

/-- A 32-bit register word (02_parameters.md, "Registers"). -/
abbrev Word := BitVec 32

/-- 1.0 pu in PU32: 2^24 (R9). -/
abbrev pu1 : Int := 16777216

/-- One full turn in TURN32: 2^32 (R10). -/
abbrev turn : Nat := 4294967296

/-- The largest PU32 or I32 code (R9). -/
abbrev maxI32 : Int := 2147483647

/-- The smallest PU32 or I32 code (R9). -/
abbrev minI32 : Int := -2147483648

/-- The largest I64 code. -/
abbrev maxI64 : Int := 9223372036854775807

/-- The smallest I64 code. -/
abbrev minI64 : Int := -9223372036854775808

/-- 2^64, the modulus of U64 counters and of the 64-bit angle. -/
abbrev two64 : Nat := 18446744073709551616

end Sys2Proof
end

