-- ==== Sys2Proof/Syntax.lean ====
section
/-! DEFINITION. The commands of the KG9256: one constructor of Instr per row of spec/opcode_table.json, with the
operands the outside gives (an address, a measured value, a received message), and the enumerations they use. -/
namespace Sys2Proof

/-- The ten functions with run states (Table 2-10). -/
inductive Fn where
  | form | arm | select | trunk | sense | field | safety | time | record | clock
deriving DecidableEq, Repr, Inhabited

/-- The run states of Table 2-9 (state 7, NONE, is only a register code). -/
inductive Run where
  | stopped | starting | running | stopping | faulted
deriving DecidableEq, Repr, Inhabited

/-- The six modes of Table 3-1. -/
inductive Mode where
  | boot | commission | blocked | forming | standby | safe
deriving DecidableEq, Repr, Inhabited

/-- The four fault classes of Table 0-5. -/
inductive Cls where
  | note | warn | trip | safe
deriving DecidableEq, Repr, Inhabited

/-- The twelve power domains of Table 1-6. -/
inductive Domain where
  | aon | keep | hk | app | safe | ctl | trk | spn | net | sna | snd | fld
deriving DecidableEq, Repr, Inhabited

/-- The two station ports, or the two spine ports, or the two feeds: the first (NET0, SPN_E, FEEDA) or the second. -/
inductive Side where
  | a | b
deriving DecidableEq, Repr, Inhabited

/-- What the memory die answers to a slot write and its read-back (R457): good (at once or after one rewrite), a second
mismatch, an uncorrectable error, or nothing within 1 ms. -/
inductive MemAnswer where
  | good | mismatch | ecc | silent
deriving DecidableEq, Repr, Inhabited

/-- One event as a region offers it (R454). -/
structure Offer where
  /-- event code -/
  code : Nat
  /-- class -/
  cls : Cls
  /-- region code -/
  region : Nat
  /-- payload bytes -/
  payload : List Nat
deriving DecidableEq, Repr, Inhabited

/-- What an Announce says, as the best master algorithm compares it (R341). -/
structure Foreign where
  /-- 8 bytes grandmaster identity; R341 (12) -/
  gm : List Nat
  /-- U8 priority1; Table 12-1 (12) -/
  p1 : Nat
  /-- clockClass; Table 12-1 (12) -/
  cls : Nat
  /-- clockAccuracy; Table 12-1 (12) -/
  acc : Nat
  /-- offsetScaledLogVariance; IEEE 1588-2019 default algorithm -/
  var : Nat
  /-- U8 priority2; Table 12-1 (12) -/
  p2 : Nat
  /-- stepsRemoved; IEEE 1588-2019 default algorithm -/
  steps : Nat
  /-- 8 bytes identity of the sending clock -/
  sender : List Nat
  /-- currentUtcOffset, s; R350 (12) -/
  utc : Nat
  /-- currentUtcOffset is valid; R350 (12) -/
  utcOk : Bool
  /-- leap61 flag; R351 (12) -/
  leap61 : Bool
  /-- leap59 flag; R351 (12) -/
  leap59 : Bool
deriving DecidableEq, Repr, Inhabited

/-- A peer-delay message as received: a request with its ingress capture and the capture of the answer's egress, or the
answer to the device's request with its ingress capture, the responder's turnaround and the correction (R339, R343). -/
inductive Pdelay where
  | req (seq : Nat) (capture egress : Int)
  | resp (seq : Nat) (capture turn corr : Int)
deriving DecidableEq, Repr, Inhabited

/-- What the parts outside the model answer while the boot sequence runs (Table 3-13). -/
structure BootIn where
  /-- 4 bits strap pins at the release of reset; R74 (03) -/
  straps : Nat
  /-- qualifying entries on which the main PLL does not lock before it does; Table 3-13 step 2 (03), R315 (11) -/
  mainTry : Nat
  /-- the memory die answers the reads and the verified write of RECORD's start check; Table 16-8 (16) -/
  memOk : Bool
  /-- the same for PLLs A to D; Table 3-13 step 5 (03), R315 (11) -/
  pllTry : List Nat
  /-- the memory self-tests of step 6 pass; Table 3-13 (03) -/
  memTest : Bool
  /-- the lockstep self-test of step 6 passes; Table 3-13 (03) -/
  lockTest : Bool
  /-- the same for PLLs A to D where their settings change with the START of CLOCK; R315, R318 (11) -/
  againTry : List Nat
  /-- the barrier link has come up by step 7; R359 (13) -/
  barrier : Bool
  /-- temperature of channel 22, 1/16 degree; R281 (10) -/
  temp : Int
  /-- coefficients of converters 0 to 16 from the foreground calibration, none where it does not converge; R281 (10) -/
  cal : List (Option (Int × Int))
deriving DecidableEq, Repr, Inhabited

/-- Where a service datagram arrives: the station port, and the address to which it was sent (R37). -/
structure Door where
  /-- the station port -/
  port : Side
  /-- the destination address, IPv6 -/
  addr : Nat
deriving DecidableEq, Repr, Inhabited

/-- What stands around the data of a duplex frame: its number and its CRC-32 as received (R424). -/
structure DpxFrame where
  /-- the frame number N -/
  n : BitVec 16
  /-- the CRC-32 -/
  crc : BitVec 32
deriving DecidableEq, Repr, Inhabited

/-- A PLL and the phase error of its reference, in ps, when the frequency relock completes (R329). -/
structure PllError where
  /-- the PLL: 0 to 3 A to D, 4 the main PLL -/
  pll : Fin 5
  /-- the phase error, ps -/
  err : Int
deriving DecidableEq, Repr, Inhabited

/-- The commands, one per row of spec/opcode_table.json. -/
inductive Instr where
  /-- PS_DATAGRAM (R39): A UDP datagram arrives on port 43110; it is checked for device, length and tag, then dropped, refused BUSY or queued for execution. -/
  | psDatagram (door : Door) (rct : Option (Nat × Nat)) (src sport : Nat) (data : List Nat)
  /-- READ (R42): A READ request executes its entries in order, reading objects and writing select objects. -/
  | readRequest
  /-- WRITE (R50): A WRITE request checks all entries atomically and then writes none or all of them. -/
  | writeRequest
  /-- READ_BLOCK (R55): A READ_BLOCK reads consecutive subindices on the channel held when the request was received. -/
  | readBlock
  /-- WRITE_BLOCK (R55): A WRITE_BLOCK atomically writes consecutive subindices on the held channel. -/
  | writeBlock
  /-- DESCRIBE (R56): A DESCRIBE request returns the type, access class, levels, owning function and limits of one object. -/
  | describeRequest
  /-- HELLO (R483): A HELLO in session 0 exchanges nonces and ephemeral keys, signed by the device identity key. -/
  | helloRequest
  /-- OPEN (R484): An OPEN checks a held HELLO exchange and a credential and grants a session with a derived key. -/
  | openSession
  /-- CLOSE (R486): A CLOSE ends the session in which it is sent. -/
  | closeSession
  /-- CLAIM (R488): A CLAIM in COMMISSION installs the first owner record. -/
  | claimOwner
  /-- STAGED_WRITE_APPLY (R50): At the forming-period boundary an accepted write that waited under R49 takes effect, then its run commands and mode requests are judged again and applied, and the response is sent. -/
  | stagedWriteApply
  /-- CLIENT_STATE_EXPIRY (R52): A session-0 client's state ends after SESSION_IDLE without a request. -/
  | clientStateExpiry (src sport : Nat)
  /-- RUN_START (R58): A START command for a function is accepted or refused and takes the function to STARTING. -/
  | runStart (level : Nat) (n : Fn)
  /-- RUN_STOP (R58): A STOP command for a function is accepted or refused and takes the function to STOPPING. -/
  | runStop (level : Nat) (n : Fn)
  /-- START_CHECK_DONE (R59): The start check of a starting function completes, returning it to STOPPED with a check code or continuing it to RUNNING. -/
  | startCheckDone (n : Fn) (memOk : Bool)
  /-- STOP_COMPLETE (R58): A stopping function reaches STOPPED. -/
  | stopComplete (n : Fn)
  /-- MODE_REQUEST_COMMISSION (R75): MODE_REQUEST 1 moves BLOCKED to COMMISSION or is refused with a MODE_CHECK code. -/
  | modeRequestCommission (level : Nat)
  /-- MODE_REQUEST_BLOCKED (R75): MODE_REQUEST 2 enters BLOCKED from COMMISSION or FORMING, or cancels a pending FORMING entry. -/
  | modeRequestBlocked (level : Nat)
  /-- MODE_REQUEST_FORMING (R77): MODE_REQUEST 3 tests the conditions of Table 3-8 and makes a FORMING entry pending or refuses it. -/
  | modeRequestForming (level : Nat)
  /-- APPLICATION_RESET_COMMAND (R85): RESET_COMMAND 0x0A01 resets the four application cores only. -/
  | applicationResetCommand (level : Nat)
  /-- SYSTEM_RESET_COMMAND (R84): RESET_COMMAND 0x0A02 makes a SYSTEM reset of every domain except AON and KEEP. -/
  | systemResetCommand (level : Nat)
  /-- CONFIG_COMMIT (R92): CONFIG_COMMIT writes the stored objects to non-volatile memory as one record. -/
  | configCommit (level : Nat)
  /-- CONFIG_COMMIT_DONE (R92): The commit record is written, CONFIG_STATE is set and the response is sent. -/
  | configCommitDone
  /-- TICK_LENGTH_WRITE (R93): A write of TICK_LENGTH in BLOCKED with the tick functions stopped sets a new tick length for the next boundary. -/
  | tickLengthWrite (level : Nat) (v : BitVec 8)
  /-- STATION_SETPOINT_WRITE (R101): A write of P_SET, Q_SET, V_SET0 or W_SET is held for publication on the spine or refused. -/
  | stationSetpointWrite (level : Nat) (sub : Fin 4) (value : BitVec 32)
  /-- FAIL_NOW (R195): FAIL_NOW marks the selected cell failed with reason 7 at the next latch point. -/
  | failNow (level : Nat) (c : Fin 256)
  /-- FAIL_REASON_WRITE (R178): A write of FAIL_REASON clears a cell's failed mark or marks it failed with reason 7. -/
  | failReasonWrite (level : Nat) (c : Fin 256) (v : BitVec 8)
  /-- GD_VERIFY (R224): GD_VERIFY starts a read-back pass over the gate-drive settings of every cell. -/
  | gdVerify (level : Nat)
  /-- INJ_COMMAND (R287): A software injected-conversion request for an input is registered or refused. -/
  | injCommand (level : Nat) (c : Fin 25)
  /-- CLK_COMMIT (R317): CLK_COMMIT makes all four small PLLs take their shadow settings on one reference edge. -/
  | clkCommit (level : Nat)
  /-- TIME_SET (R353): TIME_SET sets the local clock while TIME is STOPPED or FAULTED. -/
  | timeSet (level : Nat) (sec : BitVec 64) (ns : BitVec 32)
  /-- OUT_SET (R368): OUT_SET turns on the named application-owned output pins. -/
  | outSet (level : Nat) (mask : BitVec 32)
  /-- OUT_CLEAR (R368): OUT_CLEAR turns off the named application-owned output pins. -/
  | outClear (level : Nat) (mask : BitVec 32)
  /-- PIN_CLEAR (R371): CLEAR releases a latched-off output and clears OVERLOAD and THERMAL. -/
  | pinClear (level : Nat) (p : Fin 32)
  /-- FORCE_WRITE (R364): A write of FORCE in COMMISSION forces an application output off or on. -/
  | forceWrite (level : Nat) (p : Fin 32) (v : Nat)
  /-- SAFE_RESET (R392): A safety reset is requested and acts in the next safety cycle on every item whose condition holds. -/
  | safeReset (level : Nat)
  /-- SAFETY_CONFIRM (R402): SAFETY_CONFIRM confirms the safety parameter set when its conditions hold, setting CONFIG_STATE to 2. -/
  | safetyConfirm (level : Nat) (v : BitVec 32)
  /-- SAFETY_SET_WRITE (R400): An accepted write to the safety parameter set withdraws confirmation and recomputes SAFETY_CRC. -/
  | safetySetWrite (session level idx sub chan : Nat) (value : List Nat)
  /-- PROT_SET_WRITE (R412): An accepted write to the protection set stops the protection function and stores the set with a new PROT_CRC. -/
  | protSetWrite (session level sub : Nat) (value : List Nat)
  /-- PROT_START (R412): PROT_START checks the protection set and starts the protection function. -/
  | protStart (level : Nat)
  /-- ATTEST_REQUEST (R482): A nonce written to ATTEST_REQUEST starts an attestation signature or is refused BUSY. -/
  | attestRequest (session level : Nat) (nonce : List Nat) (okA okB : Bool)
  /-- ATTEST_SIGNED (R482): The attestation answer is signed with both identity keys and held for the session. -/
  | attestSigned
  /-- OWNER_KEYS_WRITE (R488): A write of OWNER_KEYS replaces the owner record and ends every session. -/
  | ownerKeysWrite (session level : Nat) (data : List Nat)
  /-- CRED_MIN_GEN_WRITE (R486): Raising CRED_MIN_GEN ends sessions whose credential generation lies below it. -/
  | credMinGenWrite (session level : Nat) (v : BitVec 32)
  /-- FUSE_SVN (R478): FUSE_SVN blows fuse bits to raise FUSED_SVN within its allowed range. -/
  | fuseSvn (level : Nat) (v : BitVec 16)
  /-- APP_MIN_SVN_WRITE (R478): A write raises APP_MIN_SVN within its allowed range. -/
  | appMinSvnWrite (session level : Nat) (v : BitVec 16)
  /-- DEBUG_LOCK_SET (R492): DEBUG_LOCK_SET blows the debug-lock fuse permanently. -/
  | debugLockSet (level : Nat) (v : BitVec 32)
  /-- SESSION_CLOSE (R486): SESSION_CLOSE ends the named session. -/
  | sessionClose (level : Nat) (id : BitVec 32)
  /-- SWITCHOVER (R443): SWITCHOVER requests a hand-back of the position to a WARM partner. -/
  | switchover (level : Nat)
  /-- RECORDER_CLEAR (R464): An accepted CLEAR discards all folios, writes the clear floor and the clear folio 0x8001. -/
  | recorderClear (session level value : Nat)
  /-- WINDOW_SNAPSHOT (R462): A window read or REC_WCTRL.LOAD takes a snapshot of four folios from the cursor and advances it if set. -/
  | windowSnapshot (m : Fin 7)
  /-- REGISTER_WRITE (R65): A register write without behaviour of its own is checked for privilege, access class and run state and applied or ignored with ERROR set. -/
  | registerWrite (m : Fin 7) (addr : BitVec 32) (w : BitVec 32)
  /-- SELECT_REGISTER_WRITE (R53): A select register write sets the writing master's own channel, or sets ERROR.SEL when out of range. -/
  | selectRegisterWrite (m : Fin 7) (group : Fin 5) (v : BitVec 32)
  /-- ERROR_CLEAR (R513): Writing 1 to bits of a region ERROR register clears them; clearing ECC_U sets FIRST to 0xFF. -/
  | errorClear (m : Fin 7) (region : Fin 8) (mask : BitVec 32)
  /-- UNFENCE (R513): A release request for a fenced block or core is judged and, if accepted, starts the block's self-test. -/
  | unfence (m : Fin 7) (region : Fin 9) (b : Fin 16)
  /-- FENCE_SELFTEST_DONE (R513): A released block's self-test completes, clearing the fence or keeping it with event 0x0302. -/
  | fenceSelftestDone (region : Fin 9) (b : Fin 16) (ok : Bool)
  /-- SEM_ACQUIRE (R517): A read of HW_SEM acquires a free semaphore for the reading master or reports it held. -/
  | semAcquire (m : Fin 7) (sem : Fin 16)
  /-- SEM_RELEASE (R517): The holder writes RELEASE to free a semaphore. -/
  | semRelease (m : Fin 7) (sem : Fin 16)
  /-- SEM_RENEW (R517): The holder writes RENEW to renew a semaphore lease. -/
  | semRenew (m : Fin 7) (sem : Fin 16)
  /-- QUEUE_POST (R504): The producer writes QUEUE_DATA to post an entry, refused if full or from another master. -/
  | queuePost (m : Fin 7) (q : Fin 16) (w : BitVec 32)
  /-- QUEUE_TAKE (R504): The consumer reads QUEUE_DATA to take the oldest entry. -/
  | queueTake (m : Fin 7) (q : Fin 16)
  /-- REC_OFFER (R466): Application firmware offers an application event with the payload in REC_OFFER_DATA. -/
  | recOffer (core : Fin 4) (code : BitVec 16) (warn : Bool)
  /-- TIME_SEC_LO_READ (R338): A read of TIME_SEC_LO latches the other time registers from the same cycle for that master. -/
  | timeSecLoRead (m : Fin 7)
  /-- REC_NEWEST_LO_READ (R469): A read of REC_NEWEST_LO latches REC_NEWEST_HI. -/
  | recNewestLoRead (m : Fin 7)
  /-- REC_OLDEST_LO_READ (R469): A read of REC_OLDEST_LO latches REC_OLDEST_HI. -/
  | recOldestLoRead (m : Fin 7)
  /-- DBG_CHALLENGE (R490): DBG_CHALLENGE shifts out a fresh nonce, SERIAL and device number. -/
  | dbgChallenge
  /-- DBG_RESPONSE (R490): DBG_RESPONSE checks a debug credential and opens a debug session or counts a failure. -/
  | dbgResponse (cred sig : List Nat)
  /-- DBG_ACCESS (R491): DBG_ACCESS performs a debug access at the session's level, read-only in FORMING and STANDBY. -/
  | dbgAccess (write : Bool) (addr : BitVec 32) (w : BitVec 32) (halt : Option (Fin 4))
  /-- DBG_RESET (R489): DBG_RESET makes a SYSTEM reset with RESET_CAUSE.DEBUG. -/
  | dbgReset
  /-- DBG_END (R490): DBG_END ends the debug session. -/
  | dbgEnd
  /-- EXTEST (R489): EXTEST performs boundary scan in a P3 session in a halted BOOT. -/
  | extest (pins tdi : List Bool)
  /-- IDCODE (R489): IDCODE shifts out 0x2925_6A6B. -/
  | idcode
  /-- BYPASS (R489): BYPASS selects the bypass register. -/
  | bypass (tdi : List Bool)
  /-- SAMPLE_PRELOAD (R489): SAMPLE/PRELOAD samples or preloads the boundary register. -/
  | samplePreload (pins tdi : List Bool)
  /-- DBG_LOCKOUT_END (R490): The 60 s refusal of DBG_RESPONSE after three failures ends. -/
  | dbgLockoutEnd
  /-- DBG_IDLE_TIMEOUT (R490): A debug session without DBG_ACCESS for 600 s, or past NOT_AFTER, ends. -/
  | dbgIdleTimeout
  /-- POWER_ON_RESET (R527): Both feeds below 2.50 V assert a FULL reset of every domain. -/
  | powerOnReset (va vb : Nat)
  /-- SYS_RESET_N (R84): SYS_RESET_N held low for 10 µs makes a SYSTEM reset. -/
  | sysResetN (low : Nat)
  /-- HK_WATCHDOG_EXPIRY (R84): The housekeeping watchdog expires and makes a SYSTEM reset. -/
  | hkWatchdogExpiry
  /-- APP_WATCHDOG_EXPIRY (R84): The watchdog of an application core expires and resets that core. -/
  | appWatchdogExpiry (core : Fin 4)
  /-- BOOT_SEQUENCE (R89): At the release of a FULL or SYSTEM reset the boot sequence runs its steps in order. -/
  | bootSequence (x : BootIn)
  /-- DPX_LISTEN_WINDOW_END (R91): The duplex listen window ends and the mode is entered as Table 3-7 states. -/
  | dpxListenWindowEnd
  /-- FIRMWARE_VERIFY (R477): After a takeover secure and application firmware are verified while control runs. -/
  | firmwareVerify
  /-- FEED_STATE_CHANGE (R419): A feed stays beyond a threshold for its dwell and enters GOOD, LOW or FAIL. -/
  | feedStateChange (p : Side) (mv : BitVec 16)
  /-- VDD_3V3_CHECK (R420): The power controller reads VDD_3V3 every 1 ms and records 0x7005 when out of range. -/
  | vdd3v3Check (mv : BitVec 16)
  /-- PMBUS_POLL (R420): The PMBus controller polls each regulator address and records faults or missing answers. -/
  | pmbusPoll (ans : List (Option Nat))
  /-- PMB_ALERT (R537): A low level on PMB_ALERT_N starts the next PMBus poll at once. -/
  | pmbAlert
  /-- TICK (R29): At each tick edge the controller latches, counts, shares, selects and issues quire frames by the points of Table 1-3. -/
  | tick (codes : List (List Int))
  /-- FORMING_PERIOD_BOUNDARY (R32): At tick k = 0 references and pending changes take effect, measurements latch, the leader is elected and the law units run. -/
  | formingPeriodBoundary
  /-- EXT_SLOTS_RUN (R148): In tick 2 the extension slots start running their microcode in ascending order. -/
  | extSlotsRun
  /-- EXT_SLOT_OVERRUN (R149): A slot's cycle count reaches BUDGET, the slot is aborted and the overrun count acts. -/
  | extSlotOverrun
  /-- EXT_RESTORE_REACHED (R149): EXT_RESTORE periods without overrun end the degraded schedule. -/
  | extRestoreReached
  /-- REFS_SEND (R111): In tick F − 2 the leader sends REFS and its STATE block on the spine. -/
  | refsSend
  /-- PERIOD_LAST_TICK (R256): In tick F − 1 devices send roll calls and publications and shadow devices check the leader. -/
  | periodLastTick
  /-- MARKER (R246): A tick marker arrives and sets the marker-derived tick edge. -/
  | markerMsg (p : Side) (header : BitVec 64) (data : List Nat) (arrival : Int)
  /-- SHARE (R160): A non-lead span receives its share for the present tick. -/
  | shareMsg (p : Side) (header : BitVec 64) (data : List Nat) (late : Bool)
  /-- REPORT (R162): The arm lead receives the other span's BLOCK report and interval. -/
  | spanReport (p : Side) (header : BitVec 64) (data : List Nat) (late : Bool)
  /-- ARM_STATE (R271): An arm lead receives another arm's ARM_STATE and faults ARM if it is blocked while forming. -/
  | armState (p : Side) (header : BitVec 64) (data : List Nat) (late : Bool)
  /-- ROLL_CALL (R256): A device receives a roll call for election, quorum, mastership and path delays. -/
  | rollCall (p : Side) (header : BitVec 64) (data : List Nat) (late : Bool)
  /-- SPAN_PUB (R157): An arm lead receives a span's available count and voltage sums. -/
  | spanPub (p : Side) (header : BitVec 64) (data : List Nat) (late : Bool)
  /-- MEAS (R100): A device receives a measurement item of the set. -/
  | measMsg (p : Side) (header : BitVec 64) (data : List Nat) (late : Bool)
  /-- SETPOINT (R101): A device receives a published station setpoint write. -/
  | setpointMsg (p : Side) (header : BitVec 64) (data : List Nat) (late : Bool)
  /-- REFS (R261): An arm lead receives REFS and holds them if they come from the leader. -/
  | refsMsg (p : Side) (header : BitVec 64) (data : List Nat) (late : Bool)
  /-- STATE (R266): A shadow device receives the leader's STATE block. -/
  | stateMsg (p : Side) (header : BitVec 64) (data : List Nat) (late : Bool)
  /-- SPINE_ECHO (R239): A device receives a segment ECHO and answers ECHO_REPLY. -/
  | spineEcho (p : Side) (header : BitVec 64) (data : List Nat) (hold : BitVec 16)
  /-- SPINE_ECHO_REPLY (R239): A device receives an ECHO_REPLY for its segment measurement. -/
  | spineEchoReply (p : Side) (header : BitVec 64) (data : List Nat) (rx : BitVec 32)
  /-- SEGMENT_MEASURE (R239): Every 1 s the device measures its segment delays with 16 ECHO exchanges. -/
  | segmentMeasure (p : Side)
  /-- SPINE_PORT_LOCK_LOST (R273): A spine port loses block lock and its segment is left out of path delays. -/
  | spinePortLockLost (p : Side)
  /-- SPINE_PORT_RESTORED (R273): A spine port regains block lock and is used again after remeasurement. -/
  | spinePortRestored (p : Side)
  /-- MARKER_WAIT_EXPIRY (R251): No marker for MARKER_WAIT ticks makes a device become tick master. -/
  | markerWaitExpiry
  /-- MARKER_MISSING (R252): The marker missing for MARKER_MISS_MAX ticks unlocks devices and names a new master. -/
  | markerMissing
  /-- MARKER_LOSS_TRIP (R253): No marker for MARKER_LOSS_TRIP ticks in FORMING faults TRUNK. -/
  | markerLossTrip
  /-- TICK_LOCK_ACQUIRED (R247): 1000 consecutive ticks within 5 ns make the device locked. -/
  | tickLockAcquired
  /-- SHARE_MISSING (R161): No valid share at 650 ns makes the non-lead span issue HOLD and count a miss. -/
  | shareMissing
  /-- SHARE_MISS_TRIP (R161): SHARE_MISS_MAX consecutive missed shares fault ARM of the non-lead span. -/
  | shareMissTrip
  /-- REPORT_MISSING_TRIP (R162): No report for SHARE_MISS_MAX ticks faults ARM of the arm lead. -/
  | reportMissingTrip
  /-- ARM_STATE_MISSING (R272): No ARM_STATE of an arm for ARM_STATE_MISS_MAX ticks faults ARM. -/
  | armStateMissing
  /-- LEAD_WAIT_EXPIRY (R263): LEAD_WAIT periods in FORMING without an elected leader's references fault FORM. -/
  | leadWaitExpiry
  /-- REFS_LOST_TRIP (R164): A second boundary without a new reference set faults ARM of the arm lead. -/
  | refsLostTrip
  /-- SUBSTITUTE_LIMIT_EXPIRY (R168): A substitute held beyond its limit faults FORM. -/
  | substituteLimitExpiry
  /-- PRIMARY_RESTORE (R100): A primary publisher valid for 16 consecutive periods is used again. -/
  | primaryRestore
  /-- SHADOW_MISMATCH_LIMIT (R113): Three consecutive shadow mismatches record 0x1031. -/
  | shadowMismatchLimit
  /-- SHADOW_MATCH_RESTORE (R113): 16 consecutive matches make the forming state valid again. -/
  | shadowMatchRestore
  /-- SYNC_TIMEOUT (R116): SYNC_TIMEOUT expires and faults FORM. -/
  | syncTimeout
  /-- SYNC_FB_TIMEOUT (R116): No closed report within SYNC_FB_TIMEOUT withdraws CLOSE or faults FORM. -/
  | syncFbTimeout
  /-- SYNC_DWELL_ELAPSED (R116): The synchronism check held for SYNC_DWELL moves MATCH to CLOSING. -/
  | syncDwellElapsed
  /-- SYNC_PULSE_END (R116): The close command ends after SYNC_PULSE. -/
  | syncPulseEnd
  /-- SETTLE_DWELL_ELAPSED (R115): V_f within SYNC_DV for SYNC_DWELL ends SETTLE. -/
  | settleDwellElapsed
  /-- BS_RAMP_COMPLETE (R115): The ramp time reaches BS_RAMP and RAMP moves to SETTLE. -/
  | bsRampComplete
  /-- BS_STALL_EXPIRY (R115): The ramp standing still for BS_STALL faults FORM. -/
  | bsStallExpiry
  /-- RIDE_ENTRY (R119): RIDE_N_IN consecutive out-of-range boundaries take RUN to RIDE HOLD. -/
  | rideEntry
  /-- RIDE_T_CLEAR_ELAPSED (R120): v within exit limits for RIDE_T_CLEAR leaves HOLD. -/
  | rideTClearElapsed
  /-- RECOVER_COMPLETE (R108): T_REC after RECOVER entry takes RUN. -/
  | recoverComplete
  /-- RIDE_T_MAX_EXPIRY (R120): RIDE_T_MAX expires and faults FORM. -/
  | rideTMaxExpiry
  /-- REGION_DWELL_EXPIRY (R138): The dwell count reaches T_DWELL and a region change is decided. -/
  | regionDwellExpiry
  /-- REFRESH_DUE (R184): A cell's insertion age would exceed T_INS_MAX and a refresh falls due. -/
  | refreshDue (c : Fin 256)
  /-- BS_RECOVER_TIMEOUT (R185): A refresh not ended after T_BS_RECOVER marks the cell failed with reason 6. -/
  | bsRecoverTimeout (c : Fin 256)
  /-- DWELL_EXPIRY (R186): T_DWELL_MIN after its last change a cell may change again. -/
  | dwellExpiry (c : Fin 256)
  /-- SW_PERIOD_END (R187): Every SW_PERIOD apply ticks each cell's used credit falls by 1. -/
  | swPeriodEnd
  /-- TEL_STALE_EXCEEDED (R181): A cell's staleness exceeds TEL_STALE and it is forced BYPASS and unavailable. -/
  | telStaleExceeded (c : Fin 256)
  /-- TEL_LOST (R229): Staleness reaching TEL_LOST marks the cell failed with reason 4. -/
  | telLost (c : Fin 256)
  /-- APPLIED_MISMATCH_LIMIT (R228): 16 consecutive APPLIED mismatches mark the cell failed with reason 3. -/
  | appliedMismatchLimit (c : Fin 256)
  /-- UPLINK_FRAME (R208): An uplink quire frame is received and held for its latch. -/
  | uplinkFrame (q : Fin 8) (head : List Nat) (words : List (List Nat))
  /-- TRUNK_ECHO_REPLY (R214): An ECHO_REPLY management frame gives a trunk delay sample. -/
  | trunkEchoReply (q : Fin 8) (sent : BitVec 32) (hold : BitVec 16) (rt : Nat)
  /-- DELAY_ACK (R214): The hub acknowledges DELAY_SET. -/
  | delayAck (q : Fin 8) (aligned : Bool)
  /-- CELL_DELAYS (R214): The hub reports its cell-link delays. -/
  | cellDelays (q : Fin 8) (ds : List Nat)
  /-- INFO (R214): The hub reports its type, firmware and serial number. -/
  | hubInfo (q : Fin 8) (data : List Nat)
  /-- ALARM (R228): The hub reports an alarm change and event 0x3050 is recorded. -/
  | hubAlarm (q : Fin 8) (code : BitVec 8) (detail : BitVec 32)
  /-- MGMT_REQUEST_TIMEOUT (R209): A management request unanswered for 8 ticks is sent again. -/
  | mgmtRequestTimeout (q : Fin 8)
  /-- TRUNK_TRAIN_COMPLETE (R214): Lane and block lock complete or fail at TRAIN. -/
  | trunkTrainComplete (q : Fin 8) (locked : Bool)
  /-- TRUNK_MEASURE_COMPLETE (R214): 64 ECHO exchanges give t_trk or fail MEASURE. -/
  | trunkMeasureComplete (q : Fin 8)
  /-- TRUNK_ALIGN_COMPLETE (R214): DELAY_SET, INFO, CELL_DELAYS and the budget checks complete ALIGN or fail it. -/
  | trunkAlignComplete (q : Fin 8)
  /-- TRUNK_VERIFY_COMPLETE (R223): Settings pushed and read back complete VERIFY and the trunk enters UP. -/
  | trunkVerifyComplete (q : Fin 8)
  /-- TRUNK_RETRY_EXPIRY (R214): 100 ms in RETRY restarts the trunk at TRAIN. -/
  | trunkRetryExpiry (q : Fin 8)
  /-- TRUNK_BLOCK_LOCK_LOST (R215): Loss of block lock on a trunk lane sends it to RETRY. -/
  | trunkBlockLockLost (q : Fin 8) (down : Bool)
  /-- TRUNK_LEAVES_UP (R215): A LINK_MISS_MAX count of misses, DL_MISS or BOUND = 0 sends a trunk from UP to RETRY. -/
  | trunkLeavesUp (q : Fin 8)
  /-- MAILBOX_READ_TIMEOUT (R221): A read whose parts do not arrive within 16 ticks is repeated or fails. -/
  | mailboxReadTimeout (c : Fin 256)
  /-- PERIODIC_READBACK (R224): Every VERIFY_T ticks one cell per trunk is read back. -/
  | periodicReadback (q : Fin 8)
  /-- SENSE_CALIBRATION_DONE (R281): Foreground calibration or stored-coefficient load completes and SENSE becomes RUNNING. -/
  | senseCalibrationDone (temp : Int) (cal : List (Option (Int × Int)))
  /-- HISTORY_FILLED (R94): L × N samples entered make a decimator output valid. -/
  | historyFilled (c : Fin 16) (codes : List Int)
  /-- ROTATION_HANDOVER (R282): At every ROT_STEP tick the spare starts converting the next converter's input in parallel. -/
  | rotationHandover
  /-- SWITCH_EDGE (R290): At the switch edge the handover is judged and the spare takes the input or retries. -/
  | switchEdge (sumX sumS : Int)
  /-- HANDOVER_DEFERRAL_LIMIT (R290): 1024 edges without a switch edge refuse further injected requests on the input. -/
  | handoverDeferralLimit
  /-- CALIBRATE_COMPLETE (R282): A converter's 131 072-clock calibration completes and it becomes the spare. -/
  | calibrateComplete (offset gain : Int) (converged : Bool)
  /-- INTERNAL_CHANNEL_CONVERTED (R285): The spare completes an internal channel's conversion and its value and limits are updated. -/
  | internalChannelConverted (ch : Fin 8) (v : Int)
  /-- COMPARATOR_CROSSING (R295): An input beyond a threshold for CMP_CONFIRM edges records or asserts a block. -/
  | comparatorCrossing (c : Fin 16) (codes : List Int)
  /-- COMPARATOR_RELEASE (R297): An input within the hysteresis limits for a whole tick releases the comparator block source. -/
  | comparatorRelease (c : Fin 16)
  /-- FROZEN_WINDOW_END (R298): At the end of each FROZEN_WIN window the FROZEN flag is set or cleared. -/
  | frozenWindowEnd (c : Fin 16)
  /-- SATURATION_LOST (R299): SAT_COUNT consecutive saturated samples set LOST_SAT. -/
  | saturationLost (c : Fin 16) (codes : List Int)
  /-- SATURATION_CLEAR (R299): A whole tick without a saturated sample clears LOST_SAT. -/
  | saturationClear (c : Fin 16)
  /-- TEST_INJECTION (R300): At each TEST_T tick a test-current conversion is requested. -/
  | testInjection (c : Fin 16)
  /-- AIN_TRIG_EDGE (R287): An edge on AIN_TRIG registers injected requests for the selecting inputs. -/
  | ainTrigEdge (rising : Bool)
  /-- INJECTED_SAMPLE_DONE (R288): An injected sample leaves the pipeline into INJ_RESULT, and a test is judged. -/
  | injectedSampleDone (c : Fin 16) (codes : List Int) (code : Int)
  /-- REFERENCE_LOST (R324): A missing reference edge or out-of-range frequency makes the reference lost and PLLs coast. -/
  | referenceLost
  /-- REFERENCE_PRESENT (R324): 1024 good cycles make the reference present and relock begins. -/
  | referencePresent
  /-- PLL_LOCK (R315): A PLL's error stays below 200 ps for 1024 cycles and its outputs are released. -/
  | pllLock (p : Fin 5)
  /-- PLL_LOCK_LOST (R325): A PLL loses lock and enters COAST. -/
  | pllLockLost (p : Fin 5)
  /-- ACQUISITION_TIMEOUT (R315): An acquisition not complete in 200 µs tries the next band entry or fails. -/
  | acquisitionTimeout (p : Fin 5)
  /-- FREQ_MONITOR_WINDOW (R326): A monitor window measures each PLL and decides drift. -/
  | freqMonitorWindow (p : Fin 5) (err : Int)
  /-- REFERENCE_LOSS_10S (R326): A reference lost for 10 s makes every PLL drift. -/
  | referenceLoss10s
  /-- BACKUP_SWITCH_DONE (R327): Domains of a drifting PLL complete their switch to the backup oscillator. -/
  | backupSwitchDone (p : Fin 5)
  /-- BACKUP_TRIM (R327): Every 1 ms the backup ring oscillators are trimmed to their VCO frequency. -/
  | backupTrim (p : Fin 5)
  /-- MONITOR_RATIO_MEASURE (R326): Every 1 ms the monitor oscillator's ratio to the reference is measured. -/
  | monitorRatioMeasure (ppm : Int)
  /-- RELOCK_F_DONE (R329): Frequency relock completes and phase slew begins. -/
  | relockFDone (e : PllError)
  /-- RELOCK_P_DONE (R329): The phase offset reaches zero and the PLL is LOCKED. -/
  | relockPDone (p : Fin 5)
  /-- BACKUP_RETURN (R330): Domains return from the backup oscillator to their locked PLL. -/
  | backupReturn (p : Fin 5)
  /-- HELD_COMMIT_APPLY (R319): A commit held during reference loss is applied when the reference is present. -/
  | heldCommitApply
  /-- PTP_SYNC (R344): A Sync message gives an offset and updates the servo. -/
  | ptpSync (p : Side) (domain seq : Nat) (twoStep : Bool) (t1 capture corr : Int)
  /-- PTP_FOLLOW_UP (R344): A Follow_Up completes a two-step Sync. -/
  | ptpFollowUp (p : Side) (domain seq : Nat) (t1 corr : Int)
  /-- PTP_ANNOUNCE (R341): An Announce message runs the best master algorithm per port. -/
  | ptpAnnounce (p : Side) (domain : Nat) (f : Foreign)
  /-- PTP_PDELAY (R339): A peer-delay message is answered or gives a peer-delay result. -/
  | ptpPdelay (p : Side) (domain : Nat) (msg : Pdelay)
  /-- PDELAY_REQ_SEND (R339): Each port sends Pdelay_Req every second. -/
  | pdelayReqSend (p : Side) (capture : Int)
  /-- PTP_MASTER_SEND (R342): As grandmaster the device sends Sync and Announce on both ports. -/
  | ptpMasterSend (ca cb : Int)
  /-- ANNOUNCE_TIMEOUT (R342): The SLAVE port's announce receipt times out and the PASSIVE port becomes SLAVE. -/
  | announceTimeout (p : Side)
  /-- SYNC_LOSS (R345): No Sync for 3 s moves LOCKED to HOLDOVER or ACQUIRE to FREE. -/
  | syncLoss
  /-- HOLDOVER_EXPIRY (R345): HOLD_T elapsed in HOLDOVER moves the servo to FREE. -/
  | holdoverExpiry
  /-- SECOND_ROLLOVER (R352): At the first tick edge after a change of SECONDS the tick number and time are latched. -/
  | secondRollover
  /-- MDIO_LINK_POLL (R536): Every 10 ms the PHY link status is read over MDIO. -/
  | mdioLinkPoll (p : Side) (up : Bool)
  /-- PRP_SUPERVISION_SEND (R536): Every 2000 ms a PRP supervision frame is sent on both ports. -/
  | prpSupervisionSend
  /-- PRP_SUPERVISION_RECEIVED (R536): A received supervision frame updates the node table. -/
  | prpSupervisionReceived (src : Nat)
  /-- BARRIER_FRAME (R358): A barrier frame arrives with pin states, diagnostics and supply reading. -/
  | barrierFrame (levels : List Nat) (volts : List Int) (amps : List Nat) (so : List (Int × Int)) (crc : BitVec 32)
  /-- BARRIER_LINK_DOWN (R359): 8 slots without a valid frame take the barrier link down and fault FIELD. -/
  | barrierLinkDown
  /-- BARRIER_LINK_RESTORED (R359): 1 ms without a discarded frame brings the barrier link up. -/
  | barrierLinkRestored
  /-- INPUT_DEBOUNCE_CHANGE (R366): An input's sampled level is stable for DEBOUNCE and its state changes. -/
  | inputDebounceChange (p : Fin 32)
  /-- OUTPUT_OVERLOAD (R371): An output current-limiting for OVL_T is switched off. -/
  | outputOverload (p : Fin 32)
  /-- OUTPUT_THERMAL (R371): An output reaching thermal shutdown is switched off. -/
  | outputThermal (p : Fin 32)
  /-- OUTPUT_RETRY (R371): RETRY_T after a switch-off a still-commanded output retries. -/
  | outputRetry (p : Fin 32)
  /-- OVERLOAD_FLAG_CLEAR (R371): 100 ms of conduction without limiting clears OVERLOAD and THERMAL. -/
  | overloadFlagClear (p : Fin 32)
  /-- WIRE_BREAK (R372): Off-state loop current below WB_I for 10 ms sets or clears WIRE_BREAK. -/
  | wireBreak (p : Fin 32) (broken : Bool)
  /-- OUTPUT_DIAG_TIMER (R373): An output diagnostic condition held for its time sets or clears its flag. -/
  | outputDiagTimer (p : Fin 32) (d : Fin 4) (present : Bool)
  /-- PIN_REVERSED (R374): A pin below −3.0 V for 1 ms sets REVERSED, or above −1.0 V clears it. -/
  | pinReversed (p : Fin 32) (low : Bool)
  /-- LP_SAMPLE (R376): Every 10 µs the L+ monitor judges its mean and enters a worse state. -/
  | lpSample (mv : Int)
  /-- LP_RESTORE (R376): The mean beyond the leaving threshold for LP_RESTORE_T enters a better supply state. -/
  | lpRestore
  /-- SAFETY_CYCLE (R386): Every 10 µs the lockstep cores evaluate inputs, protection and functions and set outputs and the block line. -/
  | safetyCycle
  /-- PROT_ITEM_LATCH (R411): A protection item violated in PROT_N cycles latches and demands SF1 and perhaps SF2. -/
  | protItemLatch (item : Fin 6)
  /-- DISCREPANCY_TIMEOUT (R390): Channels still differing DISC_T after c0 latch a discrepancy fault. -/
  | discrepancyTimeout (inp : Fin 8)
  /-- INTLK_DWELL_ELAPSED (R399): SF1 demanded for INTLK_DWELL permits a release output. -/
  | intlkDwellElapsed
  /-- LOCKSTEP_MISMATCH (R388): A lockstep mismatch asserts the block line, stops barrier frames and enters SAFE. -/
  | lockstepMismatch
  /-- LOCKSTEP_SELFTEST_FAIL (R388): A failed periodic lockstep self-test is handled as a mismatch. -/
  | lockstepSelftestFail
  /-- SO_SWITCH_ON_STEP (R394): 100 µs after SOn_L on, SOn_H is switched on if still low. -/
  | soSwitchOnStep (n : Fin 4)
  /-- SO_TEST_PULSE_DUE (R395): An output on for SO_TEST_T begins an off-pulse on one switch. -/
  | soTestPulseDue (n : Fin 4)
  /-- SO_PULSE_END (R395): At SO_PULSE the pulse is judged and the switch switched on again. -/
  | soPulseEnd (n : Fin 4)
  /-- SO_DIAG_TIMER (R394): A safety-output read-back, short or open condition held for its time sets its flag and may lock the output. -/
  | soDiagTimer (n : Fin 4) (which : Fin 5) (present : Bool)
  /-- SAFETY_FRAME (R407): A safety-layer frame arrives and is judged for its consumed connection. -/
  | safetyFrame (p : Side) (rct : Option (Nat × Nat)) (src : Nat) (bytes : List Nat)
  /-- SL_PRODUCE (R406): Every SL_CYCLE a producing connection sends a safety frame. -/
  | slProduce (c : Fin 8)
  /-- SL_WATCHDOG_EXPIRY (R408): No valid frame for SL_WATCHDOG makes the connection LOST. -/
  | slWatchdogExpiry (c : Fin 8)
  /-- BEAT_SEND (R424): Every 10 µs the lease holder sends BEAT. -/
  | beatSend
  /-- BEAT (R433): A BEAT is received and a newer epoch makes the receiver lose the lease. -/
  | beatMsg (seq : BitVec 16) (tick : BitVec 64) (epoch : BitVec 16) (dev : Fin 512) (mode flags : BitVec 8) (crc : BitVec 32)
  /-- CKPT (R428): A checkpoint segment is received into the store buffer. -/
  | ckpt (f : DpxFrame) (seq : BitVec 32) (idx : Fin 32) (data : List Nat)
  /-- MIRROR (R442): A MIRROR record advances the prepared device's shadow selector and match run. -/
  | mirror (f : DpxFrame) (tick : BitVec 64) (target count : BitVec 16) (nc : BitVec 16) (im : BitVec 32) (out : BitVec 32) (words : List Nat)
  /-- HANDBACK (R444): The returning device receives HANDBACK and answers HB_ACK. -/
  | handback (f : DpxFrame) (b : BitVec 64) (epoch : BitVec 16)
  /-- STATUS_SEND (R441): Every 10 µs a prepared or returning device sends STATUS. -/
  | statusSend
  /-- STATUS (R431): The holder receives STATUS and checks the acknowledged BEAT age. -/
  | statusMsg (f : DpxFrame) (state flags : BitVec 8) (beat hold : BitVec 16) (ckpt run cfg : BitVec 32) (dev : Fin 512)
  /-- HB_ACK (R444): The holder receives the returning device's answer to HANDBACK. -/
  | hbAck (f : DpxFrame) (b : BitVec 64) (result : BitVec 8)
  /-- DPX_LINK_DOWN (R425): 100 µs without a valid partner frame takes the duplex link down. -/
  | dpxLinkDown
  /-- HOLDER_LEASE_EXPIRY (R431): A STATUS acknowledging a BEAT over 40 µs old expires the holder's lease. -/
  | holderLeaseExpiry (beat : BitVec 16)
  /-- YIELD_RESET (R433): 1 ms after losing the lease the device makes a SYSTEM reset. -/
  | yieldReset
  /-- STORE_LEASE_EXPIRY (R436): 50 µs of silence freezes the store and starts a takeover. -/
  | storeLeaseExpiry (x : BootIn)
  /-- LIVENESS_CHECK (R437): Four uplink headers per trunk show whether the former holder still commands. -/
  | livenessCheck
  /-- TAKEOVER_BRINGUP_DONE (R436): The woken partner's domains, PLLs, functions and lease are up for the first boundary. -/
  | takeoverBringupDone
  /-- COLD_ACQUISITION (R430): 16 frames with DL_MISS = 1 on every trunk let a device acquire the lease. -/
  | coldAcquisition
  /-- PREPARED_ENTRY (R441): SETTLE_T of good checkpoints moves COLD to PREPARED. -/
  | preparedEntry (x : BootIn)
  /-- WARM_REACHED (R442): A match run of WARM_TICKS makes the prepared device WARM. -/
  | warmReached
  /-- HANDBACK_MODE_ENTRY (R444): At B − 3F the returning device enters the checkpoint's mode without the lease. -/
  | handbackModeEntry
  /-- HANDBACK_EPOCH_RAISE (R444): At tick B − 1 the returning device raises its epoch and shows candidate flags. -/
  | handbackEpochRaise
  /-- HANDBACK_TRANSFER (R445): At B the returning device takes the lease and issues frames and the holder stops. -/
  | handbackTransfer
  /-- HOLDER_OUTPUT_RELEASE (R445): 100 µs after B the holder switches its standard outputs off and powers down. -/
  | holderOutputRelease
  /-- POWER_DOWN_COLD_COMPLETE (R422): Domains are switched off in order and the wake record written for COLD. -/
  | powerDownColdComplete
  /-- EVENT_OFFER (R455): An offered event is judged against its token bucket and the margin buffer and given a SEQ or suppressed or dropped. -/
  | eventOffer (evs : List Offer)
  /-- FOLIO_WRITE (R457): A folio is written from the margin buffer to its slot and read back. -/
  | folioWrite (a : MemAnswer)
  /-- LMS_TOKEN_REFILL (R481): Every 675 s the LMS signing bucket gains a token. -/
  | lmsTokenRefill
  /-- HELLO_EXPIRY (R484): A held HELLO exchange expires after 2 s. -/
  | helloExpiry
  /-- SESSION_TIMEOUT (R486): A session reaching SESSION_IDLE, NOT_AFTER or 24 h ends. -/
  | sessionTimeout (id : BitVec 32)
  /-- SYNC_TIME_STORE (R487): Every hour while synchronized the last synchronized time is stored. -/
  | syncTimeStore
  /-- UNCORRECTABLE_ERROR (R512): An uncorrectable error fences its block with the effect of Table 18-5. -/
  | uncorrectableError (region : Fin 9) (b : Fin 16) (kind : Fin 3) (boundary : Bool)
  /-- PARITY_ERROR (R510): A slice parity error is retried up to three times. -/
  | parityError (region : Fin 9) (b : Fin 16) (nth : Fin 4)
  /-- ECC_CORRECTED (R511): A single-bit ECC error is corrected and counted. -/
  | eccCorrected (region : Fin 9)
  /-- HANDSHAKE_TIMEOUT (R515): A boundary handshake not complete in 100 µs fences a core or escalates. -/
  | handshakeTimeout (core : Option Nat)
  /-- SEM_LEASE_EXPIRY (R517): A semaphore not renewed for SEM_LEASE is released. -/
  | semLeaseExpiry (sem : Fin 16)
  /-- QUEUE_STALL (R506): A queue entry waiting QUEUE_STALL fences the consumer core. -/
  | queueStall (q : Fin 16)
  /-- REFERENCE_QUALIFYING (R324): The first reference edge after a loss makes the reference qualifying (REF_STATE 2). -/
  | referenceQualifying
  /-- CONDUCTING_FEED_CHANGE (R418): When the conducting feed falls 30 mV below the other, the other feed takes over and FEED_STATE [4] changes. -/
  | conductingFeedChange (va vb : BitVec 16)
  /-- OUTPUT_COOLED (R371): An output in thermal shutdown cools below its restart temperature, and under FAULT_MODE 1 a still-commanded pin retries. -/
  | outputCooled (p : Fin 32)
  /-- APPLICATION_FRAME (R503): A station-port frame for the application cores arrives, is policed under OTHER_RATE and is passed on or dropped and counted in POLICE_DROPS. -/
  | applicationFrame (p : Side) (rct : Option (Nat × Nat)) (nbits : Nat)
deriving DecidableEq, Repr, Inhabited

end Sys2Proof
end

