-- ==== Sys2Proof/Decode.lean ====
section
/-! DEFINITION. Words of the table of operations. spec/opcode_table.json gives no row any bits: the block takes commands, not
words, so no word spells one (notes/assumptions/1.md). -/
namespace Sys2Proof

/-- The command that a word of nbits bits spells by the table: none. -/
def decodeTableWord (_nbits _w : Nat) : Option Instr := none

end Sys2Proof
end

