-- ==== Sys2Proof/Config.lean ====
section
/-! DEFINITION. What an implementation fixes and what the manual leaves open: opaque constants with no body. Nothing
in Lean can evaluate them, so a claim about them holds whatever they are. -/
namespace Sys2Proof.Config

/-- A free value. The meaning that needs an unstated value applies this to the counter State.freeCount and advances
the counter (notes/assumptions/2.md). -/
opaque freeValue : Nat → Nat

/-- SHA-384 of a byte string, 48 bytes (R473, R474, R483; the algorithm is named, not defined, by 17_security.md). -/
opaque sha384 : List Nat → List Nat

/-- HMAC-SHA-384 of a message under a key; the first 16 bytes are the tag of R38 (R485). -/
opaque hmac384 : List Nat → List Nat → List Nat

/-- HKDF-SHA-384 (RFC 5869) with input keying material, salt, info and output length 48 (R485). -/
opaque hkdf384 : List Nat → List Nat → List Nat → List Nat

/-- ECDSA P-384 verification: key (96 bytes), message, signature (96 bytes) (R471, R472). -/
opaque ecdsaVerify : List Nat → List Nat → List Nat → Bool

/-- LMS verification with the parameter set of R472: key (56 bytes), message, signature (1772 bytes). -/
opaque lmsVerify : List Nat → List Nat → List Nat → Bool

/-- The ECDSA signature of the device identity set over a message (R471, R482, R483). -/
opaque identityEcdsa : List Nat → List Nat

/-- The LMS signature of the device identity set over a message with leaf q (R471, R480, R482). -/
opaque identityLms : Nat → List Nat → List Nat

/-- ECDH P-384: the 48-byte x-coordinate from the device's ephemeral secret, named by a counter, and a public key
(R485). -/
opaque ecdhShared : Nat → List Nat → List Nat

/-- The device's ephemeral public key (96 bytes), named by a counter (R483). -/
opaque ephemeralKey : Nat → List Nat

/-- A fresh random byte string of a length, named by a counter (R483, R485, R490). -/
opaque randomBytes : Nat → Nat → List Nat

/-- The two's-complement microcode of an extension slot run on the period's inputs: image, inputs, answer (output,
cycles used). The manual gives no extension-slot microcode encoding (R148; notes/assumptions/3.md). -/
opaque microcode : List Nat → List Int → Int × Nat

/-- The 32-byte ROOT_HASH fuses: SHA-384 of the Swinath root key block (R471). -/
opaque rootHash : List Nat

/-- The factory record's band table of PLL A to D (0 to 3) and of the main PLL (4), 128 bytes (Table 11-5, Table 11-6:
"Factory"; the values belong to the single device; notes/assumptions/5.md). -/
opaque factoryBand : Nat → List Nat

/-- The 4 bytes that a PU32 object answers while its value, a default of Table 5-4 above +128 pu, does not fit
PU32 (notes/assumptions/7.md). -/
opaque wideCode : Int → Nat

/-- The device's 8-byte PTP clock identity, in its factory record (Table 12-1, Table 12-5). -/
opaque clockIdentity : List Nat

/-- The 6-byte MAC address in the device's factory record (R536). -/
opaque macAddress : List Nat

/-- How many PTP frames beyond one the PTP bucket holds; Table 18-3 gives its rate only (notes/assumptions/9.md). -/
opaque ptpBurst : Nat

/-- How many bits beyond 12 176, the longest frame, the bucket of other frames holds; Table 18-3 gives its rate only
(notes/assumptions/9.md). -/
opaque otherBurst : Nat

/-- The check value over a configuration record, by object key and bytes: 15_duplex_and_power.md and R92 name the CRC of
R206 and do not state how the record is laid out (notes/assumptions/16.md). -/
opaque recordCheck : List (Nat × List Nat) → Nat

end Sys2Proof.Config
end

