-- ==== Sys2Proof/Machine/Operands.lean ====
section
/-! DEFINITION. Operand forms: little-endian bytes (R7), bit fields, the narrowing and rounding helpers, checks
(CRC-32 and CRC-8 of R206, CRC-32C of 14_safety.md), sparse tables in canonical form, and list access. Nothing here
depends on State. -/
namespace Sys2Proof.Machine

/-! ### Bytes and bits -/

/-- The n little-endian bytes of v modulo 2^(8n) (R7). -/
def le : Nat → Nat → List Nat
  | 0, _ => []
  | n + 1, v => (v % 256) :: le n (v / 256)

/-- The n big-endian bytes of v (R472). -/
def be (n v : Nat) : List Nat := (le n v).reverse

/-- The number a little-endian byte string spells (R7). -/
def ofLe : List Nat → Nat
  | [] => 0
  | b :: bs => b % 256 + 256 * ofLe bs

/-- The number modulo 2^w. -/
def wrap (w : Nat) (v : Int) : Nat := (v % (2 ^ w : Nat)).toNat

/-- The two's-complement reading of the low w bits. -/
def signed (w v : Nat) : Int :=
  let u := v % 2 ^ w
  if u < 2 ^ (w - 1) then (u : Int) else (u : Int) - (2 ^ w : Nat)

/-- The n little-endian bytes of a signed number in two's complement (R9, Table 2-3). -/
def leI (n : Nat) (v : Int) : List Nat := le n (wrap (8 * n) v)

/-- The signed number a little-endian byte string spells. -/
def ofLeI (bs : List Nat) : Int := signed (8 * bs.length) (ofLe bs)

/-- Bits lo .. lo + n − 1 of v. -/
def bits (v lo n : Nat) : Nat := v / 2 ^ lo % 2 ^ n

/-- Bit i of v. -/
def bit (v i : Nat) : Bool := v / 2 ^ i % 2 == 1

/-- 1 for true, 0 for false. -/
def b2n (b : Bool) : Nat := if b then 1 else 0

/-- A mask with the bits of a list of flags, the first flag at bit 0. -/
def flagBits : List Bool → Nat
  | [] => 0
  | b :: bs => b2n b + 2 * flagBits bs

/-- v with bit i set. -/
def setBit (v i : Nat) : Nat := if bit v i then v else v + 2 ^ i

/-- v with bit i cleared. -/
def clrBit (v i : Nat) : Nat := if bit v i then v - 2 ^ i else v

/-- How many of bits 0 .. n − 1 of v are set. -/
def popCount (n v : Nat) : Nat := ((List.range n).filter (fun i => bit v i)).length

/-- Exactly n entries: the list cut or filled with zeros. -/
def padTo (n : Nat) (bs : List Nat) : List Nat := (bs ++ List.replicate n 0).take n

/-! ### Narrowing and rounding -/

/-- v limited to lo .. hi. -/
def clampI (lo hi v : Int) : Int := if v < lo then lo else if hi < v then hi else v

/-- Saturation to I32 and PU32. -/
def sat32 (v : Int) : Int := clampI minI32 maxI32 v

/-- Saturation to I64. -/
def sat64 (v : Int) : Int := clampI minI64 maxI64 v

/-- Saturation to an unsigned width of w bits. -/
def satU (w v : Nat) : Nat := if v < 2 ^ w then v else 2 ^ w - 1

/-- A saturating increment of an unsigned counter of w bits. -/
def incSat (w v : Nat) : Nat := satU w (v + 1)

/-- a / b rounded to the nearest integer, ties upward, for b > 0. -/
def divNearUp (a : Int) (b : Nat) : Int := (2 * a + b) / (2 * b : Nat)

/-- a / b rounded to the nearest integer, ties away from zero, for b > 0 (R11). -/
def divNearAway (a : Int) (b : Nat) : Int :=
  if a < 0 then -((2 * (-a) + b) / (2 * b : Nat)) else (2 * a + b) / (2 * b : Nat)

/-- The magnitude of a value. -/
def absI (v : Int) : Int := if v < 0 then -v else v

/-- One bit of the integer square root, from bit b downward. -/
def isqrtGo : Nat → Nat → Nat → Nat
  | 0, _, r => r
  | b + 1, v, r =>
    let c := r + 2 ^ b
    isqrtGo b v (if c * c ≤ v then c else r)

/-- The integer square root of v below 2^(2·w): the largest r with r·r ≤ v. -/
def isqrt (w v : Nat) : Nat := isqrtGo w v 0

/-- The square root of v rounded to the nearest integer, ties upward. -/
def sqrtNear (w v : Nat) : Nat :=
  let r := isqrt w v
  if v ≤ r * r + r then r else r + 1

/-! ### Check values -/

/-- One reflected CRC step per bit over k bits. -/
def crcBits (poly : Nat) : Nat → Nat → Nat
  | 0, c => c
  | k + 1, c => crcBits poly k (if c % 2 = 1 then (c / 2) ^^^ poly else c / 2)

/-- A reflected CRC over bytes from a running value. -/
def crcRefl (poly : Nat) (c : Nat) (bs : List Nat) : Nat :=
  bs.foldl (fun c b => crcBits poly 8 (c ^^^ (b % 256))) c

/-- CRC-32 (R206): polynomial 0x04C1_1DB7 reflected, start and final exclusive-or 0xFFFF_FFFF. -/
def crc32 (bs : List Nat) : Nat := crcRefl 0xEDB88320 0xFFFFFFFF bs ^^^ 0xFFFFFFFF

/-- CRC-32C of the safety layer: polynomial 0x1EDC_6F41 reflected, start and final exclusive-or 0xFFFF_FFFF. -/
def crc32c (bs : List Nat) : Nat := crcRefl 0x82F63B78 0xFFFFFFFF bs ^^^ 0xFFFFFFFF

/-- One unreflected CRC-8 step per bit. -/
def crc8Bits (poly : Nat) : Nat → Nat → Nat
  | 0, c => c
  | k + 1, c => crc8Bits poly k (if c / 128 % 2 = 1 then ((c * 2) % 256) ^^^ poly else (c * 2) % 256)

/-- CRC-8 (R206): polynomial 0x2F, not reflected, start and final exclusive-or 0xFF. -/
def crc8 (bs : List Nat) : Nat := bs.foldl (fun c b => crc8Bits 0x2F 8 (c ^^^ (b % 256))) 0xFF ^^^ 0xFF

/-! ### Lists -/

/-- Entry i of a list with entry i replaced by f of it; the list unchanged where it has no entry i. -/
def updAt {α : Type} (i : Nat) (f : α → α) : List α → List α
  | [] => []
  | x :: xs => match i with
    | 0 => f x :: xs
    | j + 1 => x :: updAt j f xs

/-- Entry i replaced by x. -/
def putAt {α : Type} (i : Nat) (x : α) (l : List α) : List α := updAt i (fun _ => x) l

/-- Entry i, or the given value where the list has none. -/
def entry {α : Type} (l : List α) (i : Nat) (d : α) : α := l.getD i d

/-- The sum of a list of integers. -/
def sumI (l : List Int) : Int := l.foldl (· + ·) 0

/-- The sum of a list of naturals. -/
def sumN (l : List Nat) : Nat := l.foldl (· + ·) 0

/-- The largest entry, or the given value. -/
def maxN (d : Nat) (l : List Nat) : Nat := l.foldl Nat.max d

/-- Insertion into a list sorted by a key, after entries of an equal key. -/
def insSorted {α : Type} (key : α → Nat) (x : α) : List α → List α
  | [] => [x]
  | y :: ys => if key x < key y then x :: y :: ys else y :: insSorted key x ys

/-- A stable insertion sort by an ascending key. -/
def sortBy {α : Type} (key : α → Nat) (l : List α) : List α := l.foldl (fun acc x => insSorted key x acc) []

/-! ### Sparse tables: pairs by strictly rising key, no entry equal to the default value -/

/-- The value an unlisted key reads as is given by dflt. -/
def tget {α : Type} (dflt : Nat → α) : List (Nat × α) → Nat → α
  | [], k => dflt k
  | (k', v) :: t, k => if k' = k then v else tget dflt t k

/-- The table without key k. -/
def tdel {α : Type} : List (Nat × α) → Nat → List (Nat × α)
  | [], _ => []
  | (k', v) :: t, k => if k' = k then t else (k', v) :: tdel t k

/-- The table with key k at value v, at its place. -/
def tins {α : Type} : List (Nat × α) → Nat → α → List (Nat × α)
  | [], k, v => [(k, v)]
  | (k', w) :: t, k, v =>
    if k < k' then (k, v) :: (k', w) :: t
    else if k' = k then (k, v) :: t
    else (k', w) :: tins t k v

/-- A write that keeps the canonical form: writing the default removes the entry. -/
def tput {α : Type} [DecidableEq α] (dflt : Nat → α) (t : List (Nat × α)) (k : Nat) (v : α) : List (Nat × α) :=
  if v = dflt k then tdel t k else tins t k v

/-- Keys strictly rising. -/
def tsorted {α : Type} : List (Nat × α) → Bool
  | [] => true
  | [_] => true
  | (k, _) :: (k', v') :: t => k < k' && tsorted ((k', v') :: t)

/-- The canonical form of a table: keys strictly rising and no entry equal to what an unlisted key reads as. -/
def twf {α : Type} [DecidableEq α] (dflt : Nat → α) (t : List (Nat × α)) : Bool :=
  tsorted t && t.all (fun kv => !(decide (kv.2 = dflt kv.1)))

end Sys2Proof.Machine
end

