-- ==== Sys2Proof/Machine/StateCell.lean ====
section
/-! DEFINITION. State of the Cell region: the 256 cells, the selector and the eight trunks (07, 08). -/
namespace Sys2Proof.Machine

/-- A state a cell applies: BYPASS 0b00, INSERT 0b01, BLOCK 0b10 (Table 8-3). HOLD keeps one of these. -/
inductive CellCode where
  | bypass | insert | block
deriving DecidableEq, Repr, Inhabited

/-- Why a mailbox transaction was opened. -/
inductive MailWhy where
  /-- VERIFY of a trunk being brought up (R223) -/
  | verify
  /-- the periodic read-back of R224 -/
  | periodic
  /-- a pass started by GD_VERIFY (R224) -/
  | pass
deriving DecidableEq, Repr, Inhabited

/-- An open mailbox read of a cell (R221). -/
structure MailTx where
  /-- 4 bits MBX_TAG of the request; R221 (08) -/
  tag : Nat
  /-- why it was opened; R223, R224 (08) -/
  why : MailWhy
  /-- tick of the request; R221 (08) -/
  sent : Nat
  /-- the read has been sent a second time; R221 (08) -/
  again : Bool := false
  /-- parts received, part number and 32-bit data; R221 (08) -/
  parts : List (Nat × Nat) := []
deriving DecidableEq, Repr, Inhabited

/-- What CELL_SNAPSHOT shows of a cell, from one tick n (Table 7-6). -/
structure CellShot where
  /-- applied state in n + d − 1; Table 7-6 (07); reset BLOCK -/
  applied : CellCode := .block
  /-- 2 bits STATE of the last word issued; Table 7-6 (07); reset 0 -/
  word : Nat := 0
  /-- rule of Table 7-2; Table 7-6 (07); reset 0 -/
  rule : Nat := 0
  /-- a refresh is in progress; Table 7-6 (07); reset no -/
  refresh : Bool := false
  /-- used credit u; Table 7-6 (07); reset 0 -/
  credit : Nat := 0
  /-- dwell ticks remaining; Table 7-6 (07); reset 0 -/
  dwell : Nat := 0
  /-- U32 insertion age in n + d − 1; Table 7-6 (07); reset 0 -/
  age : Nat := 0
  /-- U32 estimate v; Table 7-6 (07); reset 0 -/
  est : Int := 0
  /-- I32 biased key; Table 7-6 (07); reset 0 -/
  bkey : Int := 0
deriving DecidableEq, Repr, Inhabited

/-- One cell. Its class and park setting are objects 0x3002:01 and :02 of its channel. -/
structure Cell where
  /-- U8 0..7 FAIL_REASON; R176, R178 (07); reset the stored mark -/
  fail : Nat := 0
  /-- the failed mark as non-volatile memory holds it; R23, R178 (01, 07); reset 0 -/
  failNv : Nat := 0
  /-- FAIL_NOW written, effective at the next latch point; Table 7-6 (07); reset no -/
  failNow : Bool := false
  /-- 12 bytes latest valid telemetry word, none before the first; R231 (08); reset none -/
  tel : List Nat := []
  /-- tick in which the latest valid word since TRUNK started was latched; R181 (07); reset none -/
  latched : Option Nat := none
  /-- a bootstrap-good word seen since TRUNK last started; R183 (07); reset no -/
  bsSeen : Bool := false
  /-- applied states, newest (apply tick n + d − 1) first, 24 ticks; R181 (07); reset BLOCK -/
  hist : List CellCode := List.replicate 24 .block
  /-- 24 bits, bit j: a word was issued for the apply tick of entry j of hist; R228 (08); reset 0 -/
  told : Nat := 0
  /-- STATE codes of the words of the last eight ticks, 2 bits each, the oldest in [1:0], 3 where none was issued;
  Table 15-5 (15); reset DESIGN CHOICE 0xFFFF, none issued (log entry 5) -/
  issued : Nat := 65535
  /-- 2 bits STATE of the last word issued; Table 7-8 (07); reset 0 -/
  word : Nat := 0
  /-- 4 bits RULE of the last tick; Table 7-8 (07); reset 0 -/
  rule : Nat := 0
  /-- refresh in progress: its a_r; R185 (07); reset none -/
  refresh : Option Nat := none
  /-- the failed mark has been cleared and no bootstrap-good word seen since; R185 (07); reset no -/
  cleared : Bool := false
  /-- U32 insertion age in tick n + d − 1; R184 (07); reset 0 -/
  age : Nat := 0
  /-- consecutive bypassed apply ticks up to n + d − 1; R184 (07); reset 0 -/
  bypRun : Nat := 0
  /-- U8 used credit u; R187 (07); reset 0 -/
  credit : Nat := 0
  /-- apply tick of the last change; R186 (07); reset none -/
  change : Option Nat := none
  /-- U32 estimate v, 1/16 V with 16 fraction bits; R181 (07); reset 0 -/
  est : Int := 0
  /-- I32 biased key; R190 (07); reset 0 -/
  bkey : Int := 0
  /-- the cell is above TEL_STALE and 0x2111 is recorded; R181 (07); reset no -/
  staleEp : Bool := false
  /-- consecutive ticks of the UP episode without a word of this cell while another cell of the quire delivered one;
  R229 (08); reset 0 -/
  lostRun : Nat := 0
  /-- U32 WORD_ERRORS; 0x3001:06 (08); reset 0 -/
  wordErr : Nat := 0
  /-- U32 CMD_ERRORS; 0x3001:07 (08); reset 0 -/
  cmdErr : Nat := 0
  /-- U8 0..3 GD_STATE; 0x3001:08 (08); reset 0 -/
  gd : Nat := 0
  /-- U16 CELL_DELAY, ns; 0x3001:09 (08); reset 0 -/
  delay : Nat := 0
  /-- consecutive samples whose APPLIED differs; R228, Table 8-14 (08); reset 0 -/
  misRun : Nat := 0
  /-- consecutive samples with SELF_BLOCK while the trunk is UP; R228, Table 8-14 (08); reset 0 -/
  sbRun : Nat := 0
  /-- 0x3022 recorded until 5 °C below the limit; Table 8-14 (08); reset no -/
  hot : Bool := false
  /-- open mailbox read; R221 (08); reset none -/
  mail : Option MailTx := none
  /-- waits for its turn to be read, and why; R224 (08); reset none -/
  due : Option MailWhy := none
  /-- its settings have been written in this VERIFY and not read back yet; R223, R225 (08); reset no -/
  wrote : Bool := false
  /-- the transaction that its write opened has been abandoned; R225 (08); reset no -/
  dropped : Bool := false
  /-- CELL_SNAPSHOT and the fields of Table 7-8 that name tick n + d − 1; R195, R197 (07); reset as its fields -/
  shot : CellShot := {}
deriving DecidableEq, Repr, Inhabited

/-- An uplink quire frame as received (R207). -/
structure UpFrame where
  /-- 8 header bytes; Table 8-5 (08) -/
  head : List Nat
  /-- 32 words of 12 bytes; Table 8-4 (08) -/
  words : List (List Nat)
deriving DecidableEq, Repr, Inhabited

/-- One trunk. -/
structure Trunk where
  /-- U8 0..6 LINK_STATE; Table 8-8, 0x3310+q:01 (08); reset 0 -/
  st : Nat := 0
  /-- time of entry into the state, ns; R214 (08); reset 0 -/
  at_ : Nat := 0
  /-- ticks spent in the state; R223 (08); reset 0 -/
  ticks : Nat := 0
  /-- round trips less hold times of the ECHO exchanges of MEASURE, ns; Table 8-8 (08); reset none -/
  echoes : List Nat := []
  /-- U16 ns T_TRK; 0x3310+q:02 (08); reset 0 -/
  tTrk : Nat := 0
  /-- U16 ns T_CELL_MAX; 0x3310+q:03 (08); reset 0 -/
  tCell : Nat := 0
  /-- U8 D_MIN; 0x3310+q:04 (08); reset 0 -/
  dMin : Nat := 0
  /-- U16 HUB_EPOCH; 0x3310+q:05 (08); reset 0 -/
  epoch : Nat := 0
  /-- U32 UL_REJECTED; 0x3310+q:06 (08); reset 0 -/
  rejected : Nat := 0
  /-- U32 DOWN_COUNT; 0x3310+q:07 (08); reset 0 -/
  downs : Nat := 0
  /-- 12 bytes HUB_INFO; 0x3310+q:08 (08); reset DESIGN CHOICE zeros (log entry 5) -/
  info : List Nat := List.replicate 12 0
  /-- invalid words since TRUNK started, WORD_BAD; Table 8-20 (08); reset 0 -/
  bad : Nat := 0
  /-- BOUND of the last accepted header; Table 8-20 (08); reset 0 -/
  bound : Bool := false
  /-- DL_MISS of the last accepted header; Table 8-20 (08); reset 0 -/
  dlMiss : Bool := false
  /-- CONFLICT of the last accepted header; Table 8-20 (08); reset 0 -/
  conflict : Bool := false
  /-- U8 ALARM of the last accepted header; Table 8-20 (08); reset 0 -/
  alarm : Nat := 0
  /-- alarm code of the last 0x3050 recorded; Table 8-14 (08); reset 0 -/
  almEv : Nat := 0
  /-- consecutive frames not accepted; R215, Table 8-20 (08); reset 0 -/
  missRun : Nat := 0
  /-- a frame that came in TRAIN has been refused since the last latch point; R233 (08); reset no -/
  refused : Bool := false
  /-- consecutive accepted frames with DL_MISS = 1; R215 (08); reset 0 -/
  dlRun : Nat := 0
  /-- consecutive accepted frames with BOUND = 0 and this device's epoch; R215 (08); reset 0 -/
  unbound : Nat := 0
  /-- block lock of the downlink lane; R214 (08); reset no -/
  lockDn : Bool := false
  /-- block lock of the uplink lane; R214 (08); reset no -/
  lockUp : Bool := false
  /-- DELAY_ACK with aligned received in ALIGN; Table 8-7 (08); reset no -/
  aligned : Bool := false
  /-- INFO received in ALIGN; Table 8-8 (08); reset no -/
  gotInfo : Bool := false
  /-- CELL_DELAYS received in ALIGN; Table 8-8 (08); reset no -/
  gotDelays : Bool := false
  /-- U8 SEQ of the last management frame sent; R209 (08); reset 0 -/
  seq : Nat := 0
  /-- outstanding management request: type, its payload, tick sent; R209 (08); reset none -/
  req : Option (Nat × List Nat × Nat) := none
  /-- failure causes recorded since the trunk was last UP; R214 (08); reset none -/
  causes : List Nat := []
  /-- 4 bits MBX_TAG of the last request; R221 (08); reset 0 -/
  tag : Nat := 0
  /-- cells that pass through VERIFY, slot order; R223 (08); reset none -/
  turns : List Nat := []
  /-- cells verified in this VERIFY; R223 (08); reset 0 -/
  verified : Nat := 0
  /-- slot at which the periodic read-back goes on; R224 (08); reset 0 -/
  pos : Nat := 0
  /-- ticks since the last periodic read-back; R224 (08); reset 0 -/
  vCount : Nat := 0
  /-- has been UP since TRUNK last started; R216 (08); reset no -/
  everUp : Bool := false
  /-- tick in which it last reached UP; R181, R229 (07, 08); reset none -/
  upTick : Option Nat := none
  /-- uplink frames received and not yet latched; R208 (08); reset none -/
  held : List UpFrame := []
  /-- 0x3011 recorded in this forming period; Table 8-14 (08); reset no -/
  badOnce : Bool := false
deriving DecidableEq, Repr, Inhabited

/-- The cells, the selector and the trunks. -/
structure CellState where
  /-- 256 cells; R176 (07); reset as their fields -/
  cells : List Cell := List.replicate 256 {}
  /-- 8 trunks; R200 (08); reset as their fields -/
  trunks : List Trunk := List.replicate 8 {}
  /-- apply ticks of the present SW_PERIOD, from the start of TRUNK; R187 (07); reset 0 -/
  swCount : Nat := 0
  /-- PU32 i_m latched in each tick, newest first, 24 ticks; R181 (07); reset 0 -/
  ims : List Int := List.replicate 24 0
  /-- U32 k_v computed at the start of SELECT; R181 (07); reset 0 -/
  kv : Nat := 0
  /-- first tick of SELECT RUNNING; R185 (07); reset 0 -/
  t0 : Nat := 0
  /-- U16 TARGET; 0x3201:01 (07); reset 0 -/
  target : Nat := 0
  /-- U16 DELIVERED; 0x3201:02 (07); reset 0 -/
  delivered : Nat := 0
  /-- U16 LOCKED_I; 0x3201:03 (07); reset 0 -/
  lockedI : Nat := 0
  /-- U16 FREE; 0x3201:04 (07); reset 0 -/
  freeN : Nat := 0
  /-- U16 FORCED; 0x3201:05 (07); reset 0 -/
  forcedN : Nat := 0
  /-- U16 AVAILABLE last published; 0x3201:06 (07); reset 0 -/
  avail : Nat := 0
  /-- U32 REFRESHES; 0x3201:09 (07); reset 0 -/
  refreshes : Nat := 0
  /-- U32 SHORTFALLS; 0x3201:0A (07); reset 0 -/
  shortfalls : Nat := 0
  /-- U64 tick of the values shown in the snapshots; R196 (07); reset 0 -/
  snapTick : Nat := 0
  /-- CHARGING; Table 7-9 (07); reset 0 -/
  charging : Bool := false
  /-- SHORT; Table 7-9 (07); reset 0 -/
  short : Bool := false
  /-- BS_SHORT, of the last difference; Table 7-9 (07); reset 0 -/
  bsShort : Bool := false
  /-- NO_INTERVAL; Table 7-9 (07); reset 0 -/
  noIval : Bool := false
  /-- AV_LOW, latched; Table 7-9 (07); reset 0 -/
  avLow : Bool := false
  /-- failed ACTIVE cells that still wait for the promotion of R179; R179 (07); reset 0 -/
  promote : Nat := 0
  /-- 0x2101 recorded in this forming period; R192 (07); reset no -/
  once2101 : Bool := false
  /-- 0x2102 recorded in this forming period; R192 (07); reset no -/
  once2102 : Bool := false
  /-- 0x2107 recorded in this forming period; R191 (07); reset no -/
  once2107 : Bool := false
  /-- interval [lo_o, hi_o] predicted for the next selection; R191 (07); reset (0, 0) -/
  ival : Nat × Nat := (0, 0)
  /-- SUPERSEDED; Table 8-19 (08); reset 0 -/
  superseded : Bool := false
  /-- U16 HIGHEST; Table 8-19 (08); reset 0 -/
  highest : Nat := 0
  /-- a hub has reported an epoch since TRUNK last started; Table 8-19 (08); reset no -/
  anyEpoch : Bool := false
  /-- CONFLICT in the last tick; Table 8-19 (08); reset 0 -/
  confNow : Bool := false
  /-- trunks whose last frame, with BLOCK in every word, is due after a fault of TRUNK; R217 (08); reset none -/
  final : List Nat := []
deriving DecidableEq, Repr, Inhabited

end Sys2Proof.Machine
end

