-- ==== Sys2Proof/Machine/StateClock.lean ====
section
/-! DEFINITION. State of the clocks and phase-locked loops (11) and of network time (12). -/
namespace Sys2Proof.Machine

/-- The states of a PLL (0x8001:07). -/
inductive PllSt where
  | off | acquire | locked | coast | relockF | relockP | unlocked
deriving DecidableEq, Repr, Inhabited

/-- The settings of a small PLL that are held in two copies (R316). -/
structure PllCfg where
  /-- U8 N; 0x8001:01 (11) -/
  n : Nat
  /-- 6 bits OD0; 0x8001:02 (11) -/
  od0 : Nat
  /-- 6 bits OD1; 0x8001:03 (11) -/
  od1 : Nat
  /-- 2 bits LOOP_BW; 0x8001:04 (11) -/
  bw : Nat
  /-- 32 entries of the band table; Table 11-2 (11) -/
  band : List Nat
deriving DecidableEq, Repr, Inhabited

/-- One PLL: A to D are 0 to 3, the main PLL is 4. -/
structure Pll where
  /-- active copy; R316, 0x8001:0C (11); reset Table 11-1, band table DESIGN CHOICE zeros (log entry 5) -/
  act : PllCfg
  /-- 3 bits PLL_STATE; 0x8001:07 (11); reset OFF -/
  st : PllSt := .off
  /-- has been locked since its outputs were gated; R315 (11); reset no (outputs gated low) -/
  out : Bool := false
  /-- U8 0..31 BAND, entry in use; 0x8001:09 (11); reset 0xFF (none) -/
  bandIx : Option Nat := none
  /-- qualifying entries not yet tried; R315 (11); reset none -/
  tries : List Nat := []
  /-- time at which the present acquisition or relock stage began, ns; R315, R329 (11); reset 0 -/
  at_ : Nat := 0
  /-- ON_BACKUP; R327, 0x8001:08 (11); reset 0 -/
  backup : Bool := false
  /-- a switch to backup is pending; R327 (11); reset no -/
  pending : Bool := false
  /-- I32 FREQ_ERR, 0.01 ppm; 0x8001:0A (11); reset 0 -/
  ferr : Int := 0
  /-- U32 COASTS; 0x8001:0B (11); reset 0 -/
  coasts : Nat := 0
  /-- W1C DRIFT; Table 11-7 (11); reset 0 -/
  drift : Bool := false
  /-- the fine control value is frozen; R325 (11); reset no -/
  frozen : Bool := false
  /-- offset of the phase detector in RELOCK_P, ps; R329 (11); reset 0 -/
  offset : Int := 0
  /-- the ring oscillator was trimmed at, ns; R327 (11); reset 0 -/
  trimmed : Nat := 0
deriving DecidableEq, Repr, Inhabited

/-- State of the reference (0x8011:03). -/
inductive RefSt where
  | present | lost | qualifying
deriving DecidableEq, Repr, Inhabited

/-- The clocks. -/
structure ClkState where
  /-- PLL A; R311 (11); reset Table 11-1 -/
  a : Pll := { act := ⟨120, 6, 30, 1, List.replicate 32 0⟩ }
  /-- PLL B; R311 (11); reset Table 11-1 -/
  b : Pll := { act := ⟨125, 20, 0, 1, List.replicate 32 0⟩ }
  /-- PLL C; R311 (11); reset Table 11-1 -/
  c : Pll := { act := ⟨120, 24, 0, 1, List.replicate 32 0⟩ }
  /-- PLL D; R311 (11); reset Table 11-1 -/
  d : Pll := { act := ⟨100, 20, 0, 1, List.replicate 32 0⟩ }
  /-- main PLL, N = 80, divider 2; R311 (11); reset Table 11-1 -/
  main : Pll := { act := ⟨80, 2, 0, 0, List.replicate 32 0⟩ }
  /-- COMMIT_PENDING; R319 (11); reset 0 -/
  commit : Bool := false
  /-- the held commit belongs to a START of CLOCK; R317 (11); reset no -/
  byStart : Bool := false
  /-- REF_STATE; R324 (11); reset present -/
  ref : RefSt := .present
  /-- time of the loss of the reference, ns; R326 (11); reset none -/
  lostAt : Option Nat := none
  /-- U32 REF_LOSSES; 0x8011:04 (11); reset 0 -/
  losses : Nat := 0
  /-- I32 TRIM_A, 0.01 ppm; R323 (11); reset 0 -/
  trim : Int := 0
  /-- ratio of the monitor oscillator to the reference, ppm from nominal; R326 (11); reset DESIGN CHOICE 0 (log entry 5) -/
  ratio : Int := 0
  /-- time of the last measurement of the ratio, ns; R326 (11); reset 0 -/
  ratioAt : Nat := 0
  /-- the spread profile in force: mode, depth, frequency, points; R320, R322 (11); reset mode 0 (no profile before a
  commit; DESIGN CHOICE, log entry 5) -/
  ssc : Nat × Nat × Nat × List Nat := (0, 0, 0, [])
  /-- start of the period of the profile in force, ns; R322 (11); reset 0 -/
  sscAt : Nat := 0
deriving DecidableEq, Repr, Inhabited

/-! ### Network time -/

/-- Servo states (Table 12-3). -/
inductive Servo where
  | free | acquire | locked | holdover
deriving DecidableEq, Repr, Inhabited

/-- States of a PTP port (0x7010+p:04). -/
inductive PortSt where
  | disabled | master | slave | passive
deriving DecidableEq, Repr, Inhabited

/-- A two-step Sync that waits for its follow-up (R344). -/
structure SyncWait where
  /-- sequence number -/
  seq : Nat
  /-- ingress time t2, ns; R343 (12) -/
  t2 : Int
  /-- correction field of the Sync, ns; R344 (12) -/
  corr : Int
deriving DecidableEq, Repr, Inhabited

/-- One PTP port. -/
structure PtpPort where
  /-- U8 PORT_STATE; 0x7010+p:04 (12); reset DISABLED -/
  st : PortSt := .disabled
  /-- time of the last peer-delay request sent, ns; Table 12-1 (12); reset none -/
  pdAt : Option Nat := none
  /-- peer-delay results, newest first, at most 64, ns; R344 (12); reset none -/
  pdelays : List Int := []
  /-- U32 PATH_DELAY, ns; 0x7010+p:05 (12); reset 0 -/
  path : Int := 0
  /-- I32 PORT_OFFSET, ns; 0x7010+p:06 (12); reset 0 -/
  off : Int := 0
  /-- U32 SYNC_RX; 0x7010+p:07 (12); reset 0 -/
  syncs : Nat := 0
  /-- foreign masters heard on the port, each with the time of its last Announce, ns; R341, Table 12-1 (12); reset none -/
  fms : List (Foreign × Nat) := []
  /-- Sync waiting for its follow-up; R344 (12); reset none -/
  wait : Option SyncWait := none
  /-- sequence number of the peer-delay request in progress and its egress time; R344 (12); reset none -/
  preq : Option (Nat × Int) := none
  /-- U16 sequence number of the last peer-delay request; reset 0 -/
  pseq : Nat := 0
  /-- U16 sequence number of the last Announce and Sync sent as master; reset 0 -/
  mseq : Nat := 0
  /-- time of the last Announce and Sync sent as master, ns; Table 12-1 (12); reset none -/
  mAt : Option Nat := none
  /-- an offset was computed on the port in the present run of 16 Syncs; R342 (12); reset no -/
  fresh : Bool := false
deriving DecidableEq, Repr, Inhabited

/-- The local clock and the servo. -/
structure TimeState where
  /-- U64 SECONDS; R336 (12); reset 0 -/
  sec : Nat := 0
  /-- nanoseconds with 32 fraction bits, below 1e9·2^32; NS and FRAC are views; R336, R337 (12); reset 0 -/
  nsf : Nat := 0
  /-- I32 r, 2^−32 ns per 8 ns cycle; R337 (12); reset 0 -/
  r : Int := 0
  /-- U8 SERVO_STATE; 0x7001:01 (12); reset FREE -/
  servo : Servo := .free
  /-- the SLAVE port that was lost, while the PASSIVE port waits for its next Sync; R342 (12); reset none -/
  slaveLost : Option Side := none
  /-- the offset of a port that took over is slewed, not stepped; R342 (12); reset no -/
  noStep : Bool := false
  /-- U8 SLAVE_PORT; 0x7001:02 (12); reset 0xFF (none) -/
  slave : Option Side := none
  /-- I32 OFFSET, ns; 0x7001:03 (12); reset 0 -/
  off : Int := 0
  /-- 8 bytes GM_ID; 0x7001:05 (12); reset DESIGN CHOICE zeros (log entry 5) -/
  gm : List Nat := List.replicate 8 0
  /-- a grandmaster is known; Table 12-9 (12); reset no -/
  gmSeen : Bool := false
  /-- U32 STEPS; 0x7001:06 (12); reset 0 -/
  steps : Nat := 0
  /-- consecutive Syncs within LOCK_T; Table 12-3 (12); reset 0 -/
  okRun : Nat := 0
  /-- last 16 values of r; Table 12-3 (12); reset none -/
  rates : List Int := []
  /-- time of the last Sync on any port, ns; Table 12-3 (12); reset 0 -/
  syncAt : Nat := 0
  /-- time of entry into HOLDOVER, ns; Table 12-3 (12); reset 0 -/
  holdAt : Nat := 0
  /-- Syncs of the present period of 16, and those of them in which both ports differed; R342 (12); reset 0 -/
  diffN : Nat := 0
  /-- Syncs in which the ports differed beyond PORT_DIFF in the present period of 16; R342 (12); reset 0 -/
  diffBad : Nat := 0
  /-- STEPPED; Table 12-7 (12); reset 0 -/
  stepped : Bool := false
  /-- the grandmaster's UTC offset while GM_UTC is 1, s; R350 (12); reset DESIGN CHOICE 0 (log entry 5) -/
  utc : Nat := 0
  /-- LEAP; R351 (12); reset 0 -/
  leap : Bool := false
  /-- GM_UTC; R350 (12); reset 0 -/
  gmUtc : Bool := false
  /-- leap61 in the Announce messages of this UTC day; R351 (12); reset no -/
  leap61 : Bool := false
  /-- leap59 in the Announce messages of this UTC day; R351 (12); reset no -/
  leap59 : Bool := false
  /-- UTC_OFF rises by 1 at the next TAI second; R351 (12); reset no -/
  rise : Bool := false
  /-- port a; R339 (12); reset as its fields -/
  pa : PtpPort := {}
  /-- port b; R339 (12); reset as its fields -/
  pb : PtpPort := {}
  /-- SECONDS has changed since the last tick edge; R352 (12); reset no -/
  rolled : Bool := false
  /-- U64 tick number of TICK_TAI; R352 (12); reset DESIGN CHOICE 0 (log entry 5) -/
  taiTick : Nat := 0
  /-- seconds and ns of TICK_TAI; R352 (12); reset DESIGN CHOICE 0 (log entry 5) -/
  tai : Nat × Nat := (0, 0)
  /-- PLL C on backup, 0x530B recorded; R348 (12); reset no -/
  onBackup : Bool := false
deriving DecidableEq, Repr, Inhabited

end Sys2Proof.Machine
end

