-- ==== Sys2Proof/Machine/StateControl.lean ====
section
/-! DEFINITION. State of the Control region and the spine: forming law, limiters, extension slots, arm law, spine and
leadership (04, 05, 06, 09). Per-unit states are Int codes at 2^56 (I64) or 2^24 (PU32), R104 and R545. -/
namespace Sys2Proof.Machine

/-- The law's state block, the content of STATE (Table 9-8, R113, R145). -/
structure LawBlock where
  /-- I64 2^56 rotor frequency ω; Table 4-3 (04); reset 0 -/
  w : Int := 0
  /-- I64 2^56 damping reference ω_d; Table 4-3 (04); reset 0 -/
  wd : Int := 0
  /-- U64 rotor angle θ; Table 4-3 (04); reset 0 -/
  theta : Nat := 0
  /-- U64 angle per tick δθ; Table 4-3 (04); reset 0 -/
  dth : Nat := 0
  /-- I64 P_f; Table 4-3 (04); reset 0 -/
  pf : Int := 0
  /-- I64 Q_f; Table 4-3 (04); reset 0 -/
  qf : Int := 0
  /-- I64 V_f; Table 4-3 (04); reset 0 -/
  vf : Int := 0
  /-- I64 V_gf; Table 4-3 (04); reset 0 -/
  vgf : Int := 0
  /-- I64 U_half; Table 4-3 (04); reset 0 -/
  uh : Int := 0
  /-- I64 ω_gf; Table 4-3 (04); reset 0 -/
  wgf : Int := 0
  /-- I64 ω_bf; Table 4-3 (04); reset 0 -/
  wbf : Int := 0
  /-- I64 integrator x_i; Table 4-3 (04); reset 0 -/
  xi : Int := 0
  /-- TURN32 previous PCC angle; R546, Table 9-8 (04, 09); reset 0 -/
  thb : Nat := 0
  /-- TURN32 previous line angle; R546, Table 9-8 (04, 09); reset 0 -/
  thg : Nat := 0
  /-- 4 × I64 export states xe[2..5]; R126, R132 (05); reset 0 -/
  xe : List Int := [0, 0, 0, 0]
  /-- 4 × I64 import states xi[2..5]; R126, R132 (05); reset 0 -/
  xim : List Int := [0, 0, 0, 0]
  /-- 3 × I64 magnitude states xm[2..4]; R133 (05); reset 0 -/
  xm : List Int := [0, 0, 0]
  /-- U8 P_WIN; 0x2011:01 (05); reset 1 -/
  pwin : Nat := 1
  /-- U8 E_WIN; 0x2011:02 (05); reset 1 -/
  ewin : Nat := 1
  /-- U8 region in force; 0x2004:01 (04, 05); reset 0 -/
  region : Nat := 0
  /-- U8 pending region, 0xFF none; 0x2011:09 (05); reset 0xFF -/
  rpend : Nat := 255
  /-- U32 dwell count; 0x2011:0A (05); reset 0 -/
  dwell : Nat := 0
  /-- I64 transfer state p_x; R142 (05); reset 0 -/
  px : Int := 0
  /-- I64 transfer state v_xd; R142 (05); reset 0 -/
  vxd : Int := 0
  /-- I64 transfer state v_xq; R142 (05); reset 0 -/
  vxq : Int := 0
  /-- U8 sub-state 1..4, 0 none; Table 9-8 (09); reset 0 -/
  sub : Nat := 0
  /-- U8 PHASE; 0x2008:01 (04); reset 0 -/
  phase : Nat := 0
  /-- U32 ramp time t_r, ticks; R115 (04); reset 0 -/
  tr : Nat := 0
  /-- U32 phase timer, ticks; Table 9-8, Tables 4-5 to 4-7 (04, 09); reset 0 -/
  phT : Nat := 0
  /-- U32 SYNC timer, ticks; R116 (04); reset 0 -/
  syT : Nat := 0
  /-- U32 RIDE episode timer, ticks; R120 (04); reset 0 -/
  riT : Nat := 0
  /-- U8 close-failure count; Table 4-6 (04); reset 0 -/
  fails : Nat := 0
  /-- U8 RIDE_N_IN count; R119 (04); reset 0 -/
  rideN : Nat := 0
  /-- I64 balancer x_s; R268 (09); reset 0 -/
  xs : Int := 0
  /-- 3 × I64 balancer x_h; R268 (09); reset 0 -/
  xh : List Int := [0, 0, 0]
  /-- 3 × I64 balancer x_v; R268 (09); reset 0 -/
  xv : List Int := [0, 0, 0]
  /-- U8 extension-slot overrun count; R149, 0x2030:03 (05); reset 0 -/
  exN : Nat := 0
  /-- U8 EXT_STATE; 0x2030:02 (05); reset 0 -/
  exSt : Nat := 0
  /-- U16 periods without overrun under the degraded schedule; R149 (05); reset 0 -/
  exRun : Nat := 0
  /-- 4 × PU32 slot outputs in force; R149, 0x2031+s:06 (05); reset 0 -/
  exOut : List Int := [0, 0, 0, 0]
  /-- 4 × U32 substitute period counts PCC, DC, breaker, arm current; R168 (06); reset 0 -/
  subN : List Nat := [0, 0, 0, 0]
  /-- U8 SOURCES; 0x2008:0E (04); reset 0 -/
  sources : Nat := 0
deriving DecidableEq, Repr, Inhabited

/-- The reference set (Table 4-10, Table 9-7). -/
structure RefSet where
  /-- U64 boundary at which it takes effect; Table 9-7 (09) -/
  boundary : Nat
  /-- PU32 U_HALF; Table 4-10 (04) -/
  uh : Int
  /-- PU32 V_D_REF; Table 4-10 (04) -/
  vd : Int
  /-- PU32 V_Q_REF; Table 4-10 (04) -/
  vq : Int
  /-- U64 THETA_0; Table 4-10 (04) -/
  theta0 : Nat
  /-- U64 DTHETA; Table 4-10 (04) -/
  dtheta : Nat
  /-- U8 SUBSTATE; Table 4-10 (04) -/
  sub : Nat
  /-- U8 PHASE; Table 4-10 (04) -/
  phase : Nat
  /-- CLOSE; Table 4-10 (04) -/
  close : Bool
  /-- I_CM0 and K_CV of legs a, b, c, PU32; Table 9-7 (09) -/
  legs : List (Int × Int)
deriving DecidableEq, Repr, Inhabited

/-- PCC item of the measurement set (Table 4-1, Table 9-4), with breaker status and group delay. -/
structure PccItem where
  /-- voltages valid; Table 9-4 (09) -/
  ok : Bool
  /-- phases a, b, c, PU32; Table 4-1 (04) -/
  a : Int
  /-- phase b, PU32; Table 4-1 (04) -/
  b : Int
  /-- phase c, PU32; Table 4-1 (04) -/
  c : Int
  /-- breaker closed; Table 4-1 (04) -/
  brk : Bool
  /-- breaker status valid; Table 4-1 (04) -/
  brkOk : Bool
  /-- U32 group delay g, 1/65536 tick; Table 4-1 (04) -/
  g : Nat
deriving DecidableEq, Repr, Inhabited

/-- A three-phase line item or a two-pole DC item (c unused for DC). -/
structure VItem where
  /-- valid; Table 9-4 (09) -/
  ok : Bool
  /-- PU32; Table 4-1 (04) -/
  a : Int
  /-- PU32; Table 4-1 (04) -/
  b : Int
  /-- PU32; Table 4-1 (04) -/
  c : Int
deriving DecidableEq, Repr, Inhabited

/-- The ARM item of one arm. -/
structure ArmItem where
  /-- current valid; Table 9-4 (09) -/
  ok : Bool
  /-- arm current, PU32; Table 9-4 (09) -/
  i : Int
  /-- energy valid; Table 9-4 (09) -/
  wOk : Bool
  /-- arm energy W, PU32; Table 9-4 (09) -/
  w : Int
deriving DecidableEq, Repr, Inhabited

/-- A MEAS message held for the next boundary (Table 9-4). -/
inductive MeasItem where
  | pcc (p : PccItem)
  | line (v : VItem)
  | dc (v : VItem)
  | arm (idx : Nat) (a : ArmItem)
deriving DecidableEq, Repr, Inhabited

/-- Where one item of the set comes from (R100, R168). -/
structure Source where
  /-- publisher in use: 0 primary, 1 alternate; R100 (04); reset 0 -/
  use : Nat := 0
  /-- consecutive valid periods of the primary; R100 (04); reset 0 -/
  primRun : Nat := 0
  /-- the item stands on its substitute; R100, Table 4-2 (04); reset no -/
  sub : Bool := false
  /-- consecutive periods valid from either publisher; R168 (06); reset 0 -/
  okRun : Nat := 0
deriving DecidableEq, Repr, Inhabited

/-- A gain set of the region table (R136, subindices 06 to 0B). -/
structure GainSet where
  /-- PU32 K_P; Table 5-5 (05); reset 0 -/
  kp : Int := 0
  /-- PU32 K_Q; Table 5-5 (05); reset 0 -/
  kq : Int := 0
  /-- PU32 D; Table 5-5 (05); reset 0 -/
  d : Int := 0
  /-- PU32 R_V; Table 5-5 (05); reset 0 -/
  rv : Int := 0
  /-- PU32 X_V; Table 5-5 (05); reset 0 -/
  xv : Int := 0
deriving DecidableEq, Repr, Inhabited

/-- The forming law and what it holds beside the state block. -/
structure FormState where
  /-- the state block; Table 4-3, Table 9-8 (04, 09); reset as its fields -/
  b : LawBlock := {}
  /-- VALID, forming state valid; R113, 0x2008:0D (04); reset 0 -/
  valid : Bool := false
  /-- consecutive mismatches; R113 (04); reset 0 -/
  mism : Nat := 0
  /-- consecutive matches; R113 (04); reset 0 -/
  matchRun : Nat := 0
  /-- three consecutive mismatches recorded: not valid until 16 matches; R113 (04); reset no -/
  barred : Bool := false
  /-- the leader's state block to be loaded at the next boundary; R113 (04); reset none -/
  load : Option LawBlock := none
  /-- PCC item valid in the previous period; R546 (04); reset no -/
  pccPrev : Bool := false
  /-- line item valid in the previous period; R546 (04); reset no -/
  linePrev : Bool := false
  /-- last valid breaker value since FORM started; Table 4-2, Table 4-5 (04); reset none -/
  brk : Option Bool := none
  /-- breaker status valid in this period; R117 (04); reset no -/
  brkOk : Bool := false
  /-- PU32 V_D_REF and V_Q_REF of the previous period; Table 4-2 (04); reset 0 -/
  vPrev : Int × Int := (0, 0)
  /-- PU32 dq currents of step 1 of the present period; R107, R154 (04, 06); reset 0 -/
  idq : Int × Int := (0, 0)
  /-- PU32 raw PCC magnitude v of step 1; R107 (04); reset 0 -/
  vRaw : Int := 0
  /-- PU32 p_dem and v_set of Table 4-4 in the last period; R108 (04); reset 0 -/
  last : Int × Int := (0, 0)
  /-- PU32 p_dem and v_set frozen at the last entry of HOLD; R108 (04); reset 0 -/
  frozen : Int × Int := (0, 0)
  /-- PU32 e_sel; 0x2008:09 (04); reset 0 -/
  eSel : Int := 0
  /-- PU32 p_sel; 0x2011:03 (05); reset 0 -/
  pSel : Int := 0
  /-- gain values in force after Table 4-4; 0x2004:02-06 (04); reset 0 -/
  inForce : GainSet := {}
  /-- scheduled gain set of the previous period; R142 (05); reset 0 -/
  gPrev : GainSet := {}
  /-- 10 × PU32 P_OUT; 0x2011:04 (05); reset DESIGN CHOICE 0 (log entry 5) -/
  pOut : List Int := List.replicate 10 0
  /-- 4 × PU32 E_OUT; 0x2011:05 (05); reset DESIGN CHOICE 0 (log entry 5) -/
  eOut : List Int := List.replicate 4 0
  /-- PU32 SYNC_DV_M; 0x2008:0A (04); reset 0 -/
  dvM : Int := 0
  /-- PU32 SYNC_DW_M; 0x2008:0B (04); reset 0 -/
  dwM : Int := 0
  /-- I32 SYNC_DTH_M; 0x2008:0C (04); reset 0 -/
  dthM : Int := 0
  /-- the synchronism check held at this boundary; R117 (04); reset no -/
  syncOk : Bool := false
  /-- the next boundary is the first of FORMING: starting values due; R95, R110, R134 (03, 04, 05); reset no -/
  first : Bool := false
  /-- the condition of the phase's dwell held at the last boundary; R115, R116, R120 (04); reset no -/
  dwOn : Bool := false
  /-- a write has changed the gain set of the region in force at this boundary; R141 (05); reset no -/
  gainNew : Bool := false
  /-- 0x2008:10 with the values of one forming period; R123 (04); reset the values of Table 4-12 -/
  shot : List Nat := List.replicate 55 0
  /-- 0x2011:0B with the values of one forming period; R146 (05); reset the values of Table 5-6 -/
  limShot : List Nat := List.replicate 8 0 ++ [1, 1] ++ List.replicate 72 0 ++ [255] ++ List.replicate 4 0
  /-- 0x2041:04 with the values of one forming period; R269 (09); reset the values of its table -/
  balShot : List Nat := List.replicate 60 0
  /-- PCC, line and DC sources; R100 (04); reset primary -/
  srcPcc : Source := {}
  /-- line source; R100 (04); reset primary -/
  srcLine : Source := {}
  /-- DC source; R100 (04); reset primary -/
  srcDc : Source := {}
  /-- breaker value source; R168 (06); reset primary -/
  srcBrk : Source := {}
  /-- arm-current source; R168 (06); reset primary -/
  srcArm : Source := {}
  /-- candidates 2..5 forced out by an invalid input; R131 (05); reset no -/
  forced : List Bool := [false, false, false, false]
  /-- 0x1073 recorded in the episode; R132 (05); reset no -/
  conflict : Bool := false
  /-- 0x1051 recorded in this forming period; R105 (04); reset no -/
  satOnce : Bool := false
  /-- own reference set computed in the present period; R111, R113 (04); reset none -/
  refs : Option RefSet := none
  /-- CLOSE of the sequencer; Tables 4-5, 4-6 (04); reset 0 -/
  close : Bool := false
  /-- six arm energies of the set, AU AL BU BL CU CL, PU32; 0x2041:01 (09); reset DESIGN CHOICE 0 (log entry 5) -/
  wArm : List Int := List.replicate 6 0
  /-- PU32 p_s; 0x2041:02 (09); reset 0 -/
  ps : Int := 0
  /-- I_CM0 and K_CV of legs a, b, c; 0x2041:03 (09); reset DESIGN CHOICE 0 (log entry 5) -/
  legs : List (Int × Int) := [(0, 0), (0, 0), (0, 0)]
  /-- 0x5250 recorded in the episode; R269 (09); reset no -/
  balEp : Bool := false
  /-- U64 boundary of the period shown in the snapshots; R123 (04); reset 0 -/
  boundary : Nat := 0
  /-- periods in FORMING without an elected leader's set in force; R263 (09); reset 0 -/
  leadWait : Nat := 0
  /-- U32 EXT_TOTAL; 0x2030:04 (05); reset 0 -/
  exTotal : Nat := 0
  /-- 4 bits ABORTED; Table 5-9 (05); reset 0 -/
  aborted : Nat := 0
  /-- 4 × U32 LAST_CYCLES; 0x2031+s:05 (05); reset 0 -/
  cycles : List Nat := [0, 0, 0, 0]
  /-- an overrun of the present period has not acted on the count yet; R149 (05); reset no -/
  overran : Bool := false
  /-- U8 LIMIT_CHECK; 0x2012:01 (05); reset 0 -/
  limCheck : Nat := 0
  /-- the period's measurement set and law outputs, as the extension slots read them; R148 (05); reset none -/
  extIn : List Int := []
deriving DecidableEq, Repr, Inhabited

/-- A SHARE held by a non-lead span (Table 9-3). -/
structure ShareMsg where
  /-- tick it names; R160 (06) -/
  tick : Nat
  /-- U16 n_o; Table 9-3 (09) -/
  no : Nat
  /-- PU32 i_m; Table 9-3 (09) -/
  im : Int
  /-- i_m valid; Table 9-3 (09) -/
  imOk : Bool
  /-- block flag; Table 9-3 (09) -/
  block : Bool
deriving DecidableEq, Repr, Inhabited

/-- A REPORT held by the arm lead (Table 9-3). -/
structure ReportMsg where
  /-- tick it names; R162 (06) -/
  tick : Nat
  /-- frames of the tick were BLOCK; Table 9-3 (09) -/
  block : Bool
  /-- U16 lo_o for the following tick; R191 (07) -/
  lo : Nat
  /-- U16 hi_o for the following tick; R191 (07) -/
  hi : Nat
deriving DecidableEq, Repr, Inhabited

/-- The arm law. -/
structure ArmState where
  /-- references in force; R111, R164 (04, 06); reset none -/
  refs : Option RefSet := none
  /-- reference set received for the next boundary; R111 (04); reset none -/
  next : Option RefSet := none
  /-- the set is in force for a further period; R164 (06); reset no -/
  extended : Bool := false
  /-- the first tick with references after a start of R158 is due; R158 (06); reset yes -/
  fresh : Bool := true
  /-- dq currents of the period in which the set in force was computed; R154 (06); reset 0 -/
  idq : Int × Int := (0, 0)
  /-- dq currents of the present period, for the set of the next boundary; R154 (06); reset 0 -/
  idqNext : Int × Int := (0, 0)
  /-- I16 n_c; 0x3101:03 (06); reset 0 -/
  nc : Int := 0
  /-- U16 n_ff; 0x3101:02 (06); reset 0 -/
  nff : Nat := 0
  /-- U16 count n, or the share held; 0x3101:01 (06); reset 0 -/
  count : Nat := 0
  /-- PU32 I_REF; 0x3101:04 (06); reset 0 -/
  iRef : Int := 0
  /-- PU32 I_M; 0x3101:05 (06); reset 0 -/
  im : Int := 0
  /-- i_m valid; R160 (06); reset no -/
  imOk : Bool := false
  /-- PU32 ERR; 0x3101:06 (06); reset 0 -/
  err : Int := 0
  /-- step of the last tick, −4..4; Table 6-8 (06); reset 0 -/
  step : Int := 0
  /-- U16 SHARE sent; 0x3101:07 (06); reset 0 -/
  share : Nat := 0
  /-- U16 n_av, period value; 0x3101:08 (06); reset 0 -/
  nAv : Nat := 0
  /-- U64 sum of the estimates of the available cells of the arm, 1/16 V; R157 (06); reset 0 -/
  sumV : Nat := 0
  /-- U16 A_o, the other span's available count; R159 (06); reset 0 -/
  avOther : Nat := 0
  /-- U32 SHARE_MISSES; 0x3101:0A (06); reset 0 -/
  misses : Nat := 0
  /-- consecutive missed shares; R161, Table 6-7 (06); reset 0 -/
  missRun : Nat := 0
  /-- share held; R160 (06); reset none -/
  held : Option ShareMsg := none
  /-- report held; R162 (06); reset none -/
  report : Option ReportMsg := none
  /-- consecutive ticks without a report; R162 (06); reset 0 -/
  repMiss : Nat := 0
  /-- block flags of the last shares sent (tick, flag), newest first; R162 (06); reset none -/
  flags : List (Nat × Bool) := []
  /-- I_LOST; Table 6-7 (06); reset 0 -/
  iLost : Bool := false
  /-- I_FROZEN; Table 6-7 (06); reset 0 -/
  iFrozen : Bool := false
  /-- CLAMP; Table 6-7 (06); reset 0 -/
  clamp : Bool := false
  /-- n_c at ±C_MAX, episode of 0x2002; R156, Table 6-7 (06); reset 0 -/
  cLimit : Bool := false
  /-- PARTNER_BLOCKED; Table 6-7 (06); reset 0 -/
  partnerBlk : Bool := false
  /-- 0x2001 recorded in this forming period; R156 (06); reset no -/
  once2001 : Bool := false
  /-- 0x2020 recorded in this forming period; R161 (06); reset no -/
  once2020 : Bool := false
  /-- the channel's frozen flag was raised in BLOCKED and still stands, the episode of 0x2012; R167 (06); reset no -/
  ep2012 : Bool := false
  /-- apply tick of the first non-BLOCK words since FORMING began or a takeover; R167 (06); reset none -/
  liveAt : Option Nat := none
  /-- a share of the present tick was missed: the words are HOLD; R161 (06); reset no -/
  holdNow : Bool := false
  /-- U64 tick of the values shown in the snapshot; R172 (06); reset 0 -/
  snapTick : Nat := 0
  /-- 0x3101:0B with the values of one tick; R172 (06); reset the values of Table 6-6 -/
  shot : List Nat := List.replicate 36 0
  /-- the device was in FORMING at the present tick edge; R271 (09); reset no -/
  edgeForm : Bool := false
deriving DecidableEq, Repr, Inhabited

/-- A roll call (Table 9-5). -/
structure RollCall where
  /-- device number of the sender; Table 9-1 (09) -/
  src : Nat
  /-- U64 TICK64; Table 9-5 (09) -/
  tick : Nat
  /-- mode; Table 9-5 (09) -/
  mode : Nat
  /-- sub-state; Table 9-5 (09) -/
  sub : Nat
  /-- U8 FLAGS; Table 9-5 (09) -/
  flags : Nat
  /-- U8 FLAGS2; Table 9-5 (09) -/
  flags2 : Nat
  /-- POSITION; Table 9-5 (09) -/
  pos : Nat
  /-- arm index; Table 9-5 (09) -/
  arm : Nat
  /-- U16 EPOCH; Table 9-5 (09) -/
  epoch : Nat
  /-- U16 LEADER_VIEW; Table 9-5 (09) -/
  view : Nat
  /-- U16 SEG_E, SEG_W, ns; Table 9-5 (09) -/
  segE : Nat
  /-- U16 SEG_W, ns; Table 9-5 (09) -/
  segW : Nat
  /-- HOPS_E; Table 9-5 (09) -/
  hopsE : Nat
  /-- HOPS_W; Table 9-5 (09) -/
  hopsW : Nat
  /-- place in the ring, rising going west from this device, from the header's HOPS; R239, R242 (09) -/
  place : Nat
deriving DecidableEq, Repr, Inhabited

/-- A SPAN_PUB (Table 9-4). -/
structure SpanPub where
  /-- device number of the sender; Table 9-1 (09) -/
  src : Nat
  /-- U16 available count; Table 9-4 (09) -/
  av : Nat
  /-- arm index; Table 9-4 (09) -/
  arm : Nat
  /-- U64 sum of estimates, 1/16 V; Table 9-4 (09) -/
  sum : Nat
  /-- U64 sum of squares; Table 9-4 (09) -/
  sq : Nat
deriving DecidableEq, Repr, Inhabited

/-- What a device sends in tick F − 1, as it stood at the latch point of that tick (R157, R256, R267). -/
structure Publication where
  /-- the roll call; Table 9-5 (09) -/
  call : RollCall
  /-- available count, sum of the estimates, sum of their squares; Table 9-4 (09) -/
  span : Nat × Nat × Nat
  /-- the measurement items; Table 9-4 (09) -/
  items : List MeasItem
deriving DecidableEq, Repr, Inhabited

/-- What a device holds of the ARM_STATE of one arm (R272). -/
structure ArmSeen where
  /-- held with FORMING since its own FORMING began; R272 (09); reset no -/
  seen : Bool := false
  /-- tick of the last one held; R272 (09); reset 0 -/
  tick : Nat := 0
deriving DecidableEq, Repr, Inhabited

/-- One spine port. -/
structure SpinePort where
  /-- block lock; Table 9-12 (09); reset 0 -/
  lock : Bool := false
  /-- U16 ns segment delay; R239 (09); reset 0 -/
  seg : Nat := 0
  /-- hops of the segment; R239 (09); reset 0 -/
  hops : Nat := 0
  /-- the segment has been measured since it locked; R239, R273 (09); reset no -/
  measured : Bool := false
  /-- ECHO exchanges of the present set, round trip less hold time, ns; R239 (09); reset none -/
  echoes : List Nat := []
  /-- send time of the ECHO that waits for its reply, U32 ns; R239 (09); reset none -/
  sentAt : Option Nat := none
  /-- U16 ns marker delay D_m of the direction; R246 (09); reset 0 -/
  dm : Nat := 0
deriving DecidableEq, Repr, Inhabited

/-- The spine active logic. -/
structure SpnState where
  /-- SPN_E; R237 (09); reset unlocked -/
  east : SpinePort := {}
  /-- SPN_W; R237 (09); reset unlocked -/
  west : SpinePort := {}
  /-- the device has joined the spine (step 7 of boot or a wake); R549 (09); reset no -/
  joined : Bool := false
  /-- I16 phase error, 0.125 ns; R247, Table 9-13 (09); reset 0 -/
  phase : Int := 0
  /-- locked; R247 (09); reset no -/
  locked : Bool := false
  /-- consecutive ticks within 5 ns; R247 (09); reset 0 -/
  lockRun : Nat := 0
  /-- a valid marker of the own station was received in the present tick; R246 (09); reset no -/
  gotMarker : Bool := false
  /-- consecutive ticks without a marker of the master that is followed; R252 (09); reset 0 -/
  markMiss : Nat := 0
  /-- consecutive ticks without a marker of the own station; R247, R253 (09); reset 0 -/
  lossRun : Nat := 0
  /-- a marker of the own station has been received since the active logic started; R251 (09); reset no -/
  heard : Bool := false
  /-- ticks since the active logic started without any marker of the station; R251 (09); reset 0 -/
  markWait : Nat := 0
  /-- the tick number agrees with the master's; R248 (09); reset no -/
  numbered : Bool := false
  /-- marker seen with another station number or tick length; R250 (09); reset no -/
  foreign : Bool := false
  /-- U16 TICK_MASTER followed or own; 0x1301:03 (09); reset 0xFFFF (none) -/
  master : Option Nat := none
  /-- this device sends the marker; Table 9-12 (09); reset 0 -/
  isMaster : Bool := false
  /-- member of the ring; R250, 0x1301:01 (09); reset 0 -/
  member : Bool := false
  /-- BUDGET_OK; R240, 0x1301:05 (09); reset 0 -/
  budget : Bool := false
  /-- U16 ns P_max; 0x1301:04 (09); reset 0 -/
  pathMax : Nat := 0
  /-- roll calls received in the present period; R256 (09); reset none -/
  calls : List RollCall := []
  /-- roll calls of the last tick F − 1; R257, 0x1301:06 (09); reset none -/
  roster : List RollCall := []
  /-- U16 LEADER of the present period; 0x1301:02 (09); reset 0xFFFF (none) -/
  leader : Option Nat := none
  /-- an election has been held, so that LEADER_DEV shows its outcome; Table 9-12 (09); reset no -/
  voted : Bool := false
  /-- U32 LEADER_CHANGES; 0x1301:07 (09); reset 0 -/
  changes : Nat := 0
  /-- QUORUM in the last roll call; R257 (09); reset 0 -/
  quorum : Bool := false
  /-- CAND_RUN in the last roll call; R258 (09); reset 0 -/
  candRun : Bool := false
  /-- CAND_NEW in the last roll call; R258 (09); reset 0 -/
  candNew : Bool := false
  /-- 0x5221 recorded in the episode; R259 (09); reset no -/
  noLeadEp : Bool := false
  /-- 0x5214 recorded in the episode; R270 (09); reset no -/
  hopsEp : Bool := false
  /-- 0x5205 recorded in the episode; R250 (09); reset no -/
  foreignEp : Bool := false
  /-- 0x5213 recorded in this forming period; R244 (09); reset no -/
  lateOnce : Bool := false
  /-- what tick F − 1 of the present period publishes, taken at its latch point; R157, R256, R267 (06, 09); reset none -/
  pub : Option Publication := none
  /-- SPAN_PUB received for the next boundary; R157 (06, 09); reset none -/
  pubs : List SpanPub := []
  /-- arm energy formed at the last boundary from the SPAN_PUB held; R267 (09); reset none -/
  energy : Option Int := none
  /-- MEAS received for the next boundary with their sources; R99 (04); reset none -/
  meas : List (Nat × MeasItem) := []
  /-- SETPOINT received for the next boundary: source, subindex of 0x2002, value; R101 (04); reset none -/
  sets : List (Nat × Nat × Int) := []
  /-- own station setpoint writes waiting for publication: subindex, value; R101 (04); reset none -/
  toPub : List (Nat × Int) := []
  /-- ARM_STATE held per arm index 0..7; R272 (09); reset none seen -/
  arms : List ArmSeen := List.replicate 8 {}
  /-- STATE block of the leader held in this period; R113 (04); reset none -/
  stateMsg : Option LawBlock := none
  /-- REFS of the leader held in this period, for the shadow check; R113 (04); reset none -/
  refsMsg : Option RefSet := none
  /-- (SOURCE, TYPE, TICK) of messages used lately; R242 (09); reset none -/
  seen : List (Nat × Nat × Nat) := []
deriving DecidableEq, Repr, Inhabited

end Sys2Proof.Machine
end

