-- ==== Sys2Proof/Machine/StateField.lean ====
section
/-! DEFINITION. State of the field pins, the field supply and the barrier (13), and of the safety functions, the safety
layer and the protection set (14). -/
namespace Sys2Proof.Machine

/-- One field pin. Mode, debounce and the other settings are objects 0x5001 of its channel. -/
structure Pin where
  /-- on the field-side die: level of the latest sample; R366 (13); reset 0 -/
  lvl : Bool := false
  /-- on the field-side die: equal samples in the present run; R366 (13); reset 0 -/
  run : Nat := 0
  /-- local-clock time of the first sample of the run, seconds and ns; R366 (13); reset 0 -/
  runTime : Nat × Nat := (0, 0)
  /-- on the field-side die: debounced state; R366 (13); reset 0 -/
  dieDeb : Bool := false
  /-- raw level of the last valid frame; R358 (13); reset 0 -/
  raw : Bool := false
  /-- debounced state of the last valid frame; R358, R366 (13); reset 0 -/
  deb : Bool := false
  /-- TIME96 EDGE_TIME; 0x5002:04 (13); reset 0 -/
  edge : Nat × Nat := (0, 0)
  /-- U32 EDGE_COUNT; 0x5002:05 (13); reset 0 -/
  edges : Nat := 0
  /-- U16 I_PIN; 0x5002:06 (13); reset 0 -/
  amps : Nat := 0
  /-- I16 PIN_V, 0.1 V; 0x5002:07 (13); reset 0 -/
  volt : Int := 0
  /-- command in force (application owner); R368 (13); reset off -/
  cmd : Bool := false
  /-- time of the last change of the command, ns; R373 (13); reset none -/
  cmdAt : Option Nat := none
  /-- tick in which OUT_CLEAR last named the pin; R368 (13); reset none -/
  clrTick : Option Nat := none
  /-- WIRE_BREAK; R372 (13); reset 0 -/
  wire : Bool := false
  /-- OPEN_OFF; Table 13-2 (13); reset 0 -/
  openOff : Bool := false
  /-- OPEN_ON; Table 13-2 (13); reset 0 -/
  openOn : Bool := false
  /-- SHORT_LP; Table 13-2 (13); reset 0 -/
  shortLp : Bool := false
  /-- OVERLOAD; R371 (13); reset 0 -/
  overload : Bool := false
  /-- THERMAL; R371 (13); reset 0 -/
  thermal : Bool := false
  /-- REVERSED; R374 (13); reset 0 -/
  reversed : Bool := false
  /-- READBACK; Table 13-2 (13); reset 0 -/
  readback : Bool := false
  /-- latched off; R371 (13); reset 0 -/
  latched : Bool := false
  /-- time at which a retry falls due, ns; R371 (13); reset none -/
  retryAt : Option Nat := none
  /-- in thermal shutdown, not yet cooled below the restart temperature; R370, R371 (13); reset no -/
  hot : Bool := false
  /-- FIO_SNAPSHOT: its bytes of the tick copy; 0x5002:09 (13); reset 0 -/
  shot : List Nat := List.replicate 32 0
deriving DecidableEq, Repr, Inhabited

/-- One row of Table 13-3 with its restore dwell. -/
structure LpRow where
  /-- its entry condition has held and its dwell has not ended; R376 (13); reset no -/
  on : Bool := false
  /-- time since which the mean has stayed 0.5 V beyond the leaving threshold, ns; R376 (13); reset none -/
  since : Option Nat := none
deriving DecidableEq, Repr, Inhabited

/-- The field group. -/
structure FieldState where
  /-- 32 pins; R362 (13); reset as their fields -/
  pins : List Pin := List.replicate 32 {}
  /-- U32 logical values of the tick copy; R367 (13); reset 0 -/
  vals : Nat := 0
  /-- U32 validity of the tick copy; R367 (13); reset 0 -/
  valid : Nat := 0
  /-- CLOSE bit passed at the last k = 0; R369 (13); reset 0 -/
  close : Bool := false
  /-- last four L+ samples, mV, newest first; R376 (13); reset none -/
  lp : List Int := []
  /-- mean of the last four samples, mV; R376 (13); reset 0 -/
  lpMean : Int := 0
  /-- rows REVERSED, LOST, SO_OFF, LOW, HIGH of Table 13-3; R376 (13); reset none holds -/
  rows : List LpRow := List.replicate 5 {}
  /-- U8 0..5 LP_STATE; 0x5011:02 (13); reset 0 -/
  lpState : Nat := 0
  /-- BARRIER_UP; 0x5012:01 (13); reset 0 -/
  up : Bool := false
  /-- frame slots since the last tick edge, 1 µs each; R358 (13); reset 0 -/
  slots : Nat := 0
  /-- consecutive frame slots without a valid frame; R359 (13); reset 0 -/
  missRun : Nat := 0
  /-- time of the last valid frame, ns; R359 (13); reset 0 -/
  lastOk : Nat := 0
  /-- time since which the link has run without a discarded frame, ns; R359 (13); reset none -/
  goodSince : Option Nat := none
  /-- U32 BARRIER_ERRORS; 0x5012:02 (13); reset 0 -/
  errors : Nat := 0
deriving DecidableEq, Repr, Inhabited

/-- A safety input SIi (R389, R390). -/
structure SafeIn where
  /-- in demand; R390 (14); reset no -/
  demand : Bool := false
  /-- cycle time c0 of a discrepancy in progress, ns; R390 (14); reset none -/
  disc : Option Nat := none
  /-- discrepancy fault; R390 (14); reset no -/
  fault : Bool := false
  /-- restart lock; R391 (14); reset no -/
  lock : Bool := false
  /-- channel A demands; 0x6110+i:07 [4] (14); reset 0 -/
  a : Bool := false
  /-- channel B demands; 0x6110+i:07 [5] (14); reset 0 -/
  b : Bool := false
deriving DecidableEq, Repr, Inhabited

/-- A safety output SOn (R393 to R398). -/
structure SafeOut where
  /-- commanded on; 0x6002:01 [0] (14); reset 0 -/
  cmd : Bool := false
  /-- H switch on; 0x6002:01 [1] (14); reset 0 -/
  h : Bool := false
  /-- L switch on; 0x6002:01 [2] (14); reset 0 -/
  l : Bool := false
  /-- time at which L was switched on and step 3 waits, ns; R394 (14); reset none -/
  step : Option Nat := none
  /-- pulse in progress: on H (else L), and its start, ns; R395 (14); reset none -/
  pulse : Option (Bool × Nat) := none
  /-- the off command came during the pulse: it is not judged; R397 (14); reset no -/
  spoiled : Bool := false
  /-- the next pulse is on L; R395, R397 (14); reset no (H first, as the worked example) -/
  nextL : Bool := false
  /-- time from which SO_TEST_T is counted, ns; R395 (14); reset none -/
  onSince : Option Nat := none
  /-- output lock; R396, R398 (14); reset 0 -/
  lock : Bool := false
  /-- TEST_H; 0x6002:02 [0] (14); reset 0 -/
  testH : Bool := false
  /-- TEST_L; 0x6002:02 [1] (14); reset 0 -/
  testL : Bool := false
  /-- SHORT_H; 0x6002:02 [2] (14); reset 0 -/
  shortH : Bool := false
  /-- READBACK; 0x6002:02 [3] (14); reset 0 -/
  readback : Bool := false
  /-- OVERLOAD; 0x6002:02 [4] (14); reset 0 -/
  overload : Bool := false
  /-- THERMAL; 0x6002:02 [5] (14); reset 0 -/
  thermal : Bool := false
  /-- SUPPLY_OFF; 0x6002:02 [6] (14); reset 0 -/
  supply : Bool := false
  /-- OPEN; 0x6002:02 [7] (14); reset 0 -/
  open_ : Bool := false
  /-- U32 TESTS; 0x6002:03 (14); reset 0 -/
  tests : Nat := 0
  /-- voltage of SOn_H and of SOn_L, mV, of the latest barrier frame; R394 (14); reset DESIGN CHOICE 0 (log entry 5) -/
  volt : Int × Int := (0, 0)
  /-- output current, mA, of the latest barrier frame; R394 (14); reset DESIGN CHOICE 0 (log entry 5) -/
  amps : Nat := 0
  /-- safety cycle since which SOn_H has been above 12.0 V while the output is off, ns; R394 (14); reset none -/
  highAt : Option Nat := none
  /-- safety cycle since which the read-back has deviated while the output is on, ns; R394 (14); reset none -/
  devAt : Option Nat := none
  /-- safety cycle since which the current has been below 3 mA while the output is on, ns; R394 (14); reset none -/
  openAt : Option Nat := none
  /-- safety cycle since which the current has been 3 mA or more while the output is on, ns; R394 (14); reset none -/
  loadAt : Option Nat := none
deriving DecidableEq, Repr, Inhabited

/-- State of a consuming connection (0x6130+c:0A). -/
inductive SlSt where
  | off | wait | run | lost
deriving DecidableEq, Repr, Inhabited

/-- A safety-layer connection (R404 to R409). -/
structure SlConn where
  /-- U8 SL_STATE; 0x6130+c:0A (14); reset OFF -/
  st : SlSt := .off
  /-- U32 safe data of the latest valid frame, or sent; 0x6130+c:0B (14); reset 0 -/
  data : Nat := 0
  /-- U32 SL_ERRORS; 0x6130+c:0C (14); reset 0 -/
  errors : Nat := 0
  /-- times of the errors of the last second, ns; R408 (14); reset none -/
  errTimes : List Nat := []
  /-- SEQ of the last valid frame; R407 (14); reset none -/
  seq : Option Nat := none
  /-- consecutive valid frames in WAIT or LOST; R407, R409 (14); reset 0 -/
  good : Nat := 0
  /-- time of the last valid frame, ns; R408 (14); reset 0 -/
  at_ : Nat := 0
  /-- safe data of the latest valid frame, 0 with FAILSAFE; R408 (14); reset 0 -/
  raw : Nat := 0
  /-- data latched at 0 until a safety reset in RUN; R409 (14); reset no -/
  latched : Bool := false
  /-- reset bit of the latest data in force; R392 (14); reset 0 -/
  rbit : Bool := false
  /-- U32 SEQ of the last frame produced; R406 (14); reset 0 -/
  txSeq : Nat := 0
  /-- fewer than 8 frames have been produced since SAFETY started; R406 (14); reset yes -/
  txEarly : Bool := true
  /-- time of the last frame produced, ns; R406 (14); reset none -/
  txAt : Option Nat := none
deriving DecidableEq, Repr, Inhabited

/-- The protection function (R410 to R412). The live set is held in the objects 0x6200. -/
structure ProtState where
  /-- PROT_STATE RUNNING; 0x6201:01 (14); reset 0 -/
  run : Bool := false
  /-- starts in the next safety cycle; R412 (14); reset no -/
  starting : Bool := false
  /-- 6 bits PROT_LATCHED; 0x6201:04 (14); reset 0 -/
  latched : Nat := 0
  /-- consecutive cycles of violation of items 1 to 6; R411 (14); reset 0 -/
  counts : List Nat := [0, 0, 0, 0, 0, 0]
  /-- stored set, ten values, non-volatile; R412 (14); reset DESIGN CHOICE the defaults of Table 14-8 (log entry 5) -/
  stored : List Int := [255, 8388352, 255, 8388352, 65535, 0, 21810381, 10066330, 2, 7]
  /-- U32 PROT_CRC, check value of the stored set, non-volatile; 0x6201:03 (14); reset DESIGN CHOICE 0 (log entry 5) -/
  crc : Nat := 0
  /-- U8 0..3 PROT_CHECK; 0x6201:05 (14); reset 0 -/
  check : Nat := 0
deriving DecidableEq, Repr, Inhabited

/-- The safety functions. -/
structure SafeState where
  /-- 8 safety inputs; R389 (14); reset as their fields -/
  ins : List SafeIn := List.replicate 8 {}
  /-- 4 safety outputs; R393 (14); reset as their fields -/
  outs : List SafeOut := List.replicate 4 {}
  /-- 8 connections; R404 (14); reset as their fields -/
  conns : List SlConn := List.replicate 8 {}
  /-- protection function; R410 (14); reset as its fields -/
  prot : ProtState := {}
  /-- SF1 demanded; 0x6101:01 [0] (14); reset 1 -/
  sf1 : Bool := true
  /-- SF2 demanded; 0x6101:01 [1] (14); reset 1 -/
  sf2 : Bool := true
  /-- door release on; 0x6101:01 [2] (14); reset 0 -/
  door : Bool := false
  /-- earth release on; 0x6101:01 [3] (14); reset 0 -/
  earth : Bool := false
  /-- 14 bits SF1_CAUSE; 0x6101:02 (14); reset DESIGN CHOICE 0x2000, SAFETY not RUNNING (log entry 5) -/
  cause : Nat := 0x2000
  /-- time since which SF1 is demanded without interruption, ns; R399 (14); reset 0 (SF1 is demanded at reset) -/
  sf1Since : Option Nat := some 0
  /-- safety reset due in the next safety cycle; R392 (14); reset no -/
  reset : Bool := false
  /-- safety block line asserted; R27, R385 (01, 14); reset 1, SF1 being demanded (0x6101:01 default 0x03) -/
  line : Bool := true
  /-- the comparator hardware has stopped the barrier frames; R388 (14); reset no -/
  stopped : Bool := false
  /-- CONFIRMED; 0x6101:07 (14); reset 0 -/
  confirmed : Bool := false
  /-- U32 confirmation stored with the set, non-volatile; R402 (14); reset none -/
  conf : Option Nat := none
  /-- the first safety cycle after RUNNING is still due; R391 (14); reset yes -/
  first : Bool := true
  /-- U32 SL_FOREIGN; 0x6101:09 (14); reset 0 -/
  foreign : Nat := 0
  /-- 0x6302 recorded in the episode; R407 (14); reset no -/
  foreignEp : Bool := false
deriving DecidableEq, Repr, Inhabited

end Sys2Proof.Machine
end

