-- ==== Sys2Proof/Machine/StatePower.lean ====
section
/-! DEFINITION. State of the power feeds, the power domains and duplex operation (15_duplex_and_power.md). -/
namespace Sys2Proof.Machine

/-- The states of a feed (Table 15-1). -/
inductive FeedLevel where
  | good | low | fail
deriving DecidableEq, Repr, Inhabited

/-- One feed. -/
structure Feed where
  /-- 2 bits; R419, 0x8100:01 (15); reset GOOD (0) -/
  level : FeedLevel := .good
  /-- U16 mV; 0x8100:02, 0x8100:03 (15); reset 0 -/
  volt : Nat := 0
deriving DecidableEq, Repr, Inhabited

/-- What the PMBus controller holds for one regulator address (R420). -/
structure Regulator where
  /-- 7-bit address; 0x8101:01 (15) -/
  addr : Nat
  /-- STATUS_WORD of the last valid answer; 0x8101:03 (15) -/
  status : Nat
  /-- consecutive polls without a valid answer; R420 (15) -/
  misses : Nat
deriving DecidableEq, Repr, Inhabited

/-- The wake record in KEEP (R423). -/
structure WakeRec where
  /-- band entry and dividers of the main PLL and PLLs A to C; R423 (15) -/
  plls : List (Nat × Nat)
  /-- per trunk: t_trk, longest cell-link delay, hub serial number; R423 (15) -/
  trunks : List (Nat × Nat × Nat)
  /-- spine segment delays E, W and marker delays E, W; R423 (15) -/
  spine : List Nat
  /-- station tick number kept by the repeater; R423 (15) -/
  tick : Nat
  /-- last AUTH_EPOCH; R423 (15) -/
  epoch : Nat
  /-- the repeater has counted every marker since it was written; R423 (15) -/
  counted : Bool
deriving DecidableEq, Repr, Inhabited

/-- Feeds and domains. -/
structure PwrState where
  /-- 12 bits DOMAINS; R36, 0x8100:05 (01, 15); reset 0x0007 -/
  domains : Nat := 0x0007
  /-- FEEDA; R419 (15); reset GOOD, 0 mV -/
  feedA : Feed := {}
  /-- FEEDB; R419 (15); reset GOOD, 0 mV -/
  feedB : Feed := {}
  /-- conducting feed, 0 A, 1 B; R418, 0x8100:01 [4] (15); reset 0 -/
  conduct : Side := .a
  /-- neither feed GOOD, event 0x7004 recorded; R419 (15); reset no -/
  neither : Bool := false
  /-- U16 mV VDD3V3_V; 0x8100:04 (15); reset 0 -/
  vdd33 : Nat := 0
  /-- V3V3_BAD; Table 15-13 (15); reset 0 -/
  vdd33Bad : Bool := false
  /-- PMBUS_FAULT; Table 15-13 (15); reset 0 -/
  pmbFault : Bool := false
  /-- up to 8 regulators polled; R420, 0x8101:03 (15); reset none -/
  regs : List Regulator := []
  /-- time of the last PMBus poll, ns; R420 (15); reset 0 -/
  pollAt : Nat := 0
  /-- PMB_ALERT_N has asked for the next poll at once; R537 (19); reset no -/
  pollDue : Bool := false
  /-- time of the last reading of VDD_3V3, ns; R420 (15); reset 0 -/
  vddAt : Nat := 0
  /-- wake record; R423 (15); reset none -/
  wake : Option WakeRec := none
deriving DecidableEq, Repr, Inhabited

/-- A checkpoint buffer of the store in KEEP (R428). -/
structure CkptBuf where
  /-- VALID; R428 (15); reset 0 -/
  valid : Bool := false
  /-- 8192 bytes of Tables 15-4 and 15-5, or none; R427 (15); reset none -/
  bytes : List Nat := []
deriving DecidableEq, Repr, Inhabited

/-- A checkpoint being received (R428). -/
structure CkptRx where
  /-- U32 checkpoint SEQ; Table 15-3 (15) -/
  seq : Nat
  /-- segments received, index and 256 bytes; R428 (15) -/
  segs : List (Nat × List Nat)
deriving DecidableEq, Repr, Inhabited

/-- A MIRROR record (Table 15-3). -/
structure MirrorRec where
  /-- U64; Table 15-3 (15) -/
  tick : Nat
  /-- U16 target t; Table 15-3 (15) -/
  target : Nat
  /-- U16 count n; Table 15-3 (15) -/
  count : Nat
  /-- I16 n_c; Table 15-3 (15) -/
  nc : Int
  /-- PU32 i_m; Table 15-3 (15) -/
  im : Int
  /-- U32 OUT_STATE; Table 15-3 (15) -/
  out : Nat
  /-- 256 STATE codes; Table 15-3 (15) -/
  words : List Nat
deriving DecidableEq, Repr, Inhabited

/-- A STATUS frame received by the holder (Table 15-3). -/
structure PartnerStatus where
  /-- U8 as DPX_STATE; Table 15-3 (15) -/
  state : Nat
  /-- mirror mismatch; Table 15-3 (15) -/
  mismatch : Bool
  /-- U32 newest valid checkpoint SEQ; Table 15-3 (15) -/
  ckpt : Nat
  /-- U32 match run; Table 15-3 (15) -/
  run : Nat
  /-- U32 CFG_CRC; Table 15-3 (15) -/
  cfg : Nat
  /-- U16; Table 15-3 (15) -/
  dev : Nat
deriving DecidableEq, Repr, Inhabited

/-- Where a takeover stands (R436 to R438). -/
inductive Takeover where
  /-- none in progress -/
  | idle
  /-- begun: from PREPARED or not -/
  | begun (prepared : Bool)
  /-- the liveness check passed and the lease is acquired; waiting for bring-up and the first boundary -/
  | live (prepared : Bool)
  /-- bring-up done: the first boundary restores the checkpoint -/
  | ready (prepared : Bool)
  /-- abandoned (R437): the frozen checkpoint counts as not valid -/
  | abandoned
deriving DecidableEq, Repr, Inhabited

/-- LAST_TAKEOVER (Table 15-12). -/
structure LastTakeover where
  /-- U64; 0x8201:08 (15); reset 0 -/
  boundary : Nat := 0
  /-- U64; 0x8201:08 (15); reset 0 -/
  tb : Nat := 0
  /-- U32; 0x8201:08 (15); reset 0 -/
  g : Nat := 0
  /-- U16; 0x8201:08 (15); reset 0 -/
  epoch : Nat := 0
  /-- U8; 0x8201:08 (15); reset 0 -/
  outcome : Nat := 0
deriving DecidableEq, Repr, Inhabited

/-- Duplex operation. -/
structure DpxState where
  /-- position lease held (a device with DPX_ENABLE = 0 holds it at all times); R429 (15); reset no -/
  lease : Bool := false
  /-- U16 AUTH_EPOCH in force; R430, 0x3300:08 (15, 08); reset 0 -/
  epoch : Nat := 0
  /-- U16 epoch stored in non-volatile memory, none before the first; R430 (15); reset none -/
  stored : Option Nat := none
  /-- duplex link up; R425 (15); reset no -/
  link : Bool := false
  /-- time of the last valid partner frame, ns; R425 (15); reset none -/
  lastRx : Option Nat := none
  /-- U16 send counters per type BEAT, CKPT, MIRROR, HANDBACK, STATUS, HB_ACK; R424 (15); reset 0 -/
  txSeq : List Nat := [0, 0, 0, 0, 0, 0]
  /-- SEQ and send time of recent BEATs, newest first; R431 (15); reset none -/
  beats : List (Nat × Nat) := []
  /-- SEQ and receipt time of the newest BEAT received; R431 (15); reset none -/
  beatRx : Option (Nat × Nat) := none
  /-- last STATUS received; R431 (15); reset none -/
  partner : Option PartnerStatus := none
  /-- time of the last BEAT sent, ns; R424 (15); reset none -/
  beatAt : Option Nat := none
  /-- time of the last STATUS sent, ns; R424 (15); reset none -/
  statusAt : Option Nat := none
  /-- U32 SEQ of the last checkpoint sent; 0x8201:03 (15); reset 0 -/
  ckptSeq : Nat := 0
  /-- T_b of the last snapshot; R426 (15); reset none -/
  lastTb : Option Nat := none
  /-- first buffer of the store; R428 (15); reset not valid -/
  buf0 : CkptBuf := {}
  /-- second buffer of the store; R428 (15); reset not valid -/
  buf1 : CkptBuf := {}
  /-- U32 SEQ of the checkpoint received last, accepted or dropped; R428 (15); reset 0 -/
  rxSeq : Nat := 0
  /-- checkpoint being received; R428 (15); reset none -/
  rx : Option CkptRx := none
  /-- store-lease holder, device and epoch; R432 (15); reset none -/
  holder : Option (Nat × Nat) := none
  /-- time of the last renewal of the store lease, ns; R432 (15); reset 0 -/
  renewed : Nat := 0
  /-- store frozen; R432 (15); reset no -/
  frozen : Bool := false
  /-- start of the run of good checkpoints, ns; R441 (15); reset none -/
  goodSince : Option Nat := none
  /-- time of the last accepted checkpoint, ns; R441 (15); reset 0 -/
  lastCkpt : Nat := 0
  /-- takeover in progress; R436 (15); reset none -/
  take : Takeover := .idle
  /-- uplink headers read by the liveness check per trunk: count and whether all showed BOUND = 0 and DL_MISS = 0;
  R437 (15); reset 0 -/
  live : List (Nat × Bool) := List.replicate 8 (0, true)
  /-- U32 TAKEOVERS; 0x8201:07 (15); reset 0 -/
  takeovers : Nat := 0
  /-- LAST_TAKEOVER; 0x8201:08 (15); reset DESIGN CHOICE zeros (log entry 5) -/
  last : LastTakeover := {}
  /-- mirror running (holder); R442 (15); reset no -/
  mirrorOn : Bool := false
  /-- U32 MATCH_RUN; R442 (15); reset 0 -/
  run : Nat := 0
  /-- WARM; R442 (15); reset no -/
  warm : Bool := false
  /-- checkpoint loaded for the shadow selector, its T_b; R442 (15); reset none -/
  shadow : Option Nat := none
  /-- the last mirror record did not match, STATUS flag [0]; R442, Table 15-3 (15); reset no -/
  mism : Bool := false
  /-- newest MIRROR records held, newest first, at most 200; R442, R444 (15); reset none -/
  mirror : List MirrorRec := []
  /-- U64 scheduled hand-back boundary B, 0 none; 0x8201:09 (15); reset 0 -/
  hbB : Nat := 0
  /-- U16 epoch of the hand-back; R444 (15); reset 0 -/
  hbEpoch : Nat := 0
  /-- HB_ACK accepted; R444 (15); reset no -/
  hbAck : Bool := false
  /-- returning device: entered the mode at B − 3F; R444 (15); reset no -/
  hbIn : Bool := false
  /-- returning device: raised its epoch at B − 1; R444 (15); reset no -/
  hbRaised : Bool := false
  /-- SWITCHOVER written; R443 (15); reset no -/
  switchover : Bool := false
  /-- time of the loss of the lease, ns; R433 (15); reset none -/
  yielded : Option Nat := none
  /-- 0x7042 recorded in the episode; R430 (15); reset no -/
  coldEp : Bool := false
  /-- 0x7012 recorded in the episode; R428 (15); reset no -/
  ckptEp : Bool := false
  /-- U32 CKPT_ERRORS; 0x8201:0A (15); reset 0 -/
  errors : Nat := 0
  /-- U16 ns DPX_DELAY; R424, 0x8201:05 (15); reset 0 -/
  delay : Nat := 0
  /-- time B of a hand-back given, standard outputs still on; R445 (15); reset none -/
  gaveAt : Option Nat := none
  /-- boundary B of a transfer taken, from which the safety outputs wait 60 µs, ns; R445 (15); reset none -/
  tookAt : Option Nat := none
  /-- a power-down to COLD runs since, ns; R422 (15); reset none -/
  downAt : Option Nat := none
deriving DecidableEq, Repr, Inhabited

end Sys2Proof.Machine
end

