-- ==== Sys2Proof/Machine/StateSense.lean ====
section
/-! DEFINITION. State of the Sense region: inputs, converters, rotation, internal channels (10). -/
namespace Sys2Proof.Machine

/-- A pending injected request (R288). -/
structure InjReq where
  /-- 2 bits mode; R287 (10) -/
  mode : Nat
  /-- made by the test schedule; R300 (10) -/
  test : Bool
  /-- edge of the present tick on which it is executed; R288, R289 (10) -/
  due : Int
  /-- its sample has been taken; R288 (10); at registration no -/
  taken : Bool := false
  /-- edge of the present tick on which the sample leaves the pipeline; R288 (10) -/
  leaves : Int := 0
  /-- I16 injected code; R288 (10) -/
  code : Int := 0
  /-- I16 scheduled sample immediately before it; R300 (10) -/
  prev : Int := 0
  /-- edge index of the sample; R288 (10) -/
  edge : Nat := 0
  /-- U64 tick number of the sample; R288 (10) -/
  tick : Nat := 0
deriving DecidableEq, Repr, Inhabited

/-- A trigger or test request that is registered on an edge to come (Table 10-5). -/
structure Arrival where
  /-- edge of the present tick on which it is registered; Table 10-5 (10) -/
  reg : Int
  /-- 2 bits mode; R287 (10) -/
  mode : Nat
  /-- made by the test schedule; R300 (10) -/
  test : Bool
deriving DecidableEq, Repr, Inhabited

/-- One input. Codes are 16-bit signed (R278). -/
structure AIn where
  /-- scheduled samples newest first, as many as the response needs; R291 (10); reset none -/
  hist : List Int := []
  /-- samples taken since the fill began, up to L × N; R94 (03); reset 0 -/
  fill : Nat := 0
  /-- edges of the present tick already taken; R280 (10); reset 0 -/
  fed : Nat := 0
  /-- the checks at the end of the tick are done; R280 (10); reset no -/
  ended : Bool := false
  /-- I32 VALUE, latched; 0x4002:01 (10); reset 0 -/
  value : Int := 0
  /-- I16 RAW, latched; 0x4002:02 (10); reset 0 -/
  raw : Int := 0
  /-- U16 FLAGS [3:0] as latched: VALID, LOST_SAT, LOST_TEST, FROZEN; R301, R302 (10); reset 0 -/
  flags : Nat := 0
  /-- LOST_SAT; R299 (10); reset 0 -/
  lostSat : Bool := false
  /-- LOST_TEST; R300 (10); reset 0 -/
  lostTest : Bool := false
  /-- FROZEN; R298 (10); reset 0 -/
  frozen : Bool := false
  /-- consecutive saturated samples; R299 (10); reset 0 -/
  satRun : Nat := 0
  /-- a saturated sample in the present tick; R299 (10); reset no -/
  satTick : Bool := false
  /-- consecutive edges beyond CMP_HI; R295 (10); reset 0 -/
  hiRun : Nat := 0
  /-- consecutive edges beyond CMP_LO; R295 (10); reset 0 -/
  loRun : Nat := 0
  /-- the present run beyond CMP_HI has crossed; R295 (10); reset no -/
  hiX : Bool := false
  /-- the present run beyond CMP_LO has crossed; R295 (10); reset no -/
  loX : Bool := false
  /-- comparator block source asserted; R297 (10); reset no -/
  cmpOn : Bool := false
  /-- Σ4 has stayed within the release limits at every edge of the present tick; R297 (10); reset yes -/
  within : Bool := true
  /-- samples counted in the present frozen window; R298 (10); reset 0 -/
  winN : Nat := 0
  /-- highest sample of the window; R298 (10); reset 0 -/
  winHi : Int := 0
  /-- lowest sample of the window; R298 (10); reset 0 -/
  winLo : Int := 0
  /-- ticks of the present window; R298 (10); reset 0 -/
  winT : Nat := 0
  /-- pending injected request; R289 (10); reset none -/
  inj : Option InjReq := none
  /-- requests on their way to registration; Table 10-5 (10); reset none -/
  arriving : List Arrival := []
  /-- a scheduled sample of the present tick is pre-empted; R289 (10); reset no -/
  preempt : Bool := false
  /-- I16 code of the last injected sample; 0x4002:07 (10); reset 0 -/
  res : Int := 0
  /-- mode of the result; 0x4002:07 (10); reset 0 -/
  resMode : Nat := 0
  /-- edge index of the result; 0x4002:07 (10); reset 0 -/
  resEdge : Nat := 0
  /-- U64 tick number of the result; 0x4002:07 (10); reset 0 -/
  resTick : Nat := 0
  /-- AIN_INJ.VALID; Table 10-11 (10); reset 0 -/
  resOk : Bool := false
  /-- U32 INJ_OVERRUNS; 0x4002:08 (10); reset 0 -/
  overruns : Nat := 0
  /-- 0x4040 recorded in the present tick; R289 (10); reset no -/
  ovrTick : Bool := false
  /-- consecutive failed tests; R300 (10); reset 0 -/
  testBad : Nat := 0
  /-- consecutive passed tests; R300 (10); reset 0 -/
  testGood : Nat := 0
  /-- U32 TEST_FAILS; 0x4002:09 (10); reset 0 -/
  testFails : Nat := 0
  /-- W1C L_LOST; Table 10-11 (10); reset 0 -/
  lLost : Bool := false
  /-- W1C L_FROZEN; Table 10-11 (10); reset 0 -/
  lFrozen : Bool := false
  /-- W1C L_CMP; Table 10-11 (10); reset 0 -/
  lCmp : Bool := false
  /-- W1C L_INJ_OVR; Table 10-11 (10); reset 0 -/
  lInj : Bool := false
  /-- U8 0..16 converter serving the input, none before SENSE starts; 0x4002:05 (10); reset 0xFF -/
  conv : Option Nat := none
  /-- AIN_SNAPSHOT: its bytes of the tick last latched; 0x4002:0A (10); reset tick 0 and the defaults of Table 10-8 -/
  shot : List Nat := List.replicate 20 0 ++ [255]
deriving DecidableEq, Repr, Inhabited

/-- One converter. -/
structure Conv where
  /-- U8 0..4 CONV_STATE; 0x4003:01 (10); reset 0 -/
  st : Nat := 0
  /-- U8 0..15 CONV_INPUT; 0x4003:02 (10); reset 0xFF (none) -/
  input : Option Nat := none
  /-- I16 OFFSET, 1/16 code; 0x4003:03 (10); reset 0 -/
  offset : Int := 0
  /-- I32 GAIN_CORR, ppm; 0x4003:04 (10); reset 0 -/
  gain : Int := 0
  /-- U32 CAL_COUNT; 0x4003:05 (10); reset 0 -/
  cals : Nat := 0
  /-- U8 0..3 MATCH_FAILS; 0x4003:06 (10); reset 0 -/
  fails : Nat := 0
  /-- TIME96 LAST_CAL: TAI seconds and ns; 0x4003:07 (10); reset 0 -/
  last : Nat × Nat := (0, 0)
deriving DecidableEq, Repr, Inhabited

/-- One internal channel 17..24. -/
structure IntCh where
  /-- I32 VALUE, µV or 1/16 °C; Table 10-4 (10); reset 0 -/
  value : Int := 0
  /-- VALID; R285 (10); reset 0 -/
  ok : Bool := false
  /-- inside its limits at its last conversion; R286 (10); reset no -/
  inside : Bool := false
  /-- consecutive passes above TJ_TRIP; R286 (10); reset 0 -/
  trips : Nat := 0
  /-- AIN_SNAPSHOT: its bytes of the tick last latched; 0x4002:0A (10); reset tick 0 and the defaults of Table 10-8 -/
  shot : List Nat := List.replicate 20 0 ++ [255]
deriving DecidableEq, Repr, Inhabited

/-- Stored converter coefficients (R284). -/
structure Coeffs where
  /-- 17 pairs of offset and gain; R284 (10) -/
  list : List (Int × Int)
  /-- temperature of channel 22 recorded with them, 1/16 °C; R284 (10) -/
  temp : Int
  /-- the check value is correct; R281, R284 (10) -/
  ok : Bool
deriving DecidableEq, Repr, Inhabited

/-- The Sense region. -/
structure SenseState where
  /-- 16 inputs; R278 (10); reset as their fields -/
  ins : List AIn := List.replicate 16 {}
  /-- 17 converters; R279 (10); reset as their fields -/
  convs : List Conv := List.replicate 17 {}
  /-- 8 internal channels 17..24; R285 (10); reset as their fields -/
  ints : List IntCh := List.replicate 8 {}
  /-- U8 0..16 spare S; 0x4101:01 (10); reset 16 -/
  spare : Nat := 16
  /-- U8 0..3 ROT_PHASE; 0x4101:02 (10); reset 0 -/
  phase : Nat := 0
  /-- converter X of the step in progress or in calibration; R282 (10); reset 0 -/
  x : Nat := 0
  /-- converter under CALIBRATE; R282, R283 (10); reset none -/
  cal : Option Nat := none
  /-- time at which the present phase began, ns; R282 (10); reset 0 -/
  at_ : Nat := 0
  /-- compared edges of HANDOVER, up to 256; R283, R290 (10); reset 0 -/
  comp : Nat := 0
  /-- edges since 256 compared edges lay before; R290 (10); reset 0 -/
  excess : Nat := 0
  /-- internal channel 17 + pass is converted; R285 (10); reset 0 -/
  pass : Nat := 0
  /-- time at which its part of the pass began, ns; R285 (10); reset 0 -/
  passAt : Nat := 0
  /-- U32 ROT_STEPS; 0x4101:03 (10); reset 0 -/
  steps : Nat := 0
  /-- 17 bits RETIRED; 0x4101:04 (10); reset 0 -/
  retired : Nat := 0
  /-- CAL_SOURCE; 0x4101:05 (10); reset 0 -/
  source : Nat := 0
  /-- further injected requests on the input in HANDOVER are refused; R290 (10); reset no -/
  refuse : Bool := false
  /-- stored coefficients, non-volatile; R284 (10); reset none -/
  stored : Option Coeffs := none
  /-- the foreground calibration or the load of coefficients runs since, ns; R281 (10); reset none -/
  calSince : Option Nat := none
  /-- it is the foreground calibration; R281 (10); reset no -/
  calFg : Bool := false
deriving DecidableEq, Repr, Inhabited

end Sys2Proof.Machine
end

