-- ==== Sys2Proof/Machine/StateService.lean ====
section
/-! DEFINITION. State of the parameter service, the modes and resets, the event recorder, the security functions and
the fabric (02, 03, 16, 17, 18). Each field's docstring gives its width, the rule that names it and its reset value. -/
namespace Sys2Proof.Machine

/-- A value of the object dictionary: a number, or the bytes of an OCTETS value (Table 2-3; a TIME96 value is held as
its 12 bytes). -/
inductive Val where
  | num (n : Int)
  | oct (b : List Nat)
deriving DecidableEq, Repr, Inhabited

/-- The run state of one function (Table 2-9). -/
structure FnState where
  /-- 3 bits; R57 (02); reset STOPPED -/
  run : Run := .stopped
  /-- U8 RUN_CHECK; R59, Table 2-11 (02); reset 0 -/
  check : Nat := 0
  /-- the start check of an accepted START is still due; R59 (02); reset no -/
  due : Bool := false
deriving DecidableEq, Repr, Inhabited

/-- The run states of the ten functions (Table 2-10). -/
structure Fns where
  /-- FORM; R57 (02); reset STOPPED, check 0 -/
  form : FnState := {}
  /-- ARM; R57 (02); reset STOPPED, check 0 -/
  arm : FnState := {}
  /-- SELECT; R57 (02); reset STOPPED, check 0 -/
  select : FnState := {}
  /-- TRUNK; R57 (02); reset STOPPED, check 0 -/
  trunk : FnState := {}
  /-- SENSE; R57 (02); reset STOPPED, check 0 -/
  sense : FnState := {}
  /-- FIELD; R57 (02); reset STOPPED, check 0 -/
  field : FnState := {}
  /-- SAFETY; R57 (02); reset STOPPED, check 0 -/
  safety : FnState := {}
  /-- TIME; R57 (02); reset STOPPED, check 0 -/
  time : FnState := {}
  /-- RECORD; R57 (02); reset STOPPED, check 0 -/
  record : FnState := {}
  /-- CLOCK; R57 (02); reset STOPPED, check 0 -/
  clock : FnState := {}
deriving DecidableEq, Repr, Inhabited

/-- The five select values of one bus master, session or client (Table 2-5). -/
structure Selects where
  /-- U8 0..255 CELL_SEL; R51, R53 (02); reset 0 -/
  cell : Nat := 0
  /-- U8 0..24 AIN_SEL; R51, R53 (02); reset 0 -/
  ain : Nat := 0
  /-- U8 0..31 FIO_SEL; R51, R53 (02); reset 0 -/
  fio : Nat := 0
  /-- U8 0..3 SO_SEL; R51, R53 (02); reset 0 -/
  so : Nat := 0
  /-- U8 0..3 PLL_SEL; R51, R53 (02); reset 0 -/
  pll : Nat := 0
deriving DecidableEq, Repr, Inhabited

/-- The header of one region (Tables 2-13 to 2-17); RUNSTATE is a view of Fns. -/
structure RegionHdr where
  /-- 9 bits ERROR [8:0]; Table 2-15 (02); reset 0 -/
  err : Nat := 0
  /-- U8 ERROR.FIRST; Table 2-15, R512 (02, 18); reset 0xFF -/
  first : Nat := 255
  /-- 16 bits FENCE.FENCED; Table 2-16, R512 (02, 18); reset 0 -/
  fenced : Nat := 0
deriving DecidableEq, Repr, Inhabited

/-- A WARN whose cause is still present (STATUS.WARN, R19, Table 2-14). -/
structure ActiveWarn where
  /-- region code; Table 2-12 (02) -/
  region : Nat
  /-- event code; R19 (00) -/
  code : Nat
  /-- which item of the code (cell, pin, input, trunk, port) -/
  key : Nat
deriving DecidableEq, Repr, Inhabited

/-- A TRIP whose cause is not removed by a restart yet (STATUS.TRIP, R19, R77 condition 3). -/
structure ActiveTrip where
  /-- region code; Table 2-12 (02) -/
  region : Nat
  /-- event code; R19 (00) -/
  code : Nat
  /-- the function it faulted; R60 (02) -/
  fn : Fn
deriving DecidableEq, Repr, Inhabited

/-! ### Recorder (16_event_recorder.md) -/

/-- One folio, before its bytes are laid out as Table 16-1. -/
structure Folio where
  /-- U64; R454 (16) -/
  seq : Nat
  /-- U16; Table 16-1 (16) -/
  code : Nat
  /-- 2 bits; Table 16-1 (16) -/
  cls : Cls
  /-- 4 bits; R547 (16) -/
  region : Nat
  /-- U16 time tag; Table 12-4 (12) -/
  tag : Nat
  /-- U16; Table 16-1 (16) -/
  device : Nat
  /-- U64 TAI seconds of TIME96 -/
  sec : Nat
  /-- U32 nanoseconds of TIME96 -/
  ns : Nat
  /-- U64 tick number; 0 while CTL is unpowered -/
  tick : Nat
  /-- U16, saturating; R455 (16) -/
  suppressed : Nat
  /-- up to 16 bytes; R453 (16) -/
  payload : List Nat
deriving DecidableEq, Repr, Inhabited

/-- A slot of the ring in the memory die. -/
inductive Slot where
  | empty
  | valid (f : Folio)
  | invalid
deriving DecidableEq, Repr, Inhabited

/-- A token bucket that is not known full (R455). -/
structure Bucket where
  /-- U16 event code; R455 (16) -/
  code : Nat
  /-- class of the bucket; R455 (16) -/
  cls : Cls
  /-- level in billionths of a token; R455 (16) -/
  level : Nat
  /-- time of the level, ns; R455 (16) -/
  at_ : Nat
deriving DecidableEq, Repr, Inhabited

/-- The recorder's state on the controller die and in the memory die. -/
structure RecState where
  /-- U64 highest SEQ accepted; R454, 0x7100:01 (16); reset 0 -/
  newest : Nat := 0
  /-- U64 highest SEQ written to the ring; R462 (16); reset 0 -/
  written : Nat := 0
  /-- 32 folios margin buffer, oldest first; R456 (16); reset empty -/
  margin : List Folio := []
  /-- events offered before the boot scan, without SEQ, oldest first; R458 (16); reset empty -/
  held : List Folio := []
  /-- boot scan complete; R458 (16); reset no -/
  scanned : Bool := false
  /-- ring being written, REC_STATE [0]; R456, R460 (16); reset no -/
  writing : Bool := false
  /-- MEM_FAIL, REC_STATE [1]; R459 (16); reset 0 -/
  memFail : Bool := false
  /-- U64 SEQ of the failure folio 0x8002; R459, R460 (16); reset 0 -/
  failSeq : Nat := 0
  /-- 0x8004 is due when the buffer has drained: number dropped; R460 (16); reset none -/
  restoring : Option Nat := none
  /-- U32 DROPPED 0x7100:05; R456 (16); reset 0 -/
  dropped : Nat := 0
  /-- folios dropped in the present episode; R456 (16); reset 0 -/
  dropEpisode : Nat := 0
  /-- L_DROPPED; Table 16-7 (16); reset 0 -/
  lDropped : Bool := false
  /-- U32 SUPPRESSED_N 0x7100:06; R455 (16); reset 0 -/
  suppressedN : Nat := 0
  /-- suppressed count per code; R455 (16); reset none -/
  suppressed : List (Nat × Nat) := []
  /-- token buckets not full; R455 (16); reset none (every bucket full) -/
  buckets : List Bucket := []
  /-- U64 clear floor in non-volatile memory; R464, 0x7100:07 (16); reset 0 -/
  floor : Nat := 0
  /-- copy of the clear folio stored with the floor; R464, R465 (16); reset none -/
  floorCopy : Option Folio := none
  /-- 65536 slots of the memory die, sparse, unlisted = empty; R457 (16); reset none listed -/
  ring : List (Nat × Slot) := []
  /-- U32 REC_NEWEST_HI latch; Table 16-7 (16); reset 0 -/
  newestHi : Nat := 0
  /-- U32 REC_OLDEST_HI latch; Table 16-7 (16); reset 0 -/
  oldestHi : Nat := 0
deriving DecidableEq, Repr, Inhabited

/-- A snapshot window of four folios (R462, R469). -/
structure Window where
  /-- U64; R462 (16); reset 0 -/
  first : Nat := 0
  /-- U32, saturating; R462 (16); reset 0 -/
  skipped : Nat := 0
  /-- 4 entries of 2 bits; R462, Table 16-7 (16); reset 2,2,2,2 (0xAA) -/
  status : List Nat := [2, 2, 2, 2]
  /-- 4 × 64 bytes REC_WIN; R469 (16); reset zeros -/
  folios : List (List Nat) := [[], [], [], []]
deriving DecidableEq, Repr, Inhabited

/-- The time registers latched for one master by a read of TIME_SEC_LO (R338). -/
structure TimeLatch where
  /-- U64; R338 (12); reset 0 -/
  sec : Nat := 0
  /-- U32; R338 (12); reset 0 -/
  ns : Nat := 0
  /-- U16; R338 (12); reset 0 -/
  frac : Nat := 0
  /-- U16 time tag; R338 (12); reset 0 -/
  tag : Nat := 0
deriving DecidableEq, Repr, Inhabited

/-- What the device holds for one bus master (R53, R469). -/
structure Master where
  /-- five select registers; R53 (02); reset 0 -/
  sel : Selects := {}
  /-- U64 REC_CURSOR; R461, R469 (16); reset 0 until the boot scan, then OLDEST -/
  cursor : Nat := 0
  /-- REC_WCTRL.ADVANCE; Table 16-7 (16); reset 1 -/
  advance : Bool := true
  /-- REC_WIN, REC_WIN_FIRST, REC_WIN_STAT; R469 (16); reset FIRST 0, STAT 0xAA, zeros -/
  win : Window := {}
  /-- 4 words REC_OFFER_DATA; Table 16-7 (16); reset 0 -/
  offerData : List Nat := [0, 0, 0, 0]
  /-- latched time registers; R338 (12); reset 0 -/
  time : TimeLatch := {}
  /-- U32 the value the master's last register read returned (the model's own view of the read port); reset 0 -/
  readData : Nat := 0
deriving DecidableEq, Repr, Inhabited

/-! ### Parameter service (02_parameters.md, 17_security.md) -/

/-- A request that passed the checks of R39 and waits for execution (R44). -/
structure Request where
  /-- source address, 128 bits; R37 (02) -/
  src : Nat
  /-- source port, U16; R37 (02) -/
  sport : Nat
  /-- the address of the device on which it arrived, 128 bits; R37 (02) -/
  dst : Nat
  /-- the station port it arrived on; R37 (02) -/
  port : Side
  /-- U8 CODE; Table 2-1 (02) -/
  code : Nat
  /-- U16 TRANSACTION; Table 2-1 (02) -/
  trans : Nat
  /-- U32 SESSION; Table 2-1 (02) -/
  session : Nat
  /-- U32 COUNTER; Table 2-1 (02) -/
  counter : Nat
  /-- payload bytes, 0 to 1408; R38 (02) -/
  payload : List Nat
  /-- the session's select values when the request was received; R55 (02) -/
  sel : Selects
  /-- the key of its session, none in session 0: the response carries a tag even where the session ends before it leaves;
  R38 (02) -/
  key : Option (List Nat)
deriving DecidableEq, Repr, Inhabited

/-- One entry of an accepted write: the object, its channel and its value (R50). -/
structure WEntry where
  /-- U16; R42 (02) -/
  index : Nat
  /-- U8; R42 (02) -/
  sub : Nat
  /-- the channel in force at the entry; R54 (02) -/
  chan : Nat
  /-- the value; R45 (02) -/
  val : Val
  /-- position in the entry list; R43 (02) -/
  pos : Nat
deriving DecidableEq, Repr, Inhabited

/-- What the request in execution waits for (R44). -/
inductive Waiting where
  /-- the boundary of R49, with the accepted entries -/
  | boundary (es : List WEntry)
  /-- the beginning of FORMING after an accepted MODE_REQUEST 3 (R80) -/
  | forming
  /-- the commit of CONFIG_COMMIT (R92) -/
  | commit
  /-- the clear folio of a recorder clear, by its SEQ (R464) -/
  | clear (seq : Nat)
deriving DecidableEq, Repr, Inhabited

/-- A request whose response is still owed. -/
structure Executing where
  /-- the request; R44 (02) -/
  req : Request
  /-- what it waits for; R44 (02) -/
  waits : Waiting
deriving DecidableEq, Repr, Inhabited

/-- A session other than 0 (R483 to R487). -/
structure Session where
  /-- U32, not 0; R485 (17) -/
  id : Nat
  /-- 1 to 3; R486 (17) -/
  level : Nat
  /-- U32 GEN of its credential; R484 (17) -/
  gen : Nat
  /-- 16 bytes HOLDER_ID; Table 17-8 (17) -/
  holder : List Nat
  /-- NOT_AFTER, TAI s; R486 (17) -/
  notAfter : Nat
  /-- expiry, TAI s; Tables 17-7 and 17-12 (17) -/
  expiry : Nat
  /-- time of OPEN, ns; R486 (17) -/
  opened : Nat
  /-- time of the last executed request, ns; R486 (17) -/
  last : Nat
  /-- 48-byte session key; R485 (17) -/
  key : List Nat
  /-- highest COUNTER executed; R40 (02); 0 at OPEN -/
  counter : Nat := 0
  /-- TRANSACTION of the last executed request; R40 (02) -/
  lastTrans : Nat := 0
  /-- the stored response; R40 (02) -/
  lastResp : List Nat := []
  /-- select values; R52 (02); 0 at OPEN -/
  sel : Selects := {}
  /-- cursor; R461 (16); OLDEST at OPEN -/
  cursor : Nat := 0
  /-- advance setting; R461, 0x7101:02 (16); 1 at OPEN -/
  advance : Bool := true
  /-- 0 to 6 ATTEST_STATE of the session; R482, 0x9010:02 (17); 0 at OPEN -/
  attState : Nat := 0
  /-- the attestation answer held, 2124 bytes or none; R482 (17) -/
  attAnswer : List Nat := []
deriving DecidableEq, Repr, Inhabited

/-- The state of session 0 for one of its clients (R52). -/
structure Client where
  /-- source address; R52 (02) -/
  src : Nat
  /-- source port; R52 (02) -/
  sport : Nat
  /-- time of its last request, ns; R52 (02) -/
  last : Nat
  /-- select values; R52 (02); 0 at its first request -/
  sel : Selects := {}
  /-- recorder cursor; R52, R461 (02, 16); OLDEST at its first request -/
  cursor : Nat := 0
  /-- advance setting; R461 (16); 1 -/
  advance : Bool := true
deriving DecidableEq, Repr, Inhabited

/-- A HELLO exchange held for an OPEN (R484). -/
structure Hello where
  /-- time of the exchange, ns; R484 (17) -/
  at_ : Nat
  /-- 32 bytes; Table 17-7 (17) -/
  clientNonce : List Nat
  /-- 96 bytes; Table 17-7 (17) -/
  clientKey : List Nat
  /-- 32 bytes; Table 17-7 (17) -/
  devNonce : List Nat
  /-- the name of the device's ephemeral key pair; R483 (17) -/
  secret : Nat
deriving DecidableEq, Repr, Inhabited

/-- The parameter service. -/
structure PsState where
  /-- at most 16 requests waiting, oldest first; R44 (02); reset empty -/
  queue : List Request := []
  /-- the request in execution whose response waits; R44 (02); reset none -/
  exec : Option Executing := none
  /-- at most 8 sessions; R484 (17); reset none -/
  sessions : List Session := []
  /-- at most 16 clients of session 0; R52 (02); reset none -/
  clients : List Client := []
  /-- at most 4 HELLO exchanges, oldest first; R484 (17); reset none -/
  hellos : List Hello := []
  /-- register writes accepted and waiting for the boundary of R49 (key, value); R49, R66 (02); reset none -/
  regStaged : List (Nat × Val) := []
  /-- the writes that waited for this boundary are in force and the rest of its work is still to come (the model's own; log
  entry 6); R49 (02); reset no -/
  opened : Bool := false
deriving DecidableEq, Repr, Inhabited

/-! ### Modes and reset (03_modes_and_startup.md) -/

/-- A pending entry into FORMING (R78). -/
structure FormPending where
  /-- a forming-period boundary has begun since it was accepted, so FORMING begins there; R50, R75 (02, 03); reset no -/
  ripe : Bool := false
deriving DecidableEq, Repr, Inhabited

/-- Modes, reset and boot. -/
structure ModeState where
  /-- 3 bits MODE; R70, 0x1200:01 (03); reset BOOT (0) -/
  mode : Mode := .boot
  /-- 3 bits SUBSTATE; R70, 0x1200:02 (03); reset 0 -/
  sub : Nat := 0
  /-- U8 MODE_CHECK; R76, 0x1200:04 (03); reset 0 -/
  check : Nat := 0
  /-- U64 seconds of MODE_SINCE; 0x1200:05 (03); reset 0 -/
  sinceSec : Nat := 0
  /-- U32 nanoseconds of MODE_SINCE; 0x1200:05 (03); reset 0 -/
  sinceNs : Nat := 0
  /-- 12 bits RESET_CAUSE, AON; Table 3-5 (03); reset POWER (0x0001) -/
  cause : Nat := 1
  /-- 4 bits STRAPS latched; R74, Table 3-6 (03); reset DESIGN CHOICE 0 (the pins decide; log entry 4) -/
  straps : Nat := 0
  /-- 4 bits strap pins now; R74 (03); reset DESIGN CHOICE 0 (log entry 4) -/
  strapPins : Nat := 0
  /-- U8 0..2 CONFIG_STATE; 0x1202:01, R92 (03); reset 0 -/
  config : Nat := 0
  /-- U8 1, 2, 4 µs tick length in force; R93 (03); reset 1 -/
  tickLen : Nat := 1
  /-- tick length waiting for the boundary; R93 (03); reset none -/
  tickPend : Option Nat := none
  /-- a FULL reset is in progress, from the power-on detector to the release; R72, R84 (03); reset no -/
  held : Bool := false
  /-- a change of the FORMING sub-state made at this tick's boundary, in force at the issue point unless the mode becomes BLOCKED
  in the same tick; R79 (03); reset none -/
  subDue : Option Nat := none
  /-- pending entry into FORMING; R78 (03); reset none -/
  pend : Option FormPending := none
  /-- comparator block latched at the framers; R27, R81 (01, 03); reset no -/
  blockCmp : Bool := false
  /-- fault-collector block latched at the framers; R27, R81 (01, 03); reset no -/
  blockCol : Bool := false
  /-- boot step reached, 0 to 9; R89, Table 3-13 (03); reset 0 -/
  bootStep : Nat := 0
  /-- BOOT halted; R90 (03); reset no -/
  halted : Bool := false
  /-- event code of the reset to be recorded after boot; Table 3-12 (03); reset 0x0010 -/
  bootEvent : Nat := 0x0010
  /-- a valid checkpoint stream seen in the listen window; R91 (03); reset no -/
  streamSeen : Bool := false
  /-- WARNs whose cause is present; R19 (00); reset none -/
  warns : List ActiveWarn := []
  /-- TRIPs not restarted; R19 (00); reset none -/
  trips : List ActiveTrip := []
  /-- time at which the duplex listen window of step 8 began, ns; R91 (03); reset 0 -/
  listenAt : Nat := 0
  /-- V_BOOT: time of the release of reset, ns; R89 (03); reset 0 -/
  released : Nat := 0
deriving DecidableEq, Repr, Inhabited

/-! ### Security (17_security.md) -/

/-- A signed image in a flash slot (R473), by its four parts. -/
structure Image where
  /-- 256 bytes; Table 17-2 (17) -/
  header : List Nat
  /-- payload bytes; R473 (17) -/
  payload : List Nat
  /-- 152 bytes; R472 (17) -/
  keyBlock : List Nat
  /-- 1868 bytes; R472 (17) -/
  sigBlock : List Nat
deriving DecidableEq, Repr, Inhabited

/-- An attestation in progress (R482). -/
structure Signing where
  /-- the requesting session; R482 (17) -/
  session : Nat
  /-- 32-byte nonce; R482 (17) -/
  nonce : List Nat
  /-- leaf q reserved for it; R480 (17) -/
  leaf : Nat
deriving DecidableEq, Repr, Inhabited

/-- A debug session (R490). -/
structure DebugSession where
  /-- 1 to 3; R490 (17) -/
  level : Nat
  /-- 16 bytes HOLDER_ID; R490 (17) -/
  holder : List Nat
  /-- NOT_AFTER, TAI s; R490 (17) -/
  notAfter : Nat
  /-- time of the last DBG_ACCESS, ns; R490 (17) -/
  last : Nat
deriving DecidableEq, Repr, Inhabited

/-- The JTAG instruction in force (Table 17-10). -/
inductive Jtag where
  | idcode | bypass | samplePreload | challenge | response | access | reset | extest | dbgEnd
deriving DecidableEq, Repr, Inhabited

/-- The security functions. -/
structure SecState where
  /-- secure firmware runs (a boot image was accepted); R476 (17); reset no -/
  fwRun : Bool := false
  /-- U8 BOOT_IMAGE; 0x9000:01 (17); reset 0 -/
  bootImage : Nat := 0
  /-- U16 SEC_SVN; 0x9000:02 (17); reset DESIGN CHOICE 0 (log entry 5) -/
  secSvn : Nat := 0
  /-- 48 bytes measurement of the secure firmware; R474, 0x9000:05 (17); reset DESIGN CHOICE zeros (log entry 5) -/
  secMeas : List Nat := List.replicate 48 0
  /-- U8 APP_SLOT; 0x9000:03 (17); reset 0xFF -/
  appSlot : Nat := 255
  /-- U16 SVN of the running application image; R478 (17); reset DESIGN CHOICE 0 (log entry 5) -/
  appSvn : Nat := 0
  /-- 48 bytes measurement of the application; R474 (17); reset zeros (none runs) -/
  appMeas : List Nat := List.replicate 48 0
  /-- 4 bits application cores held in reset; R476, R477, Table 18-5 (17, 18); reset all held -/
  coresHeld : Nat := 15
  /-- U16 FUSED_SVN, fuses; R478, 0x9000:04 (17); reset 0 -/
  fusedSvn : Nat := 0
  /-- U16 APP_MIN_SVN, non-volatile; R478, 0x9001:05 (17); reset 0 -/
  appMinSvn : Nat := 0
  /-- U32 CRED_MIN_GEN, non-volatile; 0x9001:03 (17); reset 0 -/
  credMinGen : Nat := 0
  /-- U32 s SESSION_IDLE, non-volatile; 0x9001:04 (17); reset 600 -/
  sessionIdle : Nat := 600
  /-- owner record, 256 bytes, non-volatile; R488 (17); reset none -/
  owner : Option (List Nat) := none
  /-- LMS counter copy A (q, valid), non-volatile; R480 (17); reset DESIGN CHOICE 0 valid (log entry 5) -/
  lmsA : Nat × Bool := (0, true)
  /-- LMS counter copy B (q, valid), non-volatile; R480 (17); reset DESIGN CHOICE 0 valid (log entry 5) -/
  lmsB : Nat × Bool := (0, true)
  /-- U8 0..16 tokens of the LMS bucket, non-volatile; R481, 0x9010:03 (17); reset DESIGN CHOICE 16 (log entry 5) -/
  tokens : Nat := 16
  /-- time of the last token gained, ns; R481 (17); reset 0 -/
  tokenAt : Nat := 0
  /-- 256 bytes colophon body, copy 1, non-volatile; R479 (17); reset DESIGN CHOICE zeros (log entry 5) -/
  colA : List Nat := List.replicate 256 0
  /-- 256 bytes colophon body, copy 2, non-volatile; R479 (17); reset DESIGN CHOICE zeros (log entry 5) -/
  colB : List Nat := List.replicate 256 0
  /-- 1868 bytes signature block of copy 1; R479 (17); reset DESIGN CHOICE zeros (log entry 5) -/
  colSigA : List Nat := List.replicate 1868 0
  /-- 1868 bytes signature block of copy 2; R479 (17); reset DESIGN CHOICE zeros (log entry 5) -/
  colSigB : List Nat := List.replicate 1868 0
  /-- 152 bytes Swinath root key block carried by the colophon check; R479 (17); reset DESIGN CHOICE zeros (log entry 5) -/
  rootKeys : List Nat := List.replicate 152 0
  /-- debug-lock fuse; R492, 0x9000:06 (17); reset 0 -/
  debugLock : Bool := false
  /-- 4 flash slots: boot, recovery, application A, application B; Table 17-4 (17); reset DESIGN CHOICE none (log entry 5) -/
  slots : List (Option Image) := [none, none, none, none]
  /-- the flash answers in 8D-8D-8D; R475 (17); reset DESIGN CHOICE yes (log entry 5) -/
  flashOk : Bool := true
  /-- attestation in progress; R482 (17); reset none -/
  signing : Option Signing := none
  /-- debug nonce not yet used; R490 (17); reset none -/
  dbgNonce : Option (List Nat) := none
  /-- the one debug session; R490 (17); reset none -/
  dbg : Option DebugSession := none
  /-- times of failed DBG_RESPONSE in the last 60 s, ns; R490 (17); reset none -/
  dbgFails : List Nat := []
  /-- time until which DBG_RESPONSE is refused, ns; R490 (17); reset none -/
  dbgLockout : Option Nat := none
  /-- U64 s last synchronized time, non-volatile; R487 (17); reset DESIGN CHOICE 0 (log entry 5) -/
  lastSync : Nat := 0
  /-- time the last synchronized time was stored, ns; R487 (17); reset 0 -/
  lastSyncAt : Nat := 0
  /-- JTAG instruction in force; R489 (17); reset DESIGN CHOICE IDCODE (log entry 5) -/
  jtag : Jtag := .idcode
  /-- bypass register, 1 bit; R489 (17); reset 0 -/
  bypassReg : Bool := false
  /-- boundary register; R489 (17); reset DESIGN CHOICE empty (log entry 5) -/
  boundary : List Bool := []
  /-- bits shifted out by the last JTAG scan (the model's own view of TDO); reset none -/
  tdo : List Nat := []
  /-- count of random values and ephemeral keys drawn (the model's own); reset 0 -/
  draws : Nat := 0
deriving DecidableEq, Repr, Inhabited

/-! ### Fabric (18_fabric.md) -/

/-- A hardware semaphore (R517). -/
structure Sem where
  /-- the master that holds it; Table 18-7 (18); reset none -/
  holder : Option Nat := none
  /-- time of its acquisition or last renewal, ns; R517 (18); reset 0 -/
  renewed : Nat := 0
deriving DecidableEq, Repr, Inhabited

/-- A message queue (R504). -/
structure MsgQ where
  /-- 3 bits PRODUCER; Table 18-7 (18); reset 0 -/
  producer : Nat := 0
  /-- 3 bits CONSUMER; Table 18-7 (18); reset 0 -/
  consumer : Nat := 0
  /-- ENABLE; Table 18-7 (18); reset 0 -/
  enable : Bool := false
  /-- FULL; R504 (18); reset 0 -/
  full : Bool := false
  /-- up to 32 words with their post times, oldest first; R504, R506 (18); reset empty -/
  entries : List (Nat × Nat) := []
deriving DecidableEq, Repr, Inhabited

/-- The four token buckets of one station port (Table 18-3): how much of each is used up (0 is a full bucket), in
billionths of its unit, with the drop count. -/
structure Policer where
  /-- used part of the parameter-service bucket; Table 18-3 (18); reset 0 (full) -/
  ps : Nat := 0
  /-- used part of the safety-layer bucket; Table 18-3 (18); reset 0 (full) -/
  sl : Nat := 0
  /-- used part of the PTP bucket; Table 18-3 (18); reset 0 (full) -/
  ptp : Nat := 0
  /-- used part of the other-frames bucket, bits; Table 18-3 (18); reset 0 (full) -/
  other : Nat := 0
  /-- time of the levels, ns (ps, sl, ptp, other); R503 (18); reset 0 -/
  at_ : List Nat := [0, 0, 0, 0]
  /-- U32 POLICE_DROPS; 0x1400+p:07 (18); reset 0 -/
  drops : Nat := 0
deriving DecidableEq, Repr, Inhabited

/-- A block under release self-test (R513). -/
structure SelfTest where
  /-- region code; R513 (18) -/
  region : Nat
  /-- block or core number; R513 (18) -/
  block : Nat
deriving DecidableEq, Repr, Inhabited

/-- The fabric. -/
structure FabState where
  /-- 16 semaphores; R517 (18); reset free -/
  sems : List Sem := List.replicate 16 {}
  /-- 16 message queues; R504 (18); reset empty, disabled -/
  queues : List MsgQ := List.replicate 16 {}
  /-- blocks under self-test; R513 (18); reset none -/
  tests : List SelfTest := []
  /-- blocks released, with the time of release, ns; R514 item 3 (18); reset none -/
  releases : List (SelfTest × Nat) := []
  /-- U32 PAR_RETRIES; 0xA000:02 (18); reset 0 -/
  parRetries : Nat := 0
  /-- U32 ECC_CORRECTED; 0xA000:03 (18); reset 0 -/
  eccCorrected : Nat := 0
  /-- U32 DISCARDED; 0xA000:04 (18); reset 0 -/
  discarded : Nat := 0
  /-- U8 ESCALATION; 0xA000:05 (18); reset 0 -/
  escalation : Nat := 0
  /-- policers of NET0 and NET1; R503 (18); reset full buckets, no drops -/
  policers : List Policer := [{}, {}]
  /-- PRP duplicate table, newest first, at most 2048: source address, sequence number, time, ns; R536 (19); reset
  empty -/
  dups : List (Nat × Nat × Nat) := []
  /-- PRP node table, at most 256: source address, time of its last frame, ns; R536 (19); reset empty -/
  nodes : List (Nat × Nat) := []
  /-- time of the last supervision frame sent, ns; R536 (19); reset none -/
  superAt : Option Nat := none
  /-- line of NET0 and of NET1 up at 1000 Mb/s, as last read over MDIO; R536 (19); reset DESIGN CHOICE up (log
  entry 5) -/
  netUp : List Bool := [true, true]
deriving DecidableEq, Repr, Inhabited

end Sys2Proof.Machine
end

