-- ==== Sys2Proof/Machine/State.lean ====
section
/-! DEFINITION. The whole state of the KG9256 as plain data, its reset value, and the two closed lists of stops. -/
namespace Sys2Proof.Machine

/-- Why a command faults. No command of this block ends so: every effect the manual gives is a next state. The type
is needed by the step's outcome. -/
inductive Fault where
  /-- No meaning raises it; it stands so that the type has a name for a part the device does not have. Safe. -/
  | noSuchPart (name : String)
deriving DecidableEq, Repr, Inhabited

/-- Why a command is refused by the model. -/
inductive Refusal where
  /-- A command whose meaning is not written yet, by its mnemonic; raised by the dispatch only. Safe. -/
  | notModelled (mnemonic : String)
deriving DecidableEq, Repr, Inhabited

/-- What leaves the device: one entry per datagram, frame or message sent, newest first (State.tx). -/
inductive Tx where
  /-- a parameter-service response: station port, the device's address that it leaves from, destination address and port,
  UDP payload (R37, R38) -/
  | service (port : Side) (from_ dst dport : Nat) (data : List Nat)
  /-- a downlink quire frame of trunk q, 176 bytes (R204, Table 8-1) -/
  | quire (q : Nat) (data : List Nat)
  /-- the quire frame in progress on trunk q ends with an invalid CRC-32 (R516) -/
  | cut (q : Nat)
  /-- a management frame of trunk q (R209, Table 8-7) -/
  | mgmt (q : Nat) (data : List Nat)
  /-- a spine message on the ports of a mask ([0] SPN_E, [1] SPN_W), header and payload (R241, Table 9-1) -/
  | spine (ports : Nat) (data : List Nat)
  /-- a duplex-link frame: type, sequence number, and its bytes after the comma, CRC-32 included (R424, Table 15-3) -/
  | dpx (type seq : Nat) (data : List Nat)
  /-- a safety frame of connection c, 24 bytes (R405) -/
  | safety (c : Nat) (data : List Nat)
  /-- a barrier frame to the field-side die: commands of the 32 pins, of the switches SOn_H and SOn_L (bits 2n and 2n + 1),
  CRC-32 (R358) -/
  | barrier (pins so crc : Nat)
  /-- a PTP message on a port: its tag (VLAN identifier and priority), domain, message type and fields (R339, R341) -/
  | ptp (port : Side) (tag : Option (Nat × Nat)) (domain type : Nat) (data : List Nat)
  /-- a PRP supervision frame on a station port (R536) -/
  | prp (port : Side) (data : List Nat)
  /-- a PMBus transaction to a regulator address (R420) -/
  | pmbus (addr : Nat) (data : List Nat)
deriving DecidableEq, Repr, Inhabited

/-- The stored configuration record in non-volatile memory (R92). -/
structure Stored where
  /-- the stored objects by key; R92 (03) -/
  objs : List (Nat × Val)
  /-- its check value is correct; R92 (03) -/
  ok : Bool
deriving DecidableEq, Repr, Inhabited

/-- The machine. -/
structure State where
  /-- commands waiting, first in, first out (the block's queue); reset empty -/
  pending : List Instr
  /-- ns since power-up, advanced by TICK (the model's time base; log entry 6); reset 0 -/
  now : Nat
  /-- U64 tick number; R29, R249 (01, 09); reset 0 -/
  tick : Nat
  /-- tick k of the forming period, 0 to F − 1; R30 (01); reset 0 -/
  k : Nat
  /-- the tick edge of the present tick has been taken by FORMING_PERIOD_BOUNDARY and its other points are still to
  come (the model's own; log entry 6); reset no -/
  edge : Bool
  /-- extension slots have run in this period (the model's own; log entry 6); reset no -/
  extDone : Bool
  /-- the reference set of this period has been sent (the model's own; log entry 6); reset no -/
  refsDone : Bool
  /-- the work of tick F − 1 has been done (the model's own; log entry 6); reset no -/
  lastDone : Bool
  /-- how many free values have been drawn (the model's own, log entry 2); reset DESIGN CHOICE 0 (log entry 2) -/
  freeCount : Nat
  /-- 9 bits device number, fixed for the device; R5 (00); reset DESIGN CHOICE 0 (log entry 5) -/
  device : Nat
  /-- 5 bits station number, fixed for the device; R5 (00); reset DESIGN CHOICE 0 (log entry 5) -/
  station : Nat
  /-- live values of the settable objects, sparse by key, an unlisted object holds its default; R45, R46 (02);
  reset none listed (every object at its default) -/
  objs : List (Nat × Val)
  /-- stored configuration record, non-volatile; R92 (03); reset none -/
  stored : Option Stored
  /-- time at which a commit in progress was accepted, ns; R92 (03); reset none -/
  commitAt : Option Nat
  /-- run states; R57 (02); reset STOPPED -/
  fns : Fns
  /-- headers of regions 0 to 8; R62 (02); reset as their fields -/
  hdrs : List RegionHdr
  /-- 7 bus masters; R53, Table 18-1 (02, 18); reset as their fields -/
  masters : List Master
  /-- parameter service; R37 (02); reset as its fields -/
  ps : PsState
  /-- modes, resets, boot; R69 (03); reset as its fields -/
  mode : ModeState
  /-- recorder; R447 (16); reset as its fields -/
  recd : RecState
  /-- security; R470 (17); reset as its fields -/
  sec : SecState
  /-- fabric; R494 (18); reset as its fields -/
  fab : FabState
  /-- feeds and domains; R418 (15); reset as its fields -/
  pwr : PwrState
  /-- duplex operation; R424 (15); reset as its fields -/
  dpx : DpxState
  /-- forming law; R97 (04); reset as its fields -/
  form : FormState
  /-- arm law; R153 (06); reset as its fields -/
  arm : ArmState
  /-- spine; R237 (09); reset as its fields -/
  spn : SpnState
  /-- cells, selector, trunks; R176, R200 (07, 08); reset as its fields -/
  cell : CellState
  /-- Sense region; R278 (10); reset as its fields -/
  sense : SenseState
  /-- clocks; R310 (11); reset as its fields -/
  clk : ClkState
  /-- network time; R336 (12); reset as its fields -/
  time : TimeState
  /-- field group; R357 (13); reset as its fields -/
  field : FieldState
  /-- safety functions; R384 (14); reset as its fields -/
  safe : SafeState
  /-- what has left the device, newest first (the model's own record of its outputs); reset none -/
  tx : List Tx
deriving DecidableEq, Repr, Inhabited

/-- The machine right after power-on: every field at the value its docstring names. -/
def State.reset : State :=
  { pending := [], now := 0, tick := 0, k := 0, edge := false, extDone := false, refsDone := false,
    lastDone := false, freeCount := 0, device := 0, station := 0, objs := [], stored := none, commitAt := none,
    fns := {}, hdrs := List.replicate 9 {}, masters := List.replicate 7 {}, ps := {}, mode := {}, recd := {},
    sec := {}, fab := {}, pwr := {}, dpx := {}, form := {}, arm := {}, spn := {}, cell := {}, sense := {},
    clk := {}, time := {}, field := {}, safe := {}, tx := [] }

end Sys2Proof.Machine
end

