-- ==== Sys2Proof/Machine/Dictionary.lean ====
section
/-! DEFINITION. The object dictionary: one row per object of the tables of 02 to 18, with its type, access class, range,
default, owning function, levels, and whether R49 stages it and CONFIG_COMMIT stores it (R45 to R49, R92). The rows
are written from the object tables of the chapters, in their order; a row with a count is one row per instance. -/
namespace Sys2Proof.Machine

/-- The object types of Table 2-3. -/
inductive Ty where
  | u8 | u16 | u32 | u64 | i16 | i32 | pu32 | turn32 | time96 | octets
deriving DecidableEq, Repr

/-- The access classes of Table 2-4. -/
inductive Acc where
  | ro | rw | rwStop | rwPriv | wo
deriving DecidableEq, Repr

/-- One object, or one object per instance. -/
structure ObjRow where
  /-- index of instance 0 -/
  base : Nat
  /-- number of instances, at consecutive indices -/
  cnt : Nat
  /-- subindex -/
  sub : Nat
  /-- type -/
  ty : Ty
  /-- access class -/
  acc : Acc
  /-- admitted values: low, high, step; for OCTETS the admitted lengths; none listed admits every value of the type -/
  rng : List (Int × Int × Int)
  /-- default -/
  dflt : Val
  /-- owning function, subindex of Table 2-10; 0 none -/
  fn : Nat
  /-- write level -/
  wl : Nat
  /-- read level -/
  rl : Nat
  /-- a write takes effect at the boundary of R49 -/
  staged : Bool
  /-- stored by CONFIG_COMMIT -/
  stored : Bool
deriving DecidableEq, Repr

/-- Objects of chapter 02, part 1. -/
def dict00 : List ObjRow := [
  ⟨0x1100, 1, 0x01, .u8, .ro, [(0, 4, 1)], (.num 0), 0, 2, 0, false, false⟩, -- RUN_STATE_FORM
  ⟨0x1100, 1, 0x02, .u8, .ro, [(0, 4, 1)], (.num 0), 0, 2, 0, false, false⟩, -- RUN_STATE_ARM
  ⟨0x1100, 1, 0x03, .u8, .ro, [(0, 4, 1)], (.num 0), 0, 2, 0, false, false⟩, -- RUN_STATE_SELECT
  ⟨0x1100, 1, 0x04, .u8, .ro, [(0, 4, 1)], (.num 0), 0, 2, 0, false, false⟩, -- RUN_STATE_TRUNK
  ⟨0x1100, 1, 0x05, .u8, .ro, [(0, 4, 1)], (.num 0), 0, 2, 0, false, false⟩, -- RUN_STATE_SENSE
  ⟨0x1100, 1, 0x06, .u8, .ro, [(0, 4, 1)], (.num 0), 0, 2, 0, false, false⟩, -- RUN_STATE_FIELD
  ⟨0x1100, 1, 0x07, .u8, .ro, [(0, 4, 1)], (.num 0), 0, 2, 0, false, false⟩, -- RUN_STATE_SAFETY
  ⟨0x1100, 1, 0x08, .u8, .ro, [(0, 4, 1)], (.num 0), 0, 2, 0, false, false⟩, -- RUN_STATE_TIME
  ⟨0x1100, 1, 0x09, .u8, .ro, [(0, 4, 1)], (.num 0), 0, 2, 0, false, false⟩, -- RUN_STATE_RECORD
  ⟨0x1100, 1, 0x0A, .u8, .ro, [(0, 4, 1)], (.num 0), 0, 2, 0, false, false⟩, -- RUN_STATE_CLOCK
  ⟨0x1101, 1, 0x01, .u8, .wo, [(1, 2, 1)], (.num 0), 0, 2, 0, false, false⟩, -- RUN_COMMAND_FORM
  ⟨0x1101, 1, 0x02, .u8, .wo, [(1, 2, 1)], (.num 0), 0, 2, 0, false, false⟩, -- RUN_COMMAND_ARM
  ⟨0x1101, 1, 0x03, .u8, .wo, [(1, 2, 1)], (.num 0), 0, 2, 0, false, false⟩, -- RUN_COMMAND_SELECT
  ⟨0x1101, 1, 0x04, .u8, .wo, [(1, 2, 1)], (.num 0), 0, 2, 0, false, false⟩, -- RUN_COMMAND_TRUNK
  ⟨0x1101, 1, 0x05, .u8, .wo, [(1, 2, 1)], (.num 0), 0, 2, 0, false, false⟩, -- RUN_COMMAND_SENSE
  ⟨0x1101, 1, 0x06, .u8, .wo, [(1, 2, 1)], (.num 0), 0, 2, 0, false, false⟩, -- RUN_COMMAND_FIELD
  ⟨0x1101, 1, 0x07, .u8, .wo, [(1, 2, 1)], (.num 0), 0, 3, 0, false, false⟩, -- RUN_COMMAND_SAFETY
  ⟨0x1101, 1, 0x08, .u8, .wo, [(1, 2, 1)], (.num 0), 0, 2, 0, false, false⟩, -- RUN_COMMAND_TIME
  ⟨0x1101, 1, 0x09, .u8, .wo, [(1, 2, 1)], (.num 0), 0, 3, 0, false, false⟩, -- RUN_COMMAND_RECORD
  ⟨0x1101, 1, 0x0A, .u8, .wo, [(1, 2, 1)], (.num 0), 0, 3, 0, false, false⟩, -- RUN_COMMAND_CLOCK
  ⟨0x1102, 1, 0x01, .u8, .ro, [(0, 255, 1)], (.num 0), 0, 2, 0, false, false⟩, -- RUN_CHECK_FORM
  ⟨0x1102, 1, 0x02, .u8, .ro, [(0, 255, 1)], (.num 0), 0, 2, 0, false, false⟩, -- RUN_CHECK_ARM
  ⟨0x1102, 1, 0x03, .u8, .ro, [(0, 255, 1)], (.num 0), 0, 2, 0, false, false⟩, -- RUN_CHECK_SELECT
  ⟨0x1102, 1, 0x04, .u8, .ro, [(0, 255, 1)], (.num 0), 0, 2, 0, false, false⟩, -- RUN_CHECK_TRUNK
  ⟨0x1102, 1, 0x05, .u8, .ro, [(0, 255, 1)], (.num 0), 0, 2, 0, false, false⟩, -- RUN_CHECK_SENSE
  ⟨0x1102, 1, 0x06, .u8, .ro, [(0, 255, 1)], (.num 0), 0, 2, 0, false, false⟩, -- RUN_CHECK_FIELD
  ⟨0x1102, 1, 0x07, .u8, .ro, [(0, 255, 1)], (.num 0), 0, 2, 0, false, false⟩, -- RUN_CHECK_SAFETY
  ⟨0x1102, 1, 0x08, .u8, .ro, [(0, 255, 1)], (.num 0), 0, 2, 0, false, false⟩, -- RUN_CHECK_TIME
  ⟨0x1102, 1, 0x09, .u8, .ro, [(0, 255, 1)], (.num 0), 0, 2, 0, false, false⟩, -- RUN_CHECK_RECORD
  ⟨0x1102, 1, 0x0A, .u8, .ro, [(0, 255, 1)], (.num 0), 0, 2, 0, false, false⟩] -- RUN_CHECK_CLOCK

/-- Objects of chapter 02, part 2. -/
def dict01 : List ObjRow := [
  ⟨0x3000, 1, 0x00, .u8, .rw, [(0, 255, 1)], (.num 0), 0, 0, 0, false, false⟩, -- CELL_SELECT
  ⟨0x4000, 1, 0x00, .u8, .rw, [(0, 24, 1)], (.num 0), 0, 0, 0, false, false⟩, -- AIN_SELECT
  ⟨0x5000, 1, 0x00, .u8, .rw, [(0, 31, 1)], (.num 0), 0, 0, 0, false, false⟩, -- FIO_SELECT
  ⟨0x6000, 1, 0x00, .u8, .rw, [(0, 3, 1)], (.num 0), 0, 0, 0, false, false⟩, -- SO_SELECT
  ⟨0x8000, 1, 0x00, .u8, .rw, [(0, 3, 1)], (.num 0), 0, 0, 0, false, false⟩] -- PLL_SELECT

/-- Objects of chapter 03, part 1. -/
def dict02 : List ObjRow := [
  ⟨0x1200, 1, 0x01, .u8, .ro, [(0, 5, 1)], (.num 0), 0, 2, 0, false, false⟩, -- MODE
  ⟨0x1200, 1, 0x02, .u8, .ro, [(0, 4, 1)], (.num 0), 0, 2, 0, false, false⟩, -- SUBSTATE
  ⟨0x1200, 1, 0x03, .u8, .wo, [(1, 3, 1)], (.num 0), 0, 2, 0, false, false⟩, -- MODE_REQUEST
  ⟨0x1200, 1, 0x04, .u8, .ro, [(0, 11, 1)], (.num 0), 0, 2, 0, false, false⟩, -- MODE_CHECK
  ⟨0x1200, 1, 0x05, .time96, .ro, [], (.oct (List.replicate 12 0)), 0, 2, 0, false, false⟩, -- MODE_SINCE
  ⟨0x1201, 1, 0x01, .u16, .ro, [], (.num 0), 0, 2, 0, false, false⟩, -- RESET_CAUSE
  ⟨0x1201, 1, 0x02, .u16, .wo, [(2561, 2561, 1), (2562, 2562, 1)], (.num 0), 0, 2, 0, false, false⟩, -- RESET_COMMAND
  ⟨0x1201, 1, 0x03, .u8, .ro, [], (.num 0), 0, 2, 0, false, false⟩, -- STRAPS
  ⟨0x1202, 1, 0x01, .u8, .ro, [(0, 2, 1)], (.num 0), 0, 2, 0, false, false⟩, -- CONFIG_STATE
  ⟨0x1202, 1, 0x02, .u8, .wo, [(1, 1, 1)], (.num 0), 0, 3, 0, false, false⟩, -- CONFIG_COMMIT
  ⟨0x1203, 1, 0x01, .u8, .rw, [(1, 1, 1), (2, 2, 1), (4, 4, 1)], (.num 1), 0, 2, 0, true, true⟩] -- TICK_LENGTH

/-- Objects of chapter 04, part 1. -/
def dict03 : List ObjRow := [
  ⟨0x2000, 1, 0x01, .u8, .rwStop, [(50, 50, 1), (60, 60, 1)], (.num 50), 1, 2, 0, false, true⟩, -- F_NOM
  ⟨0x2000, 1, 0x02, .u8, .rwStop, [(5, 100, 1)], (.num 10), 1, 2, 0, false, true⟩, -- FORM_PERIOD
  ⟨0x2000, 1, 0x03, .u32, .rwStop, [(0, 0, 1), (1000, 2000000, 1)], (.num 0), 1, 2, 0, false, true⟩, -- V_BASE
  ⟨0x2000, 1, 0x04, .u32, .rwStop, [(0, 0, 1), (10, 100000, 1)], (.num 0), 1, 2, 0, false, true⟩, -- I_BASE
  ⟨0x2002, 1, 0x01, .pu32, .rw, [((-20132659), 20132659, 1)], (.num 0), 1, 1, 0, false, true⟩, -- P_SET
  ⟨0x2002, 1, 0x02, .pu32, .rw, [((-16777216), 16777216, 1)], (.num 0), 1, 1, 0, false, true⟩, -- Q_SET
  ⟨0x2002, 1, 0x03, .pu32, .rw, [(13421773, 20132659, 1)], (.num 16777216), 1, 1, 0, false, true⟩, -- V_SET0
  ⟨0x2002, 1, 0x04, .pu32, .rw, [(15938355, 17616077, 1)], (.num 16777216), 1, 1, 0, false, true⟩, -- W_SET
  ⟨0x2003, 1, 0x01, .u32, .rw, [(125000, 20000000, 1)], (.num 5000000), 1, 2, 0, true, true⟩, -- H
  ⟨0x2003, 1, 0x02, .u32, .rwStop, [(20, 40000000, 1)], (.num 1000000), 1, 2, 0, false, true⟩, -- T_D
  ⟨0x2003, 1, 0x03, .u32, .rwStop, [(10, 1000000, 1)], (.num 1000), 1, 2, 0, false, true⟩, -- T_PQ
  ⟨0x2003, 1, 0x04, .u32, .rwStop, [(10, 1000000, 1)], (.num 1000), 1, 2, 0, false, true⟩, -- T_V
  ⟨0x2003, 1, 0x05, .u32, .rwStop, [(10, 1000000, 1)], (.num 20000), 1, 2, 0, false, true⟩, -- T_G
  ⟨0x2003, 1, 0x06, .u32, .rwStop, [(10, 1000000, 1)], (.num 1000), 1, 2, 0, false, true⟩, -- T_DC
  ⟨0x2003, 1, 0x07, .pu32, .rw, [(0, 167772160, 1)], (.num 8388608), 1, 2, 0, true, true⟩, -- K_PV
  ⟨0x2003, 1, 0x08, .pu32, .rw, [(0, 1677721600, 1)], (.num 335544320), 1, 2, 0, true, true⟩, -- K_IV
  ⟨0x2003, 1, 0x09, .pu32, .rw, [(167772, 3355443, 1)], (.num 1677722), 1, 2, 0, true, true⟩, -- W_TRIP
  ⟨0x2001, 1, 0x01, .u8, .rwStop, [(0, 15, 1), (255, 255, 1)], (.num 255), 1, 2, 0, false, true⟩, -- PCC_CH_A
  ⟨0x2001, 1, 0x02, .u8, .rwStop, [(0, 15, 1), (255, 255, 1)], (.num 255), 1, 2, 0, false, true⟩, -- PCC_CH_B
  ⟨0x2001, 1, 0x03, .u8, .rwStop, [(0, 15, 1), (255, 255, 1)], (.num 255), 1, 2, 0, false, true⟩, -- PCC_CH_C
  ⟨0x2001, 1, 0x04, .u8, .rwStop, [(0, 15, 1), (255, 255, 1)], (.num 255), 1, 2, 0, false, true⟩, -- LINE_CH_A
  ⟨0x2001, 1, 0x05, .u8, .rwStop, [(0, 15, 1), (255, 255, 1)], (.num 255), 1, 2, 0, false, true⟩, -- LINE_CH_B
  ⟨0x2001, 1, 0x06, .u8, .rwStop, [(0, 15, 1), (255, 255, 1)], (.num 255), 1, 2, 0, false, true⟩, -- LINE_CH_C
  ⟨0x2001, 1, 0x07, .u8, .rwStop, [(0, 15, 1), (255, 255, 1)], (.num 255), 1, 2, 0, false, true⟩, -- DC_CH_P
  ⟨0x2001, 1, 0x08, .u8, .rwStop, [(0, 15, 1), (255, 255, 1)], (.num 255), 1, 2, 0, false, true⟩, -- DC_CH_N
  ⟨0x2001, 1, 0x09, .pu32, .rwStop, [(8388608, 268435456, 1)], (.num 16777216), 1, 2, 0, false, true⟩, -- V_SCALE
  ⟨0x2001, 1, 0x0A, .pu32, .rwStop, [(8388608, 268435456, 1)], (.num 16777216), 1, 2, 0, false, true⟩, -- DC_SCALE
  ⟨0x2001, 1, 0x0C, .u8, .rwStop, [(0, 31, 1), (255, 255, 1)], (.num 255), 1, 2, 0, false, true⟩, -- BRK_PIN
  ⟨0x2001, 1, 0x0D, .u8, .rwStop, [(0, 31, 1), (255, 255, 1)], (.num 255), 1, 2, 0, false, true⟩, -- CLOSE_PIN
  ⟨0x2001, 1, 0x0E, .u16, .rwStop, [(0, 511, 1)], (.num 0), 1, 2, 0, false, true⟩] -- PCC_PUB

/-- Objects of chapter 04, part 2. -/
def dict04 : List ObjRow := [
  ⟨0x2001, 1, 0x0F, .u16, .rwStop, [(0, 511, 1)], (.num 0), 1, 2, 0, false, true⟩, -- PCC_PUB_ALT
  ⟨0x2001, 1, 0x10, .u16, .rwStop, [(0, 511, 1)], (.num 0), 1, 2, 0, false, true⟩, -- LINE_PUB
  ⟨0x2001, 1, 0x11, .u16, .rwStop, [(0, 511, 1)], (.num 0), 1, 2, 0, false, true⟩, -- LINE_PUB_ALT
  ⟨0x2001, 1, 0x12, .u16, .rwStop, [(0, 511, 1)], (.num 0), 1, 2, 0, false, true⟩, -- DC_PUB
  ⟨0x2001, 1, 0x13, .u16, .rwStop, [(0, 511, 1)], (.num 0), 1, 2, 0, false, true⟩, -- DC_PUB_ALT
  ⟨0x2001, 1, 0x14, .turn32, .rwStop, [], (.num 0), 1, 2, 0, false, true⟩, -- PCC_SHIFT
  ⟨0x2005, 1, 0x01, .u8, .rw, [(0, 0, 1), (1, 1, 1)], (.num 0), 1, 2, 0, true, true⟩, -- BS_ENABLE
  ⟨0x2005, 1, 0x02, .u8, .rw, [(0, 0, 1), (1, 1, 1)], (.num 0), 1, 2, 0, true, true⟩, -- BS_DEADCLOSE
  ⟨0x2005, 1, 0x03, .u32, .rwStop, [(100000, 60000000, 1)], (.num 2000000), 1, 2, 0, false, true⟩, -- BS_RAMP
  ⟨0x2005, 1, 0x04, .pu32, .rwStop, [(0, 8388608, 1)], (.num 0), 1, 2, 0, false, true⟩, -- BS_V0
  ⟨0x2005, 1, 0x05, .u32, .rwStop, [(1000, 10000000, 1)], (.num 1000000), 1, 2, 0, false, true⟩, -- BS_STALL
  ⟨0x2005, 1, 0x06, .pu32, .rwStop, [(335544, 8388608, 1)], (.num 1677722), 1, 2, 0, false, true⟩, -- V_DEAD
  ⟨0x2005, 1, 0x07, .pu32, .rwStop, [(8388608, 15938355, 1)], (.num 13421773), 1, 2, 0, false, true⟩, -- V_LIVE
  ⟨0x2006, 1, 0x01, .pu32, .rw, [(1677722, 335544320, 1)], (.num 33554432), 1, 2, 0, true, true⟩, -- K_SYNC
  ⟨0x2006, 1, 0x02, .pu32, .rw, [(167772, 3355443, 1)], (.num 838861), 1, 2, 0, true, true⟩, -- SYNC_DV
  ⟨0x2006, 1, 0x03, .pu32, .rw, [(3355, 167772, 1)], (.num 33554), 1, 2, 0, true, true⟩, -- SYNC_DF
  ⟨0x2006, 1, 0x04, .turn32, .rw, [(0, 357913941, 1)], (.num 119304647), 1, 2, 0, true, true⟩, -- SYNC_DTH
  ⟨0x2006, 1, 0x05, .u32, .rw, [(0, 500000, 1)], (.num 60000), 1, 2, 0, true, true⟩, -- SYNC_TCLOSE
  ⟨0x2006, 1, 0x06, .u32, .rw, [(0, 1000000, 1)], (.num 20000), 1, 2, 0, true, true⟩, -- SYNC_DWELL
  ⟨0x2006, 1, 0x07, .u32, .rw, [(50000, 2000000, 1)], (.num 200000), 1, 2, 0, true, true⟩, -- SYNC_PULSE
  ⟨0x2006, 1, 0x08, .u32, .rw, [(50000, 5000000, 1)], (.num 500000), 1, 2, 0, true, true⟩, -- SYNC_FB_TIMEOUT
  ⟨0x2006, 1, 0x09, .u32, .rw, [(1000000, 600000000, 1)], (.num 60000000), 1, 2, 0, true, true⟩, -- SYNC_TIMEOUT
  ⟨0x2006, 1, 0x0A, .u8, .rw, [(0, 5, 1)], (.num 2), 1, 2, 0, true, true⟩, -- SYNC_RETRY
  ⟨0x2007, 1, 0x01, .pu32, .rw, [(8388608, 15938355, 1)], (.num 14260634), 1, 2, 0, true, true⟩, -- RIDE_V_LO
  ⟨0x2007, 1, 0x02, .pu32, .rw, [(17616077, 25165824, 1)], (.num 20132659), 1, 2, 0, true, true⟩, -- RIDE_V_HI
  ⟨0x2007, 1, 0x03, .u8, .rw, [(1, 8, 1)], (.num 2), 1, 2, 0, true, true⟩, -- RIDE_N_IN
  ⟨0x2007, 1, 0x04, .pu32, .rw, [(9227469, 16441672, 1)], (.num 15099494), 1, 2, 0, true, true⟩, -- RIDE_V_OUT
  ⟨0x2007, 1, 0x05, .pu32, .rw, [(17112760, 24326963, 1)], (.num 19293798), 1, 2, 0, true, true⟩, -- RIDE_V_OUT_HI
  ⟨0x2007, 1, 0x06, .u32, .rw, [(0, 1000000, 1)], (.num 20000), 1, 2, 0, true, true⟩, -- RIDE_T_CLEAR
  ⟨0x2007, 1, 0x07, .u32, .rw, [(0, 1000000, 1)], (.num 50000), 1, 2, 0, true, true⟩] -- T_REC

/-- Objects of chapter 04, part 3. -/
def dict05 : List ObjRow := [
  ⟨0x2007, 1, 0x08, .u32, .rw, [(100000, 10000000, 1)], (.num 3000000), 1, 2, 0, true, true⟩, -- RIDE_T_MAX
  ⟨0x2007, 1, 0x09, .pu32, .rw, [(0, 16777216, 1)], (.num 335544), 1, 2, 0, true, true⟩, -- R_V_RIDE
  ⟨0x2007, 1, 0x0A, .pu32, .rw, [(838861, 16777216, 1)], (.num 5033165), 1, 2, 0, true, true⟩, -- X_V_RIDE
  ⟨0x2007, 1, 0x0B, .pu32, .rw, [(0, 8388608000, 1)], (.num 1677721600), 1, 2, 0, true, true⟩, -- D_RIDE
  ⟨0x2004, 1, 0x01, .u8, .ro, [(0, 7, 1)], (.num 0), 1, 2, 0, false, false⟩, -- REGION
  ⟨0x2004, 1, 0x02, .pu32, .ro, [], (.num 0), 1, 2, 0, false, false⟩, -- D
  ⟨0x2004, 1, 0x03, .pu32, .ro, [], (.num 0), 1, 2, 0, false, false⟩, -- K_P
  ⟨0x2004, 1, 0x04, .pu32, .ro, [], (.num 0), 1, 2, 0, false, false⟩, -- K_Q
  ⟨0x2004, 1, 0x05, .pu32, .ro, [], (.num 0), 1, 2, 0, false, false⟩, -- R_V
  ⟨0x2004, 1, 0x06, .pu32, .ro, [], (.num 0), 1, 2, 0, false, false⟩, -- X_V
  ⟨0x2008, 1, 0x01, .u8, .ro, [(0, 3, 1)], (.num 0), 1, 2, 0, false, false⟩, -- PHASE
  ⟨0x2008, 1, 0x02, .pu32, .ro, [], (.num 0), 1, 2, 0, false, false⟩, -- OMEGA
  ⟨0x2008, 1, 0x03, .turn32, .ro, [], (.num 0), 1, 2, 0, false, false⟩, -- THETA
  ⟨0x2008, 1, 0x04, .pu32, .ro, [], (.num 0), 1, 2, 0, false, false⟩, -- PF
  ⟨0x2008, 1, 0x05, .pu32, .ro, [], (.num 0), 1, 2, 0, false, false⟩, -- QF
  ⟨0x2008, 1, 0x06, .pu32, .ro, [], (.num 0), 1, 2, 0, false, false⟩, -- VF
  ⟨0x2008, 1, 0x07, .pu32, .ro, [], (.num 0), 1, 2, 0, false, false⟩, -- VGF
  ⟨0x2008, 1, 0x08, .pu32, .ro, [], (.num 0), 1, 2, 0, false, false⟩, -- OMEGA_G
  ⟨0x2008, 1, 0x09, .pu32, .ro, [], (.num 0), 1, 2, 0, false, false⟩, -- E_SEL
  ⟨0x2008, 1, 0x0A, .pu32, .ro, [], (.num 0), 1, 2, 0, false, false⟩, -- SYNC_DV_M
  ⟨0x2008, 1, 0x0B, .pu32, .ro, [], (.num 0), 1, 2, 0, false, false⟩, -- SYNC_DW_M
  ⟨0x2008, 1, 0x0C, .i32, .ro, [], (.num 0), 1, 2, 0, false, false⟩, -- SYNC_DTH_M
  ⟨0x2008, 1, 0x0D, .u8, .ro, [(0, 0, 1), (1, 1, 1)], (.num 0), 1, 2, 0, false, false⟩, -- VALID
  ⟨0x2008, 1, 0x0E, .u8, .ro, [], (.num 0), 1, 2, 0, false, false⟩, -- SOURCES
  ⟨0x2008, 1, 0x10, .octets, .ro, [(55, 55, 1)], (.oct (List.replicate 55 0)), 1, 2, 0, false, false⟩] -- SNAPSHOT

/-- Objects of chapter 05, part 1. -/
def dict06 : List ObjRow := [
  ⟨0x2010, 1, 0x01, .u8, .rwStop, [(0, 15, 1)], (.num 15), 1, 2, 0, false, true⟩, -- P_ENABLE
  ⟨0x2010, 1, 0x02, .pu32, .rw, [(8388608, 33554432, 1)], (.num 18454938), 1, 2, 0, true, true⟩, -- U_DC_LO
  ⟨0x2010, 1, 0x03, .pu32, .rw, [(8388608, 33554432, 1)], (.num 23488102), 1, 2, 0, true, true⟩, -- U_DC_HI
  ⟨0x2010, 1, 0x04, .pu32, .rw, [(8388608, 16777216, 1)], (.num 14260634), 1, 2, 0, true, true⟩, -- W_ARM_LO
  ⟨0x2010, 1, 0x05, .pu32, .rw, [(16777216, 25165824, 1)], (.num 19293798), 1, 2, 0, true, true⟩, -- W_ARM_HI
  ⟨0x2010, 1, 0x06, .pu32, .rw, [(1677722, 33554432, 1)], (.num 16777216), 1, 2, 0, true, true⟩, -- I_MAX_P
  ⟨0x2010, 1, 0x07, .pu32, .rw, [(1677722, 33554432, 1)], (.num 18454938), 1, 2, 0, true, true⟩, -- I_MAX_E
  ⟨0x2010, 1, 0x08, .pu32, .rw, [(13421773, 16760439, 1)], (.num 16106127), 1, 2, 0, true, true⟩, -- W_BAND_LO
  ⟨0x2010, 1, 0x09, .pu32, .rw, [(16793993, 20132659, 1)], (.num 17448305), 1, 2, 0, true, true⟩, -- W_BAND_HI
  ⟨0x2010, 1, 0x0A, .pu32, .rw, [(16777216, 25165824, 1)], (.num 19293798), 1, 2, 0, true, true⟩, -- V_OV
  ⟨0x2010, 1, 0x0B, .pu32, .rw, [(1677722, 33554432, 1)], (.num 16777216), 1, 2, 0, true, true⟩, -- S_QMAX
  ⟨0x2010, 1, 0x0C, .pu32, .rw, [(0, 16777216, 1)], (.num 0), 1, 2, 0, true, true⟩, -- E_MIN
  ⟨0x2010, 1, 0x0D, .pu32, .rw, [(16777216, 33554432, 1)], (.num 25165824), 1, 2, 0, true, true⟩, -- E_MAX
  ⟨0x2010, 1, 0x0E, .pu32, .rw, [(1677722, 33554432, 1)], (.num 25165824), 1, 2, 0, true, true⟩, -- P_ABS
  ⟨0x2010, 1, 0x0F, .u32, .rwStop, [(20, 1000000, 1)], (.num 10000), 1, 2, 0, false, true⟩, -- T_BUMP
  ⟨0x2010, 1, 0x10, .pu32, .rwStop, [(33554, 1677722, 1)], (.num 167772), 1, 2, 0, false, true⟩, -- H_V
  ⟨0x2010, 1, 0x11, .pu32, .rwStop, [(33554, 1677722, 1)], (.num 335544), 1, 2, 0, false, true⟩, -- H_L
  ⟨0x2010, 1, 0x12, .u32, .rwStop, [(0, 10000000, 1)], (.num 20000), 1, 2, 0, false, true⟩, -- T_DWELL
  ⟨0x2013, 1, 0x01, .pu32, .rw, [(0, 1677721600, 1)], (.num 83886080), 1, 2, 0, true, true⟩, -- KP_P2
  ⟨0x2013, 1, 0x02, .pu32, .rw, [(0, 1677721600, 1)], (.num 83886080), 1, 2, 0, true, true⟩, -- KP_P3
  ⟨0x2013, 1, 0x03, .pu32, .rw, [(0, 1677721600, 1)], (.num 16777216), 1, 2, 0, true, true⟩, -- KP_P4
  ⟨0x2013, 1, 0x04, .pu32, .rw, [(0, 1677721600, 1)], (.num 838860800), 1, 2, 0, true, true⟩, -- KP_P5
  ⟨0x2013, 1, 0x05, .pu32, .rw, [(0, 1677721600, 1)], (.num 3355443), 1, 2, 0, true, true⟩, -- KP_E2
  ⟨0x2013, 1, 0x06, .pu32, .rw, [(0, 1677721600, 1)], (.num 16777216), 1, 2, 0, true, true⟩, -- KP_E3
  ⟨0x2013, 1, 0x07, .pu32, .rw, [(0, 1677721600, 1)], (.num 3355443), 1, 2, 0, true, true⟩, -- KP_E4
  ⟨0x2013, 1, 0x08, .pu32, .rw, [(0, 167772160000, 1)], (.num 3355443200), 1, 2, 0, true, true⟩, -- KI_P2
  ⟨0x2013, 1, 0x09, .pu32, .rw, [(0, 167772160000, 1)], (.num 838860800), 1, 2, 0, true, true⟩, -- KI_P3
  ⟨0x2013, 1, 0x0A, .pu32, .rw, [(0, 167772160000, 1)], (.num 8388608000), 1, 2, 0, true, true⟩, -- KI_P4
  ⟨0x2013, 1, 0x0B, .pu32, .rw, [(0, 167772160000, 1)], (.num 16777216000), 1, 2, 0, true, true⟩, -- KI_P5
  ⟨0x2013, 1, 0x0C, .pu32, .rw, [(0, 167772160000, 1)], (.num 3355443200), 1, 2, 0, true, true⟩] -- KI_E2

/-- Objects of chapter 05, part 2. -/
def dict07 : List ObjRow := [
  ⟨0x2013, 1, 0x0D, .pu32, .rw, [(0, 167772160000, 1)], (.num 8388608000), 1, 2, 0, true, true⟩, -- KI_E3
  ⟨0x2013, 1, 0x0E, .pu32, .rw, [(0, 167772160000, 1)], (.num 3355443200), 1, 2, 0, true, true⟩, -- KI_E4
  ⟨0x2020, 1, 0x01, .u8, .rwStop, [(0, 0, 1), (1, 1, 1)], (.num 1), 1, 2, 0, false, true⟩, -- ENABLE
  ⟨0x2021, 7, 0x01, .u8, .rwStop, [(0, 0, 1), (1, 1, 1)], (.num 0), 1, 2, 0, false, true⟩, -- ENABLE_1_7
  ⟨0x2020, 8, 0x02, .pu32, .rwStop, [(0, 33554432, 1)], (.num 0), 1, 2, 0, false, true⟩, -- V_LO
  ⟨0x2020, 8, 0x03, .pu32, .rwStop, [(0, 33554432, 1)], (.num 33554432), 1, 2, 0, false, true⟩, -- V_HI
  ⟨0x2020, 8, 0x04, .pu32, .rwStop, [(0, 33554432, 1)], (.num 0), 1, 2, 0, false, true⟩, -- L_LO
  ⟨0x2020, 8, 0x05, .pu32, .rwStop, [(0, 33554432, 1)], (.num 33554432), 1, 2, 0, false, true⟩, -- L_HI
  ⟨0x2020, 8, 0x06, .pu32, .rw, [(0, 1677721600, 1)], (.num 335544320), 1, 2, 0, true, true⟩, -- K_P
  ⟨0x2020, 8, 0x07, .pu32, .rw, [(0, 8388608, 1)], (.num 838861), 1, 2, 0, true, true⟩, -- K_Q
  ⟨0x2020, 8, 0x08, .pu32, .rw, [(0, 8388608000, 1)], (.num 1006632960), 1, 2, 0, true, true⟩, -- D
  ⟨0x2020, 8, 0x09, .pu32, .rw, [(0, 8388608, 1)], (.num 167772), 1, 2, 0, true, true⟩, -- R_V
  ⟨0x2020, 8, 0x0A, .pu32, .rw, [(335544, 8388608, 1)], (.num 2516582), 1, 2, 0, true, true⟩, -- X_V
  ⟨0x2020, 8, 0x0B, .pu32, .rw, [(33554, 3355443, 1)], (.num 335544), 1, 2, 0, true, true⟩, -- HBAND
  ⟨0x2020, 8, 0x0C, .pu32, .rw, [(0, 3355443, 1)], (.num 335544), 1, 2, 0, true, true⟩, -- M_P2
  ⟨0x2020, 8, 0x0D, .pu32, .rw, [(0, 3355443, 1)], (.num 335544), 1, 2, 0, true, true⟩, -- M_P3
  ⟨0x2020, 8, 0x0E, .pu32, .rw, [(0, 3355443, 1)], (.num 335544), 1, 2, 0, true, true⟩, -- M_P4
  ⟨0x2020, 8, 0x0F, .pu32, .rw, [(0, 3355443, 1)], (.num 335544), 1, 2, 0, true, true⟩, -- M_P5
  ⟨0x2020, 8, 0x10, .pu32, .rw, [(0, 3355443, 1)], (.num 335544), 1, 2, 0, true, true⟩, -- M_E1
  ⟨0x2020, 8, 0x11, .pu32, .rw, [(0, 3355443, 1)], (.num 335544), 1, 2, 0, true, true⟩, -- M_E2
  ⟨0x2020, 8, 0x12, .pu32, .rw, [(0, 3355443, 1)], (.num 335544), 1, 2, 0, true, true⟩, -- M_E3
  ⟨0x2020, 8, 0x13, .pu32, .rw, [(0, 3355443, 1)], (.num 335544), 1, 2, 0, true, true⟩, -- M_E4
  ⟨0x2011, 1, 0x01, .u8, .ro, [(0, 5, 1), (12, 15, 1)], (.num 1), 1, 2, 0, false, false⟩, -- P_WIN
  ⟨0x2011, 1, 0x02, .u8, .ro, [(0, 5, 1)], (.num 1), 1, 2, 0, false, false⟩, -- E_WIN
  ⟨0x2011, 1, 0x03, .pu32, .ro, [], (.num 0), 1, 2, 0, false, false⟩, -- P_SEL
  ⟨0x2011, 1, 0x04, .octets, .ro, [(40, 40, 1)], (.oct (List.replicate 40 0)), 1, 2, 0, false, false⟩, -- P_OUT
  ⟨0x2011, 1, 0x05, .octets, .ro, [(16, 16, 1)], (.oct (List.replicate 16 0)), 1, 2, 0, false, false⟩, -- E_OUT
  ⟨0x2011, 1, 0x06, .pu32, .ro, [], (.num 0), 1, 2, 0, false, false⟩, -- P_X
  ⟨0x2011, 1, 0x07, .pu32, .ro, [], (.num 0), 1, 2, 0, false, false⟩, -- V_XD
  ⟨0x2011, 1, 0x08, .pu32, .ro, [], (.num 0), 1, 2, 0, false, false⟩] -- V_XQ

/-- Objects of chapter 05, part 3. -/
def dict08 : List ObjRow := [
  ⟨0x2011, 1, 0x09, .u8, .ro, [(0, 7, 1), (255, 255, 1)], (.num 255), 1, 2, 0, false, false⟩, -- REGION_PEND
  ⟨0x2011, 1, 0x0A, .u32, .ro, [], (.num 0), 1, 2, 0, false, false⟩, -- DWELL_COUNT
  ⟨0x2011, 1, 0x0B, .octets, .ro, [(87, 87, 1)], (.oct (List.replicate 87 0)), 1, 2, 0, false, false⟩, -- LIM_SNAPSHOT
  ⟨0x2012, 1, 0x01, .u8, .ro, [(0, 9, 1)], (.num 0), 1, 2, 0, false, false⟩, -- LIMIT_CHECK
  ⟨0x2030, 1, 0x01, .u8, .rwStop, [(0, 15, 1)], (.num 0), 1, 2, 0, false, true⟩, -- EXT_ENABLE
  ⟨0x2030, 1, 0x02, .u8, .ro, [(0, 2, 1)], (.num 0), 1, 2, 0, false, false⟩, -- EXT_STATE
  ⟨0x2030, 1, 0x03, .u8, .ro, [(0, 2, 1)], (.num 0), 1, 2, 0, false, false⟩, -- EXT_COUNT
  ⟨0x2030, 1, 0x04, .u32, .ro, [], (.num 0), 1, 2, 0, false, false⟩, -- EXT_TOTAL
  ⟨0x2030, 1, 0x05, .u16, .rw, [(16, 1000, 1)], (.num 64), 1, 2, 0, true, true⟩, -- EXT_RESTORE
  ⟨0x2031, 4, 0x01, .u32, .rwStop, [(0, 200000, 1)], (.num 0), 1, 2, 0, false, true⟩, -- BUDGET
  ⟨0x2031, 4, 0x02, .u8, .rwStop, [(0, 0, 1), (1, 1, 1)], (.num 0), 1, 2, 0, false, true⟩, -- ESSENTIAL
  ⟨0x2031, 4, 0x03, .u8, .rwStop, [(0, 2, 1)], (.num 0), 1, 2, 0, false, true⟩, -- TARGET
  ⟨0x2031, 4, 0x04, .octets, .rwStop, [(1024, 1024, 1)], (.oct (List.replicate 1024 0)), 1, 2, 0, false, true⟩, -- IMAGE
  ⟨0x2031, 4, 0x05, .u32, .ro, [], (.num 0), 1, 2, 0, false, false⟩, -- LAST_CYCLES
  ⟨0x2031, 4, 0x06, .pu32, .ro, [], (.num 0), 1, 2, 0, false, false⟩] -- OUTPUT

/-- Objects of chapter 06, part 1. -/
def dict09 : List ObjRow := [
  ⟨0x3100, 1, 0x01, .u8, .rwStop, [(0, 15, 1), (255, 255, 1)], (.num 255), 2, 2, 0, false, true⟩, -- ARM_I_CH
  ⟨0x3100, 1, 0x02, .pu32, .rwStop, [(8388608, 268435456, 1)], (.num 16777216), 2, 2, 0, false, true⟩, -- ARM_I_SCALE
  ⟨0x3100, 1, 0x03, .u8, .rwStop, [(0, 0, 1), (1, 1, 1)], (.num 0), 2, 2, 0, false, true⟩, -- ARM_I_INVERT
  ⟨0x3100, 1, 0x04, .u8, .rwStop, [(0, 2, 1)], (.num 0), 2, 2, 0, false, true⟩, -- ARM_PHASE
  ⟨0x3100, 1, 0x05, .u8, .rwStop, [(0, 0, 1), (1, 1, 1)], (.num 0), 2, 2, 0, false, true⟩, -- ARM_POLE
  ⟨0x3100, 1, 0x06, .u8, .rwStop, [(0, 0, 1), (1, 1, 1)], (.num 1), 2, 2, 0, false, true⟩, -- ARM_LEAD
  ⟨0x3100, 1, 0x07, .u8, .rwStop, [(0, 15, 1), (255, 255, 1)], (.num 255), 2, 2, 0, false, true⟩, -- ARM_PARTNER_POS
  ⟨0x3100, 1, 0x08, .u16, .rw, [(1, 64, 1)], (.num 32), 2, 2, 0, true, true⟩, -- C_MAX
  ⟨0x3100, 1, 0x09, .u8, .rw, [(1, 16, 1)], (.num 4), 2, 2, 0, true, true⟩, -- SHARE_MISS_MAX
  ⟨0x2009, 1, 0x01, .u32, .rw, [(0, 1000000, 1)], (.num 20000), 1, 2, 0, true, true⟩, -- SUB_T_PCC
  ⟨0x2009, 1, 0x02, .u32, .rw, [(0, 10000000, 1)], (.num 100000), 1, 2, 0, true, true⟩, -- SUB_T_DC
  ⟨0x2009, 1, 0x03, .u32, .rw, [(0, 60000000, 1)], (.num 1000000), 1, 2, 0, true, true⟩, -- SUB_T_BRK
  ⟨0x2009, 1, 0x04, .u32, .rw, [(0, 1000000, 1)], (.num 10000), 1, 2, 0, true, true⟩, -- SUB_T_IARM
  ⟨0x3101, 1, 0x01, .u16, .ro, [(0, 512, 1)], (.num 0), 2, 2, 0, false, false⟩, -- COUNT
  ⟨0x3101, 1, 0x02, .u16, .ro, [(0, 512, 1)], (.num 0), 2, 2, 0, false, false⟩, -- N_FF
  ⟨0x3101, 1, 0x03, .i16, .ro, [((-64), 64, 1)], (.num 0), 2, 2, 0, false, false⟩, -- N_C
  ⟨0x3101, 1, 0x04, .pu32, .ro, [], (.num 0), 2, 2, 0, false, false⟩, -- I_REF
  ⟨0x3101, 1, 0x05, .pu32, .ro, [], (.num 0), 2, 2, 0, false, false⟩, -- I_M
  ⟨0x3101, 1, 0x06, .pu32, .ro, [], (.num 0), 2, 2, 0, false, false⟩, -- ERR
  ⟨0x3101, 1, 0x07, .u16, .ro, [(0, 256, 1)], (.num 0), 2, 2, 0, false, false⟩, -- SHARE
  ⟨0x3101, 1, 0x08, .u16, .ro, [(0, 512, 1)], (.num 0), 2, 2, 0, false, false⟩, -- N_AV
  ⟨0x3101, 1, 0x09, .u16, .ro, [], (.num 0), 2, 2, 0, false, false⟩, -- V_MEAN
  ⟨0x3101, 1, 0x0A, .u32, .ro, [], (.num 0), 2, 2, 0, false, false⟩, -- SHARE_MISSES
  ⟨0x3101, 1, 0x0B, .octets, .ro, [(36, 36, 1)], (.oct (List.replicate 36 0)), 2, 2, 0, false, false⟩] -- ARM_SNAPSHOT

/-- Objects of chapter 07, part 1. -/
def dict10 : List ObjRow := [
  ⟨0x3200, 1, 0x01, .u32, .rwStop, [(0, 0, 1), (100, 100000, 1)], (.num 0), 3, 2, 0, false, true⟩, -- C_CELL
  ⟨0x3200, 1, 0x02, .u32, .rwStop, [(100, 100000, 1)], (.num 2000), 3, 2, 0, false, true⟩, -- T_INS_MAX
  ⟨0x3200, 1, 0x03, .u16, .rwStop, [(1, 1000, 1)], (.num 10), 3, 2, 0, false, true⟩, -- T_RECHARGE
  ⟨0x3200, 1, 0x04, .u32, .rwStop, [(20, 100000, 1)], (.num 200), 3, 2, 0, false, true⟩, -- T_BS_RECOVER
  ⟨0x3200, 1, 0x05, .u16, .rwStop, [(1, 1000, 1)], (.num 4), 3, 2, 0, false, true⟩, -- T_DWELL_MIN
  ⟨0x3200, 1, 0x06, .u32, .rwStop, [(1, 1000000, 1)], (.num 2500), 3, 2, 0, false, true⟩, -- SW_PERIOD
  ⟨0x3200, 1, 0x07, .u8, .rwStop, [(1, 64, 1)], (.num 8), 3, 2, 0, false, true⟩, -- SW_BURST
  ⟨0x3200, 1, 0x08, .u16, .rw, [(0, 1600, 1)], (.num 16), 3, 2, 0, true, true⟩, -- BAL_BAND
  ⟨0x3200, 1, 0x09, .u8, .rwStop, [(0, 14, 1)], (.num 4), 3, 2, 0, false, true⟩, -- TEL_STALE
  ⟨0x3200, 1, 0x0A, .u16, .rw, [(0, 256, 1)], (.num 0), 3, 2, 0, true, true⟩, -- AV_MIN
  ⟨0x3002, 1, 0x01, .u8, .rwStop, [(0, 2, 1)], (.num 0), 3, 2, 0, false, true⟩, -- CELL_CLASS
  ⟨0x3002, 1, 0x02, .u8, .rw, [(0, 0, 1), (1, 1, 1)], (.num 0), 3, 1, 0, true, true⟩, -- CELL_PARK
  ⟨0x3002, 1, 0x03, .u8, .rwStop, [(0, 7, 1)], (.num 0), 3, 2, 0, false, false⟩, -- FAIL_REASON
  ⟨0x3002, 1, 0x04, .u8, .wo, [(1, 1, 1)], (.num 0), 3, 2, 0, false, false⟩, -- FAIL_NOW
  ⟨0x3002, 1, 0x05, .octets, .ro, [(27, 27, 1)], (.oct (List.replicate 27 0)), 3, 2, 0, false, false⟩, -- CELL_SNAPSHOT
  ⟨0x3201, 1, 0x01, .u16, .ro, [(0, 256, 1)], (.num 0), 3, 2, 0, false, false⟩, -- TARGET
  ⟨0x3201, 1, 0x02, .u16, .ro, [(0, 256, 1)], (.num 0), 3, 2, 0, false, false⟩, -- DELIVERED
  ⟨0x3201, 1, 0x03, .u16, .ro, [(0, 256, 1)], (.num 0), 3, 2, 0, false, false⟩, -- LOCKED_I
  ⟨0x3201, 1, 0x04, .u16, .ro, [(0, 256, 1)], (.num 0), 3, 2, 0, false, false⟩, -- FREE
  ⟨0x3201, 1, 0x05, .u16, .ro, [(0, 256, 1)], (.num 0), 3, 2, 0, false, false⟩, -- FORCED
  ⟨0x3201, 1, 0x06, .u16, .ro, [(0, 256, 1)], (.num 0), 3, 2, 0, false, false⟩, -- AVAILABLE
  ⟨0x3201, 1, 0x07, .u16, .ro, [(0, 256, 1)], (.num 0), 3, 2, 0, false, false⟩, -- FAILED_N
  ⟨0x3201, 1, 0x08, .u16, .ro, [(0, 256, 1)], (.num 0), 3, 2, 0, false, false⟩, -- RESERVE_N
  ⟨0x3201, 1, 0x09, .u32, .ro, [], (.num 0), 3, 2, 0, false, false⟩, -- REFRESHES
  ⟨0x3201, 1, 0x0A, .u32, .ro, [], (.num 0), 3, 2, 0, false, false⟩, -- SHORTFALLS
  ⟨0x3201, 1, 0x0B, .octets, .ro, [(32, 32, 1)], (.oct (List.replicate 32 0)), 3, 2, 0, false, false⟩] -- SEL_SNAPSHOT

/-- Objects of chapter 08, part 1. -/
def dict11 : List ObjRow := [
  ⟨0x3001, 1, 0x01, .octets, .ro, [(12, 12, 1)], (.oct (List.replicate 12 0)), 4, 2, 0, false, false⟩, -- TEL_WORD
  ⟨0x3001, 1, 0x02, .u16, .ro, [(0, 65535, 1)], (.num 0), 4, 2, 0, false, false⟩, -- VCAP
  ⟨0x3001, 1, 0x03, .i16, .ro, [((-128), 127, 1)], (.num 0), 4, 2, 0, false, false⟩, -- TEMP
  ⟨0x3001, 1, 0x04, .u16, .ro, [], (.num 0), 4, 2, 0, false, false⟩, -- FLAGS
  ⟨0x3001, 1, 0x05, .u16, .ro, [], (.num 0), 4, 2, 0, false, false⟩, -- STALENESS
  ⟨0x3001, 1, 0x06, .u32, .ro, [], (.num 0), 4, 2, 0, false, false⟩, -- WORD_ERRORS
  ⟨0x3001, 1, 0x07, .u32, .ro, [], (.num 0), 4, 2, 0, false, false⟩, -- CMD_ERRORS
  ⟨0x3001, 1, 0x08, .u8, .ro, [(0, 3, 1)], (.num 0), 4, 2, 0, false, false⟩, -- GD_STATE
  ⟨0x3001, 1, 0x09, .u16, .ro, [(0, 255, 1)], (.num 0), 4, 2, 0, false, false⟩, -- CELL_DELAY
  ⟨0x3300, 1, 0x01, .u8, .rwStop, [(0, 255, 1)], (.num 0), 4, 2, 0, false, true⟩, -- TRUNK_ENABLE
  ⟨0x3300, 1, 0x02, .u8, .rwStop, [(2, 8, 1)], (.num 3), 4, 2, 0, false, true⟩, -- APPLY_DELAY
  ⟨0x3300, 1, 0x03, .u8, .rw, [(1, 64, 1)], (.num 4), 4, 2, 0, true, true⟩, -- LINK_MISS_MAX
  ⟨0x3300, 1, 0x04, .u8, .rw, [(0, 8, 1)], (.num 1), 4, 2, 0, true, true⟩, -- QUIRE_LOSS_MAX
  ⟨0x3300, 1, 0x05, .u32, .rw, [(10, 1000000, 1)], (.num 1000), 4, 2, 0, true, true⟩, -- TEL_LOST
  ⟨0x3300, 1, 0x06, .u32, .rw, [(0, 0, 1), (100, 10000000, 1)], (.num 1000), 4, 2, 0, true, true⟩, -- VERIFY_T
  ⟨0x3300, 1, 0x07, .i16, .rw, [((-40), 127, 1)], (.num 85), 4, 2, 0, true, true⟩, -- CELL_T_WARN
  ⟨0x3300, 1, 0x08, .u16, .ro, [], (.num 0), 4, 2, 0, false, false⟩, -- AUTH_EPOCH
  ⟨0x3300, 1, 0x09, .u8, .wo, [(1, 1, 1)], (.num 0), 4, 2, 0, false, false⟩, -- GD_VERIFY
  ⟨0x3301, 1, 0x01, .u16, .rwStop, [(500, 8000, 125)], (.num 3000), 4, 2, 0, false, true⟩, -- DEAD_TIME
  ⟨0x3301, 1, 0x02, .u16, .rwStop, [(20, 2000, 10)], (.num 200), 4, 2, 0, false, true⟩, -- PRE_ON
  ⟨0x3301, 1, 0x03, .u8, .rwStop, [(5, 50, 1)], (.num 25), 4, 2, 0, false, true⟩, -- PLAT_I_ON
  ⟨0x3301, 1, 0x04, .u16, .rwStop, [(50, 5000, 10)], (.num 1000), 4, 2, 0, false, true⟩, -- PLAT_T_ON
  ⟨0x3301, 1, 0x05, .u16, .rwStop, [(20, 2000, 10)], (.num 200), 4, 2, 0, false, true⟩, -- PRE_OFF
  ⟨0x3301, 1, 0x06, .u8, .rwStop, [(5, 50, 1)], (.num 25), 4, 2, 0, false, true⟩, -- PLAT_I_OFF
  ⟨0x3301, 1, 0x07, .u16, .rwStop, [(50, 5000, 10)], (.num 1500), 4, 2, 0, false, true⟩, -- PLAT_T_OFF
  ⟨0x3301, 1, 0x08, .u16, .rwStop, [(1000, 16000, 250)], (.num 8000), 4, 2, 0, false, true⟩, -- DESAT_BLANK
  ⟨0x3301, 1, 0x09, .u16, .rwStop, [(3000, 12000, 100)], (.num 8000), 4, 2, 0, false, true⟩, -- DESAT_THR
  ⟨0x3301, 1, 0x0A, .u16, .rwStop, [(10000, 16000, 100)], (.num 12500), 4, 2, 0, false, true⟩, -- UV_LP
  ⟨0x3301, 1, 0x0B, .u16, .rwStop, [(3000, 10000, 100)], (.num 5000), 4, 2, 0, false, true⟩, -- UV_LN
  ⟨0x3301, 1, 0x0C, .u16, .rwStop, [(10000, 16000, 100)], (.num 12500), 4, 2, 0, false, true⟩] -- UV_UP

/-- Objects of chapter 08, part 2. -/
def dict12 : List ObjRow := [
  ⟨0x3301, 1, 0x0D, .u16, .rwStop, [(3000, 10000, 100)], (.num 5000), 4, 2, 0, false, true⟩, -- UV_UN
  ⟨0x3301, 1, 0x0E, .u16, .rwStop, [(10500, 17000, 100)], (.num 14000), 4, 2, 0, false, true⟩, -- BS_GOOD_THR
  ⟨0x3301, 1, 0x0F, .u8, .rwStop, [(0, 0, 1), (1, 1, 1)], (.num 1), 4, 2, 0, false, true⟩, -- TRICKLE_EN
  ⟨0x3301, 1, 0x10, .u16, .rwStop, [(500, 4000, 10)], (.num 2000), 4, 2, 0, false, true⟩, -- HOLD_T
  ⟨0x3301, 1, 0x11, .octets, .ro, [(32, 32, 1)], (.oct (List.replicate 32 0)), 4, 2, 0, false, false⟩, -- GD_BLOCK
  ⟨0x3310, 8, 0x01, .u8, .ro, [(0, 6, 1)], (.num 0), 4, 2, 0, false, false⟩, -- LINK_STATE
  ⟨0x3310, 8, 0x02, .u16, .ro, [], (.num 0), 4, 2, 0, false, false⟩, -- T_TRK
  ⟨0x3310, 8, 0x03, .u16, .ro, [], (.num 0), 4, 2, 0, false, false⟩, -- T_CELL_MAX
  ⟨0x3310, 8, 0x04, .u8, .ro, [], (.num 0), 4, 2, 0, false, false⟩, -- D_MIN
  ⟨0x3310, 8, 0x05, .u16, .ro, [], (.num 0), 4, 2, 0, false, false⟩, -- HUB_EPOCH
  ⟨0x3310, 8, 0x06, .u32, .ro, [], (.num 0), 4, 2, 0, false, false⟩, -- UL_REJECTED
  ⟨0x3310, 8, 0x07, .u32, .ro, [], (.num 0), 4, 2, 0, false, false⟩, -- DOWN_COUNT
  ⟨0x3310, 8, 0x08, .octets, .ro, [(12, 12, 1)], (.oct (List.replicate 12 0)), 4, 2, 0, false, false⟩] -- HUB_INFO

/-- Objects of chapter 09, part 1. -/
def dict13 : List ObjRow := [
  ⟨0x1300, 1, 0x01, .u8, .rw, [(0, 15, 1)], (.num 0), 0, 2, 0, false, true⟩, -- POSITION
  ⟨0x1300, 1, 0x02, .u8, .rw, [(0, 0, 1), (1, 1, 1)], (.num 1), 0, 2, 0, false, true⟩, -- LEAD_ENABLE
  ⟨0x1300, 1, 0x03, .u8, .rw, [(0, 0, 1), (1, 1, 1)], (.num 1), 0, 2, 0, false, true⟩, -- TICK_MASTER_EN
  ⟨0x1300, 1, 0x04, .u32, .rw, [(1000, 1000000, 1)], (.num 10000), 0, 2, 0, false, true⟩, -- MARKER_WAIT
  ⟨0x1300, 1, 0x05, .u8, .rw, [(2, 64, 1)], (.num 8), 0, 2, 0, false, true⟩, -- MARKER_MISS_MAX
  ⟨0x1300, 1, 0x06, .u16, .rw, [(10, 10000, 1)], (.num 100), 0, 2, 0, false, true⟩, -- MARKER_LOSS_TRIP
  ⟨0x1300, 1, 0x07, .u32, .rw, [(10, 100000, 1)], (.num 1000), 0, 2, 0, false, true⟩, -- LEAD_WAIT
  ⟨0x1300, 1, 0x08, .u8, .rw, [(1, 16, 1)], (.num 4), 0, 2, 0, false, true⟩, -- ARM_STATE_MISS_MAX
  ⟨0x1301, 1, 0x01, .u8, .ro, [(0, 2, 1)], (.num 0), 0, 2, 0, false, false⟩, -- SPINE_STATE
  ⟨0x1301, 1, 0x02, .u16, .ro, [(0, 511, 1), (65535, 65535, 1)], (.num 65535), 0, 2, 0, false, false⟩, -- LEADER
  ⟨0x1301, 1, 0x03, .u16, .ro, [(0, 511, 1), (65535, 65535, 1)], (.num 65535), 0, 2, 0, false, false⟩, -- TICK_MASTER
  ⟨0x1301, 1, 0x04, .u16, .ro, [], (.num 0), 0, 2, 0, false, false⟩, -- PATH_MAX
  ⟨0x1301, 1, 0x05, .u8, .ro, [(0, 0, 1), (1, 1, 1)], (.num 0), 0, 2, 0, false, false⟩, -- BUDGET_OK
  ⟨0x1301, 1, 0x06, .octets, .ro, [(0, 288, 9)], (.oct []), 0, 2, 0, false, false⟩, -- ROSTER
  ⟨0x1301, 1, 0x07, .u32, .ro, [], (.num 0), 0, 2, 0, false, false⟩, -- LEADER_CHANGES
  ⟨0x2040, 1, 0x01, .pu32, .rw, [(13421773, 20132659, 1)], (.num 16777216), 1, 2, 0, true, true⟩, -- W_REF
  ⟨0x2040, 1, 0x02, .pu32, .rw, [(0, 167772160, 1)], (.num 16777216), 1, 2, 0, true, true⟩, -- KP_S
  ⟨0x2040, 1, 0x03, .pu32, .rw, [(0, 16777216000, 1)], (.num 167772160), 1, 2, 0, true, true⟩, -- KI_S
  ⟨0x2040, 1, 0x04, .pu32, .rw, [(0, 167772160, 1)], (.num 16777216), 1, 2, 0, true, true⟩, -- KP_H
  ⟨0x2040, 1, 0x05, .pu32, .rw, [(0, 16777216000, 1)], (.num 335544320), 1, 2, 0, true, true⟩, -- KI_H
  ⟨0x2040, 1, 0x06, .pu32, .rw, [(0, 167772160, 1)], (.num 16777216), 1, 2, 0, true, true⟩, -- KP_V
  ⟨0x2040, 1, 0x07, .pu32, .rw, [(0, 16777216000, 1)], (.num 335544320), 1, 2, 0, true, true⟩, -- KI_V
  ⟨0x2040, 1, 0x08, .pu32, .rw, [(0, 8388608, 1)], (.num 1677722), 1, 2, 0, true, true⟩, -- P_BAL_MAX
  ⟨0x2040, 1, 0x09, .pu32, .rw, [(0, 8388608, 1)], (.num 1677722), 1, 2, 0, true, true⟩, -- I_CIRC_MAX
  ⟨0x2040, 1, 0x0A, .u16, .rwStop, [(0, 0, 1), (1600, 64000, 1)], (.num 0), 1, 2, 0, false, true⟩, -- V_CELL_NOM
  ⟨0x2040, 1, 0x0B, .u16, .rwStop, [(0, 0, 1), (1, 512, 1)], (.num 0), 1, 2, 0, false, true⟩, -- ARM_CELLS_NOM
  ⟨0x2041, 1, 0x01, .octets, .ro, [(24, 24, 1)], (.oct (List.replicate 24 0)), 1, 2, 0, false, false⟩, -- W_ARM
  ⟨0x2041, 1, 0x02, .pu32, .ro, [], (.num 0), 1, 2, 0, false, false⟩, -- P_S
  ⟨0x2041, 1, 0x03, .octets, .ro, [(24, 24, 1)], (.oct (List.replicate 24 0)), 1, 2, 0, false, false⟩, -- LEG_OUT
  ⟨0x2041, 1, 0x04, .octets, .ro, [(60, 60, 1)], (.oct (List.replicate 60 0)), 1, 2, 0, false, false⟩] -- BAL_SNAPSHOT

/-- Objects of chapter 10, part 1. -/
def dict14 : List ObjRow := [
  ⟨0x4001, 1, 0x01, .u8, .rwStop, [(0, 0, 1), (1, 1, 1)], (.num 0), 5, 2, 0, false, true⟩, -- AIN_ENABLE
  ⟨0x4001, 1, 0x02, .u8, .rwStop, [(0, 15, 1)], (.num 0), 5, 2, 0, false, true⟩, -- RESPONSE
  ⟨0x4001, 1, 0x03, .u8, .rw, [(0, 2, 1)], (.num 0), 5, 2, 0, false, true⟩, -- CMP_ACTION
  ⟨0x4001, 1, 0x04, .i16, .rw, [((-32768), 32767, 1)], (.num 32767), 5, 2, 0, false, true⟩, -- CMP_HI
  ⟨0x4001, 1, 0x05, .i16, .rw, [((-32768), 32767, 1)], (.num (-32768)), 5, 2, 0, false, true⟩, -- CMP_LO
  ⟨0x4001, 1, 0x06, .u16, .rw, [(0, 4095, 1)], (.num 256), 5, 2, 0, false, true⟩, -- CMP_HYST
  ⟨0x4001, 1, 0x07, .u8, .rw, [(1, 8, 1)], (.num 1), 5, 2, 0, false, true⟩, -- CMP_CONFIRM
  ⟨0x4001, 1, 0x08, .u16, .rw, [(0, 0, 1), (2, 65535, 1)], (.num 0), 5, 2, 0, false, true⟩, -- FROZEN_WIN
  ⟨0x4001, 1, 0x09, .u8, .rw, [(0, 255, 1)], (.num 16), 5, 2, 0, false, true⟩, -- SAT_COUNT
  ⟨0x4001, 1, 0x0A, .u32, .rw, [(0, 0, 1), (100, 10000000, 1)], (.num 0), 5, 2, 0, false, true⟩, -- TEST_T
  ⟨0x4001, 1, 0x0B, .u16, .rw, [(16, 32767, 1)], (.num 2048), 5, 2, 0, false, true⟩, -- TEST_DELTA
  ⟨0x4001, 1, 0x0C, .u8, .rw, [(1, 15, 1)], (.num 3), 5, 2, 0, false, true⟩, -- TEST_FAIL_N
  ⟨0x4001, 1, 0x0D, .u8, .rwStop, [(0, 3, 1)], (.num 1), 5, 2, 0, false, true⟩, -- TEST_CURRENT
  ⟨0x4001, 1, 0x0E, .u8, .rw, [(0, 3, 1)], (.num 0), 5, 2, 0, false, true⟩, -- INJ_SOURCE
  ⟨0x4001, 1, 0x0F, .u8, .rw, [(0, 2, 1)], (.num 0), 5, 2, 0, false, true⟩, -- INJ_MODE
  ⟨0x4001, 1, 0x10, .i32, .rw, [], (.num 0), 5, 2, 0, false, true⟩, -- INT_LO
  ⟨0x4001, 1, 0x11, .i32, .rw, [], (.num 0), 5, 2, 0, false, true⟩, -- INT_HI
  ⟨0x4002, 1, 0x01, .i32, .ro, [], (.num 0), 5, 2, 0, false, false⟩, -- VALUE
  ⟨0x4002, 1, 0x02, .i16, .ro, [], (.num 0), 5, 2, 0, false, false⟩, -- RAW
  ⟨0x4002, 1, 0x03, .u16, .ro, [], (.num 0), 5, 2, 0, false, false⟩, -- FLAGS
  ⟨0x4002, 1, 0x04, .u32, .ro, [], (.num 0), 5, 2, 0, false, false⟩, -- GROUP_DELAY
  ⟨0x4002, 1, 0x05, .u8, .ro, [(0, 16, 1), (255, 255, 1)], (.num 255), 5, 2, 0, false, false⟩, -- CONVERTER
  ⟨0x4002, 1, 0x06, .u8, .wo, [(1, 1, 1)], (.num 0), 5, 2, 0, false, false⟩, -- INJ_COMMAND
  ⟨0x4002, 1, 0x07, .octets, .ro, [(14, 14, 1)], (.oct (List.replicate 14 0)), 5, 2, 0, false, false⟩, -- INJ_RESULT
  ⟨0x4002, 1, 0x08, .u32, .ro, [], (.num 0), 5, 2, 0, false, false⟩, -- INJ_OVERRUNS
  ⟨0x4002, 1, 0x09, .u32, .ro, [], (.num 0), 5, 2, 0, false, false⟩, -- TEST_FAILS
  ⟨0x4002, 1, 0x0A, .octets, .ro, [(21, 21, 1)], (.oct (List.replicate 21 0)), 5, 2, 0, false, false⟩, -- AIN_SNAPSHOT
  ⟨0x4003, 1, 0x01, .u8, .ro, [(0, 4, 1)], (.num 0), 5, 2, 0, false, false⟩, -- CONV_STATE
  ⟨0x4003, 1, 0x02, .u8, .ro, [(0, 15, 1), (255, 255, 1)], (.num 0), 5, 2, 0, false, false⟩, -- CONV_INPUT
  ⟨0x4003, 1, 0x03, .i16, .ro, [], (.num 0), 5, 2, 0, false, false⟩] -- OFFSET

/-- Objects of chapter 10, part 2. -/
def dict15 : List ObjRow := [
  ⟨0x4003, 1, 0x04, .i32, .ro, [], (.num 0), 5, 2, 0, false, false⟩, -- GAIN_CORR
  ⟨0x4003, 1, 0x05, .u32, .ro, [], (.num 0), 5, 2, 0, false, false⟩, -- CAL_COUNT
  ⟨0x4003, 1, 0x06, .u8, .ro, [(0, 3, 1)], (.num 0), 5, 2, 0, false, false⟩, -- MATCH_FAILS
  ⟨0x4003, 1, 0x07, .time96, .ro, [], (.oct (List.replicate 12 0)), 5, 2, 0, false, false⟩, -- LAST_CAL
  ⟨0x4100, 1, 0x01, .u32, .rwStop, [(2000, 1000000, 1)], (.num 10000), 5, 2, 0, false, true⟩, -- ROT_STEP
  ⟨0x4100, 1, 0x02, .u16, .rw, [(2, 64, 1)], (.num 8), 5, 2, 0, false, true⟩, -- CAL_MATCH
  ⟨0x4100, 1, 0x03, .i16, .rw, [(80, 125, 1)], (.num 115), 5, 2, 0, false, true⟩, -- TJ_WARN
  ⟨0x4100, 1, 0x04, .i16, .rw, [(100, 140, 1)], (.num 130), 5, 2, 0, false, true⟩, -- TJ_TRIP
  ⟨0x4101, 1, 0x01, .u8, .ro, [(0, 16, 1), (255, 255, 1)], (.num 16), 5, 2, 0, false, false⟩, -- SPARE
  ⟨0x4101, 1, 0x02, .u8, .ro, [(0, 3, 1)], (.num 0), 5, 2, 0, false, false⟩, -- ROT_PHASE
  ⟨0x4101, 1, 0x03, .u32, .ro, [], (.num 0), 5, 2, 0, false, false⟩, -- ROT_STEPS
  ⟨0x4101, 1, 0x04, .u32, .ro, [], (.num 0), 5, 2, 0, false, false⟩, -- RETIRED
  ⟨0x4101, 1, 0x05, .u8, .ro, [(0, 0, 1), (1, 1, 1)], (.num 0), 5, 2, 0, false, false⟩] -- CAL_SOURCE

/-- Objects of chapter 11, part 1. -/
def dict16 : List ObjRow := [
  ⟨0x8001, 1, 0x01, .u8, .rwStop, [(96, 144, 1)], (.num 0), 10, 3, 0, false, true⟩, -- PLL_N
  ⟨0x8001, 1, 0x02, .u8, .rwStop, [(2, 63, 1)], (.num 0), 10, 3, 0, false, true⟩, -- PLL_OD0
  ⟨0x8001, 1, 0x03, .u8, .rwStop, [(0, 0, 1), (2, 63, 1)], (.num 0), 10, 3, 0, false, true⟩, -- PLL_OD1
  ⟨0x8001, 1, 0x04, .u8, .rwStop, [(0, 3, 1)], (.num 1), 10, 3, 0, false, true⟩, -- LOOP_BW
  ⟨0x8001, 1, 0x05, .u16, .rw, [(10, 200, 1)], (.num 100), 10, 3, 0, false, true⟩, -- PHASE_SLEW
  ⟨0x8001, 1, 0x06, .octets, .rwStop, [(128, 128, 1)], (.oct (Config.factoryBand 0)), 10, 3, 0, false, true⟩, -- BAND_TABLE
  ⟨0x8001, 1, 0x07, .u8, .ro, [(0, 6, 1)], (.num 0), 10, 2, 0, false, false⟩, -- PLL_STATE
  ⟨0x8001, 1, 0x08, .u8, .ro, [(0, 0, 1), (1, 1, 1)], (.num 0), 10, 2, 0, false, false⟩, -- ON_BACKUP
  ⟨0x8001, 1, 0x09, .u8, .ro, [(0, 31, 1), (255, 255, 1)], (.num 255), 10, 2, 0, false, false⟩, -- BAND
  ⟨0x8001, 1, 0x0A, .i32, .ro, [], (.num 0), 10, 2, 0, false, false⟩, -- FREQ_ERR
  ⟨0x8001, 1, 0x0B, .u32, .ro, [], (.num 0), 10, 2, 0, false, false⟩, -- COASTS
  ⟨0x8001, 1, 0x0C, .u32, .ro, [], (.num 0), 10, 2, 0, false, false⟩, -- ACTIVE
  ⟨0x8010, 1, 0x01, .u8, .rwStop, [(0, 2, 1)], (.num 1), 10, 3, 0, false, true⟩, -- SSC_MODE
  ⟨0x8010, 1, 0x02, .u16, .rwStop, [(0, 1000, 1)], (.num 500), 10, 3, 0, false, true⟩, -- SSC_DEPTH
  ⟨0x8010, 1, 0x03, .u16, .rwStop, [(30000, 33000, 1)], (.num 31500), 10, 3, 0, false, true⟩, -- SSC_FREQ
  ⟨0x8010, 1, 0x04, .u8, .rwStop, [(2, 64, 1)], (.num 2), 10, 3, 0, false, true⟩, -- SSC_POINTS
  ⟨0x8010, 1, 0x05, .octets, .rwStop, [(256, 256, 1)], (.oct (List.replicate 256 0)), 10, 3, 0, false, true⟩, -- SSC_PROFILE
  ⟨0x8010, 1, 0x06, .octets, .rwStop, [(128, 128, 1)], (.oct (Config.factoryBand 4)), 10, 3, 0, false, true⟩, -- MAIN_BAND_TABLE
  ⟨0x8010, 1, 0x07, .u8, .ro, [(0, 6, 1)], (.num 0), 10, 2, 0, false, false⟩, -- MAIN_STATE
  ⟨0x8011, 1, 0x01, .u8, .wo, [(1, 1, 1)], (.num 0), 10, 3, 0, false, false⟩, -- CLK_COMMIT
  ⟨0x8011, 1, 0x02, .u8, .ro, [(0, 0, 1), (1, 1, 1)], (.num 0), 10, 2, 0, false, false⟩, -- COMMIT_PENDING
  ⟨0x8011, 1, 0x03, .u8, .ro, [(0, 2, 1)], (.num 0), 10, 2, 0, false, false⟩, -- REF_STATE
  ⟨0x8011, 1, 0x04, .u32, .ro, [], (.num 0), 10, 2, 0, false, false⟩, -- REF_LOSSES
  ⟨0x8011, 1, 0x05, .i32, .ro, [], (.num 0), 10, 2, 0, false, false⟩] -- TRIM_A

/-- Objects of chapter 12, part 1. -/
def dict17 : List ObjRow := [
  ⟨0x7000, 1, 0x01, .u8, .rwStop, [(0, 3, 1)], (.num 3), 8, 2, 0, false, true⟩, -- PTP_ENABLE
  ⟨0x7000, 1, 0x02, .u8, .rwStop, [(0, 127, 1)], (.num 0), 8, 2, 0, false, true⟩, -- DOMAIN
  ⟨0x7000, 1, 0x03, .u8, .rwStop, [(0, 0, 1), (1, 1, 1)], (.num 0), 8, 2, 0, false, true⟩, -- ROLE
  ⟨0x7000, 1, 0x04, .u8, .rwStop, [(0, 255, 1)], (.num 128), 8, 2, 0, false, true⟩, -- PRIORITY1
  ⟨0x7000, 1, 0x05, .u8, .rwStop, [(0, 255, 1)], (.num 128), 8, 2, 0, false, true⟩, -- PRIORITY2
  ⟨0x7000, 1, 0x06, .u16, .rwStop, [(0, 4094, 1)], (.num 0), 8, 2, 0, false, true⟩, -- VLAN
  ⟨0x7000, 1, 0x07, .u8, .rwStop, [(0, 7, 1)], (.num 0), 8, 2, 0, false, true⟩, -- VLAN_PCP
  ⟨0x7000, 1, 0x08, .u8, .rw, [(0, 3, 1)], (.num 1), 8, 2, 0, false, true⟩, -- SERVO_BW
  ⟨0x7000, 1, 0x09, .u16, .rw, [(10, 500, 1)], (.num 200), 8, 2, 0, false, true⟩, -- MAX_ADJ
  ⟨0x7000, 1, 0x0A, .u32, .rw, [(1000, 1000000000, 1)], (.num 100000), 8, 2, 0, false, true⟩, -- STEP_T
  ⟨0x7000, 1, 0x0B, .u8, .rw, [(0, 0, 1), (1, 1, 1)], (.num 1), 8, 2, 0, false, true⟩, -- STEP_EN
  ⟨0x7000, 1, 0x0C, .u32, .rw, [(50, 100000, 1)], (.num 1000), 8, 2, 0, false, true⟩, -- LOCK_T
  ⟨0x7000, 1, 0x0D, .u32, .rw, [(0, 86400, 1)], (.num 60), 8, 2, 0, false, true⟩, -- TIME_HOLD_T
  ⟨0x7000, 1, 0x0E, .u32, .rw, [(100, 1000000, 1)], (.num 1000), 8, 2, 0, false, true⟩, -- PORT_DIFF
  ⟨0x7000, 1, 0x0F, .u8, .rw, [(0, 255, 1)], (.num 37), 8, 2, 0, false, true⟩, -- UTC_OFFSET
  ⟨0x7000, 1, 0x10, .u8, .rw, [(1, 64, 1)], (.num 16), 8, 2, 0, false, true⟩, -- PDELAY_AVG
  ⟨0x7000, 1, 0x11, .time96, .wo, [], (.oct (List.replicate 12 0)), 8, 2, 0, false, false⟩, -- TIME_SET
  ⟨0x7001, 1, 0x01, .u8, .ro, [(0, 3, 1)], (.num 0), 8, 2, 0, false, false⟩, -- SERVO_STATE
  ⟨0x7001, 1, 0x02, .u8, .ro, [(0, 0, 1), (1, 1, 1), (255, 255, 1)], (.num 255), 8, 2, 0, false, false⟩, -- SLAVE_PORT
  ⟨0x7001, 1, 0x03, .i32, .ro, [], (.num 0), 8, 2, 0, false, false⟩, -- OFFSET
  ⟨0x7001, 1, 0x04, .i32, .ro, [], (.num 0), 8, 2, 0, false, false⟩, -- RATE
  ⟨0x7001, 1, 0x05, .octets, .ro, [(8, 8, 1)], (.oct (List.replicate 8 0)), 8, 2, 0, false, false⟩, -- GM_ID
  ⟨0x7001, 1, 0x06, .u32, .ro, [], (.num 0), 8, 2, 0, false, false⟩, -- STEPS
  ⟨0x7001, 1, 0x07, .time96, .ro, [], (.oct (List.replicate 12 0)), 8, 2, 0, false, false⟩, -- NOW
  ⟨0x7001, 1, 0x08, .u16, .ro, [], (.num 0), 8, 2, 0, false, false⟩, -- TIME_TAG
  ⟨0x7001, 1, 0x09, .octets, .ro, [(20, 20, 1)], (.oct (List.replicate 20 0)), 8, 2, 0, false, false⟩, -- TICK_TAI
  ⟨0x7010, 2, 0x01, .u16, .rwStop, [(0, 2000, 1)], (.num 0), 8, 2, 0, false, true⟩, -- PHY_RX_LAT
  ⟨0x7010, 2, 0x02, .u16, .rwStop, [(0, 2000, 1)], (.num 0), 8, 2, 0, false, true⟩, -- PHY_TX_LAT
  ⟨0x7010, 2, 0x03, .i32, .rwStop, [((-1000000), 1000000, 1)], (.num 0), 8, 2, 0, false, true⟩, -- ASYM
  ⟨0x7010, 2, 0x04, .u8, .ro, [(0, 3, 1)], (.num 0), 8, 2, 0, false, false⟩] -- PORT_STATE

/-- Objects of chapter 12, part 2. -/
def dict18 : List ObjRow := [
  ⟨0x7010, 2, 0x05, .u32, .ro, [], (.num 0), 8, 2, 0, false, false⟩, -- PATH_DELAY
  ⟨0x7010, 2, 0x06, .i32, .ro, [], (.num 0), 8, 2, 0, false, false⟩, -- PORT_OFFSET
  ⟨0x7010, 2, 0x07, .u32, .ro, [], (.num 0), 8, 2, 0, false, false⟩] -- SYNC_RX

/-- Objects of chapter 13, part 1. -/
def dict19 : List ObjRow := [
  ⟨0x5001, 1, 0x01, .u8, .rwStop, [(0, 3, 1)], (.num 0), 6, 2, 0, false, true⟩, -- FIO_MODE
  ⟨0x5001, 1, 0x02, .u16, .rw, [(1, 65535, 1)], (.num 1000), 6, 2, 0, false, true⟩, -- DEBOUNCE
  ⟨0x5001, 1, 0x03, .u8, .rw, [(0, 0, 1), (1, 1, 1)], (.num 0), 6, 2, 0, false, true⟩, -- INVERT
  ⟨0x5001, 1, 0x04, .u8, .rw, [(0, 15, 1)], (.num 0), 6, 2, 0, false, true⟩, -- DIAG_EN
  ⟨0x5001, 1, 0x05, .u16, .rw, [(100, 500, 1)], (.num 200), 6, 2, 0, false, true⟩, -- WB_I
  ⟨0x5001, 1, 0x06, .u8, .rw, [(0, 0, 1), (1, 1, 1)], (.num 0), 6, 2, 0, false, true⟩, -- FAULT_MODE
  ⟨0x5001, 1, 0x07, .u16, .rw, [(10, 10000, 1)], (.num 1000), 6, 2, 0, false, true⟩, -- RETRY_T
  ⟨0x5001, 1, 0x08, .u32, .rw, [(100, 100000, 100)], (.num 1000), 6, 2, 0, false, true⟩, -- OVL_T
  ⟨0x5001, 1, 0x09, .u8, .rw, [(0, 2, 1)], (.num 0), 6, 2, 0, false, false⟩, -- FORCE
  ⟨0x5002, 1, 0x01, .u8, .ro, [], (.num 0), 6, 2, 0, false, false⟩, -- PIN_STATE
  ⟨0x5002, 1, 0x02, .u16, .ro, [], (.num 0), 6, 2, 0, false, false⟩, -- PIN_DIAG
  ⟨0x5002, 1, 0x03, .u8, .ro, [(0, 2, 1)], (.num 0), 6, 2, 0, false, false⟩, -- OWNER
  ⟨0x5002, 1, 0x04, .time96, .ro, [], (.oct (List.replicate 12 0)), 6, 2, 0, false, false⟩, -- EDGE_TIME
  ⟨0x5002, 1, 0x05, .u32, .ro, [], (.num 0), 6, 2, 0, false, false⟩, -- EDGE_COUNT
  ⟨0x5002, 1, 0x06, .u16, .ro, [], (.num 0), 6, 2, 0, false, false⟩, -- I_PIN
  ⟨0x5002, 1, 0x07, .i16, .ro, [], (.num 0), 6, 2, 0, false, false⟩, -- PIN_V
  ⟨0x5002, 1, 0x08, .u8, .wo, [(1, 1, 1)], (.num 0), 6, 2, 0, false, false⟩, -- PIN_CLEAR
  ⟨0x5002, 1, 0x09, .octets, .ro, [(32, 32, 1)], (.oct (List.replicate 32 0)), 6, 2, 0, false, false⟩, -- FIO_SNAPSHOT
  ⟨0x5010, 1, 0x01, .u32, .wo, [], (.num 0), 6, 1, 0, false, false⟩, -- OUT_SET
  ⟨0x5010, 1, 0x02, .u32, .wo, [], (.num 0), 6, 1, 0, false, false⟩, -- OUT_CLEAR
  ⟨0x5010, 1, 0x03, .u32, .ro, [], (.num 0), 6, 2, 0, false, false⟩, -- OUT_STATE
  ⟨0x5010, 1, 0x04, .u32, .ro, [], (.num 0), 6, 2, 0, false, false⟩, -- IN_STATE
  ⟨0x5010, 1, 0x05, .u32, .ro, [], (.num 0), 6, 2, 0, false, false⟩, -- IN_VALID
  ⟨0x5010, 1, 0x06, .u32, .ro, [], (.num 0), 6, 2, 0, false, false⟩, -- DIAG_ANY
  ⟨0x5011, 1, 0x01, .u16, .ro, [], (.num 0), 6, 2, 0, false, false⟩, -- LP_VOLT
  ⟨0x5011, 1, 0x02, .u8, .ro, [(0, 5, 1)], (.num 0), 6, 2, 0, false, false⟩, -- LP_STATE
  ⟨0x5011, 1, 0x03, .u16, .rw, [(18000, 24000, 1)], (.num 19200), 6, 2, 0, false, true⟩, -- LP_LOW
  ⟨0x5011, 1, 0x04, .u16, .rwStop, [(16000, 19200, 1)], (.num 18000), 6, 3, 0, false, true⟩, -- LP_SO_MIN
  ⟨0x5011, 1, 0x05, .u16, .rw, [(8000, 16000, 1)], (.num 10000), 6, 2, 0, false, true⟩, -- LP_LOSS
  ⟨0x5011, 1, 0x06, .u16, .rw, [(28000, 33000, 1)], (.num 31000), 6, 2, 0, false, true⟩] -- LP_HIGH

/-- Objects of chapter 13, part 2. -/
def dict20 : List ObjRow := [
  ⟨0x5011, 1, 0x07, .u16, .rw, [(1, 1000, 1)], (.num 10), 6, 2, 0, false, true⟩, -- LP_RESTORE_T
  ⟨0x5012, 1, 0x01, .u8, .ro, [(0, 0, 1), (1, 1, 1)], (.num 0), 6, 2, 0, false, false⟩, -- BARRIER_UP
  ⟨0x5012, 1, 0x02, .u32, .ro, [], (.num 0), 6, 2, 0, false, false⟩] -- BARRIER_ERRORS

/-- Objects of chapter 14, part 1. -/
def dict21 : List ObjRow := [
  ⟨0x6200, 1, 0x01, .u8, .rwPriv, [(0, 15, 1), (255, 255, 1)], (.num 255), 7, 3, 0, false, false⟩, -- PROT_I_CH
  ⟨0x6200, 1, 0x02, .i32, .rwPriv, [(0, 8388352, 1)], (.num 8388352), 7, 3, 0, false, false⟩, -- PROT_I_MAX
  ⟨0x6200, 1, 0x03, .u8, .rwPriv, [(0, 15, 1), (255, 255, 1)], (.num 255), 7, 3, 0, false, false⟩, -- PROT_VDC_CH
  ⟨0x6200, 1, 0x04, .i32, .rwPriv, [(0, 8388352, 1)], (.num 8388352), 7, 3, 0, false, false⟩, -- PROT_VDC_MAX
  ⟨0x6200, 1, 0x05, .u16, .rwPriv, [(1600, 65535, 1)], (.num 65535), 7, 3, 0, false, false⟩, -- PROT_VCELL_MAX
  ⟨0x6200, 1, 0x06, .u16, .rwPriv, [(0, 0, 1), (1600, 64000, 1)], (.num 0), 7, 3, 0, false, false⟩, -- PROT_VNOM
  ⟨0x6200, 1, 0x07, .pu32, .rwPriv, [(16777216, 33554432, 1)], (.num 21810381), 7, 3, 0, false, false⟩, -- PROT_W_HI
  ⟨0x6200, 1, 0x08, .pu32, .rwPriv, [(0, 16777216, 1)], (.num 10066330), 7, 3, 0, false, false⟩, -- PROT_W_LO
  ⟨0x6200, 1, 0x09, .u8, .rwPriv, [(1, 16, 1)], (.num 2), 7, 3, 0, false, false⟩, -- PROT_N
  ⟨0x6200, 1, 0x0A, .u8, .rwPriv, [(0, 63, 1)], (.num 7), 7, 3, 0, false, false⟩, -- PROT_TRIP
  ⟨0x6201, 1, 0x01, .u8, .ro, [(0, 0, 1), (1, 1, 1)], (.num 0), 7, 2, 0, false, false⟩, -- PROT_STATE
  ⟨0x6201, 1, 0x02, .u8, .wo, [(1, 1, 1)], (.num 0), 7, 2, 0, false, false⟩, -- PROT_START
  ⟨0x6201, 1, 0x03, .u32, .ro, [], (.num 0), 7, 2, 0, false, false⟩, -- PROT_CRC
  ⟨0x6201, 1, 0x04, .u8, .ro, [(0, 63, 1)], (.num 0), 7, 2, 0, false, false⟩, -- PROT_LATCHED
  ⟨0x6201, 1, 0x05, .u8, .ro, [(0, 3, 1)], (.num 0), 7, 2, 0, false, false⟩, -- PROT_CHECK
  ⟨0x6001, 1, 0x01, .u8, .rwStop, [(0, 4, 1)], (.num 0), 7, 3, 0, false, true⟩, -- SO_FUNC
  ⟨0x6001, 1, 0x02, .u16, .rwStop, [(10, 1000, 1)], (.num 100), 7, 3, 0, false, true⟩, -- SO_TEST_T
  ⟨0x6001, 1, 0x03, .u16, .rwStop, [(50, 400, 1)], (.num 200), 7, 3, 0, false, true⟩, -- SO_PULSE
  ⟨0x6001, 1, 0x04, .u8, .rwStop, [(0, 0, 1), (1, 1, 1)], (.num 1), 7, 3, 0, false, true⟩, -- SO_RESTART
  ⟨0x6002, 1, 0x01, .u8, .ro, [], (.num 0), 7, 2, 0, false, false⟩, -- SO_STATE
  ⟨0x6002, 1, 0x02, .u8, .ro, [], (.num 0), 7, 2, 0, false, false⟩, -- SO_DIAG
  ⟨0x6002, 1, 0x03, .u32, .ro, [], (.num 0), 7, 2, 0, false, false⟩, -- TESTS
  ⟨0x6100, 1, 0x01, .u16, .rwStop, [(1, 3600, 1)], (.num 600), 7, 3, 0, false, true⟩, -- INTLK_DWELL
  ⟨0x6100, 1, 0x02, .u16, .rwStop, [(160, 16000, 1)], (.num 800), 7, 3, 0, false, true⟩, -- INTLK_VCELL
  ⟨0x6100, 1, 0x03, .u8, .rwStop, [(0, 15, 1), (255, 255, 1)], (.num 255), 7, 3, 0, false, true⟩, -- INTLK_VDC_CH
  ⟨0x6100, 1, 0x04, .i32, .rwStop, [(0, 8388352, 1)], (.num 0), 7, 3, 0, false, true⟩, -- INTLK_VDC
  ⟨0x6100, 1, 0x05, .u8, .rwStop, [(0, 7, 1), (255, 255, 1)], (.num 255), 7, 3, 0, false, true⟩, -- DOOR_REQ_SI
  ⟨0x6101, 1, 0x01, .u8, .ro, [], (.num 3), 7, 2, 0, false, false⟩, -- SF_STATE
  ⟨0x6101, 1, 0x02, .u32, .ro, [], (.num 0), 7, 2, 0, false, false⟩, -- SF1_CAUSE
  ⟨0x6101, 1, 0x03, .u8, .wo, [(1, 1, 1)], (.num 0), 7, 1, 0, false, false⟩] -- SAFE_RESET

/-- Objects of chapter 14, part 2. -/
def dict22 : List ObjRow := [
  ⟨0x6101, 1, 0x04, .u8, .rw, [(0, 3, 1)], (.num 0), 7, 1, 0, false, false⟩, -- REL_REQ
  ⟨0x6101, 1, 0x05, .u32, .ro, [], (.num 0), 7, 2, 0, false, false⟩, -- SAFETY_CRC
  ⟨0x6101, 1, 0x06, .u32, .wo, [], (.num 0), 7, 3, 0, false, false⟩, -- SAFETY_CONFIRM
  ⟨0x6101, 1, 0x07, .u8, .ro, [(0, 0, 1), (1, 1, 1)], (.num 0), 7, 2, 0, false, false⟩, -- CONFIRMED
  ⟨0x6101, 1, 0x08, .octets, .ro, [(373, 501, 1)], (.oct (List.replicate 373 0)), 7, 2, 0, false, false⟩, -- SAFETY_IMAGE
  ⟨0x6101, 1, 0x09, .u32, .ro, [], (.num 0), 7, 2, 0, false, false⟩, -- SL_FOREIGN
  ⟨0x6110, 8, 0x01, .u8, .rwStop, [(0, 31, 1), (255, 255, 1)], (.num 255), 7, 3, 0, false, true⟩, -- SI_PIN_A
  ⟨0x6110, 8, 0x02, .u8, .rwStop, [(0, 31, 1), (255, 255, 1)], (.num 255), 7, 3, 0, false, true⟩, -- SI_PIN_B
  ⟨0x6110, 8, 0x03, .u8, .rwStop, [(0, 0, 1), (1, 1, 1)], (.num 0), 7, 3, 0, false, true⟩, -- SI_TYPE
  ⟨0x6110, 8, 0x04, .u16, .rwStop, [(1, 500, 1)], (.num 100), 7, 3, 0, false, true⟩, -- DISC_T
  ⟨0x6110, 8, 0x05, .u8, .rwStop, [(0, 3, 1)], (.num 1), 7, 3, 0, false, true⟩, -- SI_MASK
  ⟨0x6110, 8, 0x06, .u8, .rwStop, [(0, 0, 1), (1, 1, 1)], (.num 1), 7, 3, 0, false, true⟩, -- SI_RESTART
  ⟨0x6110, 8, 0x07, .u8, .ro, [], (.num 0), 7, 2, 0, false, false⟩, -- SI_STATE
  ⟨0x6130, 8, 0x01, .u8, .rwStop, [(0, 2, 1)], (.num 0), 7, 3, 0, false, true⟩, -- SL_DIR
  ⟨0x6130, 8, 0x02, .u32, .rwStop, [], (.num 0), 7, 3, 0, false, true⟩, -- SL_CONN_ID
  ⟨0x6130, 8, 0x03, .octets, .rwStop, [(16, 16, 1)], (.oct (List.replicate 16 0)), 7, 3, 0, false, true⟩, -- SL_PEER
  ⟨0x6130, 8, 0x04, .u16, .rwStop, [(1, 100, 1)], (.num 10), 7, 3, 0, false, true⟩, -- SL_CYCLE
  ⟨0x6130, 8, 0x05, .u16, .rwStop, [(3, 1000, 1)], (.num 50), 7, 3, 0, false, true⟩, -- SL_WATCHDOG
  ⟨0x6130, 8, 0x06, .u8, .rwStop, [(1, 16, 1)], (.num 4), 7, 3, 0, false, true⟩, -- SL_ERR_MAX
  ⟨0x6130, 8, 0x07, .u32, .rwStop, [], (.num 0), 7, 3, 0, false, true⟩, -- SL_BLOCK_BITS
  ⟨0x6130, 8, 0x08, .u32, .rwStop, [], (.num 0), 7, 3, 0, false, true⟩, -- SL_TRIP_BITS
  ⟨0x6130, 8, 0x09, .u8, .rwStop, [(0, 31, 1), (255, 255, 1)], (.num 255), 7, 3, 0, false, true⟩, -- SL_RESET_BIT
  ⟨0x6130, 8, 0x0A, .u8, .ro, [(0, 3, 1)], (.num 0), 7, 2, 0, false, false⟩, -- SL_STATE
  ⟨0x6130, 8, 0x0B, .u32, .ro, [], (.num 0), 7, 2, 0, false, false⟩, -- SL_DATA
  ⟨0x6130, 8, 0x0C, .u32, .ro, [], (.num 0), 7, 2, 0, false, false⟩] -- SL_ERRORS

/-- Objects of chapter 15, part 1. -/
def dict23 : List ObjRow := [
  ⟨0x8100, 1, 0x01, .u8, .ro, [], (.num 0), 0, 2, 0, false, false⟩, -- FEED_STATE
  ⟨0x8100, 1, 0x02, .u16, .ro, [], (.num 0), 0, 2, 0, false, false⟩, -- FEEDA_V
  ⟨0x8100, 1, 0x03, .u16, .ro, [], (.num 0), 0, 2, 0, false, false⟩, -- FEEDB_V
  ⟨0x8100, 1, 0x04, .u16, .ro, [], (.num 0), 0, 2, 0, false, false⟩, -- VDD3V3_V
  ⟨0x8100, 1, 0x05, .u16, .ro, [], (.num 7), 0, 2, 0, false, false⟩, -- DOMAINS
  ⟨0x8100, 1, 0x06, .u16, .rw, [(2900, 3200, 1)], (.num 3000), 0, 2, 0, false, true⟩, -- FEED_LOW
  ⟨0x8101, 1, 0x01, .octets, .rw, [(0, 8, 1)], (.oct []), 0, 2, 0, false, true⟩, -- PMBUS_DEV
  ⟨0x8101, 1, 0x02, .u8, .rw, [(0, 0, 1), (1, 1, 1)], (.num 0), 0, 2, 0, false, true⟩, -- PMBUS_RATE
  ⟨0x8101, 1, 0x03, .octets, .ro, [(0, 32, 1)], (.oct []), 0, 2, 0, false, false⟩, -- PMBUS_STATUS
  ⟨0x8200, 1, 0x01, .u8, .rw, [(0, 0, 1), (1, 1, 1)], (.num 0), 0, 2, 0, false, true⟩, -- DPX_ENABLE
  ⟨0x8200, 1, 0x02, .u16, .rw, [(0, 511, 1)], (.num 0), 0, 2, 0, false, true⟩, -- PARTNER_DEV
  ⟨0x8200, 1, 0x03, .u32, .rw, [(1000, 3600000, 1)], (.num 10000), 0, 2, 0, false, true⟩, -- SETTLE_T
  ⟨0x8200, 1, 0x04, .u8, .rw, [(0, 0, 1), (1, 1, 1)], (.num 1), 0, 2, 0, false, true⟩, -- REVERT
  ⟨0x8200, 1, 0x05, .u8, .rw, [(0, 0, 1), (1, 1, 1)], (.num 0), 0, 2, 0, false, true⟩, -- STANDBY_PREP
  ⟨0x8200, 1, 0x06, .u32, .rw, [(100, 1000000, 1)], (.num 1000), 0, 2, 0, false, true⟩, -- WARM_TICKS
  ⟨0x8201, 1, 0x01, .u8, .ro, [(0, 6, 1)], (.num 0), 0, 2, 0, false, false⟩, -- DPX_STATE
  ⟨0x8201, 1, 0x02, .u8, .ro, [(0, 0, 1), (1, 1, 1)], (.num 0), 0, 2, 0, false, false⟩, -- LINK
  ⟨0x8201, 1, 0x03, .u32, .ro, [], (.num 0), 0, 2, 0, false, false⟩, -- CKPT_SEQ
  ⟨0x8201, 1, 0x04, .u32, .ro, [], (.num 0), 0, 2, 0, false, false⟩, -- CKPT_AGE
  ⟨0x8201, 1, 0x05, .u16, .ro, [], (.num 0), 0, 2, 0, false, false⟩, -- DPX_DELAY
  ⟨0x8201, 1, 0x06, .u32, .ro, [], (.num 0), 0, 2, 0, false, false⟩, -- MATCH_RUN
  ⟨0x8201, 1, 0x07, .u32, .ro, [], (.num 0), 0, 2, 0, false, false⟩, -- TAKEOVERS
  ⟨0x8201, 1, 0x08, .octets, .ro, [(24, 24, 1)], (.oct (List.replicate 24 0)), 0, 2, 0, false, false⟩, -- LAST_TAKEOVER
  ⟨0x8201, 1, 0x09, .u64, .ro, [], (.num 0), 0, 2, 0, false, false⟩, -- HANDBACK_B
  ⟨0x8201, 1, 0x0A, .u32, .ro, [], (.num 0), 0, 2, 0, false, false⟩, -- CKPT_ERRORS
  ⟨0x8202, 1, 0x01, .u8, .wo, [(1, 1, 1)], (.num 0), 0, 2, 0, false, false⟩] -- SWITCHOVER

/-- Objects of chapter 16, part 1. -/
def dict24 : List ObjRow := [
  ⟨0x7100, 1, 0x01, .u64, .ro, [], (.num 0), 9, 2, 0, false, false⟩, -- NEWEST
  ⟨0x7100, 1, 0x02, .u64, .ro, [], (.num 1), 9, 2, 0, false, false⟩, -- OLDEST
  ⟨0x7100, 1, 0x03, .u8, .ro, [], (.num 0), 9, 2, 0, false, false⟩, -- REC_STATE
  ⟨0x7100, 1, 0x04, .u8, .ro, [(0, 32, 1)], (.num 0), 9, 2, 0, false, false⟩, -- MARGIN_N
  ⟨0x7100, 1, 0x05, .u32, .ro, [], (.num 0), 9, 2, 0, false, false⟩, -- DROPPED
  ⟨0x7100, 1, 0x06, .u32, .ro, [], (.num 0), 9, 2, 0, false, false⟩, -- SUPPRESSED_N
  ⟨0x7100, 1, 0x07, .u64, .ro, [], (.num 0), 9, 2, 0, false, false⟩, -- FLOOR
  ⟨0x7101, 1, 0x01, .u64, .rw, [], (.num 0), 9, 1, 0, false, false⟩, -- CURSOR
  ⟨0x7101, 1, 0x02, .u8, .rw, [(0, 0, 1), (1, 1, 1)], (.num 1), 9, 1, 0, false, false⟩, -- ADVANCE
  ⟨0x7101, 1, 0x03, .octets, .ro, [(272, 272, 1)], (.oct (List.replicate 272 0)), 9, 2, 1, false, false⟩, -- WINDOW
  ⟨0x7102, 1, 0x01, .u32, .wo, [], (.num 0), 9, 3, 0, false, false⟩, -- CLEAR
  ⟨0x7103, 1, 0x01, .u16, .rw, [(1, 10000, 1)], (.num 50), 9, 2, 0, false, true⟩, -- RATE_NOTE
  ⟨0x7103, 1, 0x02, .u8, .rw, [(1, 255, 1)], (.num 16), 9, 2, 0, false, true⟩, -- BURST_NOTE
  ⟨0x7103, 1, 0x03, .u16, .rw, [(1, 10000, 1)], (.num 200), 9, 2, 0, false, true⟩, -- RATE_WARN
  ⟨0x7103, 1, 0x04, .u8, .rw, [(1, 255, 1)], (.num 64), 9, 2, 0, false, true⟩, -- BURST_WARN
  ⟨0x7104, 1, 0x01, .octets, .rwStop, [(0, 96, 1)], (.oct []), 9, 2, 0, false, true⟩] -- RL_OVERRIDE

/-- Objects of chapter 17, part 1. -/
def dict25 : List ObjRow := [
  ⟨0x9000, 1, 0x01, .u8, .ro, [(0, 0, 1), (1, 1, 1)], (.num 0), 0, 2, 0, false, false⟩, -- BOOT_IMAGE
  ⟨0x9000, 1, 0x02, .u16, .ro, [(0, 63, 1)], (.num 0), 0, 2, 0, false, false⟩, -- SEC_SVN
  ⟨0x9000, 1, 0x03, .u8, .ro, [(0, 0, 1), (1, 1, 1), (255, 255, 1)], (.num 255), 0, 2, 0, false, false⟩, -- APP_SLOT
  ⟨0x9000, 1, 0x04, .u16, .ro, [(0, 63, 1)], (.num 0), 0, 2, 0, false, false⟩, -- FUSED_SVN
  ⟨0x9000, 1, 0x05, .octets, .ro, [(96, 96, 1)], (.oct (List.replicate 96 0)), 0, 2, 0, false, false⟩, -- MEASURE
  ⟨0x9000, 1, 0x06, .u8, .ro, [(0, 0, 1), (1, 1, 1)], (.num 0), 0, 2, 0, false, false⟩, -- DEBUG_LOCK
  ⟨0x9001, 1, 0x01, .octets, .rwPriv, [(256, 256, 1)], (.oct (List.replicate 256 0)), 0, 3, 0, false, false⟩, -- OWNER_KEYS
  ⟨0x9001, 1, 0x02, .octets, .ro, [(48, 48, 1)], (.oct (List.replicate 48 0)), 0, 2, 0, false, false⟩, -- OWNER_HASH
  ⟨0x9001, 1, 0x03, .u32, .rwPriv, [], (.num 0), 0, 3, 0, false, false⟩, -- CRED_MIN_GEN
  ⟨0x9001, 1, 0x04, .u32, .rwPriv, [(10, 86400, 1)], (.num 600), 0, 3, 0, false, false⟩, -- SESSION_IDLE
  ⟨0x9001, 1, 0x05, .u16, .rwPriv, [(0, 63, 1)], (.num 0), 0, 3, 0, false, false⟩, -- APP_MIN_SVN
  ⟨0x9001, 1, 0x06, .u16, .wo, [(0, 63, 1)], (.num 0), 0, 3, 0, false, false⟩, -- FUSE_SVN
  ⟨0x9001, 1, 0x07, .u32, .wo, [(1280262987, 1280262987, 1)], (.num 0), 0, 3, 0, false, false⟩, -- DEBUG_LOCK_SET
  ⟨0x9002, 1, 0x01, .octets, .ro, [(256, 256, 1)], (.oct (List.replicate 256 0)), 0, 2, 0, false, false⟩, -- COLOPHON
  ⟨0x9002, 1, 0x02, .octets, .ro, [(1024, 1024, 1)], (.oct (List.replicate 1024 0)), 0, 2, 0, false, false⟩, -- COLOPHON_SIG_0
  ⟨0x9002, 1, 0x03, .octets, .ro, [(844, 844, 1)], (.oct (List.replicate 844 0)), 0, 2, 0, false, false⟩, -- COLOPHON_SIG_1
  ⟨0x9002, 1, 0x04, .u32, .ro, [(0, 1048576, 1)], (.num 0), 0, 2, 0, false, false⟩, -- LMS_NEXT
  ⟨0x9010, 1, 0x01, .octets, .wo, [(32, 32, 1)], (.oct (List.replicate 32 0)), 0, 1, 0, false, false⟩, -- ATTEST_REQUEST
  ⟨0x9010, 1, 0x02, .u8, .ro, [(0, 6, 1)], (.num 0), 0, 2, 0, false, false⟩, -- ATTEST_STATE
  ⟨0x9010, 1, 0x03, .u8, .ro, [(0, 16, 1)], (.num 0), 0, 2, 0, false, false⟩, -- ATTEST_TOKENS
  ⟨0x9010, 1, 0x04, .octets, .ro, [(1024, 1024, 1)], (.oct (List.replicate 1024 0)), 0, 2, 0, false, false⟩, -- ATTEST_PART0
  ⟨0x9010, 1, 0x05, .octets, .ro, [(1024, 1024, 1)], (.oct (List.replicate 1024 0)), 0, 2, 0, false, false⟩, -- ATTEST_PART1
  ⟨0x9010, 1, 0x06, .octets, .ro, [(76, 76, 1)], (.oct (List.replicate 76 0)), 0, 2, 0, false, false⟩, -- ATTEST_PART2
  ⟨0x9020, 1, 0x01, .octets, .ro, [(0, 272, 34)], (.oct []), 0, 2, 0, false, false⟩, -- SESSIONS
  ⟨0x9020, 1, 0x02, .u32, .wo, [], (.num 0), 0, 3, 0, false, false⟩] -- SESSION_CLOSE

/-- Objects of chapter 18, part 1. -/
def dict26 : List ObjRow := [
  ⟨0x1400, 2, 0x01, .u16, .rw, [(100, 20000, 1)], (.num 2000), 0, 2, 0, false, true⟩, -- PS_RATE
  ⟨0x1400, 2, 0x02, .u8, .rw, [(1, 64, 1)], (.num 16), 0, 2, 0, false, true⟩, -- PS_BURST
  ⟨0x1400, 2, 0x03, .u16, .rw, [(100, 20000, 1)], (.num 2000), 0, 2, 0, false, true⟩, -- SL_RATE
  ⟨0x1400, 2, 0x04, .u8, .rw, [(1, 64, 1)], (.num 16), 0, 2, 0, false, true⟩, -- SL_BURST
  ⟨0x1400, 2, 0x05, .u16, .rw, [(10, 1000, 1)], (.num 64), 0, 2, 0, false, true⟩, -- PTP_RATE
  ⟨0x1400, 2, 0x06, .u32, .rw, [(0, 100000, 1)], (.num 10000), 0, 2, 0, false, true⟩, -- OTHER_RATE
  ⟨0x1400, 2, 0x07, .u32, .ro, [], (.num 0), 0, 2, 0, false, false⟩, -- POLICE_DROPS
  ⟨0xA000, 1, 0x01, .octets, .ro, [(18, 18, 1)], (.oct (List.replicate 18 0)), 0, 2, 0, false, false⟩, -- FENCE_MAP
  ⟨0xA000, 1, 0x02, .u32, .ro, [], (.num 0), 0, 2, 0, false, false⟩, -- PAR_RETRIES
  ⟨0xA000, 1, 0x03, .u32, .ro, [], (.num 0), 0, 2, 0, false, false⟩, -- ECC_CORRECTED
  ⟨0xA000, 1, 0x04, .u32, .ro, [], (.num 0), 0, 2, 0, false, false⟩, -- DISCARDED
  ⟨0xA000, 1, 0x05, .u8, .ro, [(0, 5, 1)], (.num 0), 0, 2, 0, false, false⟩, -- ESCALATION
  ⟨0xA010, 1, 0x01, .u32, .rw, [(10, 100000, 1)], (.num 100), 0, 3, 0, false, true⟩, -- SEM_LEASE
  ⟨0xA010, 1, 0x02, .u32, .rw, [(10, 100000, 1)], (.num 100), 0, 3, 0, false, true⟩] -- QUEUE_STALL

/-- The whole dictionary. -/
def dictionary : List ObjRow :=
  dict00 ++ dict01 ++ dict02 ++ dict03 ++ dict04 ++ dict05 ++ dict06 ++ dict07 ++ dict08 ++ dict09 ++ dict10 ++ dict11 ++ dict12 ++ dict13 ++ dict14 ++ dict15 ++ dict16 ++ dict17 ++ dict18 ++ dict19 ++ dict20 ++ dict21 ++ dict22 ++ dict23 ++ dict24 ++ dict25 ++ dict26

/-- The row of an index and subindex. -/
def findObj (idx sub : Nat) : Option ObjRow :=
  dictionary.find? (fun r => r.base ≤ idx && idx < r.base + r.cnt && r.sub == sub)

/-- An index that holds at least one object. -/
def hasIndex (idx : Nat) : Bool := dictionary.any (fun r => r.base ≤ idx && idx < r.base + r.cnt)

/-- The key of an object in State.objs: channel, index, subindex. -/
def objKey (idx sub chan : Nat) : Nat := chan * 0x1000000 + idx * 0x100 + sub

/-- Defaults that depend on the channel: the limits of Table 10-4 and the dividers of Table 11-1. -/
def chanDefault (idx sub chan : Nat) : Option Val :=
  if idx = 0x4001 && sub = 0x10 then
    some (.num (match chan with
      | 17 => 1188000 | 18 => 760000 | 19 => 855000 | 20 => 1710000 | 21 => 1680000 | _ => 0))
  else if idx = 0x4001 && sub = 0x11 then
    some (.num (match chan with
      | 17 => 1212000 | 18 => 840000 | 19 => 945000 | 20 => 1890000 | 21 => 1920000 | _ => 0))
  else if idx = 0x8001 && sub = 1 then
    some (.num (match chan with | 0 => 120 | 1 => 125 | 2 => 120 | _ => 100))
  else if idx = 0x8001 && sub = 2 then
    some (.num (match chan with | 0 => 6 | 1 => 20 | 2 => 24 | _ => 20))
  else if idx = 0x8001 && sub = 3 then
    some (.num (if chan = 0 then 30 else 0))
  else if idx = 0x8001 && sub = 6 then
    some (.oct (Config.factoryBand chan))
  else none

/-- What an object that State.objs does not list reads as: its default. -/
def objDefault (key : Nat) : Val :=
  let chan := key / 0x1000000
  let idx := key / 0x100 % 0x10000
  let sub := key % 0x100
  match chanDefault idx sub chan with
  | some v => v
  | none => match findObj idx sub with
    | some r => r.dflt
    | none => .num 0

/-- A live value; d is the object's default, written at the place of use. -/
def State.obj (s : State) (key : Nat) (d : Val) : Val := tget (fun _ => d) s.objs key

/-- The number a value holds. -/
def Val.int : Val → Int
  | .num n => n
  | .oct _ => 0

/-- The bytes a value holds. -/
def Val.bytes : Val → List Nat
  | .num _ => []
  | .oct b => b

/-- The live value of an object with its default from the dictionary. -/
def State.val (s : State) (idx sub chan : Nat) : Val := tget objDefault s.objs (objKey idx sub chan)

/-- A live value written, in canonical form. -/
def State.setObj (s : State) (idx sub chan : Nat) (v : Val) : State :=
  { s with objs := tput objDefault s.objs (objKey idx sub chan) v }

end Sys2Proof.Machine
end

