-- ==== Sys2Proof/Machine/Settings.lean ====
section
/-! DEFINITION. One accessor per settable object, under the manual's name of the object: its live value, or its default
where nothing has written it (the object tables of 02 to 18). c is the channel, i the instance. -/
namespace Sys2Proof.Machine.State

/-- TICK_LENGTH, 0x1203:01 (Table 3-3). -/
def TICK_LENGTH (s : State) : Nat := (s.obj 0x120301 (.num 1)).int.toNat
/-- F_NOM, 0x2000:01 (Table 4-8). -/
def F_NOM (s : State) : Nat := (s.obj 0x200001 (.num 50)).int.toNat
/-- FORM_PERIOD, 0x2000:02 (Table 4-8). -/
def FORM_PERIOD (s : State) : Nat := (s.obj 0x200002 (.num 10)).int.toNat
/-- V_BASE, 0x2000:03 (Table 4-8). -/
def V_BASE (s : State) : Nat := (s.obj 0x200003 (.num 0)).int.toNat
/-- I_BASE, 0x2000:04 (Table 4-8). -/
def I_BASE (s : State) : Nat := (s.obj 0x200004 (.num 0)).int.toNat
/-- P_SET, 0x2002:01 (Table 4-8). -/
def P_SET (s : State) : Int := (s.obj 0x200201 (.num 0)).int
/-- Q_SET, 0x2002:02 (Table 4-8). -/
def Q_SET (s : State) : Int := (s.obj 0x200202 (.num 0)).int
/-- V_SET0, 0x2002:03 (Table 4-8). -/
def V_SET0 (s : State) : Int := (s.obj 0x200203 (.num 16777216)).int
/-- W_SET, 0x2002:04 (Table 4-8). -/
def W_SET (s : State) : Int := (s.obj 0x200204 (.num 16777216)).int
/-- H, 0x2003:01 (Table 4-8). -/
def H (s : State) : Nat := (s.obj 0x200301 (.num 5000000)).int.toNat
/-- T_D, 0x2003:02 (Table 4-8). -/
def T_D (s : State) : Nat := (s.obj 0x200302 (.num 1000000)).int.toNat
/-- T_PQ, 0x2003:03 (Table 4-8). -/
def T_PQ (s : State) : Nat := (s.obj 0x200303 (.num 1000)).int.toNat
/-- T_V, 0x2003:04 (Table 4-8). -/
def T_V (s : State) : Nat := (s.obj 0x200304 (.num 1000)).int.toNat
/-- T_G, 0x2003:05 (Table 4-8). -/
def T_G (s : State) : Nat := (s.obj 0x200305 (.num 20000)).int.toNat
/-- T_DC, 0x2003:06 (Table 4-8). -/
def T_DC (s : State) : Nat := (s.obj 0x200306 (.num 1000)).int.toNat
/-- K_PV, 0x2003:07 (Table 4-8). -/
def K_PV (s : State) : Int := (s.obj 0x200307 (.num 8388608)).int
/-- K_IV, 0x2003:08 (Table 4-8). -/
def K_IV (s : State) : Int := (s.obj 0x200308 (.num 335544320)).int
/-- W_TRIP, 0x2003:09 (Table 4-8). -/
def W_TRIP (s : State) : Int := (s.obj 0x200309 (.num 1677722)).int
/-- PCC_CH_A, 0x2001:01 (Table 4-9). -/
def PCC_CH_A (s : State) : Nat := (s.obj 0x200101 (.num 255)).int.toNat
/-- PCC_CH_B, 0x2001:02 (Table 4-9). -/
def PCC_CH_B (s : State) : Nat := (s.obj 0x200102 (.num 255)).int.toNat
/-- PCC_CH_C, 0x2001:03 (Table 4-9). -/
def PCC_CH_C (s : State) : Nat := (s.obj 0x200103 (.num 255)).int.toNat
/-- LINE_CH_A, 0x2001:04 (Table 4-9). -/
def LINE_CH_A (s : State) : Nat := (s.obj 0x200104 (.num 255)).int.toNat
/-- LINE_CH_B, 0x2001:05 (Table 4-9). -/
def LINE_CH_B (s : State) : Nat := (s.obj 0x200105 (.num 255)).int.toNat
/-- LINE_CH_C, 0x2001:06 (Table 4-9). -/
def LINE_CH_C (s : State) : Nat := (s.obj 0x200106 (.num 255)).int.toNat
/-- DC_CH_P, 0x2001:07 (Table 4-9). -/
def DC_CH_P (s : State) : Nat := (s.obj 0x200107 (.num 255)).int.toNat
/-- DC_CH_N, 0x2001:08 (Table 4-9). -/
def DC_CH_N (s : State) : Nat := (s.obj 0x200108 (.num 255)).int.toNat
/-- V_SCALE, 0x2001:09 (Table 4-9). -/
def V_SCALE (s : State) : Int := (s.obj 0x200109 (.num 16777216)).int
/-- DC_SCALE, 0x2001:0A (Table 4-9). -/
def DC_SCALE (s : State) : Int := (s.obj 0x20010A (.num 16777216)).int
/-- BRK_PIN, 0x2001:0C (Table 4-9). -/
def BRK_PIN (s : State) : Nat := (s.obj 0x20010C (.num 255)).int.toNat
/-- CLOSE_PIN, 0x2001:0D (Table 4-9). -/
def CLOSE_PIN (s : State) : Nat := (s.obj 0x20010D (.num 255)).int.toNat
/-- PCC_PUB, 0x2001:0E (Table 4-9). -/
def PCC_PUB (s : State) : Nat := (s.obj 0x20010E (.num 0)).int.toNat
/-- PCC_PUB_ALT, 0x2001:0F (Table 4-9). -/
def PCC_PUB_ALT (s : State) : Nat := (s.obj 0x20010F (.num 0)).int.toNat
/-- LINE_PUB, 0x2001:10 (Table 4-9). -/
def LINE_PUB (s : State) : Nat := (s.obj 0x200110 (.num 0)).int.toNat
/-- LINE_PUB_ALT, 0x2001:11 (Table 4-9). -/
def LINE_PUB_ALT (s : State) : Nat := (s.obj 0x200111 (.num 0)).int.toNat
/-- DC_PUB, 0x2001:12 (Table 4-9). -/
def DC_PUB (s : State) : Nat := (s.obj 0x200112 (.num 0)).int.toNat
/-- DC_PUB_ALT, 0x2001:13 (Table 4-9). -/
def DC_PUB_ALT (s : State) : Nat := (s.obj 0x200113 (.num 0)).int.toNat
/-- PCC_SHIFT, 0x2001:14 (Table 4-9). -/
def PCC_SHIFT (s : State) : Nat := (s.obj 0x200114 (.num 0)).int.toNat
/-- BS_ENABLE, 0x2005:01 (Table 4-11). -/
def BS_ENABLE (s : State) : Nat := (s.obj 0x200501 (.num 0)).int.toNat
/-- BS_DEADCLOSE, 0x2005:02 (Table 4-11). -/
def BS_DEADCLOSE (s : State) : Nat := (s.obj 0x200502 (.num 0)).int.toNat
/-- BS_RAMP, 0x2005:03 (Table 4-11). -/
def BS_RAMP (s : State) : Nat := (s.obj 0x200503 (.num 2000000)).int.toNat
/-- BS_V0, 0x2005:04 (Table 4-11). -/
def BS_V0 (s : State) : Int := (s.obj 0x200504 (.num 0)).int
/-- BS_STALL, 0x2005:05 (Table 4-11). -/
def BS_STALL (s : State) : Nat := (s.obj 0x200505 (.num 1000000)).int.toNat
/-- V_DEAD, 0x2005:06 (Table 4-11). -/
def V_DEAD (s : State) : Int := (s.obj 0x200506 (.num 1677722)).int
/-- V_LIVE, 0x2005:07 (Table 4-11). -/
def V_LIVE (s : State) : Int := (s.obj 0x200507 (.num 13421773)).int
/-- K_SYNC, 0x2006:01 (Table 4-11). -/
def K_SYNC (s : State) : Int := (s.obj 0x200601 (.num 33554432)).int
/-- SYNC_DV, 0x2006:02 (Table 4-11). -/
def SYNC_DV (s : State) : Int := (s.obj 0x200602 (.num 838861)).int
/-- SYNC_DF, 0x2006:03 (Table 4-11). -/
def SYNC_DF (s : State) : Int := (s.obj 0x200603 (.num 33554)).int
/-- SYNC_DTH, 0x2006:04 (Table 4-11). -/
def SYNC_DTH (s : State) : Nat := (s.obj 0x200604 (.num 119304647)).int.toNat
/-- SYNC_TCLOSE, 0x2006:05 (Table 4-11). -/
def SYNC_TCLOSE (s : State) : Nat := (s.obj 0x200605 (.num 60000)).int.toNat
/-- SYNC_DWELL, 0x2006:06 (Table 4-11). -/
def SYNC_DWELL (s : State) : Nat := (s.obj 0x200606 (.num 20000)).int.toNat
/-- SYNC_PULSE, 0x2006:07 (Table 4-11). -/
def SYNC_PULSE (s : State) : Nat := (s.obj 0x200607 (.num 200000)).int.toNat
/-- SYNC_FB_TIMEOUT, 0x2006:08 (Table 4-11). -/
def SYNC_FB_TIMEOUT (s : State) : Nat := (s.obj 0x200608 (.num 500000)).int.toNat
/-- SYNC_TIMEOUT, 0x2006:09 (Table 4-11). -/
def SYNC_TIMEOUT (s : State) : Nat := (s.obj 0x200609 (.num 60000000)).int.toNat
/-- SYNC_RETRY, 0x2006:0A (Table 4-11). -/
def SYNC_RETRY (s : State) : Nat := (s.obj 0x20060A (.num 2)).int.toNat
/-- RIDE_V_LO, 0x2007:01 (Table 4-11). -/
def RIDE_V_LO (s : State) : Int := (s.obj 0x200701 (.num 14260634)).int
/-- RIDE_V_HI, 0x2007:02 (Table 4-11). -/
def RIDE_V_HI (s : State) : Int := (s.obj 0x200702 (.num 20132659)).int
/-- RIDE_N_IN, 0x2007:03 (Table 4-11). -/
def RIDE_N_IN (s : State) : Nat := (s.obj 0x200703 (.num 2)).int.toNat
/-- RIDE_V_OUT, 0x2007:04 (Table 4-11). -/
def RIDE_V_OUT (s : State) : Int := (s.obj 0x200704 (.num 15099494)).int
/-- RIDE_V_OUT_HI, 0x2007:05 (Table 4-11). -/
def RIDE_V_OUT_HI (s : State) : Int := (s.obj 0x200705 (.num 19293798)).int
/-- RIDE_T_CLEAR, 0x2007:06 (Table 4-11). -/
def RIDE_T_CLEAR (s : State) : Nat := (s.obj 0x200706 (.num 20000)).int.toNat
/-- T_REC, 0x2007:07 (Table 4-11). -/
def T_REC (s : State) : Nat := (s.obj 0x200707 (.num 50000)).int.toNat
/-- RIDE_T_MAX, 0x2007:08 (Table 4-11). -/
def RIDE_T_MAX (s : State) : Nat := (s.obj 0x200708 (.num 3000000)).int.toNat
/-- R_V_RIDE, 0x2007:09 (Table 4-11). -/
def R_V_RIDE (s : State) : Int := (s.obj 0x200709 (.num 335544)).int
/-- X_V_RIDE, 0x2007:0A (Table 4-11). -/
def X_V_RIDE (s : State) : Int := (s.obj 0x20070A (.num 5033165)).int
/-- D_RIDE, 0x2007:0B (Table 4-11). -/
def D_RIDE (s : State) : Int := (s.obj 0x20070B (.num 1677721600)).int
/-- P_ENABLE, 0x2010:01 (Table 5-3). -/
def P_ENABLE (s : State) : Nat := (s.obj 0x201001 (.num 15)).int.toNat
/-- U_DC_LO, 0x2010:02 (Table 5-3). -/
def U_DC_LO (s : State) : Int := (s.obj 0x201002 (.num 18454938)).int
/-- U_DC_HI, 0x2010:03 (Table 5-3). -/
def U_DC_HI (s : State) : Int := (s.obj 0x201003 (.num 23488102)).int
/-- W_ARM_LO, 0x2010:04 (Table 5-3). -/
def W_ARM_LO (s : State) : Int := (s.obj 0x201004 (.num 14260634)).int
/-- W_ARM_HI, 0x2010:05 (Table 5-3). -/
def W_ARM_HI (s : State) : Int := (s.obj 0x201005 (.num 19293798)).int
/-- I_MAX_P, 0x2010:06 (Table 5-3). -/
def I_MAX_P (s : State) : Int := (s.obj 0x201006 (.num 16777216)).int
/-- I_MAX_E, 0x2010:07 (Table 5-3). -/
def I_MAX_E (s : State) : Int := (s.obj 0x201007 (.num 18454938)).int
/-- W_BAND_LO, 0x2010:08 (Table 5-3). -/
def W_BAND_LO (s : State) : Int := (s.obj 0x201008 (.num 16106127)).int
/-- W_BAND_HI, 0x2010:09 (Table 5-3). -/
def W_BAND_HI (s : State) : Int := (s.obj 0x201009 (.num 17448305)).int
/-- V_OV, 0x2010:0A (Table 5-3). -/
def V_OV (s : State) : Int := (s.obj 0x20100A (.num 19293798)).int
/-- S_QMAX, 0x2010:0B (Table 5-3). -/
def S_QMAX (s : State) : Int := (s.obj 0x20100B (.num 16777216)).int
/-- E_MIN, 0x2010:0C (Table 5-3). -/
def E_MIN (s : State) : Int := (s.obj 0x20100C (.num 0)).int
/-- E_MAX, 0x2010:0D (Table 5-3). -/
def E_MAX (s : State) : Int := (s.obj 0x20100D (.num 25165824)).int
/-- P_ABS, 0x2010:0E (Table 5-3). -/
def P_ABS (s : State) : Int := (s.obj 0x20100E (.num 25165824)).int
/-- T_BUMP, 0x2010:0F (Table 5-3). -/
def T_BUMP (s : State) : Nat := (s.obj 0x20100F (.num 10000)).int.toNat
/-- H_V, 0x2010:10 (Table 5-3). -/
def H_V (s : State) : Int := (s.obj 0x201010 (.num 167772)).int
/-- H_L, 0x2010:11 (Table 5-3). -/
def H_L (s : State) : Int := (s.obj 0x201011 (.num 335544)).int
/-- T_DWELL, 0x2010:12 (Table 5-3). -/
def T_DWELL (s : State) : Nat := (s.obj 0x201012 (.num 20000)).int.toNat
/-- KP_P2, 0x2013:01 (Table 5-4). -/
def KP_P2 (s : State) : Int := (s.obj 0x201301 (.num 83886080)).int
/-- KP_P3, 0x2013:02 (Table 5-4). -/
def KP_P3 (s : State) : Int := (s.obj 0x201302 (.num 83886080)).int
/-- KP_P4, 0x2013:03 (Table 5-4). -/
def KP_P4 (s : State) : Int := (s.obj 0x201303 (.num 16777216)).int
/-- KP_P5, 0x2013:04 (Table 5-4). -/
def KP_P5 (s : State) : Int := (s.obj 0x201304 (.num 838860800)).int
/-- KP_E2, 0x2013:05 (Table 5-4). -/
def KP_E2 (s : State) : Int := (s.obj 0x201305 (.num 3355443)).int
/-- KP_E3, 0x2013:06 (Table 5-4). -/
def KP_E3 (s : State) : Int := (s.obj 0x201306 (.num 16777216)).int
/-- KP_E4, 0x2013:07 (Table 5-4). -/
def KP_E4 (s : State) : Int := (s.obj 0x201307 (.num 3355443)).int
/-- KI_P2, 0x2013:08 (Table 5-4). -/
def KI_P2 (s : State) : Int := (s.obj 0x201308 (.num 3355443200)).int
/-- KI_P3, 0x2013:09 (Table 5-4). -/
def KI_P3 (s : State) : Int := (s.obj 0x201309 (.num 838860800)).int
/-- KI_P4, 0x2013:0A (Table 5-4). -/
def KI_P4 (s : State) : Int := (s.obj 0x20130A (.num 8388608000)).int
/-- KI_P5, 0x2013:0B (Table 5-4). -/
def KI_P5 (s : State) : Int := (s.obj 0x20130B (.num 16777216000)).int
/-- KI_E2, 0x2013:0C (Table 5-4). -/
def KI_E2 (s : State) : Int := (s.obj 0x20130C (.num 3355443200)).int
/-- KI_E3, 0x2013:0D (Table 5-4). -/
def KI_E3 (s : State) : Int := (s.obj 0x20130D (.num 8388608000)).int
/-- KI_E4, 0x2013:0E (Table 5-4). -/
def KI_E4 (s : State) : Int := (s.obj 0x20130E (.num 3355443200)).int
/-- ENABLE, 0x2020:01 (Table 5-5). -/
def ENABLE (s : State) (i : Nat) : Nat := (s.obj (0x202001 + i * 0x100) (.num (if i = 0 then 1 else 0))).int.toNat
/-- V_LO, 0x2020:02 (Table 5-5). -/
def V_LO (s : State) (i : Nat) : Int := (s.obj (0x202002 + i * 0x100) (.num 0)).int
/-- V_HI, 0x2020:03 (Table 5-5). -/
def V_HI (s : State) (i : Nat) : Int := (s.obj (0x202003 + i * 0x100) (.num 33554432)).int
/-- L_LO, 0x2020:04 (Table 5-5). -/
def L_LO (s : State) (i : Nat) : Int := (s.obj (0x202004 + i * 0x100) (.num 0)).int
/-- L_HI, 0x2020:05 (Table 5-5). -/
def L_HI (s : State) (i : Nat) : Int := (s.obj (0x202005 + i * 0x100) (.num 33554432)).int
/-- K_P, 0x2020:06 (Table 5-5). -/
def K_P (s : State) (i : Nat) : Int := (s.obj (0x202006 + i * 0x100) (.num 335544320)).int
/-- K_Q, 0x2020:07 (Table 5-5). -/
def K_Q (s : State) (i : Nat) : Int := (s.obj (0x202007 + i * 0x100) (.num 838861)).int
/-- D, 0x2020:08 (Table 5-5). -/
def D (s : State) (i : Nat) : Int := (s.obj (0x202008 + i * 0x100) (.num 1006632960)).int
/-- R_V, 0x2020:09 (Table 5-5). -/
def R_V (s : State) (i : Nat) : Int := (s.obj (0x202009 + i * 0x100) (.num 167772)).int
/-- X_V, 0x2020:0A (Table 5-5). -/
def X_V (s : State) (i : Nat) : Int := (s.obj (0x20200A + i * 0x100) (.num 2516582)).int
/-- HBAND, 0x2020:0B (Table 5-5). -/
def HBAND (s : State) (i : Nat) : Int := (s.obj (0x20200B + i * 0x100) (.num 335544)).int
/-- M_P2, 0x2020:0C (Table 5-5). -/
def M_P2 (s : State) (i : Nat) : Int := (s.obj (0x20200C + i * 0x100) (.num 335544)).int
/-- M_P3, 0x2020:0D (Table 5-5). -/
def M_P3 (s : State) (i : Nat) : Int := (s.obj (0x20200D + i * 0x100) (.num 335544)).int
/-- M_P4, 0x2020:0E (Table 5-5). -/
def M_P4 (s : State) (i : Nat) : Int := (s.obj (0x20200E + i * 0x100) (.num 335544)).int
/-- M_P5, 0x2020:0F (Table 5-5). -/
def M_P5 (s : State) (i : Nat) : Int := (s.obj (0x20200F + i * 0x100) (.num 335544)).int
/-- M_E1, 0x2020:10 (Table 5-5). -/
def M_E1 (s : State) (i : Nat) : Int := (s.obj (0x202010 + i * 0x100) (.num 335544)).int
/-- M_E2, 0x2020:11 (Table 5-5). -/
def M_E2 (s : State) (i : Nat) : Int := (s.obj (0x202011 + i * 0x100) (.num 335544)).int
/-- M_E3, 0x2020:12 (Table 5-5). -/
def M_E3 (s : State) (i : Nat) : Int := (s.obj (0x202012 + i * 0x100) (.num 335544)).int
/-- M_E4, 0x2020:13 (Table 5-5). -/
def M_E4 (s : State) (i : Nat) : Int := (s.obj (0x202013 + i * 0x100) (.num 335544)).int
/-- EXT_ENABLE, 0x2030:01 (Table 5-8). -/
def EXT_ENABLE (s : State) : Nat := (s.obj 0x203001 (.num 0)).int.toNat
/-- EXT_RESTORE, 0x2030:05 (Table 5-8). -/
def EXT_RESTORE (s : State) : Nat := (s.obj 0x203005 (.num 64)).int.toNat
/-- BUDGET, 0x2031:01 (Table 5-8). -/
def BUDGET (s : State) (i : Nat) : Nat := (s.obj (0x203101 + i * 0x100) (.num 0)).int.toNat
/-- ESSENTIAL, 0x2031:02 (Table 5-8). -/
def ESSENTIAL (s : State) (i : Nat) : Nat := (s.obj (0x203102 + i * 0x100) (.num 0)).int.toNat
/-- TARGET, 0x2031:03 (Table 5-8). -/
def TARGET (s : State) (i : Nat) : Nat := (s.obj (0x203103 + i * 0x100) (.num 0)).int.toNat
/-- IMAGE, 0x2031:04 (Table 5-8). -/
def IMAGE (s : State) (i : Nat) : List Nat := (s.obj (0x203104 + i * 0x100) (.oct (List.replicate 1024 0))).bytes
/-- ARM_I_CH, 0x3100:01 (Table 6-4). -/
def ARM_I_CH (s : State) : Nat := (s.obj 0x310001 (.num 255)).int.toNat
/-- ARM_I_SCALE, 0x3100:02 (Table 6-4). -/
def ARM_I_SCALE (s : State) : Int := (s.obj 0x310002 (.num 16777216)).int
/-- ARM_I_INVERT, 0x3100:03 (Table 6-4). -/
def ARM_I_INVERT (s : State) : Nat := (s.obj 0x310003 (.num 0)).int.toNat
/-- ARM_PHASE, 0x3100:04 (Table 6-4). -/
def ARM_PHASE (s : State) : Nat := (s.obj 0x310004 (.num 0)).int.toNat
/-- ARM_POLE, 0x3100:05 (Table 6-4). -/
def ARM_POLE (s : State) : Nat := (s.obj 0x310005 (.num 0)).int.toNat
/-- ARM_LEAD, 0x3100:06 (Table 6-4). -/
def ARM_LEAD (s : State) : Nat := (s.obj 0x310006 (.num 1)).int.toNat
/-- ARM_PARTNER_POS, 0x3100:07 (Table 6-4). -/
def ARM_PARTNER_POS (s : State) : Nat := (s.obj 0x310007 (.num 255)).int.toNat
/-- C_MAX, 0x3100:08 (Table 6-4). -/
def C_MAX (s : State) : Nat := (s.obj 0x310008 (.num 32)).int.toNat
/-- SHARE_MISS_MAX, 0x3100:09 (Table 6-4). -/
def SHARE_MISS_MAX (s : State) : Nat := (s.obj 0x310009 (.num 4)).int.toNat
/-- SUB_T_PCC, 0x2009:01 (Table 6-5). -/
def SUB_T_PCC (s : State) : Nat := (s.obj 0x200901 (.num 20000)).int.toNat
/-- SUB_T_DC, 0x2009:02 (Table 6-5). -/
def SUB_T_DC (s : State) : Nat := (s.obj 0x200902 (.num 100000)).int.toNat
/-- SUB_T_BRK, 0x2009:03 (Table 6-5). -/
def SUB_T_BRK (s : State) : Nat := (s.obj 0x200903 (.num 1000000)).int.toNat
/-- SUB_T_IARM, 0x2009:04 (Table 6-5). -/
def SUB_T_IARM (s : State) : Nat := (s.obj 0x200904 (.num 10000)).int.toNat
/-- C_CELL, 0x3200:01 (Table 7-5). -/
def C_CELL (s : State) : Nat := (s.obj 0x320001 (.num 0)).int.toNat
/-- T_INS_MAX, 0x3200:02 (Table 7-5). -/
def T_INS_MAX (s : State) : Nat := (s.obj 0x320002 (.num 2000)).int.toNat
/-- T_RECHARGE, 0x3200:03 (Table 7-5). -/
def T_RECHARGE (s : State) : Nat := (s.obj 0x320003 (.num 10)).int.toNat
/-- T_BS_RECOVER, 0x3200:04 (Table 7-5). -/
def T_BS_RECOVER (s : State) : Nat := (s.obj 0x320004 (.num 200)).int.toNat
/-- T_DWELL_MIN, 0x3200:05 (Table 7-5). -/
def T_DWELL_MIN (s : State) : Nat := (s.obj 0x320005 (.num 4)).int.toNat
/-- SW_PERIOD, 0x3200:06 (Table 7-5). -/
def SW_PERIOD (s : State) : Nat := (s.obj 0x320006 (.num 2500)).int.toNat
/-- SW_BURST, 0x3200:07 (Table 7-5). -/
def SW_BURST (s : State) : Nat := (s.obj 0x320007 (.num 8)).int.toNat
/-- BAL_BAND, 0x3200:08 (Table 7-5). -/
def BAL_BAND (s : State) : Nat := (s.obj 0x320008 (.num 16)).int.toNat
/-- TEL_STALE, 0x3200:09 (Table 7-5). -/
def TEL_STALE (s : State) : Nat := (s.obj 0x320009 (.num 4)).int.toNat
/-- AV_MIN, 0x3200:0A (Table 7-5). -/
def AV_MIN (s : State) : Nat := (s.obj 0x32000A (.num 0)).int.toNat
/-- CELL_CLASS, 0x3002:01 (Table 7-6). -/
def CELL_CLASS (s : State) (c : Nat) : Nat := (s.obj (c * 0x1000000 + 0x300201) (.num 0)).int.toNat
/-- CELL_PARK, 0x3002:02 (Table 7-6). -/
def CELL_PARK (s : State) (c : Nat) : Nat := (s.obj (c * 0x1000000 + 0x300202) (.num 0)).int.toNat
/-- TRUNK_ENABLE, 0x3300:01 (Table 8-16). -/
def TRUNK_ENABLE (s : State) : Nat := (s.obj 0x330001 (.num 0)).int.toNat
/-- APPLY_DELAY, 0x3300:02 (Table 8-16). -/
def APPLY_DELAY (s : State) : Nat := (s.obj 0x330002 (.num 3)).int.toNat
/-- LINK_MISS_MAX, 0x3300:03 (Table 8-16). -/
def LINK_MISS_MAX (s : State) : Nat := (s.obj 0x330003 (.num 4)).int.toNat
/-- QUIRE_LOSS_MAX, 0x3300:04 (Table 8-16). -/
def QUIRE_LOSS_MAX (s : State) : Nat := (s.obj 0x330004 (.num 1)).int.toNat
/-- TEL_LOST, 0x3300:05 (Table 8-16). -/
def TEL_LOST (s : State) : Nat := (s.obj 0x330005 (.num 1000)).int.toNat
/-- VERIFY_T, 0x3300:06 (Table 8-16). -/
def VERIFY_T (s : State) : Nat := (s.obj 0x330006 (.num 1000)).int.toNat
/-- CELL_T_WARN, 0x3300:07 (Table 8-16). -/
def CELL_T_WARN (s : State) : Int := (s.obj 0x330007 (.num 85)).int
/-- DEAD_TIME, 0x3301:01 (Table 8-16). -/
def DEAD_TIME (s : State) : Nat := (s.obj 0x330101 (.num 3000)).int.toNat
/-- PRE_ON, 0x3301:02 (Table 8-16). -/
def PRE_ON (s : State) : Nat := (s.obj 0x330102 (.num 200)).int.toNat
/-- PLAT_I_ON, 0x3301:03 (Table 8-16). -/
def PLAT_I_ON (s : State) : Nat := (s.obj 0x330103 (.num 25)).int.toNat
/-- PLAT_T_ON, 0x3301:04 (Table 8-16). -/
def PLAT_T_ON (s : State) : Nat := (s.obj 0x330104 (.num 1000)).int.toNat
/-- PRE_OFF, 0x3301:05 (Table 8-16). -/
def PRE_OFF (s : State) : Nat := (s.obj 0x330105 (.num 200)).int.toNat
/-- PLAT_I_OFF, 0x3301:06 (Table 8-16). -/
def PLAT_I_OFF (s : State) : Nat := (s.obj 0x330106 (.num 25)).int.toNat
/-- PLAT_T_OFF, 0x3301:07 (Table 8-16). -/
def PLAT_T_OFF (s : State) : Nat := (s.obj 0x330107 (.num 1500)).int.toNat
/-- DESAT_BLANK, 0x3301:08 (Table 8-16). -/
def DESAT_BLANK (s : State) : Nat := (s.obj 0x330108 (.num 8000)).int.toNat
/-- DESAT_THR, 0x3301:09 (Table 8-16). -/
def DESAT_THR (s : State) : Nat := (s.obj 0x330109 (.num 8000)).int.toNat
/-- UV_LP, 0x3301:0A (Table 8-16). -/
def UV_LP (s : State) : Nat := (s.obj 0x33010A (.num 12500)).int.toNat
/-- UV_LN, 0x3301:0B (Table 8-16). -/
def UV_LN (s : State) : Nat := (s.obj 0x33010B (.num 5000)).int.toNat
/-- UV_UP, 0x3301:0C (Table 8-16). -/
def UV_UP (s : State) : Nat := (s.obj 0x33010C (.num 12500)).int.toNat
/-- UV_UN, 0x3301:0D (Table 8-16). -/
def UV_UN (s : State) : Nat := (s.obj 0x33010D (.num 5000)).int.toNat
/-- BS_GOOD_THR, 0x3301:0E (Table 8-16). -/
def BS_GOOD_THR (s : State) : Nat := (s.obj 0x33010E (.num 14000)).int.toNat
/-- TRICKLE_EN, 0x3301:0F (Table 8-16). -/
def TRICKLE_EN (s : State) : Nat := (s.obj 0x33010F (.num 1)).int.toNat
/-- HOLD_T, 0x3301:10 (Table 8-16). -/
def HOLD_T (s : State) : Nat := (s.obj 0x330110 (.num 2000)).int.toNat
/-- POSITION, 0x1300:01 (Table 9-10). -/
def POSITION (s : State) : Nat := (s.obj 0x130001 (.num 0)).int.toNat
/-- LEAD_ENABLE, 0x1300:02 (Table 9-10). -/
def LEAD_ENABLE (s : State) : Nat := (s.obj 0x130002 (.num 1)).int.toNat
/-- TICK_MASTER_EN, 0x1300:03 (Table 9-10). -/
def TICK_MASTER_EN (s : State) : Nat := (s.obj 0x130003 (.num 1)).int.toNat
/-- MARKER_WAIT, 0x1300:04 (Table 9-10). -/
def MARKER_WAIT (s : State) : Nat := (s.obj 0x130004 (.num 10000)).int.toNat
/-- MARKER_MISS_MAX, 0x1300:05 (Table 9-10). -/
def MARKER_MISS_MAX (s : State) : Nat := (s.obj 0x130005 (.num 8)).int.toNat
/-- MARKER_LOSS_TRIP, 0x1300:06 (Table 9-10). -/
def MARKER_LOSS_TRIP (s : State) : Nat := (s.obj 0x130006 (.num 100)).int.toNat
/-- LEAD_WAIT, 0x1300:07 (Table 9-10). -/
def LEAD_WAIT (s : State) : Nat := (s.obj 0x130007 (.num 1000)).int.toNat
/-- ARM_STATE_MISS_MAX, 0x1300:08 (Table 9-10). -/
def ARM_STATE_MISS_MAX (s : State) : Nat := (s.obj 0x130008 (.num 4)).int.toNat
/-- W_REF, 0x2040:01 (Table 9-11). -/
def W_REF (s : State) : Int := (s.obj 0x204001 (.num 16777216)).int
/-- KP_S, 0x2040:02 (Table 9-11). -/
def KP_S (s : State) : Int := (s.obj 0x204002 (.num 16777216)).int
/-- KI_S, 0x2040:03 (Table 9-11). -/
def KI_S (s : State) : Int := (s.obj 0x204003 (.num 167772160)).int
/-- KP_H, 0x2040:04 (Table 9-11). -/
def KP_H (s : State) : Int := (s.obj 0x204004 (.num 16777216)).int
/-- KI_H, 0x2040:05 (Table 9-11). -/
def KI_H (s : State) : Int := (s.obj 0x204005 (.num 335544320)).int
/-- KP_V, 0x2040:06 (Table 9-11). -/
def KP_V (s : State) : Int := (s.obj 0x204006 (.num 16777216)).int
/-- KI_V, 0x2040:07 (Table 9-11). -/
def KI_V (s : State) : Int := (s.obj 0x204007 (.num 335544320)).int
/-- P_BAL_MAX, 0x2040:08 (Table 9-11). -/
def P_BAL_MAX (s : State) : Int := (s.obj 0x204008 (.num 1677722)).int
/-- I_CIRC_MAX, 0x2040:09 (Table 9-11). -/
def I_CIRC_MAX (s : State) : Int := (s.obj 0x204009 (.num 1677722)).int
/-- V_CELL_NOM, 0x2040:0A (Table 9-11). -/
def V_CELL_NOM (s : State) : Nat := (s.obj 0x20400A (.num 0)).int.toNat
/-- ARM_CELLS_NOM, 0x2040:0B (Table 9-11). -/
def ARM_CELLS_NOM (s : State) : Nat := (s.obj 0x20400B (.num 0)).int.toNat
/-- AIN_ENABLE, 0x4001:01 (Table 10-7). -/
def AIN_ENABLE (s : State) (c : Nat) : Nat := (s.obj (c * 0x1000000 + 0x400101) (.num 0)).int.toNat
/-- RESPONSE, 0x4001:02 (Table 10-7). -/
def RESPONSE (s : State) (c : Nat) : Nat := (s.obj (c * 0x1000000 + 0x400102) (.num 0)).int.toNat
/-- CMP_ACTION, 0x4001:03 (Table 10-7). -/
def CMP_ACTION (s : State) (c : Nat) : Nat := (s.obj (c * 0x1000000 + 0x400103) (.num 0)).int.toNat
/-- CMP_HI, 0x4001:04 (Table 10-7). -/
def CMP_HI (s : State) (c : Nat) : Int := (s.obj (c * 0x1000000 + 0x400104) (.num 32767)).int
/-- CMP_LO, 0x4001:05 (Table 10-7). -/
def CMP_LO (s : State) (c : Nat) : Int := (s.obj (c * 0x1000000 + 0x400105) (.num (-32768))).int
/-- CMP_HYST, 0x4001:06 (Table 10-7). -/
def CMP_HYST (s : State) (c : Nat) : Nat := (s.obj (c * 0x1000000 + 0x400106) (.num 256)).int.toNat
/-- CMP_CONFIRM, 0x4001:07 (Table 10-7). -/
def CMP_CONFIRM (s : State) (c : Nat) : Nat := (s.obj (c * 0x1000000 + 0x400107) (.num 1)).int.toNat
/-- FROZEN_WIN, 0x4001:08 (Table 10-7). -/
def FROZEN_WIN (s : State) (c : Nat) : Nat := (s.obj (c * 0x1000000 + 0x400108) (.num 0)).int.toNat
/-- SAT_COUNT, 0x4001:09 (Table 10-7). -/
def SAT_COUNT (s : State) (c : Nat) : Nat := (s.obj (c * 0x1000000 + 0x400109) (.num 16)).int.toNat
/-- TEST_T, 0x4001:0A (Table 10-7). -/
def TEST_T (s : State) (c : Nat) : Nat := (s.obj (c * 0x1000000 + 0x40010A) (.num 0)).int.toNat
/-- TEST_DELTA, 0x4001:0B (Table 10-7). -/
def TEST_DELTA (s : State) (c : Nat) : Nat := (s.obj (c * 0x1000000 + 0x40010B) (.num 2048)).int.toNat
/-- TEST_FAIL_N, 0x4001:0C (Table 10-7). -/
def TEST_FAIL_N (s : State) (c : Nat) : Nat := (s.obj (c * 0x1000000 + 0x40010C) (.num 3)).int.toNat
/-- TEST_CURRENT, 0x4001:0D (Table 10-7). -/
def TEST_CURRENT (s : State) (c : Nat) : Nat := (s.obj (c * 0x1000000 + 0x40010D) (.num 1)).int.toNat
/-- INJ_SOURCE, 0x4001:0E (Table 10-7). -/
def INJ_SOURCE (s : State) (c : Nat) : Nat := (s.obj (c * 0x1000000 + 0x40010E) (.num 0)).int.toNat
/-- INJ_MODE, 0x4001:0F (Table 10-7). -/
def INJ_MODE (s : State) (c : Nat) : Nat := (s.obj (c * 0x1000000 + 0x40010F) (.num 0)).int.toNat
/-- INT_LO, 0x4001:10 (Table 10-7). -/
def INT_LO (s : State) (c : Nat) : Int := (s.obj (c * 0x1000000 + 0x400110) ((chanDefault 0x4001 16 c).getD (.num 0))).int
/-- INT_HI, 0x4001:11 (Table 10-7). -/
def INT_HI (s : State) (c : Nat) : Int := (s.obj (c * 0x1000000 + 0x400111) ((chanDefault 0x4001 17 c).getD (.num 0))).int
/-- ROT_STEP, 0x4100:01 (Table 10-10). -/
def ROT_STEP (s : State) : Nat := (s.obj 0x410001 (.num 10000)).int.toNat
/-- CAL_MATCH, 0x4100:02 (Table 10-10). -/
def CAL_MATCH (s : State) : Nat := (s.obj 0x410002 (.num 8)).int.toNat
/-- TJ_WARN, 0x4100:03 (Table 10-10). -/
def TJ_WARN (s : State) : Int := (s.obj 0x410003 (.num 115)).int
/-- TJ_TRIP, 0x4100:04 (Table 10-10). -/
def TJ_TRIP (s : State) : Int := (s.obj 0x410004 (.num 130)).int
/-- PLL_N, 0x8001:01 (Table 11-5). -/
def PLL_N (s : State) (c : Nat) : Nat := (s.obj (c * 0x1000000 + 0x800101) ((chanDefault 0x8001 1 c).getD (.num 0))).int.toNat
/-- PLL_OD0, 0x8001:02 (Table 11-5). -/
def PLL_OD0 (s : State) (c : Nat) : Nat := (s.obj (c * 0x1000000 + 0x800102) ((chanDefault 0x8001 2 c).getD (.num 0))).int.toNat
/-- PLL_OD1, 0x8001:03 (Table 11-5). -/
def PLL_OD1 (s : State) (c : Nat) : Nat := (s.obj (c * 0x1000000 + 0x800103) ((chanDefault 0x8001 3 c).getD (.num 0))).int.toNat
/-- LOOP_BW, 0x8001:04 (Table 11-5). -/
def LOOP_BW (s : State) (c : Nat) : Nat := (s.obj (c * 0x1000000 + 0x800104) (.num 1)).int.toNat
/-- PHASE_SLEW, 0x8001:05 (Table 11-5). -/
def PHASE_SLEW (s : State) (c : Nat) : Nat := (s.obj (c * 0x1000000 + 0x800105) (.num 100)).int.toNat
/-- BAND_TABLE, 0x8001:06 (Table 11-5). -/
def BAND_TABLE (s : State) (c : Nat) : List Nat := (s.obj (c * 0x1000000 + 0x800106) (.oct (Config.factoryBand c))).bytes
/-- SSC_MODE, 0x8010:01 (Table 11-6). -/
def SSC_MODE (s : State) : Nat := (s.obj 0x801001 (.num 1)).int.toNat
/-- SSC_DEPTH, 0x8010:02 (Table 11-6). -/
def SSC_DEPTH (s : State) : Nat := (s.obj 0x801002 (.num 500)).int.toNat
/-- SSC_FREQ, 0x8010:03 (Table 11-6). -/
def SSC_FREQ (s : State) : Nat := (s.obj 0x801003 (.num 31500)).int.toNat
/-- SSC_POINTS, 0x8010:04 (Table 11-6). -/
def SSC_POINTS (s : State) : Nat := (s.obj 0x801004 (.num 2)).int.toNat
/-- SSC_PROFILE, 0x8010:05 (Table 11-6). -/
def SSC_PROFILE (s : State) : List Nat := (s.obj 0x801005 (.oct (List.replicate 256 0))).bytes
/-- MAIN_BAND_TABLE, 0x8010:06 (Table 11-6). -/
def MAIN_BAND_TABLE (s : State) : List Nat := (s.obj 0x801006 (.oct (Config.factoryBand 4))).bytes
/-- PTP_ENABLE, 0x7000:01 (Table 12-5). -/
def PTP_ENABLE (s : State) : Nat := (s.obj 0x700001 (.num 3)).int.toNat
/-- DOMAIN, 0x7000:02 (Table 12-5). -/
def DOMAIN (s : State) : Nat := (s.obj 0x700002 (.num 0)).int.toNat
/-- ROLE, 0x7000:03 (Table 12-5). -/
def ROLE (s : State) : Nat := (s.obj 0x700003 (.num 0)).int.toNat
/-- PRIORITY1, 0x7000:04 (Table 12-5). -/
def PRIORITY1 (s : State) : Nat := (s.obj 0x700004 (.num 128)).int.toNat
/-- PRIORITY2, 0x7000:05 (Table 12-5). -/
def PRIORITY2 (s : State) : Nat := (s.obj 0x700005 (.num 128)).int.toNat
/-- VLAN, 0x7000:06 (Table 12-5). -/
def VLAN (s : State) : Nat := (s.obj 0x700006 (.num 0)).int.toNat
/-- VLAN_PCP, 0x7000:07 (Table 12-5). -/
def VLAN_PCP (s : State) : Nat := (s.obj 0x700007 (.num 0)).int.toNat
/-- SERVO_BW, 0x7000:08 (Table 12-5). -/
def SERVO_BW (s : State) : Nat := (s.obj 0x700008 (.num 1)).int.toNat
/-- MAX_ADJ, 0x7000:09 (Table 12-5). -/
def MAX_ADJ (s : State) : Nat := (s.obj 0x700009 (.num 200)).int.toNat
/-- STEP_T, 0x7000:0A (Table 12-5). -/
def STEP_T (s : State) : Nat := (s.obj 0x70000A (.num 100000)).int.toNat
/-- STEP_EN, 0x7000:0B (Table 12-5). -/
def STEP_EN (s : State) : Nat := (s.obj 0x70000B (.num 1)).int.toNat
/-- LOCK_T, 0x7000:0C (Table 12-5). -/
def LOCK_T (s : State) : Nat := (s.obj 0x70000C (.num 1000)).int.toNat
/-- TIME_HOLD_T, 0x7000:0D (Table 12-5). -/
def TIME_HOLD_T (s : State) : Nat := (s.obj 0x70000D (.num 60)).int.toNat
/-- PORT_DIFF, 0x7000:0E (Table 12-5). -/
def PORT_DIFF (s : State) : Nat := (s.obj 0x70000E (.num 1000)).int.toNat
/-- UTC_OFFSET, 0x7000:0F (Table 12-5). -/
def UTC_OFFSET (s : State) : Nat := (s.obj 0x70000F (.num 37)).int.toNat
/-- PDELAY_AVG, 0x7000:10 (Table 12-5). -/
def PDELAY_AVG (s : State) : Nat := (s.obj 0x700010 (.num 16)).int.toNat
/-- PHY_RX_LAT, 0x7010:01 (Table 12-6). -/
def PHY_RX_LAT (s : State) (i : Nat) : Nat := (s.obj (0x701001 + i * 0x100) (.num 0)).int.toNat
/-- PHY_TX_LAT, 0x7010:02 (Table 12-6). -/
def PHY_TX_LAT (s : State) (i : Nat) : Nat := (s.obj (0x701002 + i * 0x100) (.num 0)).int.toNat
/-- ASYM, 0x7010:03 (Table 12-6). -/
def ASYM (s : State) (i : Nat) : Int := (s.obj (0x701003 + i * 0x100) (.num 0)).int
/-- FIO_MODE, 0x5001:01 (Table 13-5). -/
def FIO_MODE (s : State) (c : Nat) : Nat := (s.obj (c * 0x1000000 + 0x500101) (.num 0)).int.toNat
/-- DEBOUNCE, 0x5001:02 (Table 13-5). -/
def DEBOUNCE (s : State) (c : Nat) : Nat := (s.obj (c * 0x1000000 + 0x500102) (.num 1000)).int.toNat
/-- INVERT, 0x5001:03 (Table 13-5). -/
def INVERT (s : State) (c : Nat) : Nat := (s.obj (c * 0x1000000 + 0x500103) (.num 0)).int.toNat
/-- DIAG_EN, 0x5001:04 (Table 13-5). -/
def DIAG_EN (s : State) (c : Nat) : Nat := (s.obj (c * 0x1000000 + 0x500104) (.num 0)).int.toNat
/-- WB_I, 0x5001:05 (Table 13-5). -/
def WB_I (s : State) (c : Nat) : Nat := (s.obj (c * 0x1000000 + 0x500105) (.num 200)).int.toNat
/-- FAULT_MODE, 0x5001:06 (Table 13-5). -/
def FAULT_MODE (s : State) (c : Nat) : Nat := (s.obj (c * 0x1000000 + 0x500106) (.num 0)).int.toNat
/-- RETRY_T, 0x5001:07 (Table 13-5). -/
def RETRY_T (s : State) (c : Nat) : Nat := (s.obj (c * 0x1000000 + 0x500107) (.num 1000)).int.toNat
/-- OVL_T, 0x5001:08 (Table 13-5). -/
def OVL_T (s : State) (c : Nat) : Nat := (s.obj (c * 0x1000000 + 0x500108) (.num 1000)).int.toNat
/-- FORCE, 0x5001:09 (Table 13-5). -/
def FORCE (s : State) (c : Nat) : Nat := (s.obj (c * 0x1000000 + 0x500109) (.num 0)).int.toNat
/-- LP_LOW, 0x5011:03 (Table 13-7). -/
def LP_LOW (s : State) : Nat := (s.obj 0x501103 (.num 19200)).int.toNat
/-- LP_SO_MIN, 0x5011:04 (Table 13-7). -/
def LP_SO_MIN (s : State) : Nat := (s.obj 0x501104 (.num 18000)).int.toNat
/-- LP_LOSS, 0x5011:05 (Table 13-7). -/
def LP_LOSS (s : State) : Nat := (s.obj 0x501105 (.num 10000)).int.toNat
/-- LP_HIGH, 0x5011:06 (Table 13-7). -/
def LP_HIGH (s : State) : Nat := (s.obj 0x501106 (.num 31000)).int.toNat
/-- LP_RESTORE_T, 0x5011:07 (Table 13-7). -/
def LP_RESTORE_T (s : State) : Nat := (s.obj 0x501107 (.num 10)).int.toNat
/-- PROT_I_CH, 0x6200:01 (Table 14-8). -/
def PROT_I_CH (s : State) : Nat := (s.obj 0x620001 (.num 255)).int.toNat
/-- PROT_I_MAX, 0x6200:02 (Table 14-8). -/
def PROT_I_MAX (s : State) : Int := (s.obj 0x620002 (.num 8388352)).int
/-- PROT_VDC_CH, 0x6200:03 (Table 14-8). -/
def PROT_VDC_CH (s : State) : Nat := (s.obj 0x620003 (.num 255)).int.toNat
/-- PROT_VDC_MAX, 0x6200:04 (Table 14-8). -/
def PROT_VDC_MAX (s : State) : Int := (s.obj 0x620004 (.num 8388352)).int
/-- PROT_VCELL_MAX, 0x6200:05 (Table 14-8). -/
def PROT_VCELL_MAX (s : State) : Nat := (s.obj 0x620005 (.num 65535)).int.toNat
/-- PROT_VNOM, 0x6200:06 (Table 14-8). -/
def PROT_VNOM (s : State) : Nat := (s.obj 0x620006 (.num 0)).int.toNat
/-- PROT_W_HI, 0x6200:07 (Table 14-8). -/
def PROT_W_HI (s : State) : Int := (s.obj 0x620007 (.num 21810381)).int
/-- PROT_W_LO, 0x6200:08 (Table 14-8). -/
def PROT_W_LO (s : State) : Int := (s.obj 0x620008 (.num 10066330)).int
/-- PROT_N, 0x6200:09 (Table 14-8). -/
def PROT_N (s : State) : Nat := (s.obj 0x620009 (.num 2)).int.toNat
/-- PROT_TRIP, 0x6200:0A (Table 14-8). -/
def PROT_TRIP (s : State) : Nat := (s.obj 0x62000A (.num 7)).int.toNat
/-- SO_FUNC, 0x6001:01 (Table 14-11). -/
def SO_FUNC (s : State) (c : Nat) : Nat := (s.obj (c * 0x1000000 + 0x600101) (.num 0)).int.toNat
/-- SO_TEST_T, 0x6001:02 (Table 14-11). -/
def SO_TEST_T (s : State) (c : Nat) : Nat := (s.obj (c * 0x1000000 + 0x600102) (.num 100)).int.toNat
/-- SO_PULSE, 0x6001:03 (Table 14-11). -/
def SO_PULSE (s : State) (c : Nat) : Nat := (s.obj (c * 0x1000000 + 0x600103) (.num 200)).int.toNat
/-- SO_RESTART, 0x6001:04 (Table 14-11). -/
def SO_RESTART (s : State) (c : Nat) : Nat := (s.obj (c * 0x1000000 + 0x600104) (.num 1)).int.toNat
/-- INTLK_DWELL, 0x6100:01 (Table 14-11). -/
def INTLK_DWELL (s : State) : Nat := (s.obj 0x610001 (.num 600)).int.toNat
/-- INTLK_VCELL, 0x6100:02 (Table 14-11). -/
def INTLK_VCELL (s : State) : Nat := (s.obj 0x610002 (.num 800)).int.toNat
/-- INTLK_VDC_CH, 0x6100:03 (Table 14-11). -/
def INTLK_VDC_CH (s : State) : Nat := (s.obj 0x610003 (.num 255)).int.toNat
/-- INTLK_VDC, 0x6100:04 (Table 14-11). -/
def INTLK_VDC (s : State) : Int := (s.obj 0x610004 (.num 0)).int
/-- DOOR_REQ_SI, 0x6100:05 (Table 14-11). -/
def DOOR_REQ_SI (s : State) : Nat := (s.obj 0x610005 (.num 255)).int.toNat
/-- REL_REQ, 0x6101:04 (Table 14-11). -/
def REL_REQ (s : State) : Nat := (s.obj 0x610104 (.num 0)).int.toNat
/-- SI_PIN_A, 0x6110:01 (Table 14-11). -/
def SI_PIN_A (s : State) (i : Nat) : Nat := (s.obj (0x611001 + i * 0x100) (.num 255)).int.toNat
/-- SI_PIN_B, 0x6110:02 (Table 14-11). -/
def SI_PIN_B (s : State) (i : Nat) : Nat := (s.obj (0x611002 + i * 0x100) (.num 255)).int.toNat
/-- SI_TYPE, 0x6110:03 (Table 14-11). -/
def SI_TYPE (s : State) (i : Nat) : Nat := (s.obj (0x611003 + i * 0x100) (.num 0)).int.toNat
/-- DISC_T, 0x6110:04 (Table 14-11). -/
def DISC_T (s : State) (i : Nat) : Nat := (s.obj (0x611004 + i * 0x100) (.num 100)).int.toNat
/-- SI_MASK, 0x6110:05 (Table 14-11). -/
def SI_MASK (s : State) (i : Nat) : Nat := (s.obj (0x611005 + i * 0x100) (.num 1)).int.toNat
/-- SI_RESTART, 0x6110:06 (Table 14-11). -/
def SI_RESTART (s : State) (i : Nat) : Nat := (s.obj (0x611006 + i * 0x100) (.num 1)).int.toNat
/-- SL_DIR, 0x6130:01 (Table 14-11). -/
def SL_DIR (s : State) (i : Nat) : Nat := (s.obj (0x613001 + i * 0x100) (.num 0)).int.toNat
/-- SL_CONN_ID, 0x6130:02 (Table 14-11). -/
def SL_CONN_ID (s : State) (i : Nat) : Nat := (s.obj (0x613002 + i * 0x100) (.num 0)).int.toNat
/-- SL_PEER, 0x6130:03 (Table 14-11). -/
def SL_PEER (s : State) (i : Nat) : List Nat := (s.obj (0x613003 + i * 0x100) (.oct (List.replicate 16 0))).bytes
/-- SL_CYCLE, 0x6130:04 (Table 14-11). -/
def SL_CYCLE (s : State) (i : Nat) : Nat := (s.obj (0x613004 + i * 0x100) (.num 10)).int.toNat
/-- SL_WATCHDOG, 0x6130:05 (Table 14-11). -/
def SL_WATCHDOG (s : State) (i : Nat) : Nat := (s.obj (0x613005 + i * 0x100) (.num 50)).int.toNat
/-- SL_ERR_MAX, 0x6130:06 (Table 14-11). -/
def SL_ERR_MAX (s : State) (i : Nat) : Nat := (s.obj (0x613006 + i * 0x100) (.num 4)).int.toNat
/-- SL_BLOCK_BITS, 0x6130:07 (Table 14-11). -/
def SL_BLOCK_BITS (s : State) (i : Nat) : Nat := (s.obj (0x613007 + i * 0x100) (.num 0)).int.toNat
/-- SL_TRIP_BITS, 0x6130:08 (Table 14-11). -/
def SL_TRIP_BITS (s : State) (i : Nat) : Nat := (s.obj (0x613008 + i * 0x100) (.num 0)).int.toNat
/-- SL_RESET_BIT, 0x6130:09 (Table 14-11). -/
def SL_RESET_BIT (s : State) (i : Nat) : Nat := (s.obj (0x613009 + i * 0x100) (.num 255)).int.toNat
/-- FEED_LOW, 0x8100:06 (Table 15-10). -/
def FEED_LOW (s : State) : Nat := (s.obj 0x810006 (.num 3000)).int.toNat
/-- PMBUS_DEV, 0x8101:01 (Table 15-10). -/
def PMBUS_DEV (s : State) : List Nat := (s.obj 0x810101 (.oct [])).bytes
/-- PMBUS_RATE, 0x8101:02 (Table 15-10). -/
def PMBUS_RATE (s : State) : Nat := (s.obj 0x810102 (.num 0)).int.toNat
/-- DPX_ENABLE, 0x8200:01 (Table 15-11). -/
def DPX_ENABLE (s : State) : Nat := (s.obj 0x820001 (.num 0)).int.toNat
/-- PARTNER_DEV, 0x8200:02 (Table 15-11). -/
def PARTNER_DEV (s : State) : Nat := (s.obj 0x820002 (.num 0)).int.toNat
/-- SETTLE_T, 0x8200:03 (Table 15-11). -/
def SETTLE_T (s : State) : Nat := (s.obj 0x820003 (.num 10000)).int.toNat
/-- REVERT, 0x8200:04 (Table 15-11). -/
def REVERT (s : State) : Nat := (s.obj 0x820004 (.num 1)).int.toNat
/-- STANDBY_PREP, 0x8200:05 (Table 15-11). -/
def STANDBY_PREP (s : State) : Nat := (s.obj 0x820005 (.num 0)).int.toNat
/-- WARM_TICKS, 0x8200:06 (Table 15-11). -/
def WARM_TICKS (s : State) : Nat := (s.obj 0x820006 (.num 1000)).int.toNat
/-- RATE_NOTE, 0x7103:01 (Table 16-6). -/
def RATE_NOTE (s : State) : Nat := (s.obj 0x710301 (.num 50)).int.toNat
/-- BURST_NOTE, 0x7103:02 (Table 16-6). -/
def BURST_NOTE (s : State) : Nat := (s.obj 0x710302 (.num 16)).int.toNat
/-- RATE_WARN, 0x7103:03 (Table 16-6). -/
def RATE_WARN (s : State) : Nat := (s.obj 0x710303 (.num 200)).int.toNat
/-- BURST_WARN, 0x7103:04 (Table 16-6). -/
def BURST_WARN (s : State) : Nat := (s.obj 0x710304 (.num 64)).int.toNat
/-- RL_OVERRIDE, 0x7104:01 (Table 16-6). -/
def RL_OVERRIDE (s : State) : List Nat := (s.obj 0x710401 (.oct [])).bytes
/-- PS_RATE, 0x1400:01 (Table 18-3). -/
def PS_RATE (s : State) (i : Nat) : Nat := (s.obj (0x140001 + i * 0x100) (.num 2000)).int.toNat
/-- PS_BURST, 0x1400:02 (Table 18-3). -/
def PS_BURST (s : State) (i : Nat) : Nat := (s.obj (0x140002 + i * 0x100) (.num 16)).int.toNat
/-- SL_RATE, 0x1400:03 (Table 18-3). -/
def SL_RATE (s : State) (i : Nat) : Nat := (s.obj (0x140003 + i * 0x100) (.num 2000)).int.toNat
/-- SL_BURST, 0x1400:04 (Table 18-3). -/
def SL_BURST (s : State) (i : Nat) : Nat := (s.obj (0x140004 + i * 0x100) (.num 16)).int.toNat
/-- PTP_RATE, 0x1400:05 (Table 18-3). -/
def PTP_RATE (s : State) (i : Nat) : Nat := (s.obj (0x140005 + i * 0x100) (.num 64)).int.toNat
/-- OTHER_RATE, 0x1400:06 (Table 18-3). -/
def OTHER_RATE (s : State) (i : Nat) : Nat := (s.obj (0x140006 + i * 0x100) (.num 10000)).int.toNat
/-- SEM_LEASE, 0xA010:01 (Table 18-6). -/
def SEM_LEASE (s : State) : Nat := (s.obj 0xA01001 (.num 100)).int.toNat
/-- QUEUE_STALL, 0xA010:02 (Table 18-6). -/
def QUEUE_STALL (s : State) : Nat := (s.obj 0xA01002 (.num 100)).int.toNat

end Sys2Proof.Machine.State
end

