-- ==== Sys2Proof/Machine/Ops.lean ====
section
/-! DEFINITION. The shared operations: outputs, free values, time, run states, the offer of an event to the recorder
(R454 to R456), the four fault classes (R19), the change of mode (R75) and the fault of a function with its
dependents (R61). Every meaning is written over these. -/
namespace Sys2Proof

/-- The subindex of a function in Table 2-10. -/
def Fn.sub : Fn → Nat
  | .form => 1 | .arm => 2 | .select => 3 | .trunk => 4 | .sense => 5
  | .field => 6 | .safety => 7 | .time => 8 | .record => 9 | .clock => 10

/-- The function of a subindex of Table 2-10. -/
def Fn.ofSub : Nat → Option Fn
  | 1 => some .form | 2 => some .arm | 3 => some .select | 4 => some .trunk | 5 => some .sense
  | 6 => some .field | 7 => some .safety | 8 => some .time | 9 => some .record | 10 => some .clock
  | _ => none

/-- The region whose RUNSTATE slot holds the function (Table 2-10, Table 16-9). -/
def Fn.region : Fn → Nat
  | .form => 1 | .arm => 1 | .select => 2 | .trunk => 2 | .sense => 3
  | .field => 5 | .safety => 5 | .time => 4 | .record => 6 | .clock => 0

/-- The functions it depends on (Table 2-10). -/
def Fn.needs : Fn → List Fn
  | .form => [.arm, .sense] | .arm => [.select, .sense] | .select => [.trunk] | .trunk => [.clock]
  | .sense => [.clock] | .field => [] | .safety => [.field] | .time => [.clock] | .record => [] | .clock => []

/-- The write level of its run commands (Table 2-10). -/
def Fn.level : Fn → Nat
  | .safety => 3 | .record => 3 | .clock => 3 | _ => 2

/-- Every function that depends on n, directly or through another, farthest last (Table 2-10). -/
def Fn.users : Fn → List Fn
  | .form => []
  | .arm => [.form]
  | .select => [.arm, .form]
  | .trunk => [.select, .arm, .form]
  | .sense => [.arm, .form]
  | .field => [.safety]
  | .safety => []
  | .time => []
  | .record => []
  | .clock => [.trunk, .sense, .time, .select, .arm, .form]

/-- The code of a run state (Table 2-9). -/
def Run.code : Run → Nat
  | .stopped => 0 | .starting => 1 | .running => 2 | .stopping => 3 | .faulted => 4

/-- The code of a mode (Table 3-1). -/
def Mode.code : Mode → Nat
  | .boot => 0 | .commission => 1 | .blocked => 2 | .forming => 3 | .standby => 4 | .safe => 5

/-- The code of a class (Table 16-1). -/
def Cls.code : Cls → Nat
  | .note => 0 | .warn => 1 | .trip => 2 | .safe => 3

/-- The code of a port. -/
def Side.code : Side → Nat
  | .a => 0 | .b => 1

/-- The bit of a domain in DOMAINS (Table 15-2). -/
def Domain.bit : Domain → Nat
  | .aon => 0 | .keep => 1 | .hk => 2 | .app => 3 | .safe => 4 | .ctl => 5
  | .trk => 6 | .spn => 7 | .net => 8 | .sna => 9 | .snd => 10 | .fld => 11

end Sys2Proof

namespace Sys2Proof.Machine

/-- The outcome of a command. -/
abbrev Out := Host.Outcome State Fault Refusal

/-! ### Status codes (Table 2-8) -/

/-- OK -/
abbrev stOk : Nat := 0
/-- NO_OBJECT -/
abbrev stNoObject : Nat := 1
/-- NO_SUB -/
abbrev stNoSub : Nat := 2
/-- TYPE -/
abbrev stType : Nat := 3
/-- RANGE -/
abbrev stRange : Nat := 4
/-- ACCESS -/
abbrev stAccess : Nat := 5
/-- PRIVILEGE -/
abbrev stPrivilege : Nat := 6
/-- RUNSTATE -/
abbrev stRunstate : Nat := 7
/-- MODE -/
abbrev stMode : Nat := 8
/-- DEPENDENT -/
abbrev stDependent : Nat := 9
/-- BUSY -/
abbrev stBusy : Nat := 10
/-- FRAME -/
abbrev stFrame : Nat := 11
/-- VERSION -/
abbrev stVersion : Nat := 12
/-- FENCED -/
abbrev stFenced : Nat := 13
/-- CHANNEL -/
abbrev stChannel : Nat := 14

/-! ### One part of the state changed -/

/-- The part `ps` changed. -/
def State.mapPs (s : State) (f : PsState → PsState) : State := { s with ps := f s.ps }

/-- The part `mode` changed. -/
def State.mapMode (s : State) (f : ModeState → ModeState) : State := { s with mode := f s.mode }

/-- The part `recd` changed. -/
def State.mapRecd (s : State) (f : RecState → RecState) : State := { s with recd := f s.recd }

/-- The part `sec` changed. -/
def State.mapSec (s : State) (f : SecState → SecState) : State := { s with sec := f s.sec }

/-- The part `fab` changed. -/
def State.mapFab (s : State) (f : FabState → FabState) : State := { s with fab := f s.fab }

/-- The part `pwr` changed. -/
def State.mapPwr (s : State) (f : PwrState → PwrState) : State := { s with pwr := f s.pwr }

/-- The part `dpx` changed. -/
def State.mapDpx (s : State) (f : DpxState → DpxState) : State := { s with dpx := f s.dpx }

/-- The part `form` changed. -/
def State.mapForm (s : State) (f : FormState → FormState) : State := { s with form := f s.form }

/-- The part `arm` changed. -/
def State.mapArm (s : State) (f : ArmState → ArmState) : State := { s with arm := f s.arm }

/-- The part `spn` changed. -/
def State.mapSpn (s : State) (f : SpnState → SpnState) : State := { s with spn := f s.spn }

/-- The part `cell` changed. -/
def State.mapCellS (s : State) (f : CellState → CellState) : State := { s with cell := f s.cell }

/-- The part `sense` changed. -/
def State.mapSense (s : State) (f : SenseState → SenseState) : State := { s with sense := f s.sense }

/-- The part `field` changed. -/
def State.mapFieldS (s : State) (f : FieldState → FieldState) : State := { s with field := f s.field }

/-- The part `safe` changed. -/
def State.mapSafe (s : State) (f : SafeState → SafeState) : State := { s with safe := f s.safe }

/-! ### Outputs, free values, time -/

/-- Something leaves the device. -/
def State.emit (s : State) (t : Tx) : State := { s with tx := t :: s.tx }

/-- The next free value (notes/assumptions/2.md). -/
def State.freeNat (s : State) : Nat := Config.freeValue s.freeCount

/-- The state after a free value was drawn. -/
def State.drawn (s : State) : State := { s with freeCount := s.freeCount + 1 }

/-- F, the forming period in ticks (R32). -/
def State.fp (s : State) : Nat := s.FORM_PERIOD

/-- The tick length in force in ns (R93). -/
def State.tickNs (s : State) : Nat := s.mode.tickLen * 1000

/-- A number of ms in ns. -/
abbrev ms (n : Nat) : Nat := n * 1000000

/-- A number of µs in ns. -/
abbrev us (n : Nat) : Nat := n * 1000

/-- A number of s in ns. -/
abbrev secs (n : Nat) : Nat := n * 1000000000

/-- NS of the local clock (R336). -/
def State.clockNs (s : State) : Nat := s.time.nsf / 4294967296

/-- A TIME96 value in its 12 bytes (Table 2-3). -/
def time96 (sec ns : Nat) : List Nat := le 8 sec ++ le 4 ns

/-! ### Run states -/

/-- The ten functions, in the order of Table 2-10. -/
def allFns : List Fn := [.form, .arm, .select, .trunk, .sense, .field, .safety, .time, .record, .clock]

/-- The state of one function. -/
def Fns.get (f : Fns) : Fn → FnState
  | .form => f.form | .arm => f.arm | .select => f.select | .trunk => f.trunk | .sense => f.sense
  | .field => f.field | .safety => f.safety | .time => f.time | .record => f.record | .clock => f.clock

/-- The states with one function's state replaced. -/
def Fns.put (f : Fns) (n : Fn) (x : FnState) : Fns :=
  match n with
  | .form => { f with form := x } | .arm => { f with arm := x } | .select => { f with select := x }
  | .trunk => { f with trunk := x } | .sense => { f with sense := x } | .field => { f with field := x }
  | .safety => { f with safety := x } | .time => { f with time := x } | .record => { f with record := x }
  | .clock => { f with clock := x }

/-- The run state of a function. -/
def State.run (s : State) (n : Fn) : Run := (s.fns.get n).run

/-- RUNNING. -/
def State.isRun (s : State) (n : Fn) : Bool := s.run n == .running

/-- STOPPED or FAULTED. -/
def State.isDown (s : State) (n : Fn) : Bool := s.run n == .stopped || s.run n == .faulted

/-! ### Power domains -/

/-- A domain is powered (R36). -/
def State.powered (s : State) (d : Domain) : Bool := bit s.pwr.domains d.bit

/-- The KEEP domain works: it stops only while a FULL reset is in progress (R72). -/
def State.keepUp (s : State) : Bool := s.powered .keep && !s.mode.held

/-! ### The recorder's offer -/

/-- The clock is synchronized: LOCKED, or HOLDOVER before HOLD_T has elapsed, while TIME is RUNNING (R345,
Table 3-11). -/
def State.synced (s : State) : Bool :=
  s.isRun .time && (s.time.servo == .locked ||
    (s.time.servo == .holdover && s.now < s.time.holdAt + secs s.TIME_HOLD_T))

/-- UTC_OFF in force: the grandmaster's offset while it is valid, otherwise the object UTC_OFFSET (R350). -/
def State.utcOff (s : State) : Nat := if s.time.gmUtc then s.time.utc else s.UTC_OFFSET

/-- The time tag of Table 12-4. -/
def State.timeTag (s : State) : Nat :=
  s.utcOff % 256 + 256 * flagBits [s.time.leap, s.synced, s.time.servo == .holdover, s.time.gmUtc]

/-- The region that Table 16-9 gives a code, for the codes that fix it. -/
def regionOf (code : Nat) : Nat :=
  if code < 0x0200 then 0
  else if code < 0x0300 then 0
  else if code < 0x0400 then 0
  else if code < 0x2100 then 1
  else if code < 0x4000 then 2
  else if code < 0x5000 then 3
  else if code < 0x6000 then 4
  else if code < 0x7000 then 5
  else if code < 0x7010 then 0
  else if code < 0x8000 then 4
  else if code < 0x9000 then 6
  else if code < 0xA000 then 7
  else 8

/-- The rate limits that act on a code: tokens per second and burst, from the override table or from the class
settings (R455, Table 16-6). -/
def overrideOf (code : Nat) : Nat → List Nat → Option (Nat × Nat)
  | 0, _ => none
  | n + 1, t =>
    match t with
    | c0 :: c1 :: r0 :: r1 :: b :: _ :: rest =>
      if c0 + 256 * c1 = code then some (r0 + 256 * r1, b) else overrideOf code n rest
    | _ => none

/-- Rate and burst of a code in a class. -/
def State.rateOf (s : State) (code : Nat) (cls : Cls) : Nat × Nat :=
  match overrideOf code 16 s.RL_OVERRIDE with
  | some rb => rb
  | none => if cls == .note then (s.RATE_NOTE, s.BURST_NOTE) else (s.RATE_WARN, s.BURST_WARN)

/-- The level of a bucket now, in billionths of a token (R455). -/
def State.bucketLevel (s : State) (code : Nat) (cls : Cls) : Nat :=
  let (rate, burst) := s.rateOf code cls
  match s.recd.buckets.find? (fun b => b.code == code && b.cls == cls) with
  | none => burst * 1000000000
  | some b => min (burst * 1000000000) (b.level + rate * (s.now - b.at_))

/-- The buckets with one bucket at a level. -/
def setBucket (bs : List Bucket) (b : Bucket) : List Bucket :=
  b :: bs.filter (fun x => !(x.code == b.code && x.cls == b.cls))

/-- Classes and codes that bypass the buckets (R455). -/
def bypasses (code : Nat) (cls : Cls) : Bool :=
  cls == .trip || cls == .safe || (0x8000 ≤ code && code < 0x9000)

/-- The suppressed count of a code. -/
def suppressedOf (l : List (Nat × Nat)) (code : Nat) : Nat :=
  ((l.find? (fun x => x.1 == code)).map (·.2)).getD 0

/-- The suppressed counts with one code's count. -/
def setSuppressed (l : List (Nat × Nat)) (code n : Nat) : List (Nat × Nat) :=
  let r := l.filter (fun x => x.1 != code)
  if n = 0 then r else (code, n) :: r

/-- The folio of an event offered now, before its SEQ is known (R451). -/
def State.folio (s : State) (code : Nat) (cls : Cls) (region : Nat) (payload : List Nat) : Folio :=
  { seq := 0, code := code, cls := cls, region := region, tag := s.timeTag, device := s.device,
    sec := s.time.sec, ns := s.clockNs, tick := if s.powered .ctl then s.tick else 0,
    suppressed := min 65535 (suppressedOf s.recd.suppressed code), payload := payload.take 16 }

/-- Folios held, with or without a SEQ (R456, R458). -/
def RecState.count (r : RecState) : Nat := r.margin.length + r.held.length

/-- An event that passed its bucket is judged against the margin buffer (R456); a fenced recorder drops it (Table 18-5). -/
def State.accept (s : State) (code : Nat) (cls : Cls) (region : Nat) (payload : List Nat) : State :=
  let r := s.recd
  if 32 ≤ r.count || (28 ≤ r.count && !bypasses code cls) || bit (entry s.hdrs 6 {}).fenced 1 then
    { s with recd := { r with dropped := incSat 32 r.dropped, dropEpisode := r.dropEpisode + 1, lDropped := true } }
  else
    let f := s.folio code cls region payload
    let sup := setSuppressed r.suppressed code 0
    if r.scanned then
      { s with recd := { r with newest := r.newest + 1, margin := r.margin ++ [{ f with seq := r.newest + 1 }],
                                suppressed := sup } }
    else
      { s with recd := { r with held := r.held ++ [f], suppressed := sup } }

/-- An event is offered to the recorder: its bucket, then the buffer (R454, R455). -/
def State.offer (s : State) (code : Nat) (cls : Cls) (region : Nat) (payload : List Nat) : State :=
  if bypasses code cls then s.accept code cls region payload
  else
    let lvl := s.bucketLevel code cls
    if 1000000000 ≤ lvl then
      let s := { s with recd := { s.recd with buckets := setBucket s.recd.buckets ⟨code, cls, lvl - 1000000000, s.now⟩ } }
      s.accept code cls region payload
    else
      let n := suppressedOf s.recd.suppressed code
      let s := { s with recd := { s.recd with
        suppressed := setSuppressed s.recd.suppressed code (n + 1),
        suppressedN := incSat 32 s.recd.suppressedN } }
      if n = 0 then s.accept 0x8003 .note 6 (le 2 code) else s

/-- An event of class NOTE, in the region of its code. -/
def State.note (s : State) (code : Nat) (payload : List Nat) : State := s.offer code .note (regionOf code) payload

/-- An event of class WARN, in the region of its code; no cause stays. -/
def State.warn (s : State) (code : Nat) (payload : List Nat) : State := s.offer code .warn (regionOf code) payload

/-- A WARN whose cause stays: recorded once per episode, and STATUS.WARN of its region is set until warnOff (R19). -/
def State.warnOn (s : State) (code key : Nat) (payload : List Nat) : State :=
  let w : ActiveWarn := ⟨regionOf code, code, key⟩
  if s.mode.warns.contains w then s
  else
    let s := s.warn code payload
    { s with mode := { s.mode with warns := w :: s.mode.warns } }

/-- The cause of a WARN is gone. -/
def State.warnOff (s : State) (code key : Nat) : State :=
  { s with mode := { s.mode with warns := s.mode.warns.filter (fun w => w != ⟨regionOf code, code, key⟩) } }

/-- STATUS.WARN of the region is set for a cause that stays until warnOff (R19). -/
def State.warnHold (s : State) (code key : Nat) : State :=
  { s.warnOff code key with mode := { (s.warnOff code key).mode with
      warns := ⟨regionOf code, code, key⟩ :: (s.warnOff code key).mode.warns } }

/-- A WARN that is recorded each time it comes, and whose cause stays until warnOff (R19). -/
def State.warnKeep (s : State) (code key : Nat) (payload : List Nat) : State := (s.warn code payload).warnHold code key

/-! ### Fences -/

/-- Block b of a region is fenced (Table 2-16). -/
def State.fenced (s : State) (region b : Nat) : Bool := bit (entry s.hdrs region {}).fenced b

/-- The interface to the non-volatile memory of Housekeeping is not fenced (R23, Table 18-5). -/
def State.nvOk (s : State) : Bool := !(s.fenced 0 2)

/-! ### Run-state changes -/

/-- A change of run state, recorded as event 0x0120 (R62); nothing where the state stays. -/
def State.setRun (s : State) (n : Fn) (r : Run) : State :=
  let x := s.fns.get n
  if x.run == r then s
  else
    let s := { s with fns := s.fns.put n { x with run := r } }
    s.offer 0x0120 .note n.region [n.sub, 2, x.run.code, r.code]

/-- RUN_CHECK of a function. -/
def State.setCheck (s : State) (n : Fn) (c : Nat) : State :=
  { s with fns := s.fns.put n { s.fns.get n with check := c } }

/-- A trunk that is off (Table 8-8, R225). -/
def Trunk.offNow (t : Trunk) (now : Nat) : Trunk :=
  { t with st := 0, at_ := now, ticks := 0, held := [], req := none, turns := [], lockDn := false, lockUp := false,
           aligned := false, gotInfo := false, gotDelays := false, echoes := [] }

/-- An output switched off (R394); a pulse in progress is spoiled (R397). -/
def SafeOut.turnOff (o : SafeOut) : SafeOut :=
  { o with cmd := false, h := false, l := false, step := none, onSince := none, spoiled := o.pulse.isSome }

/-- What the safety functions hold once SAFETY does not run: outputs off, connections OFF, protection stopped, the first
cycle of a start due (R384, R391, R407, R412). -/
def SafeState.down (f : SafeState) : SafeState :=
  { f with
    outs := f.outs.map (fun o => o.turnOff)
    conns := f.conns.map (fun c => { c with st := .off, data := 0, good := 0, seq := none })
    first := true, reset := false
    prot := { f.prot with run := false, starting := false } }

/-- An input of a Sense region that does not run: output 0, not valid, detection inactive (Table 3-11). -/
def AIn.down (a : AIn) : AIn :=
  { a with hist := [], fill := 0, value := 0, flags := 0, lostSat := false, lostTest := false, frozen := false,
           satRun := 0, hiRun := 0, loRun := 0, hiX := false, loX := false, cmpOn := false, winN := 0, winT := 0
           testBad := 0, testGood := 0, inj := none, arriving := [], preempt := false }

/-! ### Modes -/

/-- Every FORCE to 0 when COMMISSION is left, each change recorded (R364). -/
def State.clearForce (s : State) : State :=
  (List.range 32).foldl (fun s p =>
    if s.FORCE p = 0 then s else (s.setObj 0x5001 9 p (.num 0)).note 0x6430 (le 2 p)) s

/-- The warnings whose cause is a source, a limit, the schedule, the shadow check or the balancer of the running law. -/
def lawWarns : List Nat := [0x1060, 0x1061, 0x1073, 0x1074, 0x1082, 0x1090, 0x1091, 0x1031, 0x5250]

/-- What a change of mode takes with it: forced outputs end with COMMISSION (R364), references and the forming
sub-state end with FORMING (R96, R70). -/
def State.leaveMode (s : State) : State :=
  match s.mode.mode with
  | .commission => s.clearForce
  | .forming => { s with
      mode := { s.mode with subDue := none, warns := s.mode.warns.filter (fun w => !(lawWarns.contains w.code)) }
      form := { s.form with b := { s.form.b with sub := 0, phase := 0 }, refs := none, first := false, close := false }
      arm := { s.arm with refs := none, next := none, extended := false, liveAt := none, fresh := true } }
  | _ => s

/-- A mode and sub-state are entered, recorded as event 0x0110 (R75); nothing where both stay. -/
def State.enterMode (s : State) (m : Mode) (sub : Nat) : State :=
  let om := s.mode.mode
  let os := s.mode.sub
  if om == m && os == sub then s
  else
    let s := if om == m then s else s.leaveMode
    let s := { s with mode := { s.mode with mode := m, sub := sub, sinceSec := s.time.sec, sinceNs := s.clockNs } }
    s.note 0x0110 [om.code, os, m.code, sub]

/-- The mode is open to a change other than a reset: SAFE is left by a reset only, BOOT by the end of the boot sequence or into
SAFE only (Table 3-7, R87). -/
def State.modeOpen (s : State) (m : Mode) : Bool :=
  match s.mode.mode with
  | .safe => false
  | .boot => m == .safe
  | _ => true

/-- A change of mode or sub-state (R75), where the mode is open to it. -/
def State.setMode (s : State) (m : Mode) (sub : Nat) : State := if s.modeOpen m then s.enterMode m sub else s

/-- A pending entry into FORMING is cancelled by a TRIP or a block source (Table 3-9). -/
def State.cancelPending (s : State) : State :=
  match s.mode.pend with
  | none => s
  | some _ =>
    ({ s with mode := { s.mode with pend := none, check := 3 } }).note 0x0111 [3, 3]

/-! ### The demands on the safety functions -/

/-- The lowest set bit below n of a mask. -/
def lowBit (n v : Nat) : Nat := ((List.range n).find? (fun i => bit v i)).getD n

/-- SF1 is demanded by a set of causes (bits of SF1_CAUSE): the cause and the block line follow; a new demand is recorded
with its source and takes FORMING to BLOCKED and cancels a pending entry, a demand that ends is recorded (R385, Table
14-16, R548). item is the latched protection item, 0xFFFF for none. -/
def State.sf1Set (s : State) (cause item : Nat) : State :=
  let was := s.safe.sf1
  let on := cause != 0
  let s := s.mapSafe (fun f => { f with
    sf1 := on, cause := cause, line := on, sf1Since := if on then some (f.sf1Since.getD s.now) else none })
  if on && !was then
    let src := lowBit 14 cause
    let s := s.note 0x6010 ([src] ++ le 2 (if src = 8 then item else 65535))
    let s := s.cancelPending
    if s.mode.mode == .forming then s.setMode .blocked 0 else s
  else if was && !on then s.note 0x6011 [] else s

/-- FORMING entered from a checkpoint is left at once for BLOCKED where SF1 is demanded (R385, Table 3-7). -/
def State.sf1Hold (s : State) : State := if s.safe.sf1 && s.mode.mode == .forming then s.setMode .blocked 0 else s

/-- SF2 is demanded by a set of causes, in the same bits (Table 14-16). -/
def State.sf2Set (s : State) (cause item : Nat) : State :=
  let was := s.safe.sf2
  let on := cause != 0
  let s := s.mapSafe (fun f => { f with sf2 := on })
  if on && !was then
    let src := lowBit 14 cause
    s.note 0x6012 ([src] ++ le 2 (if src = 8 then item else 65535))
  else if was && !on then s.note 0x6013 [] else s

/-- The releases of SF3 and SF4; each change is recorded (R399). -/
def State.releaseSet (s : State) (door earth : Bool) : State :=
  if door == s.safe.door && earth == s.safe.earth then s
  else (s.mapSafe (fun f => { f with door := door, earth := earth })).note 0x6014 [b2n door + 2 * b2n earth]

/-- SAFETY stops running: its functions take their safe states (R384, R391). -/
def State.safetyDown (s : State) : State :=
  (((s.releaseSet false false).sf1Set 0x2000 65535).sf2Set 0x2000 65535).mapSafe (fun f => f.down)

/-- The warnings about the discipline of the clock; they end with TIME. -/
def timeWarns : List Nat := [0x5301, 0x5302, 0x5305, 0x5307, 0x530A, 0x530B]

/-- A PTP port of a TIME that does not run. -/
def PtpPort.down (x : PtpPort) : PtpPort := { x with st := .disabled, fms := [], wait := none, preq := none }

/-- No UTC offset of a grandmaster is valid (R350, R351). -/
def TimeState.noGm (t : TimeState) : TimeState :=
  { t with gmUtc := false, leap61 := false, leap59 := false, leap := false, rise := false }

/-- The warnings about what Sense converts; they end with the conversion. -/
def senseWarns : List Nat := [0x4011, 0x4020, 0x4021, 0x4023, 0x4031, 0x4050, 0x4051, 0x4052]

/-- What a function that stops or faults leaves behind (Table 3-11). -/
def State.fnDown (s : State) (n : Fn) : State :=
  match n with
  | .form => { s with form := { s.form with refs := none } }
  | .arm => { s.warnOff 0x2030 0 with
      arm := { s.arm with refs := none, next := none, extended := false, fresh := true, liveAt := none } }
  | .select => s
  | .trunk => { s.mapMode (fun m => { m with
        warns := m.warns.filter (fun w => !([0x3002, 0x3004, 0x3005, 0x3006].contains w.code)) }) with cell := { s.cell with
      trunks := s.cell.trunks.map (fun t => t.offNow s.now)
      cells := s.cell.cells.map (fun c => { c with mail := none, due := none }) } }
  | .sense => { s.mapMode (fun m => { m with
        warns := m.warns.filter (fun w => !(senseWarns.contains w.code)) }) with sense := { s.sense with
      ins := s.sense.ins.map AIn.down
      ints := s.sense.ints.map (fun c => { c with ok := false }), calSince := none, calFg := false, refuse := false } }
  | .field => { s with field := { s.field with vals := 0, valid := 0 } }
  | .safety => s.safetyDown
  | .time => { s.mapMode (fun m => { m with warns := m.warns.filter (fun w => !(timeWarns.contains w.code)) }) with
      time := { s.time.noGm with
        slave := none, slaveLost := none, noStep := false, onBackup := false, servo := .free, r := 0, okRun := 0,
        pa := s.time.pa.down, pb := s.time.pb.down } }
  | .record => { s with recd := { s.recd with writing := false } }
  | .clock => s

/-- DPX_ENABLE = 0, or the position lease is held (R429). -/
def State.holdsLease (s : State) : Bool := s.DPX_ENABLE == 0 || s.dpx.lease

/-- The trunks on which quire frames are sent: in VERIFY or UP, or in RETRY after UP while the downlink lane holds block
lock, by a device that holds the position lease (R204, R215, R429, Table 8-8). -/
def State.sending (s : State) : List Nat :=
  if s.isRun .trunk && s.holdsLease && s.mode.mode != .standby then
    (List.range 8).filter (fun q =>
      let t := entry s.cell.trunks q {}
      t.st == 4 || t.st == 5 || (t.st == 6 && t.lockDn))
  else []

/-- A function that is not down enters FAULTED (R57); a fault of TRUNK leaves one frame of BLOCK words due (R217). -/
def State.faultOne (s : State) (n : Fn) : State :=
  if s.isDown n then s
  else
    let s := if n == .trunk then { s with cell := { s.cell with final := s.sending } } else s
    (s.fnDown n).setRun n .faulted

/-- A function faults, and with it every function that depends on it, in the same tick (R61). -/
def State.faultFn (s : State) (n : Fn) : State :=
  n.users.foldl (fun s m => s.faultOne m) (s.faultOne n)

/-! ### Faults -/

/-- The block and the mode change that every fault of class TRIP brings (Table 0-5, R27, R79, Table 3-9). -/
def State.blockSpan (s : State) : State :=
  let s := { s with mode := { s.mode with blockCol := true } }
  let s := s.cancelPending
  if s.mode.mode == .forming then s.setMode .blocked 0 else s

/-- A fault of class TRIP that faults a function (R19, R60, R61). -/
def State.trip (s : State) (code : Nat) (n : Fn) (payload : List Nat) : State :=
  let s := s.offer code .trip (regionOf code) payload
  let w : ActiveTrip := ⟨regionOf code, code, n⟩
  let s := { s with mode := { s.mode with trips := w :: s.mode.trips.filter (fun x => x != w) } }
  (s.blockSpan).faultFn n

/-- What the spine active logic loses when it stops, and begins anew with when it starts: lock, number, master, its wait for a
marker (R247, R248, R251, R549). -/
def SpnState.fresh (n : SpnState) : SpnState :=
  { n with
    phase := 0, locked := false, lockRun := 0, gotMarker := false, markMiss := 0, lossRun := 0, heard := false, markWait := 0
    numbered := false, foreign := false, foreignEp := false, master := none, isMaster := false, member := false }

/-- The spine active logic stops (R549). -/
def State.spnStop (s : State) : State :=
  ((s.mapSpn SpnState.fresh).warnOff 0x5202 0).warnOff 0x5205 0

/-- The domains powered in SAFE: AON, KEEP, HK, SAFE, CTL, TRK, NET, FLD (Table 3-2). -/
def safeDomains : Nat := flagBits [true, true, true, false, true, true, true, false, true, false, false, true]

/-- The mode becomes SAFE: entry cancelled, outputs off, the domains of Table 3-2 stay powered; SENSE, whose domains
go down, faults with its dependents (R75, R78, Table 3-2; log entry 8). -/
def State.enterSafe (s : State) : State :=
  if s.mode.mode == .safe then s
  else
    let s := { s with mode := { s.mode with pend := none, blockCol := true } }
    let s := s.setMode .safe 0
    let s := (s.faultFn .sense).spnStop
    { s with pwr := { s.pwr with domains := safeDomains }
             safe := { s.safe with outs := s.safe.outs.map (fun o => o.turnOff) }
             spn := { s.spn with joined := false, east := { s.spn.east with lock := false },
                                 west := { s.spn.west with lock := false } } }

/-- A fault of class SAFE: recorded, then SAFE (Table 0-5). -/
def State.safeFault (s : State) (code region : Nat) (payload : List Nat) : State :=
  (s.offer code .safe region payload).enterSafe

/-- The trunk framers hold a block latched by the comparators or the fault collector, or the lockstep cores assert
theirs (R27, R81). -/
def State.blockLine (s : State) : Bool := s.mode.blockCmp || s.mode.blockCol || s.safe.line

/-- A comparator asserts its block source, and the fault of event 0x4010 is active (R297). -/
def State.cmpActive (s : State) : Bool := s.sense.ins.any (fun a => a.cmpOn)

/-- A block source of R27 is asserting now: a comparator within R297, or the lockstep cores (R77 condition 3). -/
def State.blockSource (s : State) : Bool := s.safe.line || s.cmpActive

/-- No fault of class TRIP is active (R77 condition 3, Table 15-9). -/
def State.noTrip (s : State) : Bool := s.mode.trips.isEmpty && !s.cmpActive

/-- The position lease is lost: frames stop, the field-side die switches its outputs off, event 0x7041; the reset that
follows 1 ms later is its own command (R433). A device without a partner holds the lease at all times (R429). -/
def State.leaseLost (s : State) : State :=
  if s.DPX_ENABLE != 0 && s.dpx.lease then
    let off := s.safe.outs.map (fun o => o.turnOff)
    let s := { s with dpx := { s.dpx with lease := false, yielded := some s.now }, safe := { s.safe with outs := off } }
    s.warnOn 0x7041 0 []
  else s

end Sys2Proof.Machine
end

