-- ==== Sys2Proof/Machine/Recorder.lean ====
section
/-! DEFINITION. The event recorder (16): folios, the ring, the boot scan, windows, clearing, application events. -/
namespace Sys2Proof.Machine

/-- The 64 bytes of a folio (Table 16-1). -/
def Folio.bytes (f : Folio) : List Nat :=
  let body := le 8 f.seq ++ le 2 f.code ++ [f.cls.code, f.region % 16] ++ le 2 f.tag ++ le 2 f.device
    ++ time96 f.sec f.ns ++ le 8 f.tick ++ le 2 f.suppressed ++ [0, 0] ++ padTo 16 f.payload
  body ++ le 4 (crc32 body) ++ le 4 (0xFFFFFFFF - f.seq % 4294967296)

/-- The slot of a sequence number. -/
def RecState.slot (r : RecState) (seq : Nat) : Slot := tget (fun _ => Slot.empty) r.ring (seq % 65536)

/-- The ring with a folio in its slot (R457). -/
def RecState.place (r : RecState) (f : Folio) : RecState :=
  { r with ring := tput (fun _ => Slot.empty) r.ring (f.seq % 65536) (.valid f) }

/-- The folio of a sequence number in the ring, where its slot is valid and it is not below the clear floor (R452,
R465). -/
def RecState.inRing (r : RecState) (seq : Nat) : Option Folio :=
  match r.slot seq with
  | .valid f => if f.seq = seq && r.floor ≤ seq then some f else none
  | _ => none

/-- OLDEST (R462). -/
def RecState.oldest (r : RecState) : Nat := max 1 (max r.floor (r.written - 65535))

/-- The ring is being written (R456, R460). -/
def State.ringOn (s : State) : Bool :=
  s.recd.writing && !s.recd.memFail && (s.isRun .record || s.run .record == .stopping)

/-- REC_STATE (0x7100:03). -/
def State.recState (s : State) : Nat :=
  flagBits [s.ringOn, s.recd.memFail, 28 ≤ s.recd.count, 32 ≤ s.recd.count]

/-! ### The boot scan -/

/-- The highest valid SEQ at or above the floor (R458). -/
def RecState.highest (r : RecState) : Nat :=
  r.ring.foldl (fun m kv => match kv.2 with
    | .valid f => if r.floor ≤ f.seq then max m f.seq else m
    | _ => m) 0

/-- How many slots of OLDEST .. NEWEST hold no valid folio (R458). -/
def RecState.missing (r : RecState) : Nat :=
  let lo := r.oldest
  let have_ := (r.ring.filter (fun kv => match kv.2 with
    | .valid f => lo ≤ f.seq && f.seq ≤ r.newest
    | _ => false)).length
  (r.newest + 1 - lo) - have_

/-- The held folios with SEQ n + 1 onward. -/
def numberFolios : Nat → List Folio → List Folio
  | _, [] => []
  | n, f :: fs => { f with seq := n + 1 } :: numberFolios (n + 1) fs

/-- The scan of step 3 of the boot sequence: the floor's folio restored, NEWEST found, held events numbered, masters'
cursors set, invalid slots recorded (R458, R465, R469). -/
def State.bootScan (s : State) : State :=
  let r := s.recd
  let r := match r.floorCopy with
    | some f => if r.floor = 0 then r else if (r.inRing r.floor).isSome then r else r.place f
    | none => r
  let top := r.highest
  let r := { r with newest := top, written := top }
  let bad := if top = 0 then 0 else r.missing
  let held := numberFolios top r.held
  let r := { r with newest := top + held.length, margin := held, held := [], scanned := true }
  let old := r.oldest
  let s := { s with recd := r, masters := s.masters.map (fun m => { m with cursor := old }) }
  if bad = 0 then s else s.warn 0x8006 (le 4 (min bad 4294967295))

/-! ### Writing to the ring -/

/-- The events due when the buffer drains: 0x8005 at 27 or fewer, 0x8004 when empty after a restart (R456, R460). -/
def State.drained (s : State) : State :=
  let s := if s.recd.count ≤ 27 && s.recd.dropEpisode != 0 then
      let n := s.recd.dropEpisode
      ({ s with recd := { s.recd with dropEpisode := 0 } }).warn 0x8005 (le 4 (min n 4294967295))
    else s
  match s.recd.restoring with
  | some n =>
    if s.recd.margin.isEmpty then
      ({ s with recd := { s.recd with restoring := none } }).note 0x8004 (le 8 s.recd.failSeq ++ le 4 n)
    else s
  | none => s

/-- A memory failure while a folio is written (R459). -/
def State.memFailure (s : State) (f : Folio) (cause : Nat) : State :=
  let r := s.recd
  let keep := if 32 ≤ r.margin.length then r.margin.dropLast else r.margin
  let lost := r.margin.length - keep.length
  let pl := le 2 (f.seq % 65536) ++ [cause] ++ le 8 f.seq
  let e := { s.folio 0x8002 .warn 6 pl with seq := r.newest + 1 }
  let w : ActiveWarn := ⟨6, 0x8002, 0⟩
  let s := { s with
    recd := { r with newest := r.newest + 1, margin := e :: keep, memFail := true, writing := false,
                     failSeq := r.newest + 1, dropped := satU 32 (r.dropped + lost),
                     dropEpisode := r.dropEpisode + lost, lDropped := r.lDropped || 0 < lost }
    mode := { s.mode with warns := w :: s.mode.warns.filter (fun x => x != w) } }
  if s.run .record == .stopping then (s.fnDown .record).setRun .record .stopped else s

/-- FOLIO_WRITE: the oldest folio of the margin buffer is written to its slot and read back (R456, R457, R459,
R460). Nothing happens while the ring is not being written or the buffer is empty. -/
def State.folioWrite (s : State) (a : MemAnswer) : State :=
  if !s.ringOn then s
  else match s.recd.margin with
    | [] => s
    | f :: rest =>
      match a with
      | .good =>
        let s := { s with recd := { (s.recd.place f) with margin := rest, written := max s.recd.written f.seq } }
        let s := s.drained
        if s.run .record == .stopping && s.recd.margin.isEmpty then (s.fnDown .record).setRun .record .stopped else s
      | .mismatch => s.memFailure f 1
      | .ecc => s.memFailure f 2
      | .silent => s.memFailure f 3

/-- FOLIO_WRITE. -/
def execFolioWrite (a : MemAnswer) (s : State) : Out := .next (s.folioWrite a)

/-! ### Windows -/

/-- The status of one entry of a window (R462). -/
def RecState.entryAt (r : RecState) (seq : Nat) : Nat × List Nat :=
  if r.newest < seq then (2, List.replicate 64 0)
  else match r.inRing seq with
    | some f => (0, f.bytes)
    | none => match r.margin.find? (fun f => f.seq == seq) with
      | some f => (1, f.bytes)
      | none => (3, List.replicate 64 0)

/-- A snapshot at a cursor, with the cursor after it (R462). -/
def RecState.window (r : RecState) (cursor : Nat) (advance : Bool) : Window × Nat :=
  let first := max cursor r.oldest
  let es := (List.range 4).map (fun i => r.entryAt (first + i))
  let n := (es.filter (fun e => e.1 != 2)).length
  ({ first := first, skipped := satU 32 (first - cursor), status := es.map (·.1), folios := es.map (·.2) },
   if advance then first + n else cursor)

/-- The 272 bytes of WINDOW (0x7101:03). -/
def Window.bytes (w : Window) : List Nat := le 8 w.first ++ le 4 w.skipped ++ w.status ++ w.folios.flatten

/-- REC_WCTRL.LOAD: the snapshot goes into the master's window registers (R469). -/
def State.loadWindow (s : State) (m : Nat) : State :=
  { s with masters := updAt m (fun x =>
      let (w, c) := s.recd.window x.cursor x.advance
      { x with win := w, cursor := c }) s.masters }

/-- WINDOW_SNAPSHOT: a write of 1 to REC_WCTRL.LOAD by a master. -/
def execWindowSnapshot (m : Fin 7) (s : State) : Out := .next (s.loadWindow m.val)

/-! ### Clearing -/

/-- Why a clear is refused, or OK (R463). -/
def State.clearStatus (s : State) (level value : Nat) : Nat :=
  if level < 3 then stPrivilege
  else if !(s.isRun .record) || s.recd.memFail then stRunstate
  else if value != s.recd.newest % 4294967296 then stRange
  else stOk

/-- An accepted clear takes effect (R464). -/
def State.clearNow (s : State) (session : Nat) : State :=
  let r := s.recd
  let old := r.oldest
  let n := r.newest + 1 - old
  let hi := if n = 0 then 0 else r.newest
  let c := r.newest + 1
  let f := { s.folio 0x8001 .note 6 (le 4 session ++ le 4 (min n 4294967295) ++ le 8 hi) with seq := c }
  { s with recd := { r with newest := c, floor := c, floorCopy := some f, margin := [f] } }

/-- RECORDER_CLEAR: a clear by a session of a level with a value (R463, R464). -/
def execRecorderClear (session level value : Nat) (s : State) : Out :=
  .next (if s.clearStatus level value = stOk then s.clearNow session else s)

/-! ### Offers -/

/-- A code that Table 16-2 assigns (R467). -/
def assigned (c : Nat) : Bool :=
  [(0x0010, 0x0017), (0x0110, 0x0112), (0x0120, 0x0122), (0x0200, 0x0209), (0x0300, 0x0304), (0x1011, 0x1064),
   (0x1070, 0x1093), (0x2001, 0x2040), (0x2101, 0x2111), (0x3001, 0x3050), (0x4010, 0x4054), (0x5130, 0x5131),
   (0x5201, 0x5250), (0x5300, 0x530B), (0x6001, 0x6302), (0x6401, 0x6430), (0x7001, 0x7042), (0x8001, 0x8006),
   (0x9000, 0x9FFF), (0xF000, 0xFFFF)].any (fun r => r.1 ≤ c && c ≤ r.2)

/-- EVENT_OFFER: events offered in one fabric cycle, accepted in ascending order of region (R454); a code of no range
is never recorded (R467). -/
def execEventOffer (evs : List Offer) (s : State) : Out :=
  .next ((sortBy (fun e => e.region) evs).foldl (fun s e =>
    if assigned e.code then s.offer e.code e.cls e.region e.payload else s) s)

/-- A bit of a region's ERROR register is set (Table 2-15). -/
def State.errBit (s : State) (region i : Nat) : State :=
  { s with hdrs := updAt region (fun h => { h with err := setBit h.err i }) s.hdrs }

/-- A master offers an application event (R466). -/
def State.recOffer (s : State) (m code : Nat) (warn : Bool) : State :=
  if 0xF000 ≤ code && code ≤ 0xFFFF then
    let d := (entry s.masters m {}).offerData
    s.offer code (if warn then .warn else .note) 8 (d.flatMap (le 4))
  else s.errBit 6 4

/-- REC_OFFER: a write of REC_OFFER by an application core (R466). -/
def execRecOffer (core : Fin 4) (code : BitVec 16) (warn : Bool) (s : State) : Out :=
  .next (s.recOffer core.val code.toNat warn)

/-- REC_NEWEST_LO_READ: the read latches REC_NEWEST_HI (Table 16-7). -/
def State.readNewest (s : State) (m : Nat) : State :=
  { s with recd := { s.recd with newestHi := s.recd.newest / 4294967296 }
           masters := updAt m (fun x => { x with readData := s.recd.newest % 4294967296 }) s.masters }

/-- REC_NEWEST_LO_READ. -/
def execRecNewestLoRead (m : Fin 7) (s : State) : Out := .next (s.readNewest m.val)

/-- REC_OLDEST_LO_READ: the read latches REC_OLDEST_HI (Table 16-7). -/
def State.readOldest (s : State) (m : Nat) : State :=
  { s with recd := { s.recd with oldestHi := s.recd.oldest / 4294967296 }
           masters := updAt m (fun x => { x with readData := s.recd.oldest % 4294967296 }) s.masters }

/-- REC_OLDEST_LO_READ. -/
def execRecOldestLoRead (m : Fin 7) (s : State) : Out := .next (s.readOldest m.val)

/-! ### Start -/

/-- The codes of an override table (Table 16-6). -/
def overrideCodes : Nat → List Nat → List Nat
  | 0, _ => []
  | n + 1, t =>
    match t with
    | c0 :: c1 :: _ :: _ :: _ :: _ :: rest => (c0 + 256 * c1) :: overrideCodes n rest
    | _ => []

/-- The start check of RECORD (Table 16-8); memOk says whether the slots were read and the next one verified. -/
def State.recordCheck (s : State) (memOk : Bool) : Nat :=
  let cs := overrideCodes 16 s.RL_OVERRIDE
  if !memOk then 1
  else if !(decide cs.Nodup) || cs.any (fun c => 0x8000 ≤ c && c < 0x9000) then 2
  else 0

/-- What a passing START of RECORD does: the buckets are full, and the margin buffer drains in SEQ order (R455, R460). -/
def State.recordUp (s : State) : State :=
  let r := s.recd
  let w : ActiveWarn := ⟨6, 0x8002, 0⟩
  let s := { s with
    recd := { r with writing := true, memFail := false, buckets := [], dropped := 0, suppressedN := 0,
                     margin := sortBy (fun f => f.seq) r.margin,
                     restoring := if r.memFail then some r.dropped else r.restoring }
    mode := { s.mode with warns := s.mode.warns.filter (fun x => x != w) } }
  s.drained

end Sys2Proof.Machine
end

