-- ==== Sys2Proof/Machine/Clocks.lean ====
section
/-! DEFINITION. Clocks and phase-locked loops (11): band choice, commit, coast, backup, relock. PLLs A to D are 0 to 3,
the main PLL is 4. -/
namespace Sys2Proof.Machine

/-- A PLL by number. -/
def ClkState.pll (c : ClkState) : Nat → Pll
  | 0 => c.a | 1 => c.b | 2 => c.c | 3 => c.d | _ => c.main

/-- The clocks with one PLL replaced. -/
def ClkState.put (c : ClkState) (i : Nat) (p : Pll) : ClkState :=
  match i with
  | 0 => { c with a := p } | 1 => { c with b := p } | 2 => { c with c := p } | 3 => { c with d := p }
  | _ => { c with main := p }

/-- The state with one PLL replaced. -/
def State.putPll (s : State) (i : Nat) (p : Pll) : State := { s with clk := s.clk.put i p }

/-- The 32 words of a band table (Table 11-2). -/
def bandWords (b : List Nat) : List Nat := (List.range 32).map (fun i => ofLe ((b.drop (4 * i)).take 4))

/-- The margin of an entry for a VCO frequency in MHz: the distance to the nearer edge, where both margins are at least
0.5 % of the frequency and the entry is valid (R314). -/
def bandMargin (w f : Nat) : Option Nat :=
  let lo := 2 * bits w 8 12
  let hi := 2 * bits w 20 12
  if bit w 6 && lo ≤ f && f ≤ hi then
    let m := min (f - lo) (hi - f)
    if f ≤ 200 * m then some m else none
  else none

/-- The qualifying entries in the order of R314 and R315: greatest margin first, ties to the lower index. -/
def bandOrder (ws : List Nat) (f : Nat) : List Nat :=
  let q := (List.range 32).filterMap (fun i => (bandMargin (entry ws i 0) f).map (fun m => (i, m)))
  (sortBy (fun x => 100000 - x.2) q).map (·.1)

/-- The VCO frequency of settings, MHz (R311). -/
def PllCfg.vco (c : PllCfg) : Nat := c.n * 25

/-- The frequencies of OUT0 and OUT1, kHz: the VCO divided by the output dividers, 0 for an unused output (R311). -/
def PllCfg.outs (c : PllCfg) : Nat × Nat := (c.vco * 1000 / c.od0, c.vco * 1000 / c.od1)

/-- The name of a PLL in an event (R335). -/
def pllName (i : Nat) : List Nat := le 2 i

/-- An acquisition of PLL i begins with its active copy (R314, R315, R318). -/
def State.acquire (s : State) (i : Nat) : State :=
  let p := s.clk.pll i
  match bandOrder p.act.band p.act.vco with
  | [] => ((s.putPll i { p with st := .unlocked, out := false, bandIx := none, tries := [], frozen := false }).warnOff
      0x0201 i).warnKeep 0x0207 i (pllName i)
  | e :: rest => ((s.putPll i { p with
      st := .acquire, out := false, bandIx := some e, tries := rest, at_ := s.now, frozen := false }).warnOff
        0x0201 i).warnOff 0x0207 i

/-- The shadow copy of small PLL i (R316). -/
def State.shadow (s : State) (i : Nat) : PllCfg :=
  { n := s.PLL_N i, od0 := s.PLL_OD0 i, od1 := s.PLL_OD1 i, bw := s.LOOP_BW i, band := bandWords (s.BAND_TABLE i) }

/-- The spread settings as a profile: mode, depth, frequency, custom points (R320, R321). -/
def State.sscNow (s : State) : Nat × Nat × Nat × List Nat :=
  (s.SSC_MODE, s.SSC_DEPTH, s.SSC_FREQ,
   (List.range s.SSC_POINTS).map (fun p => ofLe ((s.SSC_PROFILE.drop (4 * p)).take 4)))

/-- A START of CLOCK starts a new profile, from deviation 0 (R322). -/
def State.sscStart (s : State) : State := { s with clk := { s.clk with ssc := s.sscNow, sscAt := s.now } }

/-- The four small PLLs take their shadow copies on one reference edge; a PLL whose copy changes acquires again
(R316, R318). -/
def State.commitNow (s : State) : State :=
  let s := if s.clk.byStart then s.sscStart else s
  let s := { s with clk := { s.clk with commit := false, byStart := false } }
  (List.range 4).foldl (fun s i =>
    let sh := s.shadow i
    let p := s.clk.pll i
    if p.act == sh then s else (s.putPll i { p with act := sh }).acquire i) s

/-- A commit, held while the reference is lost or qualifying (R317, R319). -/
def State.clkCommit (s : State) (byStart : Bool) : State :=
  let s := { s with clk := { s.clk with byStart := byStart || s.clk.byStart } }
  if s.clk.ref == .present then s.commitNow else { s with clk := { s.clk with commit := true } }

/-- The status of a write of CLK_COMMIT (R317, R332). -/
def State.commitStatus (s : State) (level : Nat) : Nat :=
  if level < 3 then stPrivilege else if s.isDown .clock then stOk else stRunstate

/-- CLK_COMMIT: a write of 1 by a session of a level (R317). -/
def execClkCommit (level : Nat) (s : State) : Out :=
  .next (if s.commitStatus level = stOk then s.clkCommit false else s)

/-- CLOCK in STARTING goes to RUNNING when no commit is held and every small PLL has finished its acquisition, and
to STOPPED with code 5 when one has tried every entry (R318, Table 11-9). -/
def State.clockSettle (s : State) : State :=
  if s.run .clock == .starting && !s.clk.commit then
    let ps := [s.clk.a, s.clk.b, s.clk.c, s.clk.d]
    if ps.any (fun p => p.st == .acquire) then s
    else if ps.any (fun p => p.st == .unlocked || p.st == .off) then
      ((s.setCheck .clock 5).setRun .clock .stopped).offer 0x0121 .warn 0 [10, 5]
    else s.setRun .clock .running
  else s

/-- HELD_COMMIT_APPLY: the held commit on the first reference edge after the reference is present again, after any
pending switch (R319, R331). -/
def execHeldCommitApply (s : State) : Out :=
  .next (if s.clk.commit && s.clk.ref == .present && (List.range 4).all (fun i => !(s.clk.pll i).pending)
    then s.commitNow.clockSettle else s)

/-- PLL_LOCK: the phase error has stayed below 200 ps for 1024 cycles: LOCKED, outputs released, and what was recorded about
the loss of the lock or the acquisition is over (R315, R325). -/
def State.pllLock (s : State) (i : Nat) : State :=
  let p := s.clk.pll i
  if p.st == .acquire then
    ((((s.putPll i { p with st := .locked, out := true, tries := [], frozen := false }).warnOff 0x0201 i).warnOff
      0x0208 i).note 0x0200 (pllName i)).clockSettle
  else s

/-- PLL_LOCK. -/
def execPllLock (p : Fin 5) (s : State) : Out := .next (s.pllLock p.val)

/-- The band of an acquisition has failed: the next qualifying entry is tried; after the last one event 0x0208 (R315,
R318). -/
def State.acqNext (s : State) (i : Nat) : State :=
  let p := s.clk.pll i
  if p.st == .acquire then
    match p.tries with
    | e :: rest => s.putPll i { p with bandIx := some e, tries := rest, at_ := s.now }
    | [] => (((s.putPll i { p with st := .unlocked, bandIx := none }).warnOff 0x0201 i).warnKeep 0x0208 i
        (pllName i)).clockSettle
  else s

/-- An acquisition that fails on n entries and locks on the next, where there is one. -/
def State.acqRun (i : Nat) : Nat → State → State
  | 0, s => s.pllLock i
  | n + 1, s => (s.acqNext i).acqRun i n

/-- ACQUISITION_TIMEOUT: 200 µs after the band was applied (R315). -/
def State.acqTimeout (s : State) (i : Nat) : State :=
  if (s.clk.pll i).st == .acquire && (s.clk.pll i).at_ + us 200 ≤ s.now then s.acqNext i else s

/-- ACQUISITION_TIMEOUT. -/
def execAcquisitionTimeout (p : Fin 5) (s : State) : Out := .next (s.acqTimeout p.val)

/-- PLL i enters COAST: control value frozen, loop open, counted, recorded once per episode (R325). -/
def State.coast (s : State) (i : Nat) : State :=
  let p := s.clk.pll i
  if p.st == .locked || p.st == .acquire || p.st == .relockF || p.st == .relockP then
    (s.putPll i { p with st := .coast, frozen := true, coasts := incSat 32 p.coasts }).warnOn 0x0201 i (pllName i)
  else s

/-- A coasting PLL closes its loop again: RELOCK_F, or its interrupted acquisition with a new 200 µs limit (R329,
R331). -/
def State.relock (s : State) (i : Nat) : State :=
  let p := s.clk.pll i
  if p.st == .coast then
    s.putPll i (if p.out then { p with st := .relockF, at_ := s.now } else { p with st := .acquire, at_ := s.now })
  else s

/-- PLL_LOCK_LOST: the error exceeded 1 ns for 16 cycles while the reference is present: COAST, and relock at once
(R315, R325, R329). -/
def execPllLockLost (p : Fin 5) (s : State) : Out :=
  .next (if (s.clk.pll p.val).st == .locked && s.clk.ref == .present then (s.coast p.val).relock p.val else s)

/-- REFERENCE_LOST: every PLL coasts (R324, R325, R331). -/
def State.refLost (s : State) : State :=
  if s.clk.ref == .lost then s
  else
    let s := { s with clk := { s.clk with ref := .lost, lostAt := some s.now, losses := incSat 32 s.clk.losses } }
    let s := (s.warnOff 0x0202 0).warnOn 0x0202 0 []
    (List.range 5).foldl (fun s i => s.coast i) s

/-- REFERENCE_LOST. -/
def execReferenceLost (s : State) : Out := .next s.refLost

/-- REFERENCE_QUALIFYING: the first edge after a loss (R324). -/
def execReferenceQualifying (s : State) : Out :=
  .next (if s.clk.ref == .lost then { s with clk := { s.clk with ref := .qualifying } } else s)

/-- REFERENCE_PRESENT: 1024 good cycles; each coasting PLL relocks (R324, R329). -/
def State.refPresent (s : State) : State :=
  if s.clk.ref == .qualifying then
    let s := { s with clk := { s.clk with ref := .present, lostAt := none } }
    let s := (s.warnOff 0x0202 0).note 0x0203 []
    (List.range 5).foldl (fun s i => s.relock i) s
  else s

/-- REFERENCE_PRESENT. -/
def execReferencePresent (s : State) : Out := .next s.refPresent

/-- A PLL drifts: a switch to its backup is pending, unless one is already, or the switch is made (R326, R327, R331). -/
def State.drifts (s : State) (i : Nat) : State :=
  let p := s.clk.pll i
  if p.st == .coast then s.putPll i { p with drift := true, pending := p.pending || !p.backup } else s

/-- FREQ_MONITOR_WINDOW: one window of 1024 reference cycles measured PLL p at err, in 0.01 ppm from nominal or from the
mean of its profile; beyond 500 ppm a coasting PLL drifts (R326). -/
def execFreqMonitorWindow (p : Fin 5) (err : Int) (s : State) : Out :=
  let s := s.putPll p.val { s.clk.pll p.val with ferr := sat32 err }
  .next (if 50000 < absI err then s.drifts p.val else s)

/-- REFERENCE_LOSS_10S: every PLL is treated as drifting (R326). -/
def execReferenceLoss10s (s : State) : Out :=
  .next (match s.clk.lostAt with
    | some t => if t + secs 10 ≤ s.now then (List.range 5).foldl (fun s i => s.drifts i) s else s
    | none => s)

/-- The largest magnitude of r, in 2^−32 ns per 8 ns cycle (R337). -/
def State.rMax (s : State) : Int := 8 * (s.MAX_ADJ : Int) * 4294967296 / 1000000

/-- r in force, within ±MAX_ADJ (R337). -/
def State.rNow (s : State) : Int := clampI (-s.rMax) s.rMax s.time.r

/-- AT_LIMIT: r is at ±MAX_ADJ (Table 12-7). -/
def State.atLimit (s : State) : Bool := s.rMax ≤ absI s.time.r

/-- r takes a value; being held at ±MAX_ADJ is recorded once per episode (R344). -/
def State.putR (s : State) (r : Int) : State :=
  let s := { s with time := { s.time with r := r } }
  if s.atLimit then s.warnOn 0x530A 0 [] else s.warnOff 0x530A 0

/-- The servo enters FREE; r is 0 except from HOLDOVER (Table 12-3). -/
def State.servoFree (s : State) : State :=
  if s.time.servo == .free then s
  else
    let r := if s.time.servo == .holdover then s.time.r else 0
    (({ s with time := { s.time with servo := .free, okRun := 0 } }).putR r).warnOff 0x5305 0

/-- The servo enters FREE while the domains of PLL C are on their backup (R348, Table 12-3). -/
def State.timeOnBackup (s : State) : State :=
  if s.isRun .time && !s.time.onBackup then
    ({ s.servoFree with time := { s.servoFree.time with onBackup := true } }).warnOn 0x530B 0 []
  else s

/-- The duplex link fails, by silence or with its clock; the mirror stops with it (Table 11-4, R425; log entry 17). -/
def State.dpxLinkLost (s : State) : State :=
  if s.dpx.link then
    ({ s with dpx := { s.dpx with link := false, mirrorOn := false } }).warnOn 0x7011 0 []
  else s

/-- The consequences of a switch to backup (Table 11-4). -/
def State.onBackup (s : State) (i : Nat) : State :=
  match i with
  | 0 | 1 => if s.mode.mode == .forming && s.isRun .clock then s.trip 0x0205 .clock (pllName i) else s
  | 2 => s.timeOnBackup
  | 3 => s.dpxLinkLost
  | _ => s

/-- BACKUP_SWITCH_DONE: the pending switch is complete at a handshake boundary (R327, R328). -/
def execBackupSwitchDone (p : Fin 5) (s : State) : Out :=
  let x := s.clk.pll p.val
  .next (if x.pending then
      ((s.putPll p.val { x with pending := false, backup := true }).warnOn 0x0204 p.val (pllName p.val)).onBackup p.val
    else s)

/-- BACKUP_TRIM: every 1 ms while the reference is present (R327). -/
def execBackupTrim (p : Fin 5) (s : State) : Out :=
  let x := s.clk.pll p.val
  .next (if s.clk.ref == .present && x.trimmed + ms 1 ≤ s.now then s.putPll p.val { x with trimmed := s.now } else s)

/-- MONITOR_RATIO_MEASURE: every 1 ms while the reference is present (R326). -/
def execMonitorRatioMeasure (ppm : Int) (s : State) : Out :=
  .next (if s.clk.ref == .present && s.clk.ratioAt + ms 1 ≤ s.now
    then { s with clk := { s.clk with ratio := ppm, ratioAt := s.now } } else s)

/-- A phase error in ps modulo one reference cycle of 40 ns, in the shorter direction (R329). -/
def shortPhase (err : Int) : Int := let x := err % 40000; if 20000 < x then x - 40000 else x

/-- The slew limit of PLL i in ps per µs (R323, R329). -/
def State.slewLimit (s : State) (i : Nat) : Nat :=
  if i = 4 then 500
  else if i = 0 then min (s.PHASE_SLEW 0) (1000 / s.mode.tickLen - 200)
  else s.PHASE_SLEW i

/-- The offset of every PLL in RELOCK_P goes toward zero for one tick at its slew limit (R329; notes/assumptions/136.md). -/
def State.slewPlls (s : State) : State :=
  (List.range 5).foldl (fun s i =>
    let p := s.clk.pll i
    let d : Int := (s.slewLimit i * s.tickNs / 1000 : Nat)
    if p.st == .relockP then
      s.putPll i { p with offset := if 0 ≤ p.offset then max 0 (p.offset - d) else min 0 (p.offset + d) }
    else s) s

/-- RELOCK_F_DONE: the phase error, in ps, is loaded as the offset (R329). -/
def execRelockFDone (e : PllError) (s : State) : Out :=
  let x := s.clk.pll e.pll.val
  .next (if x.st == .relockF then
      s.putPll e.pll.val { x with st := .relockP, at_ := s.now, frozen := false, offset := shortPhase e.err }
    else s)

/-- RELOCK_P_DONE: the offset has reached zero and R315 holds (R329). -/
def execRelockPDone (p : Fin 5) (s : State) : Out :=
  let x := s.clk.pll p.val
  .next (if x.st == .relockP && x.offset = 0 then
      (((s.putPll p.val { x with st := .locked, out := true }).warnOff 0x0201 p.val).note 0x0209
        (pllName p.val)).clockSettle
    else s)

/-- BACKUP_RETURN: the domains return to a PLL that is LOCKED (R330, R348). -/
def execBackupReturn (p : Fin 5) (s : State) : Out :=
  let x := s.clk.pll p.val
  .next (if x.backup && x.st == .locked then
      let s := ((s.putPll p.val { x with backup := false }).warnOff 0x0204 p.val).note 0x0206 (pllName p.val)
      if p.val = 2 then ({ s with time := { s.time with onBackup := false } }).warnOff 0x530B 0
      else if p.val = 4 then s.warnOff 0x0015 0 else s
    else s)

/-! ### Spread profile and start check -/

/-- A custom profile is valid (R321). -/
def sscValid (pts : List Nat) : Bool :=
  let devs := pts.map (fun w => bits w 0 10)
  let lens := pts.map (fun w => bits w 16 16)
  let prev := devs.getLastD 0 :: devs
  let total := sumN lens
  devs.all (fun d => d ≤ 1000) && lens.all (fun l => 1 ≤ l) &&
    ((prev.zip (devs.zip lens)).all (fun x => absI ((x.2.1 : Int) - (x.1 : Int)) ≤ (x.2.2 : Int))) &&
    125 ≤ total && total ≤ 250000

/-- The deviation of a custom profile at cycle t of its period, in 0.001 %, rounded down (R321). -/
def sscCustom : Nat → Nat → List Nat → Nat
  | prev, _, [] => prev
  | prev, t, w :: ws =>
    let dev := bits w 0 10
    let len := bits w 16 16
    if t < len then ((prev : Int) + ((dev : Int) - (prev : Int)) * (t : Int) / (len : Int)).toNat
    else sscCustom dev (t - len) ws

/-- The main PLL's downward deviation now, in 0.001 %; the first period of a profile starts from deviation 0 (R320 to R322). -/
def State.sscDev (s : State) : Nat :=
  let (mode, depth, freq, pts) := s.clk.ssc
  let cyc := (s.now - s.clk.sscAt) / 40
  match mode with
  | 1 =>
    let per := (divNearAway 25000000 freq).toNat
    let up := (per + 1) / 2
    let dn := per - up
    let t := if per = 0 then 0 else cyc % per
    if t < up then depth * t / up else depth * (per - t) / dn
  | 2 =>
    let per := sumN (pts.map (fun w => bits w 16 16))
    sscCustom (if cyc < per then 0 else bits (pts.getLastD 0) 0 10) (if per = 0 then 0 else cyc % per) pts
  | _ => 0

/-- N and dividers of small PLL i in Table 11-1. -/
def table11 : Nat → Nat × Nat × Nat
  | 0 => (120, 6, 30) | 1 => (125, 20, 0) | 2 => (120, 24, 0) | _ => (100, 20, 0)

/-- The start check of CLOCK (Table 11-9). -/
def State.clockCheck (s : State) : Nat :=
  let sh := (List.range 4).map (fun i => (i, s.shadow i))
  if sh.any (fun x => (x.2.n, x.2.od0, x.2.od1) != table11 x.1) then 1
  else if sh.any (fun x => (bandOrder x.2.band x.2.vco).isEmpty) then 2
  else if s.SSC_MODE = 2 && !(sscValid s.sscNow.2.2.2) then 3
  else if (bandOrder (bandWords s.MAIN_BAND_TABLE) 2000).isEmpty then 4
  else 0

/-- A passing start check of CLOCK commits and waits for the acquisitions (R317, R318). -/
def State.clockUp (s : State) : State := (s.clkCommit true).clockSettle

/-- PLL_STATE (0x8001:07). -/
def PllSt.code : PllSt → Nat
  | .off => 0 | .acquire => 1 | .locked => 2 | .coast => 3 | .relockF => 4 | .relockP => 5 | .unlocked => 6

/-- REF_STATE (0x8011:03). -/
def RefSt.code : RefSt → Nat
  | .present => 0 | .lost => 1 | .qualifying => 2

end Sys2Proof.Machine
end

