-- ==== Sys2Proof/Machine/Fabric.lean ====
section
/-! DEFINITION. The fabric's shared parts (18, 19): access by a master, the station-port policers, PRP duplicate
discard and supervision, hardware semaphores, message queues, corrected errors. -/
namespace Sys2Proof.Machine

/-! ### Access -/

/-- The privilege of a bus master: application cores run at P2, secure firmware at P3, the debug port at the level of
its session (R64), the parameter service and the engines without limit of their own (R498); the lockstep pair, for which R64 names
no level, at P3 (DESIGN CHOICE, log entry 125). -/
def State.mlevel (s : State) (m : Nat) : Nat :=
  if m < 4 then 2
  else if m = 5 then (match s.sec.dbg with | some d => d.level | none => 0)
  else 3

/-- What a master's register read returned. -/
def State.answer (s : State) (m v : Nat) : State :=
  { s with masters := updAt m (fun x => { x with readData := v }) s.masters }

/-- A read of a fenced block: 0, and ERROR.FENCE (R68). -/
def State.readFenced (s : State) (m region : Nat) : State := (s.answer m 0).errBit region 5

/-! ### PRP (Table 19-14) -/

/-- Duplicate discard: whether a frame with this redundancy trailer (source address and sequence number, or none) is
kept, and the table after it. Entries are kept for 400 ms; a full table forgets its oldest entry (R536). -/
def State.prp (s : State) (rct : Option (Nat × Nat)) : Bool × State :=
  match rct with
  | none => (true, s)
  | some (src, seq) =>
    let live := s.fab.dups.filter (fun d => s.now < d.2.2 + ms 400)
    if live.any (fun d => d.1 == src && d.2.1 == seq) then (false, { s with fab := { s.fab with dups := live } })
    else (true, { s with fab := { s.fab with dups := ((src, seq, s.now) :: live).take 2048 } })

/-- A port. -/
def sideOf (p : Side) : Nat := p.code

/-- The line of a station port is up and its MAC is not fenced (Table 18-5). -/
def State.netUp (s : State) (p : Side) : Bool := s.powered .net && entry s.fab.netUp p.code true && !(s.fenced 4 (1 + p.code))

/-- A frame leaves a station port; on a line that is down it is discarded at the head of its queue and counted
(R502). -/
def State.emitNet (s : State) (p : Side) (t : Tx) : State :=
  if s.netUp p then s.emit t else { s with fab := { s.fab with discarded := incSat 32 s.fab.discarded } }

/-- PRP_SUPERVISION_SEND: every 2000 ms on both ports to 01-15-4E-00-01-00, EtherType 0x88FB, TLV type 20 (R536). -/
def execPrpSupervisionSend (s : State) : Out :=
  let due := match s.fab.superAt with | none => true | some t => t + ms 2000 ≤ s.now
  let frame := [0x01, 0x15, 0x4E, 0x00, 0x01, 0x00] ++ Config.macAddress ++ [0x88, 0xFB, 20]
  .next (if due && s.powered .net then
      (({ s with fab := { s.fab with superAt := some s.now } }).emitNet .a (.prp .a frame)).emitNet .b (.prp .b frame)
    else s)

/-- PRP_SUPERVISION_RECEIVED: the node table holds 256 entries, each forgotten 60 s after its last frame (R536). -/
def execPrpSupervisionReceived (src : Nat) (s : State) : Out :=
  let live := s.fab.nodes.filter (fun n => s.now < n.2 + secs 60 && n.1 != src)
  .next { s with fab := { s.fab with nodes := ((src, s.now) :: live).take 256 } }

/-! ### Policers (R503) -/

/-- The four traffic kinds of Table 18-3. -/
inductive Traffic where
  | ps | sl | ptp | other
deriving DecidableEq, Repr

/-- The index of a kind. -/
def Traffic.ix : Traffic → Nat
  | .ps => 0 | .sl => 1 | .ptp => 2 | .other => 3

/-- Rate per second and bucket size of a kind on port p (Table 18-3). -/
def State.police (s : State) (p : Nat) : Traffic → Nat × Nat
  | .ps => (s.PS_RATE p, s.PS_BURST p)
  | .sl => (s.SL_RATE p, s.SL_BURST p)
  | .ptp => (s.PTP_RATE p, Config.ptpBurst + 1)
  | .other => (s.OTHER_RATE p * 1000, Config.otherBurst + 12176)

/-- The used part of a bucket. -/
def Policer.used (p : Policer) : Traffic → Nat
  | .ps => p.ps | .sl => p.sl | .ptp => p.ptp | .other => p.other

/-- The policer with one bucket's used part set at a time. -/
def Policer.put (p : Policer) (k : Traffic) (v now : Nat) : Policer :=
  let p := { p with at_ := putAt k.ix now p.at_ }
  match k with
  | .ps => { p with ps := v } | .sl => { p with sl := v } | .ptp => { p with ptp := v } | .other => { p with other := v }

/-- A frame of a cost (1, or its bits for other frames) meets its bucket on port p: passed or dropped, and the state
after it; a dropped frame is counted in POLICE_DROPS (R503). -/
def State.policed (s : State) (p : Side) (k : Traffic) (cost : Nat) : Bool × State :=
  let pol := entry s.fab.policers p.code {}
  let (rate, size) := s.police p.code k
  let used := pol.used k - rate * (s.now - entry pol.at_ k.ix 0)
  if used + cost * 1000000000 ≤ size * 1000000000 then
    (true, { s with fab := { s.fab with
      policers := putAt p.code (pol.put k (used + cost * 1000000000) s.now) s.fab.policers } })
  else
    (false, { s with fab := { s.fab with
      policers := putAt p.code { pol.put k used s.now with drops := incSat 32 pol.drops } s.fab.policers } })

/-- What happens to a station-port frame before it enters the fabric: a fenced MAC receives nothing, PRP duplicates
are discarded, then the policer decides (R503, R512, R536). -/
def State.ingress (s : State) (p : Side) (rct : Option (Nat × Nat)) (k : Traffic) (cost : Nat) : Bool × State :=
  if s.fenced 4 (1 + p.code) || !(s.powered .net) then (false, s)
  else
    let (keep, s) := s.prp rct
    if keep then s.policed p k cost else (false, s)

/-- APPLICATION_FRAME: a frame of nbits bits for the application cores; passed on it leaves the model's state as it
is, dropped it is counted (R503). -/
def execApplicationFrame (p : Side) (rct : Option (Nat × Nat)) (nbits : Nat) (s : State) : Out :=
  .next (s.ingress p rct .other nbits).2

/-! ### Hardware semaphores (R517) -/

/-- The word a read of HW_SEM gives a master (Table 18-7). -/
def semWord (h : Option Nat) (m : Nat) : Nat :=
  match h with
  | none => 0
  | some k => b2n (k == m) + 16 * (k % 8) + 128

/-- Every semaphore of a holder is released (R517). -/
def State.dropSems (s : State) (m : Nat) : State :=
  { s with fab := { s.fab with sems := s.fab.sems.map (fun x => if x.holder == some m then {} else x) } }

/-- A read of HW_SEM by a master (R517). -/
def State.semAcquire (s : State) (m sem : Nat) : State :=
  if s.fenced 0 5 then s.readFenced m 0
  else match (entry s.fab.sems sem {}).holder with
    | none =>
      ({ s with fab := { s.fab with sems := putAt sem ⟨some m, s.now⟩ s.fab.sems } }).answer m (semWord (some m) m)
    | some h => s.answer m (semWord (some h) m)

/-- SEM_ACQUIRE: a read of HW_SEM acquires a free semaphore for the reading master (R517). -/
def execSemAcquire (m : Fin 7) (sem : Fin 16) (s : State) : Out := .next (s.semAcquire m sem)

/-- A write of RELEASE: the holder frees the semaphore; another master's is refused (R65, R517). -/
def State.semRelease (s : State) (m sem : Nat) : State :=
  if s.fenced 0 5 then s.errBit 0 5
  else if (entry s.fab.sems sem {}).holder == some m then
    { s with fab := { s.fab with sems := putAt sem {} s.fab.sems } }
  else s.errBit 0 1

/-- SEM_RELEASE. -/
def execSemRelease (m : Fin 7) (sem : Fin 16) (s : State) : Out := .next (s.semRelease m sem)

/-- A write of RENEW: the holder renews its lease; another master's is refused (R65, R517). -/
def State.semRenew (s : State) (m sem : Nat) : State :=
  if s.fenced 0 5 then s.errBit 0 5
  else if (entry s.fab.sems sem {}).holder == some m then
    { s with fab := { s.fab with sems := putAt sem ⟨some m, s.now⟩ s.fab.sems } }
  else s.errBit 0 1

/-- SEM_RENEW. -/
def execSemRenew (m : Fin 7) (sem : Fin 16) (s : State) : Out := .next (s.semRenew m sem)

/-- SEM_LEASE_EXPIRY: a semaphore not renewed for SEM_LEASE is released, event 0x0304 (R517). -/
def execSemLeaseExpiry (sem : Fin 16) (s : State) : Out :=
  let x := entry s.fab.sems sem {}
  .next (match x.holder with
    | some h =>
      if x.renewed + us s.SEM_LEASE ≤ s.now then
        ({ s with fab := { s.fab with sems := putAt sem {} s.fab.sems } }).warn 0x0304 (le 2 sem.val ++ [h])
      else s
    | none => s)

/-! ### Message queues (R504) -/

/-- A write of QUEUE_DATA by a master. Only the producer of a queue in use may post; a post to a full queue is refused and
sets FULL (R504). -/
def State.queuePost (s : State) (m q w : Nat) : State :=
  let x := entry s.fab.queues q {}
  let put (y : MsgQ) : State := { s with fab := { s.fab with queues := putAt q y s.fab.queues } }
  if s.fenced 0 5 then s.errBit 0 5
  else if !x.enable || x.producer != m then s.errBit 0 1
  else if 32 ≤ x.entries.length then put { x with full := true }
  else put { x with entries := x.entries ++ [(w, s.now)] }

/-- QUEUE_POST. -/
def execQueuePost (m : Fin 7) (q : Fin 16) (w : BitVec 32) (s : State) : Out := .next (s.queuePost m q w.toNat)

/-- A read of QUEUE_DATA by a master. The consumer takes the oldest entry; 0 when empty, and for any other master (Table
18-7). -/
def State.queueTake (s : State) (m q : Nat) : State :=
  let x := entry s.fab.queues q {}
  if s.fenced 0 5 then s.readFenced m 0
  else if x.consumer != m then (s.answer m 0).errBit 0 1
  else match x.entries with
    | [] => s.answer m 0
    | e :: rest =>
      ({ s with fab := { s.fab with queues := putAt q { x with entries := rest } s.fab.queues } }).answer m e.1

/-- QUEUE_TAKE. -/
def execQueueTake (m : Fin 7) (q : Fin 16) (s : State) : Out := .next (s.queueTake m q)

/-! ### Corrected errors -/

/-- ECC_CORRECTED: a single-bit error in a block of a region is corrected, counted, and reported where the region has a register
space (R511, R512). -/
def execEccCorrected (region : Fin 9) (s : State) : Out :=
  let s := { s with fab := { s.fab with eccCorrected := incSat 32 s.fab.eccCorrected } }
  .next (if region.val < 8 then s.errBit region 7 else s)

/-- The n-th of ERROR_CLEAR: writing 1 to bits of a region's ERROR clears them; clearing ECC_U sets FIRST to 0xFF
(Table 2-15, R513). -/
def State.clearError (s : State) (region mask : Nat) : State :=
  { s with hdrs := updAt region (fun h =>
      { h with err := (List.range 9).foldl (fun e i => if bit mask i then clrBit e i else e) h.err,
               first := if bit mask 8 then 255 else h.first }) s.hdrs }

end Sys2Proof.Machine
end

