-- ==== Sys2Proof/Machine/Time.lean ====
section
/-! DEFINITION. Network time (12): the local clock, the best master choice, peer delay, the servo, UTC and leap seconds,
TICK_TAI. Times of the clock are whole ns of TAI as Int: seconds · 10^9 + NS. -/
namespace Sys2Proof.Machine

/-! ### The local clock -/

/-- The local time in ns. -/
def State.tai (s : State) : Int := (s.time.sec : Int) * 1000000000 + (s.clockNs : Int)

/-- RATE: r in 0.001 ppm (0x7001:04). -/
def State.rate (s : State) : Int := divNearAway (s.rNow * 1000000000) 34359738368

/-- One change of SECONDS by counting: leap seconds act at TAI seconds (R337, R351). -/
def State.rollSecond (s : State) : State :=
  let t := s.time
  let sec := t.sec + 1
  let s := { s with time := { t with sec := sec, rolled := true } }
  if t.rise then
    ({ s with time := { s.time with leap := false, rise := false, utc := t.utc + 1, leap61 := false } }).note 0x5309
      [t.utc % 256, (t.utc + 1) % 256, 1]
  else if t.gmUtc && t.leap61 && ((sec : Int) - 1 - t.utc) % 86400 == 86399 then
    { s with time := { s.time with leap := true, rise := true } }
  else if t.gmUtc && t.leap59 && ((sec : Int) - t.utc) % 86400 == 86399 then
    ({ s with time := { s.time with utc := t.utc - 1, leap59 := false } }).note 0x5309 [t.utc % 256, (t.utc - 1) % 256, 2]
  else if ((sec : Int) - s.utcOff) % 86400 == 0 then
    { s with time := { s.time with leap61 := false, leap59 := false } }
  else s

/-- One second of NS with its fraction. -/
abbrev nsfSecond : Nat := 1000000000 * 4294967296

/-- The clock advances by a number of 8 ns cycles while the NET domain is powered (R336, R337). -/
def State.runClock (s : State) (cycles : Nat) : State :=
  if s.powered .net then
    let total := ((s.time.nsf : Int) + (cycles : Int) * (8 * 4294967296 + s.rNow)).toNat
    let s := { s with time := { s.time with nsf := total % nsfSecond } }
    (List.range (total / nsfSecond)).foldl (fun s _ => s.rollSecond) s
  else s

/-- The clock set to a time in ns, its fraction cleared. -/
def State.setClock (s : State) (t : Int) : State :=
  let n := t.toNat
  { s with time := { s.time with sec := n / 1000000000, nsf := n % 1000000000 * 4294967296,
                                 rolled := s.time.rolled || n / 1000000000 != s.time.sec } }

/-- The clock moved back by an offset in ns, its fraction kept (R346, R347). -/
def State.stepClock (s : State) (off : Int) : State :=
  let f := s.time.nsf % 4294967296
  let s := s.setClock (s.tai - off)
  { s with time := { s.time with nsf := s.time.nsf + f } }

/-- The local time of the present tick edge goes to TICK_TAI after a change of SECONDS (R352). -/
def State.latchTai (s : State) : State :=
  if s.time.rolled then
    { s with time := { s.time with rolled := false, taiTick := s.tick, tai := (s.time.sec, s.clockNs) } }
  else s

/-- SECOND_ROLLOVER. -/
def execSecondRollover (s : State) : Out := .next s.latchTai

/-- TIME_SET: a write by a session of a level (Table 12-5). -/
def State.timeSetStatus (s : State) (level ns : Nat) : Nat :=
  if level < 2 then stPrivilege else if 999999999 < ns then stRange
  else if s.isDown .time then stOk else stRunstate

/-- TIME_SET. -/
def execTimeSet (level : Nat) (sec : BitVec 64) (ns : BitVec 32) (s : State) : Out :=
  .next (if s.timeSetStatus level ns.toNat = stOk
    then s.setClock ((sec.toNat : Int) * 1000000000 + (ns.toNat : Int)) else s)

/-- TIME_SEC_LO_READ: the other time registers are latched for the reading master (R338, Table 12-7). -/
def State.readTime (s : State) (m : Nat) : State :=
  let l : TimeLatch := { sec := s.time.sec, ns := s.clockNs, frac := s.time.nsf % 4294967296 / 65536,
                         tag := s.timeTag }
  { s with masters := updAt m (fun x => { x with time := l, readData := s.time.sec % 4294967296 }) s.masters }

/-- TIME_SEC_LO_READ. -/
def execTimeSecLoRead (m : Fin 7) (s : State) : Out := .next (s.readTime m.val)

/-! ### Ports -/

/-- A port's state. -/
def TimeState.port (t : TimeState) : Side → PtpPort
  | .a => t.pa | .b => t.pb

/-- The state with one port replaced. -/
def State.putPort (s : State) (p : Side) (x : PtpPort) : State :=
  { s with time := match p with | .a => { s.time with pa := x } | .b => { s.time with pb := x } }

/-- The other port. -/
def otherSide : Side → Side
  | .a => .b | .b => .a

/-- PTP runs on a port (R339, Table 12-5, Table 18-5). -/
def State.ptpOn (s : State) (p : Side) : Bool :=
  s.isRun .time && bit s.PTP_ENABLE p.code && s.netUp p && !(s.fenced 4 (1 + p.code))

/-- Strict lexicographic order of lists. -/
def lexLt : List Nat → List Nat → Bool
  | [], [] => false
  | [], _ :: _ => true
  | _ :: _, [] => false
  | a :: as, b :: bs => a < b || (a == b && lexLt as bs)

/-- What the default best master algorithm compares, most significant first (R341). -/
def rankOf (f : Foreign) : List Nat := [f.p1, f.cls, f.acc, f.var, f.p2] ++ f.gm ++ [f.steps] ++ f.sender

/-- The device's own data set in ROLE 1 (Table 12-1); its variance is PRESUMED (notes/assumptions/10.md). -/
def State.ownRank (s : State) : List Nat :=
  [s.PRIORITY1, 248, 0xFE, 0xFFFF, s.PRIORITY2] ++ Config.clockIdentity ++ [0] ++ Config.clockIdentity

/-- The best master heard on a port (R341). -/
def PtpPort.fm (x : PtpPort) : Option Foreign :=
  x.fms.foldl (fun b e => match b with
    | some f => if lexLt (rankOf e.1) (rankOf f) then some e.1 else b
    | none => some e.1) none

/-- An Announce is heard on a port at a time; masters not heard for three announce intervals are forgotten (Table 12-1). -/
def PtpPort.hear (x : PtpPort) (f : Foreign) (now : Nat) : PtpPort :=
  { x with fms := (x.fms.filter (fun e => e.1.sender != f.sender && now < e.2 + secs 3)) ++ [(f, now)] }

/-- The foreign master of a port that qualifies: PTP runs there, and in ROLE 1 it is better than the device itself. -/
def State.qualified (s : State) (p : Side) : Option Foreign :=
  if s.ptpOn p then
    match (s.time.port p).fm with
    | some f => if s.ROLE == 1 && !(lexLt (rankOf f) s.ownRank) then none else some f
    | none => none
  else none

/-- The port whose foreign master is better; NET0 on equality (R341). -/
def State.bestPort (s : State) : Option Side :=
  match s.qualified .a, s.qualified .b with
  | some fa, some fb => if lexLt (rankOf fb) (rankOf fa) then some .b else some .a
  | some _, none => some .a
  | none, some _ => some .b
  | none, none => none

/-- The grandmaster's identity; a change is recorded (Table 12-9). -/
def State.setGm (s : State) (id : List Nat) : State :=
  let t := s.time
  let s := { s with time := { t with gm := id, gmSeen := true } }
  if t.gmSeen && t.gm != id then s.note 0x5308 (padTo 8 id) else s

/-- A port shows a state while PTP runs on it, else DISABLED. -/
def State.showPort (s : State) (p : Side) (st : PortSt) : State :=
  s.putPort p { s.time.port p with st := if s.ptpOn p then st else .disabled }

/-- The grandmaster's UTC offset, from the Announce data of a port; a change of the offset in force outside a leap second is
recorded (R350, Table 16-10). -/
def State.takeUtc (s : State) (f : Foreign) : State :=
  let t := s.time
  let n := if f.utcOk then { t with utc := if t.rise then t.utc else f.utc, gmUtc := true } else t.noGm
  let s' := { s with time := n }
  if s'.utcOff != s.utcOff then s'.note 0x5309 [s.utcOff % 256, s'.utcOff % 256, 0] else s'

/-- The SLAVE port; a change between ports is recorded (R342). -/
def State.setSlave (s : State) (p : Side) : State :=
  let old := s.time.slave
  let s := { s with time := { s.time with slave := some p, slaveLost := none } }
  let s := (s.showPort p .slave).showPort (otherSide p) .passive
  let s := match (s.time.port p).fm with | some f => s.takeUtc f | none => s
  if old == some (otherSide p) then s.note 0x5306 [] else s

/-- The states of both ports after an Announce, a timeout or a link change (R341, R342, R345). -/
def State.setRoles (s : State) : State :=
  match s.bestPort with
  | some p =>
    let s := match s.qualified p with | some f => s.setGm f.gm | none => s
    if s.time.slaveLost.isSome then (s.showPort .a .passive).showPort .b .passive else s.setSlave p
  | none =>
    let s := { s with time := { s.time.noGm with slave := none, slaveLost := none } }
    if s.ROLE == 1 && (s.ptpOn .a || s.ptpOn .b) then
      (((s.showPort .a .master).showPort .b .master).setGm Config.clockIdentity).servoFree
    else
      let s := (s.showPort .a .passive).showPort .b .passive
      if s.time.servo == .acquire then s.servoFree else s

/-- A PTP frame reaches a port: its policer and its domain decide (R339, R340, R503). -/
def State.ptpIn (s : State) (p : Side) (domain : Nat) : Bool × State :=
  if s.ptpOn p then
    let (ok, s) := s.ingress p none .ptp 1
    (ok && domain == s.DOMAIN, s)
  else (false, s)

/-- The leap flags of an Announce of the master the SLAVE port follows (R351). -/
def State.takeLeap (s : State) (p : Side) (f : Foreign) : State :=
  if s.time.slave == some p && ((s.time.port p).fm.map (·.sender)) == some f.sender then
    { s with time := { s.time with leap61 := f.leap61, leap59 := f.leap59 } }
  else s

/-- PTP_ANNOUNCE (R341). -/
def execPtpAnnounce (p : Side) (domain : Nat) (f : Foreign) (s : State) : Out :=
  let (ok, s) := s.ptpIn p domain
  .next (if ok then ((s.putPort p ((s.time.port p).hear f s.now)).setRoles).takeLeap p f else s)

/-- The foreign masters of a port are lost; the PASSIVE port becomes SLAVE at its next Sync (R342). -/
def State.portLost (s : State) (p : Side) : State :=
  let was := s.time.slave == some p
  let s := s.putPort p { s.time.port p with fms := [], wait := none }
  let s := if was then { s with time := { s.time with
    slave := none, slaveLost := if (s.qualified (otherSide p)).isSome then some p else none } } else s
  s.setRoles

/-- ANNOUNCE_TIMEOUT: three announce intervals of 1 s without an Announce of a master (Table 12-1, R342). -/
def execAnnounceTimeout (p : Side) (s : State) : Out :=
  let x := s.time.port p
  let l := x.fms.filter (fun e => s.now < e.2 + secs 3)
  .next (if l.length = x.fms.length then s
    else if l.isEmpty then s.portLost p
    else (s.putPort p { x with fms := l }).setRoles)

/-- MDIO_LINK_POLL: the link status of a PHY (R342, R536). -/
def execMdioLinkPoll (p : Side) (up : Bool) (s : State) : Out :=
  let s' := { s with fab := { s.fab with netUp := putAt p.code up s.fab.netUp } }
  .next (if s.isRun .time then
      if up then s'.setRoles else s'.portLost p
    else s')

/-! ### Peer delay -/

/-- Ingress: capture to time-stamp point (R343). -/
def State.ingressTime (s : State) (p : Side) (capture : Int) : Int := capture - 108 - s.PHY_RX_LAT p.code

/-- Egress: capture to time-stamp point (R343). -/
def State.egressTime (s : State) (p : Side) (capture : Int) : Int := capture + 92 + s.PHY_TX_LAT p.code

/-- A PTP time of day on the wire: 48-bit seconds and 32-bit ns, most significant byte first (IEEE 1588-2019). -/
def ptpTime (t : Int) : List Nat := be 6 (t.toNat / 1000000000) ++ be 4 (t.toNat % 1000000000)

/-- The mean of the last PDELAY_AVG results (R344). -/
def State.meanDelay (s : State) (l : List Int) : Int :=
  let k := l.take s.PDELAY_AVG
  if k.isEmpty then 0 else sumI k / (k.length : Int)

/-- A PTP message leaves a port in the device's domain, untagged or with one tag, with no redundancy trailer (R339, R341). -/
def State.ptpSend (s : State) (p : Side) (type : Nat) (data : List Nat) : State :=
  s.emitNet p (.ptp p (if s.VLAN = 0 then none else some (s.VLAN, s.VLAN_PCP)) s.DOMAIN type data)

/-- PTP_PDELAY: a request is answered; an answer to the port's own request gives a peer-delay result (R339, R344). -/
def execPtpPdelay (p : Side) (domain : Nat) (msg : Pdelay) (s : State) : Out :=
  let (ok, s) := s.ptpIn p domain
  .next (if ok then
      match msg with
      | .req seq capture egress =>
        (s.ptpSend p 3 (be 2 seq ++ ptpTime (s.ingressTime p capture))).ptpSend p 10
          (be 2 seq ++ ptpTime (s.egressTime p egress))
      | .resp seq capture turn corr =>
        let x := s.time.port p
        match x.preq with
        | some (q, t1) =>
          if q = seq then
            let d := (s.ingressTime p capture - t1 - turn - corr) / 2
            let l := (d :: x.pdelays).take 64
            s.putPort p { x with preq := none, pdelays := l, path := s.meanDelay l }
          else s
        | none => s
    else s)

/-- PDELAY_REQ_SEND: every second on each port that runs PTP, with its egress capture (Table 12-1). -/
def execPdelayReqSend (p : Side) (capture : Int) (s : State) : Out :=
  let x := s.time.port p
  let due := match x.pdAt with | none => true | some t => t + secs 1 ≤ s.now
  .next (if s.ptpOn p && due then
      let q := (x.pseq + 1) % 65536
      (s.putPort p { x with pseq := q, preq := some (q, s.egressTime p capture), pdAt := some s.now }).ptpSend p 2 (be 2 q)
    else s)

/-- The PATH_TRACE TLV of the grandmaster: its type, its length, its own identity (Table 12-1, IEEE 1588-2019). -/
def pathTrace : List Nat := be 2 8 ++ be 2 8 ++ Config.clockIdentity

/-- The messages of one port of the grandmaster every second: a two-step Sync with its follow-up, and an Announce (R341, Table
12-1). -/
def State.masterSend (s : State) (p : Side) (capture : Int) : State :=
  let x := s.time.port p
  let due := match x.mAt with | none => true | some t => t + secs 1 ≤ s.now
  if x.st == .master && due then
    let q := (x.mseq + 1) % 65536
    let ann := be 2 s.utcOff ++ [s.PRIORITY1, 248, 0xFE, 0xFF, 0xFF, s.PRIORITY2] ++ Config.clockIdentity
      ++ [0, 0, 0xA0] ++ pathTrace
    (((s.putPort p { x with mseq := q, mAt := some s.now }).ptpSend p 0 (be 2 q)).ptpSend p 8
      (be 2 q ++ ptpTime (s.egressTime p capture))).ptpSend p 11 ann
  else s

/-- PTP_MASTER_SEND: as grandmaster, on both ports, with the egress captures of the two Syncs (R342). -/
def execPtpMasterSend (ca cb : Int) (s : State) : Out := .next ((s.masterSend .a ca).masterSend .b cb)

/-! ### Servo -/

/-- A free value as a signed number. -/
def freeSigned (n : Nat) : Int := if n % 2 = 0 then (n / 2 : Nat) else -((n / 2 : Nat) : Int) - 1

/-- r set by the servo, remembered for HOLDOVER (R344, Table 12-3). -/
def State.setR (s : State) (r : Int) : State :=
  ({ s with time := { s.time with rates := (r :: s.time.rates).take 16 } }).putR r

/-- One update of the PI servo. The manual names its bandwidth and damping and gives no equation, so the new r is a free
value within ±MAX_ADJ (R344; notes/assumptions/11.md). -/
def State.servoUpdate (s : State) : State :=
  (s.drawn).setR (clampI (-s.rMax) s.rMax (freeSigned s.freeNat))

/-- Steady offset in ACQUIRE: 16 consecutive Syncs within LOCK_T give LOCKED (Table 12-3). -/
def State.lockCount (s : State) (off : Int) : State :=
  let n := if absI off ≤ (s.LOCK_T : Int) then s.time.okRun + 1 else 0
  let s := { s with time := { s.time with okRun := min n 16 } }
  if s.time.servo == .acquire && 16 ≤ n then
    (({ s with time := { s.time with servo := .locked } }).warnOff 0x5302 0).note 0x5300 []
  else s

/-- A step of the clock by an offset beyond STEP_T (R347). -/
def State.clockStep (s : State) (off : Int) : State :=
  let s := s.warn 0x5303 (leI 8 off)
  let s := (s.stepClock off).warnOff 0x5305 0
  { s with time := { s.time with steps := s.time.steps + 1, stepped := true, servo := .acquire, okRun := 0 } }

/-- The servo takes the offset of a Sync of the SLAVE port in ACQUIRE or LOCKED (R344, R347). -/
def State.servoActive (s : State) (off : Int) : State :=
  if (s.STEP_T : Int) < absI off && !s.time.noStep then
    if s.STEP_EN == 1 then s.clockStep off
    else ((s.warnOn 0x5305 0 []).setR (if 0 < off then -s.rMax else s.rMax)).lockCount off
  else
    let s := { s with time := { s.time with noStep := s.time.noStep && decide ((s.STEP_T : Int) < absI off) } }
    ((s.warnOff 0x5305 0).servoUpdate).lockCount off

/-- The servo takes a usable Sync of the SLAVE port (Table 12-3, R346, R348). -/
def State.servoSync (s : State) (off : Int) : State :=
  let s := ({ s with time := { s.time with off := sat32 off } }).warnOff 0x5301 0
  match s.time.servo with
  | .free =>
    if s.time.onBackup then s
    else
      let s := s.note 0x5304 []
      let s := s.stepClock off
      { s with time := { s.time with servo := .acquire, okRun := 0 } }
  | .holdover => ({ s with time := { s.time with servo := .acquire, okRun := 0 } }).servoActive off
  | _ => s.servoActive off

/-- The comparison of the two ports' offsets over periods of 16 Syncs (R342). -/
def State.portDiff (s : State) : State :=
  let t := s.time
  let far := t.pa.fresh && t.pb.fresh && decide ((s.PORT_DIFF : Int) < absI (t.pa.off - t.pb.off))
  let n := t.diffN + 1
  let bad := t.diffBad + b2n far
  if n < 16 then { s with time := { t with diffN := n, diffBad := bad } }
  else
    let s := { s with time := { t with diffN := 0, diffBad := 0,
                                       pa := { t.pa with fresh := false }, pb := { t.pb with fresh := false } } }
    if bad != 0 then s.warnOn 0x5307 0 [] else s.warnOff 0x5307 0

/-- A complete Sync on a port: its offset, then the servo where the port is or becomes SLAVE (R342, R344). -/
def State.syncDone (s : State) (p : Side) (t2 t1 corr : Int) : State :=
  let x := s.time.port p
  let off := t2 - t1 - x.path - corr - divNearAway (s.ASYM p.code) 1000
  let s := s.putPort p { x with off := sat32 off, fresh := true, wait := none }
  let s := { s with time := { s.time with syncAt := s.now } }
  let s := match s.time.slaveLost with
    | some q =>
      if (s.qualified p).isNone then s
      else if p == q then s.setSlave p
      else
        let s := ({ s with time := { s.time with slave := some q } }).setSlave p
        { s with time := { s.time with noStep := true } }
    | none => s
  if s.time.slave == some p then
    let y := s.time.port p
    let s := s.putPort p { y with syncs := incSat 32 y.syncs }
    (s.portDiff).servoSync off
  else s

/-- PTP_SYNC: one-step with its origin time, or the first of two messages (R344). Times are ns of TAI. -/
def execPtpSync (p : Side) (domain seq : Nat) (twoStep : Bool) (t1 capture corr : Int) (s : State) : Out :=
  let (ok, s) := s.ptpIn p domain
  .next (if ok && (s.qualified p).isSome && !(s.fenced 4 3) then
      let t2 := s.ingressTime p capture
      if twoStep then s.putPort p { s.time.port p with wait := some ⟨seq, t2, corr⟩ } else s.syncDone p t2 t1 corr
    else s)

/-- PTP_FOLLOW_UP: completes the Sync of its sequence number (R344). -/
def execPtpFollowUp (p : Side) (domain seq : Nat) (t1 corr : Int) (s : State) : Out :=
  let (ok, s) := s.ptpIn p domain
  .next (if ok && !(s.fenced 4 3) then
      match (s.time.port p).wait with
      | some w => if w.seq = seq then s.syncDone p w.t2 t1 (w.corr + corr) else s
      | none => s
    else s)

/-- SYNC_LOSS: no Sync for 3 s (Table 12-3). -/
def execSyncLoss (s : State) : Out :=
  .next (if s.isRun .time && s.time.syncAt + secs 3 ≤ s.now then
      match s.time.servo with
      | .locked =>
        let k := s.time.rates
        let r := if k.isEmpty then s.rNow else sumI k / (k.length : Int)
        (({ s with time := { s.time with servo := .holdover, holdAt := s.now, okRun := 0 } }).putR r).warnOn 0x5301 0 []
      | .acquire => s.servoFree
      | _ => s
    else s)

/-- HOLDOVER_EXPIRY: HOLD_T elapsed (Table 12-3). -/
def execHoldoverExpiry (s : State) : Out :=
  .next (if s.time.servo == .holdover && s.time.holdAt + secs s.TIME_HOLD_T ≤ s.now then
      (s.servoFree).warnOn 0x5302 0 []
    else s)

/-! ### Start -/

/-- The start check of TIME (Table 12-8). -/
def State.timeCheck (s : State) : Nat :=
  if s.STEP_T ≤ s.LOCK_T then 1
  else if s.ROLE == 0 && s.PRIORITY1 != 255 && s.PRIORITY1 != 128 then 2
  else if s.VLAN == 0 && s.VLAN_PCP != 0 then 3
  else 0

/-- What a passing START of TIME does: counters cleared, FREE with r = 0, RUNNING (R345, R346). -/
def State.timeUp (s : State) : State :=
  let t := s.time
  let s := { s with time := { t with steps := 0, servo := .free, r := 0, okRun := 0, slave := none, slaveLost := none,
                                     noStep := false, rates := [], syncAt := s.now,
                                     pa := { t.pa.down with syncs := 0 }, pb := { t.pb.down with syncs := 0 } } }
  let s := s.setRun .time .running
  (if s.clk.c.backup then s.timeOnBackup else s).setRoles

/-- Servo states (Table 12-3). -/
def Servo.code : Servo → Nat
  | .free => 0 | .acquire => 1 | .locked => 2 | .holdover => 3

/-- PORT_STATE (Table 12-6). -/
def PortSt.code : PortSt → Nat
  | .disabled => 0 | .master => 1 | .slave => 2 | .passive => 3

end Sys2Proof.Machine
end

