-- ==== Sys2Proof/Machine/Field.lean ====
section
/-! DEFINITION. The field group (13): pin ownership, debounce, outputs and their protection, diagnostics, the field
supply, the barrier link. Pins are 0 to 31. -/
namespace Sys2Proof.Machine

/-- A pin. -/
def State.pin (s : State) (p : Nat) : Pin := entry s.field.pins p {}

/-- The state with one pin replaced. -/
def State.putPin (s : State) (p : Nat) (x : Pin) : State :=
  { s with field := { s.field with pins := putAt p x s.field.pins } }

/-- The status of any write by a session that the present mode allows: reads only in BOOT, STANDBY and SAFE
(Table 3-2). -/
def State.modeStatus (s : State) : Nat :=
  match s.mode.mode with
  | .boot | .standby | .safe => stMode
  | _ => stOk

/-- STANDBY, PREPARED: inputs in monitor mode, outputs off, no diagnostics (R361). -/
def State.monitorMode (s : State) : Bool := s.mode.mode == .standby

/-- The safety parameter set names the pin as a channel (R363). -/
def State.safetyPin (s : State) (p : Nat) : Bool :=
  (List.range 8).any (fun i => s.SI_PIN_A i == p || s.SI_PIN_B i == p)

/-- OWNER: 2 safety, 1 forming, 0 application (R363). -/
def State.owner (s : State) (p : Nat) : Nat :=
  if s.safetyPin p then 2 else if s.CLOSE_PIN == p then 1 else 0

/-- The command in force on a pin: the application's, or CLOSE (R368, R369). -/
def State.command (s : State) (p : Nat) : Bool :=
  match s.owner p with
  | 0 => (s.pin p).cmd
  | 1 => s.field.close
  | _ => false

/-- The mode permits standard outputs (Table 3-2), and the device holds the position lease (R429), or it has just given
it at a hand-back and drives them for 100 µs more (R445). -/
def State.outputsOk (s : State) : Bool :=
  s.dpx.gaveAt.isSome ||
    (s.holdsLease && (s.mode.mode == .commission || s.mode.mode == .blocked || s.mode.mode == .forming))

/-- An output pin is on (R370). -/
def State.pinOn (s : State) (p : Nat) : Bool :=
  let x := s.pin p
  s.FIO_MODE p == 3 && s.field.up && s.isRun .field && s.outputsOk && !x.hot && !x.latched && x.retryAt.isNone &&
    s.FORCE p != 1 && (s.FORCE p == 2 || s.command p)

/-- OUT_STATE: the output pins that are on (0x5010:03). -/
def State.outState (s : State) : Nat := flagBits ((List.range 32).map (fun p => s.pinOn p))

/-- An input or a read-back reads ON: its debounced state, OFF while REVERSED or unused (R362, R374). -/
def State.readsOn (s : State) (p : Nat) : Bool :=
  let x := s.pin p
  s.FIO_MODE p != 0 && x.deb && !x.reversed

/-- The logical value of a pin (R367). -/
def State.logical (s : State) (p : Nat) : Bool :=
  match s.FIO_MODE p with
  | 0 => false
  | 3 => s.readsOn p
  | _ => s.readsOn p != (s.INVERT p == 1)

/-- Inputs are evaluated: not in BOOT (Table 3-2). -/
def State.inputsOn (s : State) : Bool := s.mode.mode != .boot

/-- A pin's value is valid (R367, Table 3-2). -/
def State.pinValid (s : State) (p : Nat) : Bool :=
  let x := s.pin p
  s.inputsOn && s.isRun .field && s.FIO_MODE p != 0 && s.field.up && !x.wire && !x.reversed

/-- The tick copy of all pins (R367). -/
def State.tickCopy (s : State) : State :=
  let v := flagBits ((List.range 32).map (fun p => s.pinValid p))
  let l := flagBits ((List.range 32).map (fun p => s.logical p && s.isRun .field && s.inputsOn))
  { s with field := { s.field with vals := l, valid := v } }

/-! ### The barrier -/

/-- The field-side master sends and receives frames: FLD powered, its block not fenced, the lockstep comparator has not stopped it
(R358, R388, Table 18-5). -/
def State.masterRuns (s : State) : Bool := s.powered .fld && !(s.fenced 5 2) && !s.safe.stopped

/-- Data of the field side reaches the controller: the barrier link is up (R22, R359). -/
def State.fieldSeen (s : State) : Bool := s.powered .fld && s.field.up

/-- The time of the present frame slot, ns (R358). -/
def State.slotTime (s : State) : Nat := s.now + 1000 * s.field.slots

/-- The local time a number of ns after the present frame slot began. -/
def State.slotClock (s : State) (d : Nat) : Nat × Nat :=
  let n := s.clockNs + 1000 * s.field.slots + d
  (s.time.sec + n / 1000000000, n % 1000000000)

/-- The field-side die takes one sample of a pin (R366). -/
def Pin.sample (x : Pin) (lvl : Bool) (t : Nat × Nat) : Pin :=
  if lvl == x.lvl then { x with run := min (x.run + 1) 262144 } else { x with lvl := lvl, run := 1, runTime := t }

/-- The four samples of one frame slot, 250 ns apart; an unused pin's input circuit is off (R362, R366). -/
def State.dieSamples (s : State) (levels : List Nat) : State :=
  let pins := (List.range 32).map (fun p =>
    (List.range 4).foldl (fun x i =>
      x.sample (bit (entry levels i 0) p && s.FIO_MODE p != 0) (s.slotClock (250 * i))) (s.pin p))
  { s with field := { s.field with pins := pins } }

/-- The content of a frame of the field-side die, its fields in the order of R358 and then the readings of PIN_V, I_PIN and the
switches (notes/assumptions/138.md). -/
def State.dieFrame (s : State) (volts : List Int) (amps : List Nat) (so : List (Int × Int)) : List Nat :=
  let ps := (List.range 32).map s.pin
  le 4 (flagBits (ps.map (·.dieDeb))) ++ le 4 (flagBits (ps.map (·.lvl))) ++
    ps.flatMap (fun x => le 2 (flagBits [x.wire, x.openOff, x.openOn, x.shortLp, x.overload, x.thermal, x.reversed,
      x.readback, x.latched])) ++
    leI 4 s.field.lpMean ++ volts.flatMap (leI 2) ++ amps.flatMap (le 2) ++ so.flatMap (fun v => leI 4 v.1 ++ leI 4 v.2)

/-- A valid frame brings a pin's raw level, debounced state and readings; a change is timed by the first sample of its run and
counted (R358, R366). -/
def Pin.take (x : Pin) (v : Int) (a : Nat) : Pin :=
  let x := { x with raw := x.lvl, volt := v, amps := a }
  if x.dieDeb == x.deb then x else { x with deb := x.dieDeb, edge := x.runTime, edges := incSat 32 x.edges }

/-- A frame with a correct CRC-32: pin voltages in 0.1 V, the currents of the pins and then of SO0 to SO3, and the voltages of
SOn_H and SOn_L in mV (R358, R394); the link runs anew where it had been silent for 8 slots (R359). -/
def State.frameIn (s : State) (volts : List Int) (amps : List Nat) (so : List (Int × Int)) : State :=
  let pins := (List.range 32).map (fun p => (s.pin p).take (entry volts p 0) (entry amps p 0))
  let outs := (List.range 4).map (fun n =>
    let o := entry s.safe.outs n {}
    { o with volt := entry so n o.volt, amps := entry amps (32 + n) o.amps })
  let since := if s.field.lastOk + us 8 ≤ s.slotTime then s.slotTime else s.field.goodSince.getD s.slotTime
  { s with
    field := { s.field with pins := pins, missRun := 0, lastOk := s.slotTime, goodSince := some since }
    safe := { s.safe with outs := outs } }

/-- The frame to the field-side die (R358). -/
def State.masterFrame (s : State) : Tx :=
  let so := flagBits (s.safe.outs.flatMap (fun o => [o.h, o.l]))
  .barrier s.outState so (crc32 (le 4 s.outState ++ le 1 so))

/-- BARRIER_FRAME: one frame slot with the four samples of the pins, the readings, and the CRC-32 that arrives with the frame; one
that is wrong is discarded and counted (R358, R366). -/
def execBarrierFrame (levels : List Nat) (volts : List Int) (amps : List Nat) (so : List (Int × Int)) (crc : BitVec 32)
    (s : State) : Out :=
  .next (if s.powered .fld then
      let s := s.dieSamples levels
      let s :=
        if !s.masterRuns then { s with field := { s.field with missRun := s.field.missRun + 1 } }
        else if crc32 (s.dieFrame volts amps so) = crc.toNat then (s.frameIn volts amps so).emit s.masterFrame
        else ({ s with field := { s.field with
          errors := incSat 32 s.field.errors, missRun := s.field.missRun + 1, goodSince := none } }).emit s.masterFrame
      { s with field := { s.field with slots := s.field.slots + 1 } }
    else s)

/-- The barrier link goes down: FIELD faults, whatever its run state, and SAFETY with it (R359, R61). -/
def State.barrierDown (s : State) : State :=
  if s.field.up then
    ({ s with field := { s.field with up := false, goodSince := none } }.trip 0x6420 .field []).setRun .field .faulted
  else s

/-- BARRIER_LINK_DOWN: eight consecutive slots without a valid frame (R359). -/
def execBarrierLinkDown (s : State) : Out :=
  .next (if 8 ≤ s.field.missRun || s.field.lastOk + us 8 ≤ s.slotTime then
      ({ s with field := { s.field with goodSince := none } }).barrierDown
    else s)

/-- BARRIER_LINK_RESTORED: the link has run for 1 ms without a discarded frame (R359). -/
def execBarrierLinkRestored (s : State) : Out :=
  .next (match s.field.goodSince with
    | some t =>
      if t + ms 1 ≤ s.slotTime && s.slotTime < s.field.lastOk + us 8 && s.masterRuns then
        { s with field := { s.field with up := true } }
      else s
    | none => s)

/-! ### Inputs -/

/-- INPUT_DEBOUNCE_CHANGE: the field-side die has sampled the same level for DEBOUNCE; the next valid frame brings the change to
the Safety region (R358, R366). -/
def execInputDebounceChange (p : Fin 32) (s : State) : Out :=
  let x := s.pin p
  .next (if s.inputsOn && x.lvl != x.dieDeb && 4 * s.DEBOUNCE p < x.run then s.putPin p { x with dieDeb := x.lvl } else s)

/-! ### Commands -/

/-- The pins a mask may command: in mode 3 and owned by the application (R368). -/
def State.maskOk (s : State) (mask : Nat) : Bool :=
  (List.range 32).all (fun p => !(bit mask p) || (s.FIO_MODE p == 3 && s.owner p == 0))

/-- A pin's command becomes on: a latched-off pin that was commanded off is released (R371); a pin that OUT_CLEAR named
in the same tick stays off (R368). -/
def Pin.turnOn (x : Pin) (now tick : Nat) : Pin :=
  if x.cmd || x.clrTick == some tick then x else { x with cmd := true, cmdAt := some now, latched := false }

/-- A pin's command becomes off: a pending retry is cancelled (R371). -/
def Pin.turnOff (x : Pin) (now tick : Nat) : Pin :=
  { x with cmd := false, clrTick := some tick, cmdAt := if x.cmd then some now else x.cmdAt, retryAt := none }

/-- The commands of a mask take effect. -/
def State.outSet (s : State) (mask : Nat) : State :=
  { s with field := { s.field with pins := (List.range 32).map (fun p =>
      if bit mask p then (s.pin p).turnOn s.now s.tick else s.pin p) } }

/-- The off commands of a mask take effect. -/
def State.outClear (s : State) (mask : Nat) : State :=
  { s with field := { s.field with pins := (List.range 32).map (fun p =>
      if bit mask p then (s.pin p).turnOff s.now s.tick else s.pin p) } }

/-- The status of OUT_SET and OUT_CLEAR: Operator-writable (Table 13-7). -/
def State.outStatus (s : State) (level mask : Nat) : Nat :=
  if s.modeStatus != stOk then s.modeStatus
  else if level < 1 then stPrivilege else if s.maskOk mask then stOk else stAccess

/-- OUT_SET. -/
def execOutSet (level : Nat) (mask : BitVec 32) (s : State) : Out :=
  .next (if s.outStatus level mask.toNat = stOk then s.outSet mask.toNat else s)

/-- OUT_CLEAR. -/
def execOutClear (level : Nat) (mask : BitVec 32) (s : State) : Out :=
  .next (if s.outStatus level mask.toNat = stOk then s.outClear mask.toNat else s)

/-- CLEAR: the latch is released, OVERLOAD and THERMAL are cleared (R371). -/
def State.pinClear (s : State) (p : Nat) : State :=
  let s := s.putPin p { s.pin p with latched := false, overload := false, thermal := false }
  (s.warnOff 0x6401 p).warnOff 0x6402 p

/-- The status of a write of CLEAR (Table 13-6). -/
def State.clearPinStatus (s : State) (level : Nat) : Nat :=
  if s.modeStatus != stOk then s.modeStatus else if level < 2 then stPrivilege else stOk

/-- PIN_CLEAR. -/
def execPinClear (level : Nat) (p : Fin 32) (s : State) : Out :=
  .next (if s.clearPinStatus level = stOk then s.pinClear p else s)

/-- FORCE is written; each change is recorded (R364). -/
def State.forcePin (s : State) (p v : Nat) : State :=
  if s.FORCE p = v then s else (s.setObj 0x5001 9 p (.num v)).note 0x6430 (le 2 p)

/-- The status of a write of FORCE: COMMISSION only, an output pin owned by the application (R363, R364). -/
def State.forceStatus (s : State) (level p v : Nat) : Nat :=
  if level < 2 then stPrivilege
  else if 2 < v then stRange
  else if s.mode.mode != .commission then stMode
  else if s.FIO_MODE p == 3 && s.owner p == 0 then stOk else stAccess

/-- FORCE_WRITE. -/
def execForceWrite (level : Nat) (p : Fin 32) (v : Nat) (s : State) : Out :=
  .next (if s.forceStatus level p v = stOk then s.forcePin p v else s)

/-- The CLOSE bit of the references in force goes to the field-side master at k = 0; a rise releases a latched-off
CLOSE_PIN, a fall cancels its retry (R369, R371). -/
def State.closePass (s : State) : State :=
  let c := match s.arm.refs with | some r => r.close | none => false
  let p := s.CLOSE_PIN
  let x := s.pin p
  let s := if c && !s.field.close then s.putPin p { x with latched := false, cmdAt := some s.now }
    else if s.field.close && !c then s.putPin p { x with retryAt := none, cmdAt := some s.now }
    else s
  { s with field := { s.field with close := c } }

/-! ### Protection of outputs (R371) -/

/-- A pin that is on is switched off: latched under FAULT_MODE 0, waiting to retry under FAULT_MODE 1. -/
def State.pinTrip (s : State) (p : Nat) : State :=
  let x := s.pin p
  s.putPin p (if s.FAULT_MODE p == 1 then { x with retryAt := some (s.now + ms (s.RETRY_T p)) }
    else { x with latched := true })

/-- OUTPUT_OVERLOAD: an output has current-limited for OVL_T without interruption. -/
def execOutputOverload (p : Fin 32) (s : State) : Out :=
  .next (if s.pinOn p then
      let s := s.pinTrip p
      (s.putPin p { s.pin p with overload := true }).warnOn 0x6401 p (le 2 p)
    else s)

/-- OUTPUT_THERMAL: an output reaches thermal shutdown. -/
def execOutputThermal (p : Fin 32) (s : State) : Out :=
  .next (if s.pinOn p then
      let s := s.pinTrip p
      (s.putPin p { s.pin p with thermal := true, hot := true }).warnOn 0x6402 p (le 2 p)
    else s)

/-- A retry, when its delay has elapsed, the channel is cool and the pin is still commanded on. -/
def State.pinRetry (s : State) (p : Nat) : State :=
  let x := s.pin p
  match x.retryAt with
  | some t =>
    if t ≤ s.now && !x.hot && s.command p && s.fieldSeen then (s.putPin p { x with retryAt := none }).note 0x6403 (le 2 p) else s
  | none => s

/-- OUTPUT_RETRY. -/
def execOutputRetry (p : Fin 32) (s : State) : Out := .next (s.pinRetry p)

/-- OUTPUT_COOLED: the channel is below its restart temperature. -/
def execOutputCooled (p : Fin 32) (s : State) : Out :=
  .next ((s.putPin p { s.pin p with hot := false }).pinRetry p)

/-- OVERLOAD_FLAG_CLEAR: the pin has conducted without limiting for 100 ms. -/
def execOverloadFlagClear (p : Fin 32) (s : State) : Out :=
  .next (if s.pinOn p then
      ((s.putPin p { s.pin p with overload := false, thermal := false }).warnOff 0x6401 p).warnOff 0x6402 p
    else s)

/-! ### Diagnostics -/

/-- WIRE_BREAK: the loop current of a checked input that reads OFF has stayed below WB_I for 10 ms (broken), or at or
above it for 10 ms, or the pin reads ON (R372). -/
def execWireBreak (p : Fin 32) (broken : Bool) (s : State) : Out :=
  let x := s.pin p
  .next (if (s.FIO_MODE p == 1 || s.FIO_MODE p == 2) && bit (s.DIAG_EN p) 0 && !s.monitorMode && s.fieldSeen then
      if broken && !(s.readsOn p) && !x.wire then
        (s.putPin p { x with wire := true }).warnOn 0x6406 p (le 2 p)
      else if !broken && x.wire then
        ((s.putPin p { x with wire := false }).warnOff 0x6406 p).note 0x6407 (le 2 p ++ [0])
      else s
    else s)

/-- The output diagnostics are suppressed (R373). -/
def State.suppressed (s : State) (p : Nat) : Bool :=
  s.field.lpState != 0 || s.monitorMode ||
    (match (s.pin p).cmdAt with | some t => s.now < t + ms 10 | none => false)

/-- The flag of Table 13-2 with a bit of PIN_DIAG. -/
def Pin.flag (x : Pin) : Nat → Bool
  | 1 => x.openOff | 2 => x.openOn | 3 => x.shortLp | _ => x.readback

/-- The pin with that flag set to a value. -/
def Pin.setFlag (x : Pin) (b : Nat) (v : Bool) : Pin :=
  match b with
  | 1 => { x with openOff := v } | 2 => { x with openOn := v } | 3 => { x with shortLp := v }
  | _ => { x with readback := v }

/-- PIN_DIAG bit, DIAG_EN bit, whether the test runs with the pin on, and event of the four diagnostics OPEN_OFF,
SHORT_LP, OPEN_ON, READBACK (Table 13-2). -/
def diagRow : Nat → Nat × Nat × Bool × Nat
  | 0 => (1, 1, false, 0x6404)
  | 1 => (3, 1, false, 0x6405)
  | 2 => (2, 2, true, 0x6404)
  | _ => (7, 3, true, 0x6409)

/-- OUTPUT_DIAG_TIMER: the condition of diagnostic d of Table 13-2 has held, or been absent, for its time (R373). -/
def execOutputDiagTimer (p : Fin 32) (d : Fin 4) (present : Bool) (s : State) : Out :=
  let (b, en, on, code) := diagRow d
  let x := s.pin p
  let key := p.val + 32 * b
  .next (if s.FIO_MODE p == 3 && bit (s.DIAG_EN p) en && !(s.suppressed p) && s.fieldSeen then
      if present && s.pinOn p == on && !(x.flag b) then (s.putPin p (x.setFlag b true)).warnOn code key (le 2 p)
      else if !present && x.flag b then
        ((s.putPin p (x.setFlag b false)).warnOff code key).note 0x6407 (le 2 p ++ [b])
      else s
    else s)

/-- PIN_REVERSED: below −3.0 V for 1 ms, or above −1.0 V for 1 ms (R374). -/
def execPinReversed (p : Fin 32) (low : Bool) (s : State) : Out :=
  let x := s.pin p
  .next (if s.FIO_MODE p != 0 && s.fieldSeen && low != x.reversed then
      let s := s.putPin p { x with reversed := low }
      if low then s.warnOn 0x6408 p (le 2 p) else s.warnOff 0x6408 p
    else s)

/-- PIN_DIAG (Table 13-6). -/
def State.pinDiag (s : State) (p : Nat) : Nat :=
  let x := s.pin p
  flagBits [x.wire, x.openOff, x.openOn, x.shortLp, x.overload, x.thermal, x.reversed, x.readback, x.latched,
            s.FIO_MODE p == 3 && s.DIAG_EN p / 2 != 0 && s.suppressed p]

/-- PIN_STATE (Table 13-6). -/
def State.pinState (s : State) (p : Nat) : Nat :=
  flagBits [s.logical p && s.isRun .field && s.inputsOn, (s.pin p).raw, s.pinValid p, s.command p]

/-! ### The field supply (R376) -/

/-- Every safety-output switch off under R377, with SUPPLY_OFF, and the lock of SO_RESTART = 1 (R398). -/
def State.soSupplyOff (s : State) : State :=
  { s with safe := { s.safe with outs := (List.range 4).map (fun n =>
      let o := entry s.safe.outs n {}
      if o.h || o.l then { o.turnOff with supply := true, lock := o.lock || s.SO_RESTART n == 1 } else o) } }

/-- The supply is in SO_OFF, LOST or REVERSED (R377). -/
def State.supplyOut (s : State) : Bool := s.field.lpState == 2 || s.field.lpState == 3 || s.field.lpState == 5

/-- Whether the entry condition of row i of Table 13-3 (REVERSED, LOST, SO_OFF, LOW, HIGH) holds at a mean. -/
def State.lpEnter (s : State) (i : Nat) (m : Int) : Bool :=
  match i with
  | 0 => m < -1000
  | 1 => m < (s.LP_LOSS : Int)
  | 2 => m < (s.LP_SO_MIN : Int)
  | 3 => m < (s.LP_LOW : Int)
  | _ => m > (s.LP_HIGH : Int)

/-- Whether the mean lies at least 0.5 V beyond the leaving threshold of row i. -/
def State.lpLeave (s : State) (i : Nat) (m : Int) : Bool :=
  match i with
  | 0 => m ≥ -500
  | 1 => m ≥ (s.LP_LOSS : Int) + 500
  | 2 => m ≥ (s.LP_SO_MIN : Int) + 500
  | 3 => m ≥ (s.LP_LOW : Int) + 500
  | _ => m ≤ (s.LP_HIGH : Int) - 500

/-- LP_STATE from the rows that hold: the first from the top (Table 13-3). -/
def lpOf (rows : List LpRow) : Nat :=
  match rows.map (·.on) with
  | true :: _ => 5
  | _ :: true :: _ => 3
  | _ :: _ :: true :: _ => 2
  | _ :: _ :: _ :: true :: _ => 1
  | _ :: _ :: _ :: _ :: true :: _ => 4
  | _ => 0

/-- The event of a supply state (Table 13-3). -/
def lpEvent : Nat → Nat
  | 5 => 0x6415 | 3 => 0x6412 | 2 => 0x6411 | 1 => 0x6410 | _ => 0x6414

/-- The state of row i. -/
def lpRowState : Nat → Nat
  | 0 => 5 | 1 => 3 | 2 => 2 | 3 => 1 | _ => 4

/-- While the barrier link is up, the state that follows from the rows reaches the controller, with its event once per episode of its row, and the safety outputs (R376,
R377, R375). -/
def State.lpJudge (s : State) : State :=
  if !s.fieldSeen then s else
  let old := s.field.lpState
  let new := lpOf s.field.rows
  let s := { s with field := { s.field with lpState := new } }
  let s := (List.range 5).foldl (fun s i =>
    if (entry s.field.rows i {}).on then s else s.warnOff (lpEvent (lpRowState i)) 0) s
  let s := if new = old then s
    else if new = 0 then s.note 0x6413 [old]
    else s.warnOn (lpEvent new) 0 []
  if s.supplyOut then s.soSupplyOff else s

/-- LP_SAMPLE: one sample of L+ against M in mV; the mean of the last four is judged (R376). -/
def execLpSample (mv : Int) (s : State) : Out :=
  .next (if s.powered .fld then
      let l := (mv :: s.field.lp).take 4
      let m := sumI l / (l.length : Int)
      let s := { s with field := { s.field with lp := l, lpMean := if s.fieldSeen then m else s.field.lpMean } }
      if l.length < 4 then s
      else
        let rows := (List.range 5).map (fun i =>
          let r := entry s.field.rows i {}
          if s.lpEnter i m then { on := true, since := none : LpRow }
          else if r.on && s.lpLeave i m then { r with since := some (r.since.getD s.now) }
          else { r with since := none })
        ({ s with field := { s.field with rows := rows } }).lpJudge
    else s)

/-- LP_RESTORE: a row whose mean has stayed beyond its leaving threshold for LP_RESTORE_T is left (R376). -/
def execLpRestore (s : State) : Out :=
  let rows := s.field.rows.map (fun r => match r.since with
    | some t => if t + ms s.LP_RESTORE_T ≤ s.now then ({ on := false, since := none } : LpRow) else r
    | none => r)
  .next ({ s with field := { s.field with rows := rows } }).lpJudge

/-! ### Start -/

/-- The start check of FIELD (Table 13-10). -/
def State.fieldCheck (s : State) : Nat :=
  let ps := List.range 32
  if !s.field.up then 1
  else if ps.any (fun p => s.safetyPin p && s.FIO_MODE p != 1 && s.FIO_MODE p != 2) then 2
  else if ps.any (fun p => (bit (s.DIAG_EN p) 0 && s.FIO_MODE p != 1 && s.FIO_MODE p != 2)
      || (s.DIAG_EN p / 2 != 0 && s.FIO_MODE p != 3)) then 3
  else if !(s.LP_LOSS < s.LP_SO_MIN && s.LP_SO_MIN < s.LP_LOW && s.LP_LOW < s.LP_HIGH) then 4
  else 0

/-- What a passing START of FIELD does: its counters cleared, RUNNING (Tables 13-6 and 13-7). -/
def State.fieldUp (s : State) : State :=
  let pins := s.field.pins.map (fun x : Pin => { x with edges := 0 })
  let s := { s with field := { s.field with errors := 0, pins := pins } }
  s.setRun .field .running

end Sys2Proof.Machine
end

