-- ==== Sys2Proof/Machine/LawMath.lean ====
section
/-! DEFINITION. Arithmetic of the law units (R105, R106, R544, R545): shifts, products, cos and sin, square roots, the
angle of a vector, the Clarke and park transforms, first-order filters, and the coefficients of R104. PU32 codes and
states are Int, angles are Nat. -/
namespace Sys2Proof.Machine

/-- 1.0 pu as a PU32 code (R104). -/
def onePu : Int := 16777216

/-- A right shift by s ≥ 1, to nearest with ties toward +∞ (R105). -/
def rsh (s : Nat) (x : Int) : Int := (x + (2 ^ (s - 1) : Nat)) / (2 ^ s : Nat)

/-- The product of two PU32 values before saturation (R105). -/
def mulPu (a b : Int) : Int := rsh 24 (a * b)

/-- The PU32 view of a state, saturated (R104, R105). -/
def view (x : Int) : Int := sat32 (rsh 32 x)

/-- A PU32 value at the scale of a state (R545). -/
def up (x : Int) : Int := x * 4294967296

/-- The upper 32 bits of an angle (R104). -/
def turn32 (a : Nat) : Nat := a / 4294967296 % 4294967296

/-- An angle of 64 bits from an integer, modulo one turn. -/
def ang64 (a : Int) : Nat := wrap 64 a

/-- A TURN32 difference read as a two's-complement I32 (R107). -/
def int32 (a : Int) : Int := signed 32 (wrap 32 a)

/-- One filter step (R106): state, input as a PU32 code, coefficient. -/
def filt (x u a : Int) : Int := x + rsh 32 (a * (up u - x))

/-! ### cos and sin (R544)

Values at 2^112, from the power series with the argument within a quarter turn; the series is cut where its terms are
below 2^−112. -/

/-- One at 2^112. -/
def one112 : Int := 5192296858534827628530496329220096

/-- 2π at 2^112. -/
def twoPi112 : Int := 32624163332060752803334972325496545

/-- The rest of an alternating power series: fuel, index of the next term's first factor, term, square of x. -/
def seriesGo : Nat → Nat → Int → Int → Int
  | 0, _, _, _ => 0
  | n + 1, k, t, x2 => t + seriesGo n (k + 2) (-(t * x2 / one112) / ((k * (k + 1) : Nat) : Int)) x2

/-- cos of x at 2^112. -/
def cosSeries (x : Int) : Int := seriesGo 22 1 one112 (x * x / one112)

/-- sin of x at 2^112. -/
def sinSeries (x : Int) : Int := seriesGo 22 2 x (x * x / one112)

/-- r parts of 2^d of a turn, in radians at 2^112. -/
def radians (r d : Nat) : Int := r * twoPi112 / (2 ^ d : Nat)

/-- cos of a TURN32 angle at 2^112. -/
def cosTurn (n : Nat) : Int :=
  let r := radians (n % 1073741824) 32
  match n / 1073741824 % 4 with
  | 0 => cosSeries r
  | 1 => -(sinSeries r)
  | 2 => -(cosSeries r)
  | _ => sinSeries r

/-- The PU32 code nearest to a value at 2^112, ties away from zero (R544). -/
def toPu (v : Int) : Int := divNearAway v (2 ^ 88)

/-- cos of a TURN32 angle, PU32 (R544). -/
def cosPu (n : Nat) : Int := toPu (cosTurn n)

/-- sin of a TURN32 angle, PU32 (R544): the cos a quarter turn earlier. -/
def sinPu (n : Nat) : Int := toPu (cosTurn (n + 3221225472))

/-! ### Square root, angle, transforms (R544) -/

/-- The square root of a PU32 value, limited to at least 0: nearest code, ties toward +∞ (R130, R544). -/
def sqrtPu (x : Int) : Int := (sqrtNear 32 (x.toNat * 16777216) : Nat)

/-- How many half-codes (2j + 1) / 2^33 of a turn lie at or below the angle of a vector of the first quarter, by one
bit at a time. -/
def atanGo : Nat → Int → Int → Nat → Nat
  | 0, _, _, n => n
  | b + 1, x, y, n =>
    let c := n + 2 ^ b
    let h := radians (2 * c - 1) 33
    atanGo b x y (if sinSeries h * x ≤ cosSeries h * y then c else n)

/-- The TURN32 code of the angle of a vector with x > 0 and y ≥ 0. -/
def atanQuarter (x y : Int) : Nat := atanGo 31 x y 0

/-- The TURN32 code nearest to the angle of (α, β), ties toward +∞, 0 for the zero vector (R544). -/
def angleOf (x y : Int) : Nat :=
  (if x > 0 && y ≥ 0 then atanQuarter x y
   else if x ≤ 0 && y > 0 then 1073741824 + atanQuarter y (-x)
   else if x < 0 && y ≤ 0 then 2147483648 + atanQuarter (-x) (-y)
   else if x ≥ 0 && y < 0 then 3221225472 + atanQuarter (-y) x
   else 0) % 4294967296

/-- α of a three-phase set before saturation, K_T = 5 592 405 (R544). -/
def rawA (a b c : Int) : Int := rsh 24 ((2 * a - b - c) * 5592405)

/-- β of a three-phase set before saturation, K_S = 9 686 330 (R544). -/
def rawB (b c : Int) : Int := rsh 24 ((b - c) * 9686330)

/-- α of a three-phase set (R544). -/
def clarkeA (a b c : Int) : Int := sat32 (rawA a b c)

/-- β of a three-phase set (R544). -/
def clarkeB (b c : Int) : Int := sat32 (rawB b c)

/-- A third of a turn, TURN32 (R112). -/
def third : Nat := 1431655765

/-- x_d of park at a TURN32 angle, before saturation: one sum of exact products, shifted once, times 2/3 (R107, R544). -/
def parkD (a b c : Int) (phi : Nat) : Int :=
  let w := rsh 24 (a * cosPu phi + b * cosPu (phi + 2863311531) + c * cosPu (phi + third))
  mulPu w 11184811

/-- x_q of park. -/
def parkQ (a b c : Int) (phi : Nat) : Int :=
  let w := rsh 24 (a * sinPu phi + b * sinPu (phi + 2863311531) + c * sinPu (phi + third))
  0 - mulPu w 11184811

/-! ### Coefficients (R104, R126) -/

/-- round(K × F × t_tick × 2^32) with K a PU32 code in 1/s. -/
def kInt (k : Int) (f tickNs : Nat) : Int := divNearUp (k * (f * tickNs * 256 : Nat)) 1000000000

/-- a = round(F × 2^32 / T). -/
def aFilt (f t : Nat) : Int := divNearUp ((f * 4294967296 : Nat) : Int) t

/-- k_H = round(F × 2^40 / (2 × H)). -/
def kH (f h : Nat) : Int := divNearUp ((f * 1099511627776 : Nat) : Int) (2 * h)

/-- c_θ = round(f_nom × t_tick × 2^44). -/
def cTheta (fnom tickNs : Nat) : Int := divNearUp ((fnom * tickNs * 17592186044416 : Nat) : Int) 1000000000

/-- Whether one of the raw values leaves PU32 (R105). -/
def anyOver (l : List Int) : Bool := l.any (fun v => v != sat32 v)

end Sys2Proof.Machine
end

