-- ==== Sys2Proof/Machine/Measure.lean ====
section
/-! DEFINITION. The measurement set of a forming period (04, 06): publishers, alternates, substitutes and their limits,
and step 1 of the law's order (R98 to R100, R107, R110, R168, R546). -/
namespace Sys2Proof.Machine

/-- The set that the law uses in one period, each item as chosen (R100); none where the item stands on its substitute. -/
structure MSet where
  /-- PCC phase voltages, PU32 -/
  pcc : Option (Int × Int × Int)
  /-- PCC group delay g, 1/65 536 tick -/
  g : Nat
  /-- line phase voltages -/
  line : Option (Int × Int × Int)
  /-- half the DC voltage, PU32 -/
  dc : Option Int
  /-- phase currents ix = ixU − ixL, PU32; none with two or more phases lost -/
  cur : Option (Int × Int × Int)
  /-- six arm energies AU AL BU BL CU CL, PU32 -/
  w : Option (List Int)
  /-- a phase current saturated (R105) -/
  wide : Bool := false
deriving DecidableEq, Repr

/-- The message of a publisher that f accepts. -/
def State.measFrom {α : Type} (s : State) (src : Nat) (f : MeasItem → Option α) : Option α :=
  s.spn.meas.findSome? (fun m => if m.1 = src then f m.2 else none)

/-- A PCC message with valid voltages. -/
def MeasItem.pccOk : MeasItem → Option PccItem
  | .pcc p => if p.ok then some p else none
  | _ => none

/-- A PCC message of any validity. -/
def MeasItem.pccAny : MeasItem → Option PccItem
  | .pcc p => some p
  | _ => none

/-- A PCC message with a valid breaker status: the status. -/
def MeasItem.brkOk : MeasItem → Option Bool
  | .pcc p => if p.brkOk then some p.brk else none
  | _ => none

/-- A valid line item. -/
def MeasItem.lineOk : MeasItem → Option VItem
  | .line v => if v.ok then some v else none
  | _ => none

/-- A valid DC item. -/
def MeasItem.dcOk : MeasItem → Option VItem
  | .dc v => if v.ok then some v else none
  | _ => none

/-- The ARM item of an arm index from any arm lead. -/
def State.armItem (s : State) (idx : Nat) : Option ArmItem :=
  s.spn.meas.findSome? (fun m => match m.2 with
    | .arm i a => if i = idx then some a else none
    | _ => none)

/-- The arm indices of AU, AL, BU, BL, CU, CL: phase in [1:0], pole in [2] (R245). -/
def armOrder : List Nat := [0, 4, 1, 5, 2, 6]

/-- The choice of R100 for one item: the source after this period, with p and a the validity of the primary's and the
alternate's item; event 0x1060, 0x1061 or 0x1062 with its item. -/
def State.pick (s : State) (x : Source) (item arm : Nat) (p a : Bool) : Source × State :=
  let run := if p then x.primRun + 1 else 0
  let use :=
    if x.use = 1 then (if a && !(p && 16 ≤ run) then 1 else if p then 0 else 1)
    else (if p then 0 else if a then 1 else 0)
  let sub := !(if use = 1 then a else p)
  let y : Source := { use := use, primRun := min run 16, sub := sub, okRun := if sub then 0 else min (x.okRun + 1) 16 }
  let pl := [item, arm]
  let s := if x.use = 1 && use = 0 then (s.warnOff 0x1060 item).note 0x1062 pl else s
  let s := if x.use = 0 && use = 1 then s.warnOn 0x1060 item pl else s
  let s := if sub then s.warnOn 0x1061 item pl else s.warnOff 0x1061 item
  (y, s)

/-- The count of periods on a substitute: restarted only after 16 consecutive valid periods (R168). -/
def subCount (n : Nat) (x : Source) : Nat := if x.sub then n + 1 else if 16 ≤ x.okRun then 0 else n

/-- The limit object of substitute count i: PCC, DC, breaker, arm current (Table 6-3). -/
def State.subLimit (s : State) (i : Nat) : Nat :=
  match i with
  | 0 => s.SUB_T_PCC | 1 => s.SUB_T_DC | 2 => s.SUB_T_BRK | _ => s.SUB_T_IARM

/-- The item code of substitute count i, as events 0x1061 and 0x1064 name it (R548). -/
def subItem : Nat → Nat
  | 0 => 1 | 1 => 4 | 2 => 2 | _ => 5

/-- The current of an arm, PU32, where its item is valid. -/
def State.armCur (s : State) (idx : Nat) : Option Int :=
  match s.armItem idx with | some a => if a.ok then some a.i else none | none => none

/-- The current of phase x into the grid, where both arms are valid (R107). -/
def State.phaseCur (s : State) (x : Nat) : Option Int :=
  match s.armCur x, s.armCur (x + 4) with
  | some u, some l => some (u - l)
  | _, _ => none

/-- Three PU32 results, saturated (R105). -/
def sat3 (v : Int × Int × Int) : Int × Int × Int := (sat32 v.1, sat32 v.2.1, sat32 v.2.2)

/-- The three phase currents before saturation with the substitute of Table 4-2 for one phase; whether it was needed. -/
def phaseCurs (a b c : Option Int) : Option (Int × Int × Int) × Bool :=
  match a, b, c with
  | some a, some b, some c => (some (a, b, c), false)
  | none, some b, some c => (some (0 - (sat32 b + sat32 c), b, c), true)
  | some a, none, some c => (some (a, 0 - (sat32 a + sat32 c), c), true)
  | some a, some b, none => (some (a, b, 0 - (sat32 a + sat32 b)), true)
  | _, _, _ => (none, false)

/-- The arm index of the missing arm current, 0xFF for none (R548). -/
def State.missingArm (s : State) : Nat :=
  match armOrder.find? (fun i => (s.armCur i).isNone) with | some i => i | none => 255

/-- The six arm energies, where every arm lead has published a valid one (R130, R131). -/
def State.energies (s : State) : Option (List Int) :=
  let l := armOrder.filterMap (fun i => match s.armItem i with
    | some a => if a.wOk then some a.w else none
    | none => none)
  if l.length = 6 then some l else none

/-- The group delay of the set: from the publisher in use, else from the other; a free value where neither has sent
one, since the manual names no substitute for it (log entry 2). -/
def State.setDelay (s : State) (use : Nat) : Nat × State :=
  let p := if use = 1 then s.PCC_PUB_ALT else s.PCC_PUB
  let o := if use = 1 then s.PCC_PUB else s.PCC_PUB_ALT
  match s.measFrom p MeasItem.pccAny with
  | some i => (i.g, s)
  | none => match s.measFrom o MeasItem.pccAny with
    | some i => (i.g, s)
    | none => (s.freeNat % 4294967296, s.drawn)

/-- The breaker's valid report without the choice of R100: the primary's, else the alternate's (Table 4-2). -/
def State.plainBrk (s : State) : Option Bool :=
  (s.measFrom s.PCC_PUB MeasItem.brkOk).or (s.measFrom s.PCC_PUB_ALT MeasItem.brkOk)

/-- The set without the choice of R100: the primary's valid item, else the alternate's. It serves the angles that FORM
computes outside FORMING (R110). -/
def State.plainSet (s : State) : MSet :=
  let v3 (v : VItem) := (v.a, v.b, v.c)
  let pcc := (s.measFrom s.PCC_PUB MeasItem.pccOk).or (s.measFrom s.PCC_PUB_ALT MeasItem.pccOk)
  let line := (s.measFrom s.LINE_PUB MeasItem.lineOk).or (s.measFrom s.LINE_PUB_ALT MeasItem.lineOk)
  { pcc := pcc.map (fun p => (p.a, p.b, p.c)), g := 0, line := line.map v3, dc := none, cur := none, w := none }

/-- The set of this period, with the sources, SOURCES and the substitute counts it leaves (R100, R168, 0x2008:0E). -/
def State.chooseSet (s : State) : MSet × State :=
  let pp := s.measFrom s.PCC_PUB MeasItem.pccOk
  let pa := s.measFrom s.PCC_PUB_ALT MeasItem.pccOk
  let bp := s.measFrom s.PCC_PUB MeasItem.brkOk
  let ba := s.measFrom s.PCC_PUB_ALT MeasItem.brkOk
  let lp := s.measFrom s.LINE_PUB MeasItem.lineOk
  let la := s.measFrom s.LINE_PUB_ALT MeasItem.lineOk
  let dp := s.measFrom s.DC_PUB MeasItem.dcOk
  let da := s.measFrom s.DC_PUB_ALT MeasItem.dcOk
  let (cur, one) := phaseCurs (s.phaseCur 0) (s.phaseCur 1) (s.phaseCur 2)
  let f := s.form
  let (xp, s) := s.pick f.srcPcc 1 255 pp.isSome pa.isSome
  let (xb, s) := s.pick f.srcBrk 2 255 bp.isSome ba.isSome
  let (xl, s) := s.pick f.srcLine 3 255 lp.isSome la.isSome
  let (xd, s) := s.pick f.srcDc 4 255 dp.isSome da.isSome
  let (xa, s) := s.pick f.srcArm 5 s.missingArm (cur.isSome && !one) false
  let (g, s) := s.setDelay xp.use
  let brk := if xb.use = 1 then ba else bp
  let srcs := flagBits [xp.use == 1 && !xp.sub, xp.sub, xl.use == 1 && !xl.sub, xl.sub, xd.use == 1 && !xd.sub, xd.sub, one]
  let n := f.b.subN
  let subs := [subCount (entry n 0 0) xp, subCount (entry n 1 0) xd, subCount (entry n 2 0) xb, subCount (entry n 3 0) xa]
  let s := s.mapForm (fun f => { f with
    srcPcc := xp, srcBrk := xb, srcLine := xl, srcDc := xd, srcArm := xa
    brk := brk.or f.brk, brkOk := !xb.sub
    b := { f.b with subN := subs.map (fun k => min k 4294967295), sources := srcs } })
  let v3 (v : VItem) := (v.a, v.b, v.c)
  ({ pcc := ((if xp.use = 1 then pa else pp).map (fun p => (p.a, p.b, p.c))), g := g
     line := (if xl.use = 1 then la else lp).map v3
     dc := (if xd.use = 1 then da else dp).map (fun v => divNearUp (v.a + v.b) 2)
     cur := cur.map sat3, w := s.energies, wide := (cur.map (fun c => c != sat3 c)).getD false }, s)

/-- The substitute whose limit is exceeded: count × F above the limit object (R168). -/
def State.subExpired (s : State) (i : Nat) : Bool :=
  s.subLimit i < entry s.form.b.subN i 0 * s.fp && 0 < entry s.form.b.subN i 0

/-- FORM faults because substitute i has stood too long (R168). -/
def State.subTrip (s : State) (i : Nat) : State :=
  s.trip 0x1064 .form [subItem i, if i = 3 then s.missingArm else 255]

/-- What the chosen set faults: arm currents of two or more phases, or an expired substitute (Table 4-2, R168). -/
def State.setFaults (s : State) (m : MSet) : State :=
  let s := if m.cur.isNone then s.trip 0x1063 .form [] else s
  [0, 1, 2, 3].foldl (fun s i => if s.isRun .form && s.subExpired i then s.subTrip i else s) s

/-! ### Step 1 (R107) -/

/-- The raw results of step 1. -/
structure Step1 where
  /-- v_d, PU32 -/
  vd : Int
  /-- v_q -/
  vq : Int
  /-- i_d -/
  id : Int
  /-- i_q -/
  iq : Int
  /-- p -/
  p : Int
  /-- q -/
  q : Int
  /-- v, raw PCC magnitude -/
  v : Int
  /-- rotor angle at the measurement instant, U64 -/
  thm : Nat
  /-- a PU32 result saturated (R105) -/
  outside : Bool
deriving DecidableEq, Repr

/-- PCC_SHIFT at bit 32 of an angle (R544). -/
def State.shift64 (s : State) : Nat := s.PCC_SHIFT * 4294967296

/-- Step 1 at a rotor angle and an angle per tick. -/
def State.step1 (s : State) (m : MSet) (th dth : Nat) : Step1 :=
  let thm := ang64 ((th : Int) - dth - rsh 16 ((m.g * dth : Nat) : Int))
  let pv := turn32 (thm + s.shift64)
  let rv := match m.pcc with
    | some (a, b, c) => (parkD a b c pv, parkQ a b c pv)
    | none => s.form.vPrev
  let (a, b, c) := m.cur.getD (0, 0, 0)
  let ri := (parkD a b c (turn32 thm), parkQ a b c (turn32 thm))
  let vd := sat32 rv.1
  let vq := sat32 rv.2
  let id := sat32 ri.1
  let iq := sat32 ri.2
  let p := mulPu vd id + mulPu vq iq
  let q := mulPu vq id - mulPu vd iq
  let vv := mulPu vd vd + mulPu vq vq
  { vd := vd, vq := vq, id := id, iq := iq, p := sat32 p, q := sat32 q, v := sqrtPu (sat32 vv), thm := thm
    outside := anyOver [rv.1, rv.2, ri.1, ri.2, p, q, vv] }

/-- The angle of a three-phase set plus PCC_SHIFT, TURN32 (R103, R544). -/
def State.setAngle (s : State) (v : Int × Int × Int) : Nat :=
  (angleOf (clarkeA v.1 v.2.1 v.2.2) (clarkeB v.2.1 v.2.2) + s.PCC_SHIFT) % 4294967296

/-- The argument of the magnitude of a three-phase set (R544). -/
def setSquare (v : Int × Int × Int) : Int :=
  let a := clarkeA v.1 v.2.1 v.2.2
  let b := clarkeB v.2.1 v.2.2
  mulPu a a + mulPu b b

/-- The magnitude of a three-phase set (R544). -/
def setMag (v : Int × Int × Int) : Int := sqrtPu (sat32 (setSquare v))

/-- A PU32 result on the way to the angle of a three-phase set saturates (R105). -/
def setOver (v : Int × Int × Int) : Bool := anyOver [rawA v.1 v.2.1 v.2.2, rawB v.2.1 v.2.2]

/-- The frequency input of two angles F ticks apart before saturation (R107). -/
def State.freqRaw (s : State) (now old : Nat) : Int :=
  let c := rsh 12 (cTheta s.F_NOM s.tickNs)
  divNearUp (int32 ((now : Int) - old) * 16777216) (s.fp * c.toNat)

/-- The frequency input of two angles F ticks apart, PU32 (R107). -/
def State.freqOf (s : State) (now old : Nat) : Int := sat32 (s.freqRaw now old)

/-- What the angles of a set give: th_b, th_g, |line|, and the two frequency inputs that R546 allows. -/
structure Angles where
  /-- th_b, TURN32 -/
  thb : Option Nat
  /-- th_g, TURN32 -/
  thg : Option Nat
  /-- |line|, PU32 -/
  mag : Option Int
  /-- input of ω_bf, PU32 -/
  fb : Option Int
  /-- input of ω_gf, PU32 -/
  fg : Option Int
  /-- a PU32 result saturated (R105) -/
  outside : Bool
deriving DecidableEq, Repr

/-- The angles of a set against those held. -/
def State.angles (s : State) (m : MSet) : Angles :=
  let thb := m.pcc.map s.setAngle
  let thg := m.line.map s.setAngle
  let rb := if s.form.pccPrev then thb.map (fun a => s.freqRaw a s.form.b.thb) else none
  let rg := if s.form.linePrev then thg.map (fun a => s.freqRaw a s.form.b.thg) else none
  let sq := m.line.map setSquare
  { thb := thb, thg := thg, mag := m.line.map setMag, fb := rb.map sat32, fg := rg.map sat32
    outside := (m.pcc.map setOver).getD false || (m.line.map setOver).getD false ||
      anyOver (rb.toList ++ rg.toList ++ sq.toList) }

/-- The previous angles after a period: kept where an item was not valid (R546). -/
def State.keepAngles (s : State) (a : Angles) : State :=
  s.mapForm (fun f => { f with
    pccPrev := a.thb.isSome, linePrev := a.thg.isSome
    b := { f.b with thb := a.thb.getD f.b.thb, thg := a.thg.getD f.b.thg } })

end Sys2Proof.Machine
end

