-- ==== Sys2Proof/Machine/Limits.lean ====
section
/-! DEFINITION. The competing limits and the gain schedule (05): the power group (R126 to R132, R134), the magnitude
group (R133), the operating regions (R136 to R141). -/
namespace Sys2Proof.Machine

/-- A law state against the ends of I64: one that leaves them is a free value, since the manual states no result there
(log entry 12). -/
def State.hold64 (s : State) (x : Int) : Int × State :=
  if x = sat64 x then (x, s) else (signed 64 s.freeNat, s.drawn)

/-- The law block changed. -/
def State.mapB (s : State) (f : LawBlock → LawBlock) : State := s.mapForm (fun x => { x with b := f x.b })

/-- The law block. -/
def State.law (s : State) : LawBlock := s.form.b

/-! ### Selection (R127) -/

/-- The lowest value with its number, the lower number on equal codes. -/
def lowestGo (v : Int) (w : Nat) : Nat → List Int → Int × Nat
  | _, [] => (v, w)
  | n, y :: ys => if y < v then lowestGo y n (n + 1) ys else lowestGo v w (n + 1) ys

/-- The lowest of candidate 1 and candidates 2, 3, ... -/
def lowest (y1 : Int) (ys : List Int) : Int × Nat := lowestGo y1 1 2 ys

/-! ### The gain set of a region (R136) -/

/-- Subindices 06 to 0A of region r. -/
def State.gains (s : State) (r : Nat) : GainSet :=
  { kp := s.K_P r, kq := s.K_Q r, d := s.D r, rv := s.R_V r, xv := s.X_V r }

/-- Margins of power candidates 2 to 5 in region r. -/
def State.marginsP (s : State) (r : Nat) : List Int := [s.M_P2 r, s.M_P3 r, s.M_P4 r, s.M_P5 r]

/-- Margins of magnitude candidates 2 to 4 in region r. -/
def State.marginsE (s : State) (r : Nat) : List Int := [s.M_E2 r, s.M_E3 r, s.M_E4 r]

/-! ### Limit loops (R126, R128) -/

/-- A limit loop: whether it takes part, its errors, its gains and its margin. -/
structure Loop where
  /-- takes part; R131 -/
  on : Bool
  /-- export-side error, or the error of a magnitude loop; Tables 5-1, 5-2 -/
  e : Int
  /-- import-side error; Table 5-1 -/
  i : Int
  /-- K_P, PU32; R126 -/
  kp : Int
  /-- k_c; R126 -/
  k : Int
  /-- margin, PU32; R128 -/
  m : Int
deriving DecidableEq, Repr

/-- Output of a loop from its state and error before saturation (R126). -/
def loopOut (kp x e : Int) : Int := view x + mulPu kp e

/-- State of a loop after selection (R128). -/
def loopNext (won : Bool) (x k e track : Int) : Int := if won then x + k * e else up track

/-- Power-group results (R132). -/
structure Power where
  /-- p_sel -/
  sel : Int
  /-- P_WIN -/
  win : Nat
  /-- export states -/
  xe : List Int
  /-- import states -/
  xi : List Int
  /-- P_OUT: −p_dem, yi, −s_imp, ye -/
  out : List Int
  /-- the two sides conflict -/
  conflict : Bool
  /-- a PU32 result saturated -/
  outside : Bool
deriving DecidableEq, Repr

/-- The outputs of one side: +P_ABS where the candidate takes no part (R131, R132). -/
def sideOut (pAbs : Int) (ls : List Loop) (xs : List Int) (e : Loop → Int) : List Int :=
  (ls.zip xs).map (fun (l, x) => if l.on then loopOut l.kp x (e l) else pAbs)

/-- The states of one side; `won` is the number of the loop that integrates, 0 for none. -/
def sideNext (pAbs : Int) (ls : List Loop) (xs : List Int) (e : Loop → Int) (won : Nat) (sel : Int) : List Int :=
  ((ls.zip xs).zipIdx 2).map (fun ((l, x), c) =>
    clampI (0 - up pAbs) (up pAbs) (loopNext (c == won && l.on) x l.k (e l) (sel + l.m)))

/-- The power group of one period (R132); in the first period of FORMING with the states of R134. -/
def powerGroup (pAbs pDem : Int) (ls : List Loop) (xe xi : List Int) (first : Bool) : Power :=
  let np := sat32 (0 - pDem)
  let xi := if first then ls.map (fun l => up (np + l.m)) else xi
  let yiRaw := sideOut pAbs ls xi (fun l => l.i)
  let yi := yiRaw.map sat32
  let (sImp, wImp) := lowest np yi
  let nImp := sat32 (0 - sImp)
  let xe := if first then ls.map (fun l => up (nImp + l.m)) else xe
  let yeRaw := sideOut pAbs ls xe (fun l => l.e)
  let ye := yeRaw.map sat32
  let (p, w0) := lowest nImp ye
  let sel := clampI (0 - pAbs) pAbs p
  let w := if sel = p then w0 else 0
  { sel := sel
    win := if w != 1 then w else if wImp = 1 then 1 else 10 + wImp
    xe := sideNext pAbs ls xe (fun l => l.e) w sel
    xi := sideNext pAbs ls xi (fun l => l.i) (if w = 1 then wImp else 0) (0 - sel)
    out := [np] ++ yi ++ [nImp] ++ ye
    conflict := 2 ≤ w0 && wImp != 1
    outside := anyOver ([0 - pDem, 0 - sImp] ++ yiRaw ++ yeRaw) }

/-- Magnitude-group results (R133). -/
structure Magnitude where
  /-- e_sel -/
  sel : Int
  /-- E_WIN -/
  win : Nat
  /-- magnitude states -/
  xm : List Int
  /-- E_OUT: e_dem, ym -/
  out : List Int
  /-- a PU32 result saturated -/
  outside : Bool
deriving DecidableEq, Repr

/-- The magnitude group of one period (R133); in the first period of FORMING with the states of R134. E_MAX is the
ceiling of the states (Table 5-3). -/
def magnitudeGroup (eMin eMax eDem : Int) (ls : List Loop) (xm : List Int) (first : Bool) : Magnitude :=
  let xm := if first then ls.map (fun l => up (eDem + l.m)) else xm
  let raw := (ls.zip xm).map (fun (l, x) => loopOut l.kp x l.e)
  let ym := raw.map sat32
  let (e, w) := lowest eDem ym
  let (e, w) := if e < eMin then (eMin, 0) else (e, w)
  let (e, w) := if eMax < e then (eMax, 5) else (e, w)
  { sel := e, win := w
    xm := ((ls.zip xm).zipIdx 2).map (fun ((l, x), c) => min (up eMax) (loopNext (c == w) x l.k l.e (e + l.m)))
    out := eDem :: ym
    outside := anyOver raw }

/-! ### Errors of Tables 5-1 and 5-2 -/

/-- a² − b². -/
def diffSq (a b : Int) : Int := mulPu a a - mulPu b b

/-- a² + b². -/
def sumSq (a b : Int) : Int := mulPu a a + mulPu b b

/-- √(a² − b²), its argument limited to at least 0 (R130). -/
def headroom (a b : Int) : Int := sqrtPu (sat32 (diffSq a b))

/-- √(a² + b²). -/
def magOf (a b : Int) : Int := sqrtPu (sat32 (sumSq a b))

/-- The lowest entry of a list, 0 for the empty list. -/
def minI : List Int → Int
  | [] => 0
  | x :: xs => xs.foldl min x

/-- The highest entry of a list, 0 for the empty list. -/
def maxI : List Int → Int
  | [] => 0
  | x :: xs => xs.foldl max x

/-- K_P of power candidates 2 to 5 and of magnitude candidates 2 to 4. -/
def State.kpList (s : State) : List Int := [s.KP_P2, s.KP_P3, s.KP_P4, s.KP_P5, s.KP_E2, s.KP_E3, s.KP_E4]

/-- k_c of the same loops (R126). -/
def State.kList (s : State) : List Int :=
  [s.KI_P2, s.KI_P3, s.KI_P4, s.KI_P5, s.KI_E2, s.KI_E3, s.KI_E4].map (fun k => kInt k s.fp s.tickNs)

/-- The power loops 2 to 5 of this period (Table 5-1, R131), and whether an error saturated. w is ω[n−1]. -/
def State.powerLoops (s : State) (m : MSet) (x : Step1) : List Loop × Bool :=
  let b := s.law
  let uh := view b.uh
  let w := view b.w
  let ws := m.w.getD []
  let hp := headroom s.I_MAX_P x.iq
  let raw : List (Int × Int) :=
    [(uh - s.U_DC_LO, s.U_DC_HI - uh), (minI ws - s.W_ARM_LO, s.W_ARM_HI - maxI ws), (hp - x.id, hp + x.id),
     (s.W_BAND_HI - w, w - s.W_BAND_LO)]
  let ms := s.marginsP b.region
  let ls := raw.zipIdx.map (fun (e, c) =>
    { on := bit s.P_ENABLE c && !(c == 1 && m.w.isNone), e := sat32 e.1, i := sat32 e.2
      kp := entry s.kpList c 0, k := entry s.kList c 0, m := entry ms c 0 })
  (ls, anyOver (diffSq s.I_MAX_P x.iq :: (raw.map (·.1) ++ raw.map (·.2))))

/-- The magnitude loops 2 to 4 of this period (Table 5-2). -/
def State.magnitudeLoops (s : State) (x : Step1) : List Loop × Bool :=
  let b := s.law
  let raw := [s.I_MAX_E - magOf x.id x.iq, s.V_OV - x.v, headroom s.S_QMAX (view b.pf) - view b.qf]
  let ms := s.marginsE b.region
  let ls := raw.zipIdx.map (fun (e, c) =>
    { on := true, e := sat32 e, i := 0, kp := entry s.kpList (4 + c) 0, k := entry s.kList (4 + c) 0, m := entry ms c 0 })
  (ls, anyOver (sumSq x.id x.iq :: diffSq s.S_QMAX (view b.pf) :: raw))

/-- Candidate 3 forced out by an arm energy that is not valid, and back (R131). -/
def State.forcedEvents (s : State) (m : MSet) : State :=
  let out := bit s.P_ENABLE 1 && m.w.isNone
  let s := if out then s.warnOn 0x1074 3 [] else s.warnOff 0x1074 3
  let was := entry s.form.forced 1 false
  let s := if was && m.w.isSome then s.note 0x1075 [] else s
  s.mapForm (fun f => { f with forced := putAt 1 out f.forced })

/-- Step 4: the two groups with p_dem, v_set and e_dem of step 3; the states, the winners and their events, the
tracking of the voltage controller (R129 to R134). -/
def State.groups (s : State) (m : MSet) (x : Step1) (pDem vSet eDem : Int) (first : Bool) : State :=
  let s := s.forcedEvents m
  let b := s.law
  let (pl, o1) := s.powerLoops m x
  let (ml, o2) := s.magnitudeLoops x
  let p := powerGroup s.P_ABS pDem pl b.xe b.xim first
  let e := magnitudeGroup s.E_MIN s.E_MAX eDem ml b.xm first
  let hold := b.sub == 4 && b.phase == 1
  let xi := if e.win != 1 && !hold then up (e.sel + s.M_E1 b.region - vSet) else b.xi
  let s := if p.conflict then s.warnOn 0x1073 0 [] else s.warnOff 0x1073 0
  let s := if p.win != b.pwin then s.note 0x1070 [b.pwin, p.win] else s
  let s := if e.win != b.ewin then s.note 0x1071 [b.ewin, e.win] else s
  let (xi, s) := s.hold64 xi
  s.mapForm (fun f => { f with
    conflict := p.conflict, pSel := p.sel, eSel := e.sel, pOut := p.out, eOut := e.out
    satOnce := f.satOnce || o1 || o2 || p.outside || e.outside
    b := { f.b with xe := p.xe, xim := p.xi, xm := e.xm, pwin := p.win, ewin := e.win, xi := xi } })

/-! ### Regions (R137 to R140) -/

/-- λ² leaves PU32 (R105). -/
def State.pointOver (s : State) : Bool := anyOver [sumSq (view s.law.pf) (view s.law.qf)]

/-- The operating point (V_f, λ). -/
def State.point (s : State) : Int × Int := (view s.law.vf, magOf (view s.law.pf) (view s.law.qf))

/-- The point lies inside region r, widened or not. -/
def State.inside (s : State) (r : Nat) (wide : Bool) : Bool :=
  let (v, l) := s.point
  let hv := if wide then s.H_V else 0
  let hl := if wide then s.H_L else 0
  s.V_LO r - hv ≤ v && v < s.V_HI r + hv && s.L_LO r - hl ≤ l && l < s.L_HI r + hl

/-- The lowest-numbered enabled region that the point lies inside. -/
def State.regionFor (s : State) : Option Nat :=
  (List.range 8).find? (fun r => s.ENABLE r != 0 && s.inside r false)

/-- The first region of FORMING (R140). -/
def State.firstRegion (s : State) : State :=
  s.mapB (fun b => { b with region := s.regionFor.getD 0, rpend := 255, dwell := 0 })

/-- T_DWELL is reached outside the region: the candidate is picked (R138). The count of a change restarts when the
change takes effect, as the worked example of 05 shows (log entry 12). -/
def State.regionPick (s : State) : State :=
  let now := s.law.region
  let c := s.regionFor.getD 0
  let s := if s.regionFor.isNone then s.warnKeep 0x1082 0 [] else s.warnOff 0x1082 0
  if c = now then s.mapB (fun b => { b with dwell := 0 }) else (s.mapB (fun b => { b with rpend := c })).note 0x1080 [now, c]

/-- The dwell of the present point is over: count × F reaches T_DWELL (R138). -/
def State.regionDue (s : State) : Bool := 1 ≤ s.law.dwell && s.T_DWELL ≤ s.law.dwell * s.fp

/-- The evaluation of step 7 (R138, R139). -/
def State.regionEval (s : State) : State :=
  let b := s.law
  let s := s.mapForm (fun f => { f with satOnce := f.satOnce || s.pointOver })
  if b.sub = 4 || s.inside b.region true then s.mapB (fun b => { b with dwell := 0 })
  else
    let s := s.mapB (fun b => { b with dwell := min (b.dwell + 1) 4294967295 })
    if s.regionDue then s.regionPick else s

/-- The damping reference under a new gain set (R142). -/
def State.rescaleD (s : State) : State :=
  let b := s.law
  let new := s.D b.region
  let (wd, s) := s.hold64 (if new = 0 then b.w else b.w - divNearUp (s.form.gPrev.d * (b.w - b.wd)) new.toNat)
  s.mapB (fun b => { b with wd := wd })

/-- A change that is pending takes effect at k = 0. Where it, or a write to the region in force, brings a new gain set, the
damping reference is rescaled (R138, R141, R142). -/
def State.regionApply (s : State) : State :=
  let change := s.law.rpend != 255
  let s := if change then
      (s.mapB (fun b => { b with region := b.rpend % 8, rpend := 255, dwell := 0 })).note 0x1081 []
    else s
  let new := change || s.form.gainNew || s.form.gPrev != s.gains s.law.region
  let s := s.mapForm (fun f => { f with gainNew := false })
  if new then s.rescaleD else s

/-- A leader's block is about to be loaded: the gain set of the previous period is that of its region, before the writes of this
boundary (R140, R141). -/
def State.loadGains (s : State) : State :=
  match s.form.load with
  | some blk => s.mapForm (fun f => { f with gPrev := s.gains blk.region })
  | none => s

/-- The present gain set becomes that of the previous period (R142). -/
def State.gainsDone (s : State) : State := s.mapForm (fun f => { f with gPrev := s.gains s.law.region })

end Sys2Proof.Machine
end

