-- ==== Sys2Proof/Machine/Sequencer.lean ====
section
/-! DEFINITION. The sub-state sequencer of the forming law (04): the synchronism check (R117), BLACKSTART, SYNC, RUN
and RIDE with their exits in the order of R121 (R114 to R121). The phase timer counts ticks from the entry of a phase;
where a condition must hold at every boundary for a time, it counts the ticks of consecutive boundaries at which it
held, and the exit is taken when the condition has held over that time (log entry 12). Sub-states: 1 BLACKSTART, 2 SYNC,
3 RUN, 4 RIDE. -/
namespace Sys2Proof.Machine

/-- The condition that must hold at every boundary of a phase for its dwell: the check in MATCH, V_f in SETTLE, v in HOLD
(Tables 4-5 to 4-7). -/
def State.dwellCond (s : State) : Bool :=
  match s.law.sub, s.law.phase with
  | 1, 3 => absI (view s.law.vf - s.V_SET0) ≤ s.SYNC_DV
  | 2, 2 => s.form.syncOk
  | 4, 1 => s.RIDE_V_OUT ≤ s.form.vRaw && s.form.vRaw ≤ s.RIDE_V_OUT_HI
  | _, _ => false

/-- A sub-state and phase entered (R114). The law is in them from this step on; the change of sub-state is due, and is made and
recorded as the tick ends, unless FORMING is left in that tick (R75, R79; notes/assumptions/126.md). -/
def State.toPhase (s : State) (sub ph : Nat) : State :=
  let s := s.mapB (fun b => { b with sub := sub, phase := ph, phT := 0 })
  let s := s.mapForm (fun f => { f with dwOn := s.dwellCond })
  s.mapMode (fun m => { m with subDue := if m.mode == .forming && m.sub != sub then some sub else none })

/-- The tick ends: a change of sub-state that is due is made and recorded (R75, R79). -/
def State.subApply (s : State) : State :=
  match s.mode.subDue with
  | some sub => if s.mode.mode == .forming then (s.mapMode (fun m => { m with subDue := none })).setMode .forming sub else s
  | none => s

/-- SYNC entered at WAIT_LIVE: its timer and its failure count start (R116). -/
def State.toSync (s : State) : State :=
  (s.mapB (fun b => { b with syT := 0, fails := 0 })).toPhase 2 1

/-- RUN entered. The count of RIDE_N_IN starts at 0: the boundary at which RUN is entered does not count (DESIGN CHOICE,
notes/assumptions/127.md). -/
def State.toRun (s : State) : State := (s.mapB (fun b => { b with riT := 0, rideN := 0 })).toPhase 3 0

/-- The breaker reports closed, by a valid report or its substitute. -/
def State.brkClosed (s : State) : Bool := s.form.brk == some true

/-- The breaker reports open, by a valid report or its substitute. -/
def State.brkOpen (s : State) : Bool := s.form.brk == some false

/-- The line is lost: not valid, or V_gf below V_LIVE (R116). -/
def State.lineLost (s : State) : Bool := !s.form.linePrev || view s.law.vgf < s.V_LIVE

/-- The synchronism check of this boundary with its differences (R117, 0x2008:0A to 0x2008:0C). The angle that SYNC_DTH_M
shows is limited to its I32 (DESIGN CHOICE, notes/assumptions/128.md); the test uses it whole. -/
def State.syncCheck (s : State) : State :=
  let b := s.law
  let vf := view b.vf
  let vg := view b.vgf
  let rv := vf - vg
  let rw := view b.wbf - view b.wgf
  let dv := sat32 rv
  let dw := sat32 rw
  let c := rsh 12 (cTheta s.F_NOM s.tickNs)
  let pred := int32 ((b.thb : Int) - b.thg) + rsh 24 (dw * c * s.SYNC_TCLOSE)
  let ok := s.form.brkOk && s.form.linePrev && s.form.pccPrev && s.V_LIVE ≤ vf && s.V_LIVE ≤ vg &&
    absI dv ≤ s.SYNC_DV && absI dw ≤ s.SYNC_DF && absI pred ≤ s.SYNC_DTH
  s.mapForm (fun f => { f with
    dvM := dv, dwM := dw, dthM := sat32 pred, syncOk := ok, satOnce := f.satOnce || anyOver [rv, rw] })

/-- v is outside RIDE_V_LO to RIDE_V_HI (R119). -/
def State.rideOut (s : State) : Bool := s.form.vRaw < s.RIDE_V_LO || s.RIDE_V_HI < s.form.vRaw

/-- The phase timer at a further boundary of the present phase: ticks since the first boundary of the run of boundaries at
which the phase's condition held, since the ramp stood still, or since the phase was entered (R114, log entry 12). -/
def State.phaseTime (s : State) : Nat :=
  let b := s.law
  let n := b.phT + s.fp
  let run (c : Bool) := if c then n else 0
  match b.sub, b.phase with
  | 1, 2 => run (b.ewin != 1)
  | 1, 3 | 2, 2 | 4, 1 => run (s.dwellCond && s.form.dwOn)
  | _, _ => n

/-- The timers and counts of the sequencer at a further boundary (Tables 4-5 to 4-7, R119). -/
def State.seqTimers (s : State) : State :=
  let b := s.law
  let cap (n : Nat) := min n 4294967295
  let riding := b.sub == 3 || (b.sub == 4 && b.phase == 2)
  (s.mapForm (fun f => { f with dwOn := s.dwellCond })).mapB (fun b => { b with
    phT := cap s.phaseTime
    tr := if b.sub == 1 && b.phase == 2 && b.ewin == 1 then min (b.tr + s.fp) s.BS_RAMP else b.tr
    syT := if b.sub == 2 then cap (b.syT + s.fp) else b.syT
    riT := if b.sub == 4 then cap (b.riT + s.fp) else b.riT
    rideN := if riding && s.rideOut then min (b.rideN + 1) 255 else 0 })

/-! ### Exits -/

/-- The law runs: mode FORMING with FORM RUNNING. -/
def State.forming (s : State) : Bool := s.mode.mode == .forming && s.isRun .form

/-- FORMING in sub-state and phase. -/
def State.inPhase (s : State) (sub ph : Nat) : Bool := s.forming && s.law.sub == sub && s.law.phase == ph

/-- Dead-line close not confirmed within SYNC_FB_TIMEOUT (Table 4-5). -/
def State.bsCloseDue (s : State) : Bool := s.inPhase 1 1 && !s.brkClosed && s.SYNC_FB_TIMEOUT ≤ s.law.phT

/-- The ramp has stood still for BS_STALL (Table 4-5). -/
def State.bsStallDue (s : State) : Bool := s.inPhase 1 2 && s.BS_STALL ≤ s.law.phT

/-- SYNC_TIMEOUT has expired (R116). -/
def State.syncTimeoutDue (s : State) : Bool := s.forming && s.law.sub == 2 && s.SYNC_TIMEOUT ≤ s.law.syT

/-- No closed report within SYNC_FB_TIMEOUT of CLOSE being set (Table 4-6). -/
def State.closeFailed (s : State) : Bool := s.inPhase 2 3 && !s.brkClosed && s.SYNC_FB_TIMEOUT ≤ s.law.phT

/-- RIDE_T_MAX has expired (R120). -/
def State.rideMaxDue (s : State) : Bool := s.forming && s.law.sub == 4 && s.RIDE_T_MAX ≤ s.law.riT

/-- RUN or RECOVER is left for HOLD (R119, Table 4-7). -/
def State.rideDue (s : State) : Bool :=
  s.forming && (s.law.sub == 3 || (s.law.sub == 4 && s.law.phase == 2)) && s.RIDE_N_IN ≤ s.law.rideN

/-- HOLD entered: the demands of the last period are frozen (Table 4-4); the episode timer starts at its first HOLD. -/
def State.rideHold (s : State) : State :=
  let s := s.mapForm (fun f => { f with frozen := f.last })
  (s.mapB (fun b => { b with rideN := 0, riT := if b.sub = 4 then b.riT else 0 })).toPhase 4 1

/-- A close failure: counted, and SYNC_RETRY failures allowed (Table 4-6). -/
def State.closeFail (s : State) : State :=
  let s := s.warn 0x1021 []
  if s.SYNC_RETRY < s.law.fails + 1 then s.trip 0x1022 .form []
  else (s.mapB (fun b => { b with fails := b.fails + 1 })).toPhase 2 2

/-- The check has held for SYNC_DWELL in MATCH (Table 4-6). -/
def State.matchDue (s : State) : Bool := s.inPhase 2 2 && s.form.syncOk && s.SYNC_DWELL ≤ s.law.phT

/-- The ramp is complete (Table 4-5). -/
def State.rampDue (s : State) : Bool := s.inPhase 1 2 && s.BS_RAMP ≤ s.law.tr

/-- V_f has settled for SYNC_DWELL (Table 4-5). -/
def State.settleDue (s : State) : Bool := s.inPhase 1 3 && s.dwellCond && s.SYNC_DWELL ≤ s.law.phT

/-- v has lain within the exit limits for RIDE_T_CLEAR (Table 4-7). -/
def State.clearDue (s : State) : Bool := s.inPhase 4 1 && s.dwellCond && s.RIDE_T_CLEAR ≤ s.law.phT

/-- r would reach 1 in this period (R108, Table 4-7). -/
def State.recoverDue (s : State) : Bool := s.inPhase 4 2 && s.T_REC ≤ s.law.phT

/-- CLOSING entered (Table 4-6). -/
def State.toClosing (s : State) : State := (s.note 0x1020 []).toPhase 2 3

/-- SETTLE is left (Table 4-5). -/
def State.settleExit (s : State) : State := if s.brkClosed then s.toRun else s.toSync

/-- HOLD is left (Table 4-7). -/
def State.holdExit (s : State) : State := if s.T_REC = 0 then s.toRun else s.toPhase 4 2

/-- The breaker closed ends BLACKSTART CLOSE and SYNC (Tables 4-5, 4-6, R116). -/
def State.closedExit (s : State) : State :=
  if s.law.sub = 1 then (s.mapB (fun b => { b with tr := 0 })).toPhase 1 2
  else (if s.form.syncOk then s else s.warn 0x1024 []).toRun

/-- The exits of lowest rank in R121. -/
def State.otherExit (s : State) : State :=
  if s.inPhase 2 1 then (if s.lineLost then s else s.toPhase 2 2)
  else if s.inPhase 2 3 && !s.form.syncOk then (s.warn 0x1027 []).toPhase 2 2
  else if s.closeFailed then s.closeFail
  else if s.matchDue then s.toClosing
  else if s.rampDue then s.toPhase 1 3
  else if s.settleDue then s.settleExit
  else if s.clearDue then s.holdExit
  else if s.recoverDue then s.toRun
  else s

/-- The first exit in the order of R121: a TRIP, RIDE HOLD entry, breaker closed, breaker open, line lost, others. -/
def State.seqExit (s : State) : State :=
  if s.bsCloseDue then s.trip 0x1012 .form []
  else if s.bsStallDue then s.trip 0x1011 .form []
  else if s.syncTimeoutDue then s.trip 0x1026 .form []
  else if s.closeFailed && s.SYNC_RETRY < s.law.fails + 1 then s.closeFail
  else if s.rideMaxDue then s.trip 0x1041 .form []
  else if s.rideDue then s.rideHold
  else if s.brkClosed && (s.inPhase 1 1 || (s.forming && s.law.sub == 2)) then s.closedExit
  else if s.brkOpen && s.inPhase 3 0 then (s.note 0x1025 []).toSync
  else if (s.inPhase 2 2 || s.inPhase 2 3) && s.lineLost then (s.warn 0x1023 []).toPhase 2 1
  else s.otherExit

/-- The close command of the present sub-state: set throughout BLACKSTART CLOSE, and for SYNC_PULSE in CLOSING while
the breaker status is valid (Tables 4-2, 4-5, 4-6). -/
def State.closeNow (s : State) : Bool :=
  s.inPhase 1 1 || (s.inPhase 2 3 && s.law.phT < s.SYNC_PULSE && s.form.brkOk)

/-- Step 2 of a period: timers (none in the first period), the check, one exit, the close command. -/
def State.sequence (s : State) (first : Bool) : State :=
  let s := s.syncCheck
  let s := if first then s else s.seqTimers
  let s := s.seqExit
  s.mapForm (fun f => { f with close := s.closeNow })

/-- The first sub-state and phase of FORMING; the mode becomes FORMING (R114, Tables 4-5, 4-6). -/
def State.firstPhase (s : State) : State :=
  let b := s.law
  let dead := s.form.linePrev && view b.vgf < s.V_DEAD && s.BS_ENABLE == 1
  let ph := if !dead then 1 else if s.form.brkOk && s.brkOpen && s.BS_DEADCLOSE == 1 then 1 else 2
  let sub := if dead then 1 else 2
  let s := s.mapForm (fun f => { f with dwOn := false })
  (s.mapB (fun b => { b with sub := sub, phase := ph, phT := 0, tr := 0, syT := 0, riT := 0, fails := 0, rideN := 0 })).setMode
    .forming sub

/-! ### The commands of the sequencer -/

/-- SYNC_TIMEOUT (R116): the limit of SYNC expires. -/
def execSyncTimeout (s : State) : Out := .next (if s.syncTimeoutDue then s.trip 0x1026 .form [] else s)

/-- SYNC_FB_TIMEOUT (R115, R116): no closed report within the limit. -/
def execSyncFbTimeout (s : State) : Out :=
  .next (if s.bsCloseDue then s.trip 0x1012 .form []
    else if s.closeFailed then (let s := s.closeFail; s.mapForm (fun f => { f with close := false })) else s)

/-- SYNC_DWELL_ELAPSED (R116): the check has held for the dwell; CLOSE is set. -/
def execSyncDwellElapsed (s : State) : Out :=
  .next (if s.matchDue then (let s := s.toClosing; s.mapForm (fun f => { f with close := s.closeNow })) else s)

/-- SYNC_PULSE_END (R116): the close command ends. -/
def execSyncPulseEnd (s : State) : Out :=
  .next (if s.inPhase 2 3 && s.SYNC_PULSE ≤ s.law.phT then s.mapForm (fun f => { f with close := false }) else s)

/-- SETTLE_DWELL_ELAPSED (R115): SETTLE is left for RUN or SYNC. -/
def execSettleDwellElapsed (s : State) : Out := .next (if s.settleDue then s.settleExit else s)

/-- BS_RAMP_COMPLETE (R115): RAMP is left for SETTLE. -/
def execBsRampComplete (s : State) : Out := .next (if s.rampDue then s.toPhase 1 3 else s)

/-- BS_STALL_EXPIRY (R115): the ramp has stood still too long. -/
def execBsStallExpiry (s : State) : Out := .next (if s.bsStallDue then s.trip 0x1011 .form [] else s)

/-- RIDE_ENTRY (R119): RUN or RECOVER is left for RIDE HOLD. -/
def execRideEntry (s : State) : Out := .next (if s.rideDue then s.rideHold else s)

/-- RIDE_T_CLEAR_ELAPSED (R120): HOLD is left. -/
def execRideTClearElapsed (s : State) : Out := .next (if s.clearDue then s.holdExit else s)

/-- RECOVER_COMPLETE (R120): RECOVER is left for RUN. -/
def execRecoverComplete (s : State) : Out := .next (if s.recoverDue then s.toRun else s)

/-- RIDE_T_MAX_EXPIRY (R120): a RIDE episode lasts too long. -/
def execRideTMaxExpiry (s : State) : Out := .next (if s.rideMaxDue then s.trip 0x1041 .form [] else s)

/-- REGION_DWELL_EXPIRY (R138): the dwell outside the region is over and the candidate region is picked. -/
def execRegionDwellExpiry (s : State) : Out :=
  .next (if s.forming && s.law.sub != 4 && s.law.rpend == 255 && s.regionDue then s.regionPick else s)

/-- SUBSTITUTE_LIMIT_EXPIRY (R168): a substitute has stood longer than its limit. -/
def execSubstituteLimitExpiry (s : State) : Out :=
  .next (match [0, 1, 2, 3].find? (fun i => s.forming && s.subExpired i) with
    | some i => s.subTrip i
    | none => s)

end Sys2Proof.Machine
end

