-- ==== Sys2Proof/Machine/Law.lean ====
section
/-! DEFINITION. One period of the forming law (R107) with the inputs of Table 4-4, the starting values of R110, the
rescaling of R142, the transfer states of R143, the energy balancer (R268, R269), and the extension slots (R148 to
R151). -/
namespace Sys2Proof.Machine

/-! ### Inputs by sub-state (Table 4-4) -/

/-- a + r × (b − a) with r = t / T_REC (R108). -/
def State.ramped (s : State) (a b : Int) : Int := a + divNearUp ((b - a) * s.law.phT) s.T_REC

/-- The gain values in force after Table 4-4 for a scheduled set. -/
def State.effective (s : State) (g : GainSet) : GainSet :=
  match s.law.sub, s.law.phase with
  | 4, 1 => { g with d := s.D_RIDE, rv := s.R_V_RIDE, xv := s.X_V_RIDE }
  | 4, _ => { g with d := s.D_RIDE, rv := s.ramped s.R_V_RIDE g.rv, xv := s.ramped s.X_V_RIDE g.xv }
  | _, _ => g

/-- kp·(w0 − w[n−1]). -/
def State.droop (s : State) (kp : Int) : Int := mulPu kp (s.W_SET - view s.law.w)

/-- Δθ_s in PU32 radians (Table 4-4). -/
def State.syncAngle (s : State) (thm : Nat) : Int :=
  divNearUp (int32 ((s.law.thg : Int) - turn32 thm) * twoPi112) (2 ^ 120)

/-- p_dem of Table 4-4 for a droop gain. -/
def State.pTable (s : State) (kp : Int) (thm : Nat) : Int :=
  match s.law.sub, s.law.phase with
  | 1, _ => s.droop kp
  | 2, _ => if s.form.linePrev then mulPu s.K_SYNC (s.syncAngle thm) else s.droop kp
  | 4, 1 => s.form.frozen.1
  | 4, _ => s.ramped s.form.frozen.1 (sat32 (s.P_SET + s.droop kp))
  | _, _ => s.P_SET + s.droop kp

/-- v_set of Table 4-4 for a reactive droop gain. -/
def State.vTable (s : State) (kq : Int) : Int :=
  let b := s.law
  let v107 := s.V_SET0 + mulPu kq (s.Q_SET - view b.qf)
  match b.sub, b.phase with
  | 1, 1 => s.BS_V0
  | 1, 2 => s.BS_V0 + divNearUp ((s.V_SET0 - s.BS_V0) * b.tr) s.BS_RAMP
  | 1, _ => s.V_SET0
  | 2, _ => view b.vgf
  | 4, 1 => s.form.frozen.2
  | _, _ => v107

/-- The slot outputs that enter the law at a TARGET (R150). -/
def State.slotSum (s : State) (target : Nat) : Int :=
  sumI ((List.range 4).map (fun i => if s.TARGET i = target then entry s.law.exOut i 0 else 0))

/-- One step of a transfer state toward 0 (R143). -/
def State.decay (s : State) (x : Int) : Int := filt x 0 (aFilt s.fp s.T_BUMP)

/-- Results of step 3. -/
structure Demands where
  /-- p_dem -/
  p : Int
  /-- v_set -/
  v : Int
  /-- e_dem -/
  e : Int
deriving DecidableEq, Repr

/-- Step 3: the demands, with the slot outputs and the transfer state, the integrator x_i, and the rescaling of a new
gain set (R107, R108, R110, R142, R143, R150). `old` is the scheduled set of the previous period. -/
def State.demand (s : State) (old new : GainSet) (thm : Nat) (first : Bool) : Demands × State :=
  let b := s.law
  let p0 := s.pTable new.kp thm
  let v0 := s.vTable new.kq
  let dp := if b.sub = 2 then 0 else sat32 (s.pTable old.kp thm) - sat32 p0
  let (px, s) := s.hold64 (s.decay b.px + up dp)
  let p := sat32 p0 + view px + s.slotSum 1
  let vRaw := sat32 v0 + s.slotSum 2
  let v := sat32 vRaw
  let evRaw := v - view b.vf
  let ev := sat32 evRaw
  let kpv := s.K_PV
  let ki := kInt s.K_IV s.fp s.tickNs
  let dv := if b.sub = 3 then sat32 (s.vTable old.kq) - sat32 v0 else 0
  let over4 := if b.sub = 4 && b.phase != 1 then [s.P_SET + s.droop new.kp, s.P_SET + s.droop old.kp] else []
  let xi := if first then up (0 - mulPu kpv ev)
    else if b.sub = 4 && b.phase = 1 then b.xi
    else b.xi + ki * ev + up (dv + mulPu kpv dv) + ki * dv
  let (xi, s) := s.hold64 xi
  let e := v + mulPu kpv ev + view xi
  ({ p := sat32 p, v := v, e := sat32 e }, s.mapForm (fun f => { f with
    last := (sat32 p0, sat32 v0), inForce := s.effective new
    satOnce := f.satOnce || anyOver ([p0, v0, p, vRaw, evRaw, e] ++ over4)
    b := { f.b with px := px, xi := xi } }))

/-- Step 5: the rotor (R107, R108). -/
def State.rotor (s : State) : State :=
  let b := s.law
  let wd0 := if b.sub = 2 then b.wgf else b.wd
  let damp := mulPu s.form.inForce.d (view b.w - view wd0)
  let err := s.form.pSel - view b.pf - sat32 damp
  let wd := if b.sub = 2 then b.wgf else filt b.wd (view b.w) (aFilt s.fp s.T_D)
  let (w, s) := s.hold64 (b.w + rsh 8 (kH s.fp s.H * sat32 err))
  let dth := ang64 (rsh 36 (w * cTheta s.F_NOM s.tickNs))
  s.mapForm (fun f => { f with
    satOnce := f.satOnce || anyOver [damp, err]
    b := { f.b with w := w, wd := wd, dth := dth, theta := ang64 (b.theta + s.fp * dth) } })

/-- The rotor frequency has left W_TRIP (R109). -/
def State.rotorOut (s : State) : Bool := s.W_TRIP < absI (view s.law.w - onePu)

/-- Step 6: the virtual impedance and its transfer states (R107, R142, R143): (vdr, vqr). The increases of R142 are formed of the
rounded products themselves, so that R144 holds exactly (DEDUCED, notes/assumptions/129.md). -/
def State.impedance (s : State) (old : GainSet) (id iq : Int) : (Int × Int) × State :=
  let b := s.law
  let g := s.form.inForce
  let o := s.effective old
  let (xd, s) := s.hold64 (s.decay b.vxd + up (mulPu g.rv id - mulPu o.rv id + (mulPu o.xv iq - mulPu g.xv iq)))
  let (xq, s) := s.hold64 (s.decay b.vxq + up (mulPu g.xv id - mulPu o.xv id + (mulPu g.rv iq - mulPu o.rv iq)))
  let d := s.form.eSel - mulPu g.rv id + mulPu g.xv iq + view xd
  let q := 0 - mulPu g.rv iq - mulPu g.xv id + view xq
  ((sat32 d, sat32 q), s.mapForm (fun f => { f with
    satOnce := f.satOnce || anyOver [d, q], b := { f.b with vxd := xd, vxq := xq } }))

/-! ### The energy balancer (R268, R269) -/

/-- 0.1 pu as a PU32 code. -/
def tenthPu : Int := 1677722

/-- One controller of the balancer: integrator and output, both clamped. -/
def balance (x e kp k lim : Int) : Int × Int :=
  let x := clampI (0 - up lim) (up lim) (x + k * e)
  (x, clampI (0 - lim) lim (view x + mulPu kp e))

/-- The balancer on six valid energies AU AL BU BL CU CL, with the reference voltages of step 6. -/
def State.balancer (s : State) (ws : List Int) (vd vq : Int) : State :=
  let b := s.law
  let coef (k : Int) := kInt k s.fp s.tickNs
  let w := divNearUp (sumI ws) 6
  let eh (x : Nat) := w - divNearUp (entry ws (2 * x) 0 + entry ws (2 * x + 1) 0) 2
  let ev (x : Nat) := divNearUp (entry ws (2 * x) 0 - entry ws (2 * x + 1) 0) 2
  let (xs, ps) := balance b.xs (sat32 (s.W_REF - w)) s.KP_S (coef s.KI_S) s.P_BAL_MAX
  let legs := (List.range 3).map (fun x =>
    (balance (entry b.xh x 0) (sat32 (eh x)) s.KP_H (coef s.KI_H) s.I_CIRC_MAX,
     balance (entry b.xv x 0) (sat32 (ev x)) s.KP_V (coef s.KI_V) s.I_CIRC_MAX))
  let mean := divNearUp (sumI (legs.map (fun l => l.1.2))) 3
  let uh := view b.uh
  let dcs := if uh < tenthPu then 0 else divNearUp ((view b.pf + ps) * 16777216) (4 * uh).toNat
  let m := magOf vd vq
  let com := legs.map (fun l => sat32 dcs + l.1.2 - mean)
  let out := legs.map (fun l =>
    (sat32 (sat32 dcs + l.1.2 - mean), if m < tenthPu then 0 else divNearUp (l.2.2 * 16777216) m.toNat))
  s.mapForm (fun f => { f with
    ps := ps, legs := out.map (fun p => (p.1, sat32 p.2)), wArm := ws
    satOnce := f.satOnce ||
      anyOver (dcs :: sumSq vd vq :: (s.W_REF - w) :: (out.map (·.2) ++ com ++ (List.range 3).map eh ++ (List.range 3).map ev))
    b := { f.b with xs := xs, xh := legs.map (fun l => l.1.1), xv := legs.map (fun l => l.2.1) } })

/-- The balancer's part of step 7; without six valid energies it keeps what it has (R269). -/
def State.balanceStep (s : State) (m : MSet) (vd vq : Int) : State :=
  match m.w with
  | some ws => (s.warnOff 0x5250 0).balancer ws vd vq
  | none => s.warnOn 0x5250 0 []

/-! ### One period -/

/-- The reference set of this period (Table 4-10, Table 9-7). -/
def State.refSet (s : State) (vd vq : Int) : RefSet :=
  let b := s.law
  { boundary := s.tick + s.fp, uh := view b.uh, vd := vd, vq := vq
    theta0 := ang64 (b.theta + s.APPLY_DELAY * b.dth), dtheta := b.dth, sub := b.sub, phase := b.phase
    close := s.form.close, legs := s.form.legs }

/-- What the extension slots read: the measurement set and the law's outputs of the period (R148). -/
def State.slotInputs (s : State) (m : MSet) (x : Step1) : List Int :=
  let v3 (v : Option (Int × Int × Int)) : List Int := match v with | some (a, b, c) => [1, a, b, c] | none => [0, 0, 0, 0]
  let b := s.law
  v3 m.pcc ++ [(m.g : Int)] ++ v3 m.line ++ [m.dc.getD 0] ++ v3 m.cur ++ m.w.getD [] ++
    [x.vd, x.vq, x.id, x.iq, x.p, x.q, x.v, s.form.last.1, s.form.last.2, s.form.pSel, s.form.eSel, b.w, b.theta, b.pf,
     b.qf, b.vf, b.vgf, b.uh, b.sub, b.phase]

/-- Steps 3 to 7 after the sequencer. -/
def State.lawCore (s : State) (m : MSet) (x : Step1) (first : Bool) : State :=
  let old := s.form.gPrev
  let (d, s) := s.demand old (s.gains s.law.region) x.thm first
  let s := (s.groups m x d.p d.v d.e first).rotor
  if s.rotorOut then s.trip 0x1050 .form []
  else
    let ((vd, vq), s) := s.impedance old x.id x.iq
    let s := s.balanceStep m vd vq
    let s := s.mapForm (fun f => { f with
      refs := some (s.refSet vd vq), vPrev := (vd, vq), boundary := s.tick, extIn := s.slotInputs m x })
    (s.regionEval).gainsDone

/-- The filters of step 1 (R106, R107, R546). -/
def State.filters (s : State) (m : MSet) (a : Angles) (x : Step1) : State :=
  let f := s.fp
  let step (v : Int) (u : Option Int) (t : Nat) := match u with | some u => filt v u (aFilt f t) | none => v
  s.mapB (fun b => { b with
    pf := step b.pf (some x.p) s.T_PQ, qf := step b.qf (some x.q) s.T_PQ, vf := step b.vf (some x.v) s.T_V
    uh := step b.uh m.dc s.T_DC, vgf := step b.vgf a.mag s.T_V
    wbf := step b.wbf a.fb s.T_G, wgf := step b.wgf a.fg s.T_G })

/-- What step 1 leaves beside the block. -/
def State.keepStep1 (s : State) (m : MSet) (a : Angles) (x : Step1) : State :=
  (s.mapForm (fun f => { f with
    vRaw := x.v, idq := (x.id, x.iq), satOnce := f.satOnce || x.outside || a.outside || m.wide })).mapArm
    (fun r => { r with idqNext := (x.id, x.iq) })

/-- The leader's state block is taken at the boundary; another sub-state or phase is recorded (R113). No rescaling
comes of it (R140). A phase timer that has run says that the condition of the dwell held before. -/
def State.loadBlock (s : State) : State :=
  match s.form.load with
  | none => s
  | some blk =>
    let old := s.law
    let s := s.mapForm (fun f => { f with b := blk, load := none, dwOn := f.dwOn || 0 < blk.phT })
    if blk.sub != old.sub then s.mapMode (fun m => { m with subDue := if m.sub != blk.sub then some blk.sub else none })
    else if blk.phase != old.phase then s.note 0x0110 [3, old.sub, 3, blk.sub] else s

/-- A period of FORMING after the first. -/
def State.lawNext (s : State) : State :=
  let s := s.loadBlock.regionApply
  let (m, s) := s.chooseSet
  let s := s.setFaults m
  if !s.forming then s
  else
    let a := s.angles m
    let x := s.step1 m s.law.theta s.law.dth
    let s := ((s.filters m a x).keepAngles a).keepStep1 m a x
    let s := s.sequence false
    if s.forming then s.lawCore m x false else s

/-- The n-th free PU32 value from here. -/
def State.freePu (s : State) (n : Nat) : Int := signed 32 (Config.freeValue (s.freeCount + n))

/-- Before the first period: the block starts anew, the sources at their primaries. Values that the previous period
would supply are free where there is none: v_dr and v_qr as PCC substitute, and the balancer's outputs (log
entry 12). -/
def State.lawClear (s : State) : State :=
  let b := s.law
  let pu := s.freePu
  { s with
    freeCount := s.freeCount + 9
    form := { s.form with
      b := { uh := b.uh, vgf := b.vgf, thb := b.thb, thg := b.thg }
      srcPcc := {}, srcLine := {}, srcDc := {}, srcBrk := {}, srcArm := {}
      vPrev := (pu 0, pu 1), ps := pu 2, legs := [(pu 3, pu 4), (pu 5, pu 6), (pu 7, pu 8)]
      load := none, first := false, overran := false, aborted := 0, mism := 0, matchRun := 0, barred := false } }

/-- The angle and frequency at which the rotor starts (R110, Table 3-14): an angle of 64 bits and a PU32 frequency. -/
def State.rotorStart (s : State) (m : MSet) (fb fg : Int) : Nat × Int :=
  if s.law.sub = 1 then (0, onePu)
  else if m.line.isSome then (s.law.thg * 4294967296, fg)
  else if m.pcc.isSome then (s.law.thb * 4294967296, fb)
  else (0, s.W_SET)

/-- The first period of FORMING (R95, R110, R114, R134, R140). -/
def State.lawFirst (s : State) : State :=
  let (m, s) := s.lawClear.chooseSet
  let a := s.angles m
  let s := (s.keepAngles a).mapB (fun b => { b with vgf := (a.mag.map up).getD b.vgf, uh := (m.dc.map up).getD b.uh })
  let s := (s.firstPhase).setFaults m
  if !s.forming then s
  else
    let fb := a.fb.getD s.W_SET
    let fg := a.fg.getD s.W_SET
    let (th, w) := s.rotorStart m fb fg
    let dth := ang64 (rsh 36 (up w * cTheta s.F_NOM s.tickNs))
    let x := s.step1 m th dth
    let s := s.mapB (fun b => { b with
      w := up w, wd := up w, theta := th, dth := dth, pf := up x.p, qf := up x.q, vf := up x.v
      wbf := up fb, wgf := up fg })
    let s := (s.keepStep1 m a x).firstRegion.gainsDone
    let s := s.sequence true
    if s.forming then s.lawCore m x true else s

/-- A view of a state leaves PU32 by its rounding (R104, R105). -/
def LawBlock.viewOver (b : LawBlock) : Bool :=
  anyOver (([b.w, b.wd, b.pf, b.qf, b.vf, b.vgf, b.uh, b.wgf, b.wbf, b.xi, b.px, b.vxd, b.vxq, b.xs] ++ b.xe ++ b.xim ++ b.xm ++
    b.xh ++ b.xv).map (rsh 32))

/-- Event 0x1051 where a result of the period saturated (R105). -/
def State.satNote (s : State) : State :=
  let s := if s.form.satOnce || s.law.viewOver then s.note 0x1051 [] else s
  s.mapForm (fun f => { f with satOnce := false })

/-- The angles that FORM computes at a boundary outside FORMING (R110), and the last valid breaker value (Table 4-2). -/
def State.lawIdle (s : State) : State :=
  (s.keepAngles (s.angles s.plainSet)).mapForm (fun f => { f with brk := s.plainBrk.or f.brk })

/-- The law units at a boundary. `enter`: FORMING begins at it. -/
def State.lawPeriod (s : State) (enter : Bool) : State :=
  if !s.isRun .form then s
  else if enter then s.lawFirst.satNote
  else if s.forming then s.lawNext.satNote
  else s.lawIdle

/-- A source that stands on its alternate returns to a primary valid for 16 consecutive periods. -/
def State.restoreSrc (s : State) (x : Source) (item : Nat) : Source × State :=
  if s.forming && x.use = 1 && 16 ≤ x.primRun then
    ({ x with use := 0 }, (s.warnOff 0x1060 item).note 0x1062 [item, 255])
  else (x, s)

/-- PRIMARY_RESTORE (R100). -/
def execPrimaryRestore (s : State) : Out :=
  let f := s.form
  let (xp, s) := s.restoreSrc f.srcPcc 1
  let (xb, s) := s.restoreSrc f.srcBrk 2
  let (xl, s) := s.restoreSrc f.srcLine 3
  let (xd, s) := s.restoreSrc f.srcDc 4
  .next (s.mapForm (fun f => { f with srcPcc := xp, srcBrk := xb, srcLine := xl, srcDc := xd }))

/-! ### Extension slots (R148 to R151) -/

/-- The slots that run in this period: enabled, and essential under the degraded schedule. -/
def State.slotsNow (s : State) : List Nat :=
  (List.range 4).filter (fun i => bit s.EXT_ENABLE i && (s.law.exSt != 2 || s.ESSENTIAL i == 1))

/-- The slots of a period run in ascending order; each overruns where its microcode needs more cycles than BUDGET.
Without an overrun their outputs are taken and the count returns to 0, and under the degraded schedule the run
counts (R148, R149). -/
def State.slotsRun (s : State) : State :=
  let run := s.slotsNow.map (fun i => (i, Config.microcode (s.IMAGE i) s.form.extIn))
  let hit := run.filter (fun r => s.fenced 1 2 || s.BUDGET r.1 < r.2.2)
  let cyc := run.foldl (fun l r => putAt r.1 (min r.2.2 (s.BUDGET r.1)) l) [0, 0, 0, 0]
  let ab := flagBits ((List.range 4).map (fun i => hit.any (fun r => r.1 == i)))
  let s := { s with extDone := true }
  let s := s.mapForm (fun f => { f with cycles := cyc, aborted := ab, overran := ab != 0 })
  if ab != 0 then s
  else (s.warnOff 0x1090 0).mapB (fun b => { b with
    exOut := run.foldl (fun l r => putAt r.1 (signed 32 (wrap 32 r.2.1)) l) b.exOut
    exN := 0, exSt := if b.exSt = 1 then 0 else b.exSt, exRun := if b.exSt = 2 then min (b.exRun + 1) 65535 else 0 })

/-- The count of consecutive periods with an overrun acts (R149). -/
def State.overrunAct (s : State) : State :=
  let n := s.law.exN + 1
  let s := s.mapForm (fun f => { f with overran := false, exTotal := incSat 32 f.exTotal })
  let s := s.mapB (fun b => { b with exN := min n 2, exRun := 0, exSt := if n = 1 && b.exSt != 2 then 1 else 2 })
  if n = 1 then s.warnKeep 0x1090 0 [] else if n = 2 then (s.warnOff 0x1090 0).warnKeep 0x1091 0 []
  else (s.trip 0x1093 .form []).mapB (fun b => { b with rpend := 255 })

/-- EXT_RESTORE periods without overrun have passed under the degraded schedule (R149). -/
def State.restoreDue (s : State) : Bool := s.forming && s.law.exSt == 2 && s.EXT_RESTORE ≤ s.law.exRun

/-- The normal schedule is restored (R149). -/
def State.extRestore (s : State) : State := ((s.mapB (fun b => { b with exSt := 0, exRun := 0 })).warnOff 0x1091 0).note 0x1092 []

/-- Work of the extension slots that is left at the end of tick F − 3. -/
def State.slotsFinish (s : State) : State :=
  if !s.forming then s
  else
    let s := if s.extDone then s else s.slotsRun
    let s := if s.form.overran then s.overrunAct else s
    if s.restoreDue then s.extRestore else s

/-- EXT_SLOTS_RUN (R148): the slots run, in ticks 2 to F − 3, once per period. -/
def execExtSlotsRun (s : State) : Out :=
  .next (if s.forming && !s.extDone && 2 ≤ s.k && s.k + 3 ≤ s.fp then s.slotsRun else s)

/-- EXT_SLOT_OVERRUN (R149): a slot overran; the count acts. -/
def execExtSlotOverrun (s : State) : Out := .next (if s.forming && s.form.overran then s.overrunAct else s)

/-- EXT_RESTORE_REACHED (R149): the degraded schedule ends. -/
def execExtRestoreReached (s : State) : Out := .next (if s.restoreDue then s.extRestore else s)

/-! ### Start of FORM -/

/-- The first rule that fails, by position from 1; 0 where all hold. -/
def firstFail (rules : List Bool) : Nat :=
  match rules.findIdx? (fun r => !r) with | some i => i + 1 | none => 0

/-- An image carries the CRC-32 of its bytes in its last four (R151). -/
def imageOk (img : List Nat) : Bool := img.length == 1024 && ofLe (img.drop 1020) == crc32 (img.take 1020)

/-- The rule of Table 5-7 that fails; 0 for none (R147). -/
def State.limitRules (s : State) : Nat :=
  let rs := (List.range 8).filter (fun r => s.ENABLE r != 0)
  let es := (List.range 4).filter (fun i => bit s.EXT_ENABLE i)
  firstFail
    [s.ENABLE 0 != 0,
     rs.all (fun r => s.V_LO r < s.V_HI r && s.L_LO r < s.L_HI r),
     rs.all (fun r => 2 * s.H_V < s.V_HI r - s.V_LO r && 2 * s.H_L < s.L_HI r - s.L_LO r),
     s.U_DC_LO < s.U_DC_HI && s.W_ARM_LO < onePu && onePu < s.W_ARM_HI,
     onePu - s.W_TRIP < s.W_BAND_LO && s.W_BAND_LO < onePu && onePu < s.W_BAND_HI && s.W_BAND_HI < onePu + s.W_TRIP,
     s.E_MIN < s.E_MAX && s.I_MAX_P ≤ s.I_MAX_E,
     2 * s.fp ≤ s.T_BUMP,
     es.all (fun i => imageOk (s.IMAGE i)),
     sumN (es.map (fun i => s.BUDGET i)) ≤ (s.fp - 4) * 500 * s.mode.tickLen]

/-- The channels that a publisher of an item must have set, for this device (Table 4-13, code 2). -/
def State.channelsSet (s : State) (p a : Nat) (chs : List Nat) : Bool :=
  !(s.device == p || s.device == a) || chs.all (fun c => c != 255)

/-- The start check of FORM (Table 4-13). SYNC can be reached from every entry (R114), so the line channels count on
every publisher of the line item. A BRK_PIN or CLOSE_PIN that names no pin passes code 7 (DESIGN CHOICE,
notes/assumptions/130.md). -/
def State.formCheck (s : State) : Nat :=
  firstFail
    [s.V_BASE != 0 && s.I_BASE != 0,
     s.channelsSet s.PCC_PUB s.PCC_PUB_ALT [s.PCC_CH_A, s.PCC_CH_B, s.PCC_CH_C] &&
       s.channelsSet s.DC_PUB s.DC_PUB_ALT [s.DC_CH_P, s.DC_CH_N] &&
       s.channelsSet s.LINE_PUB s.LINE_PUB_ALT [s.LINE_CH_A, s.LINE_CH_B, s.LINE_CH_C],
     [s.T_D, s.T_PQ, s.T_V, s.T_G, s.T_DC].all (fun t => 2 * s.fp ≤ t),
     500000000 ≤ s.H * s.tickNs && s.H * s.tickNs ≤ 20000000000,
     s.RIDE_V_LO < s.RIDE_V_OUT && s.RIDE_V_OUT < onePu && onePu < s.RIDE_V_OUT_HI && s.RIDE_V_OUT_HI < s.RIDE_V_HI,
     s.V_DEAD < s.V_LIVE,
     (s.BRK_PIN == 255 || ((s.FIO_MODE s.BRK_PIN == 1 || s.FIO_MODE s.BRK_PIN == 2) && !s.safetyPin s.BRK_PIN)) &&
       (s.CLOSE_PIN == 255 || (s.FIO_MODE s.CLOSE_PIN == 3 && !s.safetyPin s.CLOSE_PIN)),
     s.limitRules == 0]

/-- LIMIT_CHECK after a start check of FORM (Table 5-6). -/
def State.noteLimits (s : State) (code : Nat) : State :=
  s.mapForm (fun f => { f with limCheck := if code = 8 then s.limitRules else 0 })

/-- What a passing START of FORM does: no breaker value is held, EXT_TOTAL and its states start, RUNNING. -/
def State.formUp (s : State) : State :=
  (s.mapForm (fun f => { f with brk := none, exTotal := 0, pccPrev := false, linePrev := false })).setRun .form .running

end Sys2Proof.Machine
end

