-- ==== Sys2Proof/Machine/Cells.lean ====
section
/-! DEFINITION. The per-cell state that the selector and the trunks share (07): telemetry fields, staleness,
availability, the estimate and key, failed marks, reserve promotion, publication. -/
namespace Sys2Proof.Machine

/-- STATE of a command word for an applied state (Table 8-3). -/
def CellCode.code : CellCode → Nat
  | .bypass => 0 | .insert => 1 | .block => 2

/-- A cell by number. -/
def State.cellAt (s : State) (c : Nat) : Cell := entry s.cell.cells c {}

/-- One cell changed. -/
def State.mapCell (s : State) (c : Nat) (f : Cell → Cell) : State :=
  { s with cell := { s.cell with cells := updAt c f s.cell.cells } }

/-- A trunk by number. -/
def State.trk (s : State) (q : Nat) : Trunk := entry s.cell.trunks q {}

/-- One trunk changed. -/
def State.mapTrk (s : State) (q : Nat) (f : Trunk → Trunk) : State :=
  { s with cell := { s.cell with trunks := updAt q f s.cell.trunks } }

/-- The link of trunk q is up (R214). -/
def State.linkUp (s : State) (q : Nat) : Bool := (s.trk q).st == 5

/-- Trunk q is enabled (0x3300:01). -/
def State.trkOn (s : State) (q : Nat) : Bool := bit s.TRUNK_ENABLE q

/-- ACTIVE or RESERVE (R176). -/
def State.populated (s : State) (c : Nat) : Bool := s.CELL_CLASS c == 1 || s.CELL_CLASS c == 2

/-! ### Fields of the telemetry word (Table 8-6) -/

/-- The latest valid word as a 96-bit number. -/
def Cell.w (x : Cell) : Nat := ofLe x.tel
/-- VCAP -/
def Cell.vcap (x : Cell) : Nat := bits x.w 0 16
/-- TEMP -/
def Cell.temp (x : Cell) : Int := signed 8 (bits x.w 16 8)
/-- UV -/
def Cell.uv (x : Cell) : Nat := bits x.w 24 4
/-- DESAT_U or DESAT_L -/
def Cell.desat (x : Cell) : Bool := bit x.w 28 || bit x.w 29
/-- BS_GOOD -/
def Cell.bsGood (x : Cell) : Bool := bit x.w 30
/-- TRICKLE -/
def Cell.trickle (x : Cell) : Bool := bit x.w 31
/-- APPLIED -/
def Cell.applied (x : Cell) : Nat := bits x.w 32 2
/-- CMD_ERR -/
def Cell.cmdBit (x : Cell) : Bool := bit x.w 34
/-- SELF_BLOCK -/
def Cell.selfBlock (x : Cell) : Bool := bit x.w 35
/-- GU_STATUS -/
def Cell.gu (x : Cell) : Nat := bits x.w 36 4
/-- MBX_DATA -/
def Cell.mbxData (x : Cell) : Nat := bits x.w 40 32
/-- MBX_PART -/
def Cell.mbxPart (x : Cell) : Nat := bits x.w 72 3
/-- MBX_TAG -/
def Cell.mbxTag (x : Cell) : Nat := bits x.w 75 4
/-- MBX_VALID -/
def Cell.mbxValid (x : Cell) : Bool := bit x.w 79
/-- FLAGS (0x3001:04) -/
def Cell.flags (x : Cell) : Nat := bits x.w 24 16

/-- A telemetry word of sample tick s is valid: CHECK is right and SEQ is s modulo 256 (R208). -/
def wordValid (w : List Nat) (s : Nat) : Bool :=
  w.length == 12 && crc8 (w.take 11) == entry w 11 0 && entry w 10 0 == s % 256

/-! ### Staleness, availability, estimate (R177, R181, R182) -/

/-- Staleness in tick n: since the latest valid word, else since the trunk last reached UP, else not counted. -/
def State.staleness (s : State) (c n : Nat) : Nat :=
  match (s.cellAt c).latched with
  | some t => n - t
  | none => match (s.trk (c / 32)).upTick with
    | some t => n - t
    | none => 0

/-- Stale beyond TEL_STALE (R181). -/
def State.stale (s : State) (c n : Nat) : Bool := s.TEL_STALE < s.staleness c n

/-- Available in tick n (R177). -/
def State.available (s : State) (c n : Nat) : Bool :=
  let x := s.cellAt c
  s.CELL_CLASS c == 1 && s.CELL_PARK c == 0 && x.fail == 0 && s.linkUp (c / 32) && x.latched.isSome && !(s.stale c n)

/-- k_v, computed at the start of SELECT (R181). -/
def State.kvNow (s : State) : Nat :=
  if s.C_CELL = 0 then 0
  else satU 32 (divNearUp (s.I_BASE * s.tickNs * 16 * 65536 : Nat) (s.C_CELL * 1000)).toNat

/-- The charge of one tick of the window (R181). -/
def stepCharge (kv : Nat) (st : CellCode) (i : Int) : Int :=
  if st == .insert || (st == .block && 0 < i) then divNearUp (kv * i) 16777216 else 0

/-- The charges of a window: applied states newest first with the age of each in ticks before n + d − 1; im gives i_m
newest first, from tick n (R181). -/
def windowCharge (kv d : Nat) (im : List Int) : Nat → List CellCode → Int
  | _, [] => 0
  | k, st :: rest => stepCharge kv st (entry im (k + 1 - d) 0) + windowCharge kv d im (k + 1) rest

/-- The estimate v of a cell for apply tick n + d, 16 fraction bits (R181); 0 where it holds none. -/
def State.estimate (s : State) (c n : Nat) : Int :=
  let x := s.cellAt c
  match x.latched with
  | none => 0
  | some t =>
    let d := s.APPLY_DELAY
    (x.vcap * 65536 : Nat) + windowCharge s.cell.kv d s.cell.ims 0 (x.hist.take (d + 2 + (n - t)))

/-- The key of an estimate, 1/16 V (R182). -/
def keyOf (v : Int) : Nat := (clampI 0 65535 ((v + 0x8000) / 65536)).toNat

/-- The available count and, over the same cells, the sum of the keys and of their squares (R157, R182, R267). -/
def State.publish (s : State) (n : Nat) : Nat × Nat × Nat :=
  (List.range 256).foldl (fun a c =>
    if s.available c n then
      let k := keyOf (s.estimate c n)
      (a.1 + 1, a.2.1 + k, a.2.2 + k * k)
    else a) (0, 0, 0)

/-- Dwell ticks remaining at a tick (Tables 7-6, 7-8, 15-5). -/
def State.dwellLeft (s : State) (x : Cell) (tb : Nat) : Nat :=
  match x.change with
  | some t => t + s.T_DWELL_MIN - (tb + s.APPLY_DELAY)
  | none => 0

/-! ### Failed marks (R178, R179) -/

/-- A cell that is not failed yet is marked failed: its refresh and open transactions end with the mark, event 0x2103 names
cell and reason, and the mark is stored where non-volatile memory can be written (R23, R178, R185, R225). -/
def State.markFail (s : State) (c reason : Nat) : State :=
  if s.populated c && (s.cellAt c).fail == 0 then
    let ok := s.nvOk
    let s := s.mapCell c (fun x => { x with
      fail := reason, failNv := if ok then reason else x.failNv, failNow := false, refresh := none, mail := none
      dropped := x.dropped || x.wrote })
    let s := if s.CELL_CLASS c == 1 then { s with cell := { s.cell with promote := s.cell.promote + 1 } } else s
    s.warnOn 0x2103 c (le 2 c ++ [reason])
  else s

/-- The mark is cleared (R178, R185). -/
def State.clearFail (s : State) (c : Nat) : State :=
  let ok := s.nvOk
  ((s.mapCell c (fun x => { x with
    fail := 0, failNv := if ok then 0 else x.failNv, failNow := false, refresh := none, cleared := true, misRun := 0
    sbRun := 0 })).warnOff 0x2103 c).warnOff 0x3031 c

/-- A value written to FAIL_REASON takes effect (Table 7-6). -/
def State.setFail (s : State) (c v : Nat) : State :=
  if v = 0 then s.clearFail c else s.markFail c 7

/-- The status of a write of FAIL_REASON (R195, Tables 2-4, 2-8). -/
def State.failStatus (s : State) (level c v : Nat) : Nat :=
  if level < 2 then stPrivilege
  else if s.CELL_CLASS c = 0 then stChannel
  else if !(s.isDown .select) then stRunstate
  else if v = 0 || v = 7 then stOk else stRange

/-- FAIL_REASON_WRITE: a write of FAIL_REASON of a cell by a session of a level. -/
def execFailReasonWrite (level : Nat) (c : Fin 256) (v : BitVec 8) (s : State) : Out :=
  .next (if s.failStatus level c.val v.toNat = stOk then s.setFail c.val v.toNat else s)

/-- FAIL_NOW takes effect at the latch point of the next tick (Table 7-6). -/
def State.failNow (s : State) (c : Nat) : State := s.mapCell c (fun x => { x with failNow := true })

/-- FAIL_NOW: a write of 1 by a session of a level, in any run state. -/
def execFailNow (level : Nat) (c : Fin 256) (s : State) : Out :=
  .next (if 2 ≤ level && s.populated c.val then s.failNow c.val else s)

/-- One failed ACTIVE cell is replaced by the lowest-numbered unfailed RESERVE cell, or 0x2105 is recorded (R179). -/
def State.promoteOne (s : State) : State :=
  match (List.range 256).find? (fun c => s.CELL_CLASS c == 2 && (s.cellAt c).fail == 0) with
  | some c => (s.setObj 0x3002 1 c (.num 1)).note 0x2104 (le 2 c)
  | none => s.warnKeep 0x2105 0 []

/-- n failed cells are replaced. -/
def State.promoteN : Nat → State → State
  | 0, s => s
  | n + 1, s => State.promoteN n s.promoteOne

/-- The promotions due at tick k = 0 (R179). -/
def State.promotions (s : State) : State :=
  let n := s.cell.promote
  let left := (List.range 256).any (fun c => s.CELL_CLASS c == 2 && (s.cellAt c).fail == 0)
  let s := if left then s.warnOff 0x2105 0 else s
  State.promoteN n { s with cell := { s.cell with promote := 0 } }

/-- Failed cells (FAILED_N). -/
def State.failedN (s : State) : Nat :=
  ((List.range 256).filter (fun c => (s.cellAt c).fail != 0 && s.populated c)).length

/-- Unfailed RESERVE cells (RESERVE_N). -/
def State.reserveN (s : State) : Nat :=
  ((List.range 256).filter (fun c => s.CELL_CLASS c == 2 && (s.cellAt c).fail == 0)).length

end Sys2Proof.Machine
end

