-- ==== Sys2Proof/Machine/Select.lean ====
section
/-! DEFINITION. The selector (07): the rules of Table 7-2, the sort, the words of one tick, the history of applied states,
refreshes, credit, the interval predicted for the arm lead, the start check. -/
namespace Sys2Proof.Machine

/-- Applied state of tick n + d − 1, seen from the selection of tick n. -/
def Cell.last (x : Cell) : CellCode := entry x.hist 0 .block

/-- The latest word does not report bootstrap not good: BS_GOOD set, UV [26] clear (R184, Table 8-14). -/
def Cell.bsOk (x : Cell) : Bool := x.bsGood && !(bit x.uv 2)

/-- A refresh is due; fresh says that the latest word has staleness 0 (R184). -/
def State.refreshDue (s : State) (x : Cell) (fresh : Bool) : Bool :=
  x.last == .insert && s.T_INS_MAX < x.age + 1 && !(fresh && x.trickle && x.bsGood)

/-- The minimum dwell holds the state in apply tick a (R186). -/
def State.dwellHolds (s : State) (x : Cell) (a : Nat) : Bool :=
  match x.change with
  | some t => a < t + s.T_DWELL_MIN
  | none => false

/-- The first of rules 3 to 10 of Table 7-2 that decides cell c in the selection of tick n; stale and fresh say how its
latest word is judged (R183, R191). -/
def State.ruleOf (s : State) (n c : Nat) (stale fresh : Bool) : Nat :=
  let x := s.cellAt c
  if s.CELL_CLASS c = 0 then 3
  else if x.fail != 0 then 4
  else if s.CELL_PARK c = 1 || s.CELL_CLASS c = 2 then 5
  else if !(s.linkUp (c / 32)) || stale then 6
  else if !x.bsSeen || x.refresh.isSome || s.refreshDue x fresh || !x.bsOk then 7
  else if x.last != .block && s.dwellHolds x (n + s.APPLY_DELAY) then 8
  else if x.last != .block && s.SW_BURST ≤ x.credit then 9
  else 10

/-- The rule of every cell in the selection of tick n. -/
def State.rules (s : State) (n : Nat) : List Nat :=
  (List.range 256).map (fun c => s.ruleOf n c (s.stale c n) (s.staleness c n == 0))

/-- Charging in this tick (R188). -/
def State.charging (s : State) : Bool := 0 < entry s.cell.ims 0 0

/-- The biased key of a cell (R190). -/
def State.biased (s : State) (x : Cell) (key : Nat) : Int :=
  if x.last == .insert then
    if s.charging then (key : Int) - s.BAL_BAND else (key : Int) + s.BAL_BAND
  else key

/-- Every estimate and biased key of the selection of tick n is formed (R181, R190). -/
def State.estimates (s : State) (n : Nat) : State :=
  { s with cell := { s.cell with cells := s.cell.cells.zipIdx.map (fun p =>
      let v := s.estimate p.2 n
      { p.1 with est := v, bkey := s.biased p.1 (keyOf v) }) } }

/-- The free cells in the order of R190: ascending when charging, descending when discharging, equal keys by number. -/
def State.freeOrder (s : State) (rules : List Nat) : List Nat :=
  let free := (List.range 256).filter (fun c => entry rules c 0 == 10)
  let up := s.charging
  sortBy (fun c => let b := (s.cellAt c).bkey; (if up then b + 4294967296 else 4294967296 - b).toNat) free

/-- The words of a selection, STATE codes of Table 8-3, by rules, order of the free cells and number to insert. -/
def State.wordsOf (s : State) (rules order : List Nat) (ins : Nat) : List Nat :=
  let chosen := order.take ins
  (List.range 256).map (fun c =>
    match entry rules c 0 with
    | 3 => 2
    | 8 => (s.cellAt c).last.code
    | 9 => (s.cellAt c).last.code
    | 10 => if chosen.contains c then 1 else 0
    | _ => 0)

/-- How many cells have a rule of a list and, where wanted, are applied INSERT. -/
def State.countRules (s : State) (rules : List Nat) (which : List Nat) (insOnly : Bool) : Nat :=
  ((List.range 256).filter (fun c => which.contains (entry rules c 0) && (!insOnly || (s.cellAt c).last == .insert))).length

/-- t within lo .. hi. -/
def clampN (t lo hi : Nat) : Nat := min (max t lo) hi

/-- A refresh begins for every cell that rule 7 decides and that has none: a_r is the apply tick, or the first tick of
SELECT RUNNING where no bootstrap-good word has been seen and no mark has been cleared (R185; log entry 131). -/
def State.beginRefreshes (s : State) (n : Nat) (rules : List Nat) : State :=
  let due := (List.range 256).filter (fun c => entry rules c 0 == 7 && (s.cellAt c).refresh.isNone)
  let s := due.foldl (fun s c => s.mapCell c (fun x =>
    { x with refresh := some (if x.bsSeen || x.cleared then n + s.APPLY_DELAY else s.cell.t0) })) s
  { s with cell := { s.cell with refreshes := satU 32 (s.cell.refreshes + due.length) } }

/-- The rule of the last tick is held for every cell (Table 7-8). -/
def State.holdRules (s : State) (rules : List Nat) : State :=
  { s with cell := { s.cell with cells := s.cell.cells.zipIdx.map (fun p => { p.1 with rule := entry rules p.2 0 }) } }

/-- A difference between want and the target is counted and recorded once per forming period (R192). -/
def State.shortfall (s : State) (t want lockI free m7 : Nat) : State :=
  let short := want != t
  let bs := short && clampN t lockI (lockI + free + m7) == t
  let s := { s with cell := { s.cell with short := short, bsShort := if short then bs else s.cell.bsShort
                                          shortfalls := satU 32 (s.cell.shortfalls + b2n short) } }
  if bs then
    (if s.cell.once2102 then s else ({ s with cell := { s.cell with once2102 := true } }).warn 0x2102 []).warnHold 0x2102 0
  else
    let s := s.warnOff 0x2102 0
    if short && !s.cell.once2101 then ({ s with cell := { s.cell with once2101 := true } }).note 0x2101 [] else s

/-- The selection of tick n with target t: the state and the 256 words (R190). -/
def State.selectRun (s : State) (n t : Nat) : State × List Nat :=
  let s := s.estimates n
  let rules := s.rules n
  let order := s.freeOrder rules
  let lockI := s.countRules rules [8, 9] true
  let m7 := s.countRules rules [7] false
  let want := clampN t lockI (lockI + order.length)
  let words := s.wordsOf rules order (want - lockI)
  let s := (s.holdRules rules).beginRefreshes n rules
  let s := { s with cell := { s.cell with
    target := t, delivered := want, lockedI := lockI, freeN := order.length, forcedN := m7,
    charging := s.charging, snapTick := n } }
  (s.shortfall t want lockI order.length m7, words)

/-- A tick in which rule 1 or rule 2 acts: every word is the one code (R183, R193). -/
def State.selectAll (s : State) (n t rule code : Nat) : State × List Nat :=
  let s := s.estimates n
  let s := (s.holdRules (List.replicate 256 rule)).warnOff 0x2102 0
  ({ s with cell := { s.cell with
      target := t, delivered := 0, lockedI := 0, freeN := 0, forcedN := 0, short := false,
      charging := s.charging, snapTick := n } }, List.replicate 256 code)

/-- The selector of one tick: rule 1 before rule 2 before the sort (R183). -/
def State.selectTick (s : State) (n t : Nat) (block hold : Bool) : State × List Nat :=
  if block || !(s.isRun .select) then s.selectAll n 0 1 2
  else if hold then s.selectAll n t 2 3
  else s.selectRun n t

/-! ### What was sent (R181, R184, R186, R187, R193) -/

/-- The applied state a word puts in force after the state before it; none: no frame was sent. -/
def afterWord (old : CellCode) : Option Nat → CellCode
  | some 0 => .bypass
  | some 1 => .insert
  | some 2 => .block
  | _ => old

/-- One cell takes its word for apply tick a: history, change, dwell, credit, age. -/
def Cell.take (x : Cell) (a recharge burst : Nat) (w : Option Nat) : Cell :=
  let old := x.last
  let new := afterWord old w
  let chg := (old == .insert && new == .bypass) || (old == .bypass && new == .insert)
  let run := if new == .bypass then x.bypRun + 1 else 0
  { x with
    hist := (new :: x.hist).take 24
    told := (2 * x.told + b2n w.isSome) % 16777216
    word := w.getD x.word
    issued := x.issued / 4 + (w.getD 3) % 4 * 16384
    change := if chg then some a else x.change
    credit := if chg then min (x.credit + 1) (2 * burst) else x.credit
    bypRun := run
    age := if new == .bypass then (if recharge ≤ run then 0 else x.age) else satU 32 (x.age + 1) }

/-- What the snapshot of the tick shows of a cell whose word is w, dwell ticks being left (Table 7-6). -/
def Cell.shown (x : Cell) (dwell : Nat) (w : Option Nat) : CellShot :=
  { applied := x.last, word := w.getD x.word, rule := x.rule, refresh := x.refresh.isSome, credit := x.credit, dwell := dwell
    age := x.age, est := x.est, bkey := x.bkey }

/-- One credit returns to every cell (R187). -/
def State.creditBack (s : State) : State :=
  { s with cell := { s.cell with swCount := 0, cells := s.cell.cells.map (fun x => { x with credit := x.credit - 1 }) } }

/-- The words of tick n are recorded, and the switching-credit period advances (R187, R193). -/
def State.record (s : State) (n : Nat) (sent : List (Option Nat)) : State :=
  let a := n + s.APPLY_DELAY
  let s := { s with cell := { s.cell with
    cells := s.cell.cells.zipIdx.map (fun p =>
      let w := entry sent p.2 none
      { p.1.take a s.T_RECHARGE s.SW_BURST w with shot := p.1.shown (s.dwellLeft p.1 n) w })
    swCount := s.cell.swCount + 1 } }
  if s.SW_PERIOD ≤ s.cell.swCount then s.creditBack else s

/-- The interval predicted for the selection of the next tick, after the selection of tick n (R191). -/
def State.predict (s : State) (n : Nat) : Nat × Nat :=
  let rules := (List.range 256).map (fun c =>
    let x := s.cellAt c
    let past := match x.refresh with
      | some ar => ar + s.T_RECHARGE ≤ n - 1 && x.bsGood
      | none => false
    let s' := if past then s.mapCell c (fun x => { x with refresh := none }) else s
    s'.ruleOf (n + 1) c (s.stale c n) true)
  let lo := s.countRules rules [8, 9] true
  (lo, lo + s.countRules rules [10] false)

/-! ### Timers of one cell -/

/-- A refresh of cell c ends in tick n with a fresh bootstrap-good word, or fails it with reason 6 (R185). -/
def State.refreshJudge (s : State) (c n : Nat) : State :=
  let x := s.cellAt c
  match x.refresh with
  | none => s
  | some ar =>
    if x.bsGood && x.latched == some n && ar + s.T_RECHARGE + 2 ≤ n then s.mapCell c (fun x => { x with refresh := none })
    else if ar + s.T_BS_RECOVER + 2 ≤ n then s.markFail c 6
    else s

/-- A cell that has reported no bootstrap-good word and that no earlier rule decides is in a refresh from the first tick of
SELECT RUNNING, whatever rule 1 does (R185; DEDUCED, log entry 131). -/
def State.refreshBegin (s : State) (c n : Nat) : State :=
  let x := s.cellAt c
  if !x.bsSeen && x.refresh.isNone && !x.cleared && s.ruleOf n c (s.stale c n) (s.staleness c n == 0) == 7 then
    let s := s.mapCell c (fun x => { x with refresh := some s.cell.t0 })
    { s with cell := { s.cell with refreshes := incSat 32 s.cell.refreshes } }
  else s

/-- BS_RECOVER_TIMEOUT: the refresh of a cell is judged in the present tick (R185). -/
def execBsRecoverTimeout (c : Fin 256) (s : State) : Out := .next (s.refreshJudge c.val s.tick)

/-- REFRESH_DUE: a refresh that is due begins, with its bypass in the apply tick of the next selection (R184, R185). -/
def execRefreshDue (c : Fin 256) (s : State) : Out :=
  let x := s.cellAt c.val
  .next (if s.isRun .select && x.refresh.isNone && s.ruleOf s.tick c.val (s.stale c.val s.tick)
      (s.staleness c.val s.tick == 0) == 7 && s.refreshDue x (s.staleness c.val s.tick == 0) then
      let s := s.mapCell c.val (fun x => { x with refresh := some (s.tick + 1 + s.APPLY_DELAY) })
      { s with cell := { s.cell with refreshes := incSat 32 s.cell.refreshes } }
    else s)

/-- DWELL_EXPIRY: the dwell of a cell has expired for the next selection (R186). -/
def execDwellExpiry (c : Fin 256) (s : State) : Out :=
  .next (if s.dwellHolds (s.cellAt c.val) (s.tick + 1 + s.APPLY_DELAY) then s
    else s.mapCell c.val (fun x => { x with change := none }))

/-- SW_PERIOD_END: after SW_PERIOD apply ticks one credit returns to every cell (R187). -/
def execSwPeriodEnd (s : State) : Out :=
  .next (if s.SW_PERIOD ≤ s.cell.swCount then s.creditBack else s)

/-- A cell that first exceeds TEL_STALE is recorded (R181). -/
def State.staleJudge (s : State) (c n : Nat) : State :=
  let st := s.stale c n
  let x := s.cellAt c
  if st == x.staleEp then s
  else
    let s := s.mapCell c (fun x => { x with staleEp := st })
    if st then s.note 0x2111 (le 2 c) else s

/-- TEL_STALE_EXCEEDED: a cell's staleness is judged (R181). -/
def execTelStaleExceeded (c : Fin 256) (s : State) : Out :=
  .next (if s.populated c.val then s.staleJudge c.val s.tick else s)

/-! ### Periods, start, stop -/

/-- The available count published in tick F − 1 is checked (R180). -/
def State.avCheck (s : State) (av : Nat) : State :=
  let s := { s with cell := { s.cell with avail := av } }
  if s.isRun .select && av < s.AV_MIN then
    ({ s with cell := { s.cell with avLow := true } }).trip 0x2110 .select []
  else s

/-- A new forming period: each code of R191 and R192 may be recorded again. -/
def State.selectPeriod (s : State) : State :=
  { s with cell := { s.cell with once2101 := false, once2102 := false, once2107 := false,
                                 trunks := s.cell.trunks.map (fun t => { t with badOnce := false }) } }

/-- The starting values at the beginning of FORMING (Table 3-14, R95). -/
def State.selectFresh (s : State) : State :=
  { s with cell := { s.cell with cells := s.cell.cells.map (fun x =>
      { x with credit := 0, change := none, age := 0, bypRun := 0, hist := List.replicate 24 .block }) } }

/-- The start check of SELECT (Table 7-11). -/
def State.selectCheck (s : State) : Nat :=
  let act := (List.range 256).filter (fun c => s.CELL_CLASS c == 1)
  if s.C_CELL = 0 then 1
  else if act.isEmpty then 2
  else if s.T_INS_MAX ≤ s.T_RECHARGE || s.T_BS_RECOVER ≤ s.T_RECHARGE then 3
  else if s.T_DWELL_MIN * s.TICK_LENGTH * 1000 < s.DEAD_TIME + 1000 then 4
  else if (List.range 256).any (fun c => s.populated c && !(s.trkOn (c / 32))) then 5
  else if act.length < s.AV_MIN then 6
  else 0

/-- A passing START of SELECT (R181, R185, Tables 7-7, 7-9). -/
def State.selectUp (s : State) : State :=
  { s with cell := { s.cell with
      kv := s.kvNow, t0 := s.tick, refreshes := 0, shortfalls := 0, avLow := false
      cells := s.cell.cells.map (fun x => { x with refresh := none, staleEp := false, bsSeen := false }) } }

end Sys2Proof.Machine
end

