-- ==== Sys2Proof/Machine/Sense.lean ====
section
/-! DEFINITION. The Sense region (10): samples, decimators, fast comparators, frozen and lost signals, injected
conversions, the rotating spare, internal channels, the start of SENSE. -/
namespace Sys2Proof.Machine

/-- L and N of a response (Table 10-6). -/
def responseLN : Nat → Nat × Nat
  | 0 => (1, 1) | 1 => (4, 1) | 2 => (10, 1) | 3 => (25, 1) | 4 => (50, 1) | 5 => (100, 1) | 6 => (51, 2)
  | 7 => (100, 2) | 8 => (200, 1) | 9 => (34, 3) | 10 => (67, 3) | 11 => (100, 3) | 12 => (256, 2) | 13 => (500, 2)
  | 14 => (1024, 1) | _ => (1024, 3)

/-- Conversion edges of a tick (R280). -/
def State.edges (s : State) : Nat := 100 * s.mode.tickLen

/-- An input by number. -/
def State.ain (s : State) (c : Nat) : AIn := entry s.sense.ins c {}

/-- One input changed. -/
def State.mapAin (s : State) (c : Nat) (f : AIn → AIn) : State :=
  { s with sense := { s.sense with ins := updAt c f s.sense.ins } }

/-- A converter by number. -/
def State.conv (s : State) (k : Nat) : Conv := entry s.sense.convs k {}

/-- One converter changed. -/
def State.mapConv (s : State) (k : Nat) (f : Conv → Conv) : State :=
  { s with sense := { s.sense with convs := updAt k f s.sense.convs } }

/-! ### Decimator (R291 to R293) -/

/-- The running sums of a window: the sum, the leading entries to drop, the entries to add. -/
def slide : Int → List Int → List Int → List Int
  | s, x :: xs, y :: ys => s :: slide (s - x + y) xs ys
  | s, _, _ => [s]

/-- One moving-sum stage of length l over samples newest first. -/
def movSum (l : Nat) (xs : List Int) : List Int := slide (sumI (xs.take l)) xs (xs.drop l)

/-- N moving-sum stages. -/
def cascade (l : Nat) : Nat → List Int → List Int
  | 0, xs => xs
  | n + 1, xs => cascade l n (movSum l xs)

/-- The decimator value of a history (R291). -/
def decimate (resp : Nat) (hist : List Int) : Int :=
  let (l, n) := responseLN resp
  sat32 (divNearUp (256 * (cascade l n (hist.take (n * (l - 1) + 1))).headD 0) (l ^ n))

/-- GROUP_DELAY of a response, 1/65 536 tick (R292). -/
def groupDelay (resp tickNs : Nat) : Nat :=
  let (l, n) := responseLN resp
  (divNearUp ((n * (l - 1) * 10 * 65536 : Nat) : Int) (2 * tickNs)).toNat

/-- Samples that fill the history (R94). -/
def fillOf (resp : Nat) : Nat := (responseLN resp).1 * (responseLN resp).2

/-! ### One sample (R295 to R299, R302) -/

/-- The sum of the last four samples, none before the first average is complete (R94, R295). -/
def AIn.sum4 (a : AIn) : Option Int :=
  match a.hist with
  | x :: y :: z :: w :: _ => some (x + y + z + w)
  | _ => none

/-- Beyond CMP_HI, beyond CMP_LO (R295). -/
def State.beyond (s : State) (c : Nat) (a : AIn) : Bool × Bool :=
  match a.sum4 with
  | some v => (4 * s.CMP_HI c < v, v < 4 * s.CMP_LO c)
  | none => (false, false)

/-- Σ4 is within the release limits (R297). -/
def State.withinRelease (s : State) (c : Nat) (a : AIn) : Bool :=
  match a.sum4 with
  | some v => 4 * (s.CMP_LO c + s.CMP_HYST c) ≤ v && v ≤ 4 * (s.CMP_HI c - s.CMP_HYST c)
  | none => true

/-- A crossing of threshold 1 (CMP_HI) or 2 (CMP_LO) by input c (R295, R297). -/
def State.cross (s : State) (c thr : Nat) : State :=
  let s := s.mapAin c (fun a => { a with lCmp := true, cmpOn := a.cmpOn || s.CMP_ACTION c == 2 })
  if s.CMP_ACTION c = 2 then
    (({ s with mode := { s.mode with blockCmp := true } }).offer 0x4010 .trip 3 (le 2 c ++ [thr])).blockSpan
  else s.warnKeep 0x4011 c (le 2 c ++ [thr])

/-- The runs of input c beyond its thresholds, none while the comparator is off (R295). -/
def State.cmpRuns (s : State) (c : Nat) : State :=
  let (hi, lo) := s.beyond c (s.ain c)
  let hi := hi && s.CMP_ACTION c != 0
  let lo := lo && s.CMP_ACTION c != 0
  let was := (s.ain c).hiX || (s.ain c).loX
  let s := s.mapAin c (fun a => { a with
    within := a.within && s.withinRelease c a
    hiRun := if hi then a.hiRun + 1 else 0, hiX := hi && a.hiX
    loRun := if lo then a.loRun + 1 else 0, loX := lo && a.loX })
  if was && !hi && !lo then s.warnOff 0x4011 c else s

/-- The comparator of input c at one edge: a run that reaches CMP_CONFIRM crosses, once (R295). -/
def State.compare (s : State) (c : Nat) : State :=
  let s := s.cmpRuns c
  let a := s.ain c
  if a.hiRun != 0 && s.CMP_CONFIRM c ≤ a.hiRun && !a.hiX then (s.mapAin c (fun a => { a with hiX := true })).cross c 1
  else if a.loRun != 0 && s.CMP_CONFIRM c ≤ a.loRun && !a.loX then
    (s.mapAin c (fun a => { a with loX := true })).cross c 2
  else s

/-- A sample enters the history of input c (R291, R94). -/
def State.push (s : State) (c : Nat) (x : Int) : State :=
  let f := fillOf (s.RESPONSE c)
  s.mapAin c (fun a => { a with hist := (x :: a.hist).take (max 4 f), fill := min f (a.fill + 1), fed := a.fed + 1 })

/-- A code is one of the two saturated ones (R299). -/
def saturated (x : Int) : Bool := x = 32767 || x = -32768

/-- A sample given to frozen-signal detection, which leaves saturated ones out (R298, R302). -/
def State.countWindow (s : State) (c : Nat) (x : Int) : State :=
  if saturated x then s
  else s.mapAin c (fun a => { a with
    winN := a.winN + 1
    winHi := if a.winN = 0 || a.winHi < x then x else a.winHi
    winLo := if a.winN = 0 || x < a.winLo then x else a.winLo })

/-- A scheduled sample counts toward saturation (R299). -/
def State.countSat (s : State) (c : Nat) (x : Int) : State :=
  if saturated x then
    let s := s.mapAin c (fun a => { a with satRun := a.satRun + 1, satTick := true })
    if s.SAT_COUNT c != 0 && s.SAT_COUNT c ≤ (s.ain c).satRun && !(s.ain c).lostSat then
      (s.mapAin c (fun a => { a with lostSat := true, lLost := true })).warnOn 0x4020 c (le 2 c)
    else s
  else s.mapAin c (fun a => { a with satRun := 0 })

/-- A sample given to the comparator, the decimator and frozen-signal detection (R295, R302). -/
def State.give (s : State) (c : Nat) (x : Int) : State := ((s.push c x).compare c).countWindow c x

/-- One edge of input c with its scheduled sample (R302). -/
def State.feedOne (s : State) (c : Nat) (x : Int) : State := (s.give c x).countSat c x

/-- One edge of input c that an injected sample pre-empts: the previous sample is given again (R288, R302). -/
def State.feedRepeat (s : State) (c : Nat) : State := s.give c ((s.ain c).hist.headD 0)

/-- Input c is converted: SENSE runs and the input is enabled. -/
def State.converts (s : State) (c : Nat) : Bool := s.isRun .sense && s.AIN_ENABLE c = 1

/-! ### Injected requests (R287 to R290, R300) -/

/-- A new request on input c is refused: one is pending, or HANDOVER of the input waits too long (R289, R290). -/
def State.injBusy (s : State) (c : Nat) : Bool :=
  (s.ain c).inj.isSome || (s.sense.refuse && (s.ain c).conv == some s.sense.x)

/-- A request is registered on input c at an edge: executed on the first edge 30 ns after it, or 30 ns after the next tick edge
where a sample of this tick is pre-empted already (R288, R289). -/
def State.injRegister (s : State) (c : Nat) (reg : Int) (mode : Nat) (test : Bool) : State :=
  let e : Int := s.edges
  let due := if (s.ain c).preempt && reg + 3 ≤ e then e + 3 else reg + 3
  s.mapAin c (fun a => { a with inj := some { mode := mode, test := test, due := due }, resOk := false })

/-- A refused trigger or test request (R289). -/
def State.injOverrun (s : State) (c : Nat) : State :=
  let a := s.ain c
  let s := s.mapAin c (fun a => { a with overruns := incSat 32 a.overruns, lInj := true, ovrTick := true })
  if a.ovrTick then s else s.note 0x4040 (le 2 c)

/-- A trigger or test request reaches its registration (R287, R289). -/
def State.injRequest (s : State) (c : Nat) (r : Arrival) : State :=
  if s.injBusy c then s.injOverrun c else s.injRegister c r.reg r.mode r.test

/-- A trigger or test request on input c, registered on an edge of the present tick (Table 10-5). -/
def State.injArrive (s : State) (c : Nat) (r : Arrival) : State :=
  if s.converts c then
    if r.reg ≤ (s.ain c).fed then s.injRequest c r else s.mapAin c (fun a => { a with arriving := a.arriving ++ [r] })
  else s

/-- The requests registered on edge i (Table 10-5). -/
def State.injDue (s : State) (c : Nat) (i : Int) : State :=
  let rs := (s.ain c).arriving
  (rs.filter (fun r => r.reg ≤ i)).foldl (fun s r => s.injRequest c r)
    (s.mapAin c (fun a => { a with arriving := rs.filter (fun r => i < r.reg) }))

/-- A test of input c is judged: code against the scheduled sample before it (R300). -/
def State.testJudge (s : State) (c : Nat) (code prev : Int) : State :=
  let ok := absI (code - prev) ≤ s.TEST_DELTA c && !(saturated code)
  if ok then
    let s := s.mapAin c (fun a => { a with testGood := a.testGood + 1, testBad := 0 })
    if s.TEST_FAIL_N c ≤ (s.ain c).testGood && (s.ain c).lostTest then
      ((s.mapAin c (fun a => { a with lostTest := false })).warnOff 0x4021 c).note 0x4022 (le 2 c ++ [2])
    else s
  else
    let s := s.mapAin c (fun a => { a with testBad := a.testBad + 1, testGood := 0, testFails := incSat 32 a.testFails })
    if s.TEST_FAIL_N c ≤ (s.ain c).testBad && !(s.ain c).lostTest then
      (s.mapAin c (fun a => { a with lostTest := true, lLost := true })).warnOn 0x4021 c (le 2 c)
    else s

/-- The injected sample of request r is taken on edge i of tick n; an edge that is the next tick edge has the edge index 0 of
the next tick (R288; notes/assumptions/135.md). -/
def State.injTake (s : State) (n c : Nat) (i : Int) (r : InjReq) (x : Int) : State :=
  let last := i == (s.edges : Int)
  let r := { r with
    taken := true, leaves := i + 12, code := x, prev := (s.ain c).hist.headD 0
    edge := if last then 0 else i.toNat, tick := if last then n + 1 else n }
  (s.feedRepeat c).mapAin c (fun a => { a with inj := some r, preempt := true })

/-- The sample of a request leaves the pipeline 12 edges after its own: the result is shown, a test is judged (R288, R300). -/
def State.injLeave (s : State) (c : Nat) (r : InjReq) : State :=
  let s := s.mapAin c (fun a => { a with
    inj := none, res := r.code, resMode := r.mode, resEdge := r.edge, resTick := r.tick, resOk := true })
  if r.test then s.testJudge c r.code r.prev else s

/-! ### Edges -/

/-- The input of the converter that is to be relieved (R282). -/
def State.rotInput (s : State) : Nat := ((s.conv s.sense.x).input).getD 0

/-- k edges of input c pass, compared or not, while it is handed over (R282, R290). -/
def State.countEdges (s : State) (c k : Nat) (cmp : Bool) : State :=
  if s.sense.phase = 1 && c = s.rotInput then
    s.mapSense (fun v =>
      let t := v.comp + (if cmp || 256 ≤ v.comp then k else 0)
      { v with comp := min 256 t, excess := v.excess + (t - 256) })
  else s

/-- One conversion edge of input c in tick n, with the code of the converter that serves it: a scheduled sample, or that of the
request due on this edge (R288, R302). -/
def State.feedEdge (s : State) (n c : Nat) (x : Int) : State :=
  let i : Int := (s.ain c).fed + 1
  let s := s.injDue c i
  match (s.ain c).inj with
  | none => (s.feedOne c x).countEdges c 1 true
  | some r =>
    if r.taken then
      let s := (s.feedOne c x).countEdges c 1 true
      if r.leaves ≤ i then s.injLeave c r else s
    else if r.due ≤ i then (s.injTake n c i r x).countEdges c 1 false
    else (s.feedOne c x).countEdges c 1 true

/-- The tick whose edges come next: until its latch point the tick that ended. -/
def State.sampleTick (s : State) : Nat := if s.edge || s.ps.opened then s.tick - 1 else s.tick

/-- The next edges of tick n of input c, at most those that the tick still has (R280). -/
def State.feed (s : State) (n c : Nat) (codes : List Int) : State :=
  if s.converts c then
    (codes.take (s.edges - (s.ain c).fed)).foldl (fun s x => s.feedEdge n c (clampI (-32768) 32767 x)) s
  else s

/-- HISTORY_FILLED: edges that complete the fill of an input (R94). -/
def execHistoryFilled (c : Fin 16) (codes : List Int) (s : State) : Out := .next (s.feed s.sampleTick c.val codes)

/-- COMPARATOR_CROSSING: edges with which an input crosses a threshold (R295). -/
def execComparatorCrossing (c : Fin 16) (codes : List Int) (s : State) : Out := .next (s.feed s.sampleTick c.val codes)

/-- SATURATION_LOST: edges with which an input is lost by saturation (R299). -/
def execSaturationLost (c : Fin 16) (codes : List Int) (s : State) : Out := .next (s.feed s.sampleTick c.val codes)

/-- INJECTED_SAMPLE_DONE: edges up to the one, with the given code, on which the injected sample leaves the pipeline (R288, R300). -/
def execInjectedSampleDone (c : Fin 16) (codes : List Int) (code : Int) (s : State) : Out :=
  .next (s.feed s.sampleTick c.val (codes ++ [code]))

/-! ### The end of a tick -/

/-- The comparator block source of input c is released after one whole tick within the limits (R297). -/
def State.cmpRelease (s : State) (c : Nat) : State :=
  let a := s.ain c
  if a.cmpOn && a.within then s.mapAin c (fun a => { a with cmpOn := false }) else s

/-- COMPARATOR_RELEASE: after the last edge of a tick (R297). -/
def execComparatorRelease (c : Fin 16) (s : State) : Out :=
  .next (if s.edges ≤ (s.ain c.val).fed then s.cmpRelease c.val else s)

/-- LOST_SAT clears after one whole tick without a saturated sample (R299). -/
def State.satClear (s : State) (c : Nat) : State :=
  let a := s.ain c
  if a.lostSat && !a.satTick then
    ((s.mapAin c (fun a => { a with lostSat := false })).warnOff 0x4020 c).note 0x4022 (le 2 c ++ [1])
  else s

/-- SATURATION_CLEAR: after the last edge of a tick (R299). -/
def execSaturationClear (c : Fin 16) (s : State) : Out :=
  .next (if s.edges ≤ (s.ain c.val).fed then s.satClear c.val else s)

/-- The FROZEN flag at the end of a window (R298). -/
def State.frozenDecide (s : State) (c : Nat) : State :=
  let a := s.ain c
  let s := s.mapAin c (fun a => { a with winT := 0, winN := 0 })
  if a.winN < 2 then s
  else if a.winHi - a.winLo ≤ 2 then
    if a.frozen then s
    else (s.mapAin c (fun a => { a with frozen := true, lFrozen := true })).warnOn 0x4023 c (le 2 c)
  else if a.frozen then
    ((s.mapAin c (fun a => { a with frozen := false })).warnOff 0x4023 c).note 0x4024 (le 2 c)
  else s

/-- One tick of the frozen window of input c; a tick already counted, or the one in which SENSE began to run, counts no
second time (R298). -/
def State.frozenTick (s : State) (c : Nat) : State :=
  let a := s.ain c
  if a.ended then s.mapAin c (fun a => { a with winN := if a.winT = 0 then 0 else a.winN })
  else if s.FROZEN_WIN c = 0 then s.mapAin c (fun a => { a with winT := 0, winN := 0 })
  else if s.FROZEN_WIN c ≤ a.winT + 1 then s.frozenDecide c
  else s.mapAin c (fun a => { a with winT := a.winT + 1 })

/-- FROZEN_WINDOW_END: after the last edge of a tick that ends the window of an input (R298). -/
def execFrozenWindowEnd (c : Fin 16) (s : State) : Out :=
  let a := s.ain c.val
  .next (if s.edges ≤ a.fed && !a.ended && s.FROZEN_WIN c.val != 0 && s.FROZEN_WIN c.val ≤ a.winT + 1 then
      (s.frozenDecide c.val).mapAin c.val (fun a => { a with ended := true })
    else s)

/-- The frozen window of input c starts again; the flag stays until a window decides (R167, R298). -/
def State.frozenRestart (s : State) (c : Nat) : State := s.mapAin c (fun a => { a with winT := 0, winN := 0 })

/-- VALID of R301. -/
def State.ainValid (s : State) (c : Nat) (a : AIn) : Bool :=
  s.converts c && fillOf (s.RESPONSE c) ≤ a.fill && !a.lostSat && !a.lostTest

/-- The latch of input c (R280, R291, R301). -/
def State.latchAin (s : State) (c : Nat) : State :=
  let r := s.RESPONSE c
  let a := s.ain c
  let v := if s.converts c && fillOf r ≤ a.fill then decimate r a.hist else 0
  let fl := flagBits [s.ainValid c a, a.lostSat, a.lostTest, a.frozen]
  let e : Int := s.edges
  s.mapAin c (fun a => { a with
    value := v, raw := a.hist.headD 0, flags := fl, fed := 0, ended := false, satTick := false, within := true
    preempt := false, ovrTick := false, lLost := a.lLost || a.lostSat || a.lostTest, lFrozen := a.lFrozen || a.frozen
    inj := a.inj.map (fun r => { r with due := r.due - e, leaves := r.leaves - e })
    arriving := a.arriving.map (fun r => { r with reg := r.reg - e }) })

/-- The latch point of the tick after n for input c; codes are those of the edges of tick n and, beyond them, of the first
edges of the next (R280). An edge for which no code is given passes without a sample. -/
def State.tickAin (s : State) (n c : Nat) (codes : List Int) : State :=
  let s := s.feed n c (codes.drop (s.ain c).fed)
  let s := s.countEdges c (s.edges - (s.ain c).fed) true
  if s.converts c then (((s.cmpRelease c).satClear c).frozenTick c).latchAin c else s.latchAin c

/-- The latch point of tick n for the Sense region (Table 1-3). -/
def State.senseLatch (s : State) (n : Nat) (codes : List (List Int)) : State :=
  (List.range 16).foldl (fun s c => s.tickAin (n - 1) c (entry codes c [])) s

/-- The edges of tick n whose crossings the issue point of the tick still meets: up to 750 ns, less 10 ns for each further
edge of CMP_CONFIRM (R296). -/
def State.issueEdges (s : State) (n : Nat) (codes : List (List Int)) : State :=
  (List.range 16).foldl (fun s c => s.feed n c (((entry codes c []).drop s.edges).take (76 - s.CMP_CONFIRM c))) s

/-- FLAGS (0x4002:03). -/
def State.ainFlags (s : State) (c : Nat) : Nat :=
  let a := s.ain c
  let (hi, lo) := s.beyond c a
  a.flags % 16 + 16 * b2n ((hi || lo) && s.CMP_ACTION c != 0) + 32 * b2n a.inj.isSome

/-! ### Requests (R287 to R290, R300) -/

/-- Why a software request on channel c is refused, or OK (R289, R290). -/
def State.injStatus (s : State) (level c : Nat) : Nat :=
  if level < 2 then stPrivilege
  else if 16 ≤ c || s.AIN_ENABLE c = 0 then stChannel
  else if !(s.isRun .sense) then stRunstate
  else if s.injBusy c then stBusy
  else stOk

/-- A software request is registered at the edge that has just passed (Table 10-5; notes/assumptions/135.md). -/
def State.injSoftware (s : State) (c : Nat) : State := s.injRegister c (s.ain c).fed (s.INJ_MODE c) false

/-- INJ_COMMAND: a software request by a session of a level (R287). -/
def execInjCommand (level : Nat) (c : Fin 25) (s : State) : Out :=
  .next (if s.injStatus level c.val = stOk then s.injSoftware c.val else s)

/-- AIN_TRIG_EDGE: an edge on AIN_TRIG is a request for every input that selects it, registered on the second conversion edge
after it (Table 10-5). -/
def execAinTrigEdge (rising : Bool) (s : State) : Out :=
  .next ((List.range 16).foldl (fun s c =>
    let src := s.INJ_SOURCE c
    if src = 3 || (src = 1 && rising) || (src = 2 && !rising) then
      s.injArrive c ⟨(s.ain c).fed + 2, s.INJ_MODE c, false⟩
    else s) s)

/-- TEST_INJECTION: the test request of an input in a tick whose number is a multiple of TEST_T, registered 500 ns after its
tick edge (Table 10-5, R300). -/
def execTestInjection (c : Fin 16) (s : State) : Out :=
  .next (if s.TEST_T c.val != 0 && s.sampleTick % s.TEST_T c.val = 0 then
      s.injArrive c.val ⟨max 50 (s.ain c.val).fed, 1, true⟩
    else s)

/-! ### The rotating spare (R281 to R284, R290) -/

/-- Converter k is retired; one that serves an input goes on serving it (R283). -/
def State.retire (s : State) (k : Nat) : State :=
  let s := s.mapConv k (fun x => { x with st := 4, input := if x.st = 0 then x.input else none })
  (s.mapSense (fun v => { v with retired := setBit v.retired k })).warnOn 0x4032 k (le 2 k)

/-- Rotation stops: internal channels are no longer valid (R283, R285). -/
def State.rotationOff (s : State) : State :=
  (s.mapSense (fun v => { v with
    phase := 3, cal := none, refuse := false, ints := v.ints.map (fun i => { i with ok := false }) })).warnOn 0x4054 0 []

/-- A converter is retired and rotation stops (R283). -/
def State.stopRotation (s : State) (k : Nat) : State := (s.retire k).rotationOff

/-- ROTATION_HANDOVER: at a tick whose number is a multiple of ROT_STEP the spare begins to convert the next converter's
input in parallel and abandons its internal pass (R282, R285). -/
def execRotationHandover (s : State) : Out :=
  let x := (s.sense.spare + 1) % 17
  let a := s.ain (((s.conv x).input).getD 0)
  .next (if s.isRun .sense && s.sense.phase = 0 && s.ROT_STEP != 0 && s.tick % s.ROT_STEP = 0 then
      (s.mapConv s.sense.spare (fun v => { v with st := 3 })).mapSense (fun v => { v with
        phase := 1, x := x, at_ := s.now, refuse := false, comp := a.fed - b2n a.preempt, excess := 0 })
    else s)

/-- The converter k goes into CALIBRATE at the switch edge (R282, R283). -/
def State.calibrate (s : State) (k : Nat) : State :=
  let s := s.mapConv k (fun v => { v with st := 2, input := none })
  { s with sense := { s.sense with phase := 2, cal := some k, at_ := s.now, refuse := false } }

/-- The next edge is the switch edge: 256 compared edges lie before it, and no request on the input is pending at it or has been
since the edge before (R290). -/
def State.switchNow (s : State) : Bool :=
  let a := s.ain s.rotInput
  s.isRun .sense && s.sense.phase = 1 && 256 ≤ s.sense.comp && a.inj.isNone && a.arriving.all (fun r => (a.fed : Int) + 1 < r.reg)

/-- SWITCH_EDGE: the handover is judged by the sums of the codes of X and of S over the last 256 compared edges (R283, R290). -/
def execSwitchEdge (sumX sumS : Int) (s : State) : Out :=
  let spare := s.sense.spare
  let x := s.sense.x
  let c := s.rotInput
  .next (if s.switchNow then
      if 256 * s.CAL_MATCH < absI (sumS - sumX) then
        let s := (s.mapConv spare (fun v => { v with fails := v.fails + 1 })).warnKeep 0x4031 spare (le 2 x ++ le 2 spare)
        if 3 ≤ (s.conv spare).fails then s.stopRotation spare else s.calibrate spare
      else
        let s := (s.mapConv spare (fun v => { v with st := 0, input := some c, fails := 0 })).warnOff 0x4031 spare
        (s.mapAin c (fun a => { a with conv := some spare })).calibrate x
    else s)

/-- HANDOVER_DEFERRAL_LIMIT: 1024 edges after the first that had 256 compared edges before it, without a switch edge
(R290). -/
def execHandoverDeferralLimit (s : State) : Out :=
  .next (if s.sense.phase = 1 && !s.sense.refuse && 1024 < s.sense.excess then
      ({ s with sense := { s.sense with refuse := true } }).note 0x4030 []
    else s)

/-- The coefficients of every converter are stored with the temperature of channel 22, where the non-volatile memory can be
written (R284, R23). -/
def State.storeCoeffs (s : State) : State :=
  if s.nvOk then
    s.mapSense (fun x => { x with
      stored := some { list := x.convs.map (fun v => (v.offset, v.gain)), temp := (entry x.ints 5 {}).value, ok := true } })
  else s

/-- CALIBRATE_COMPLETE: 131 072 conversion clocks after the switch edge the calibrated converter is the spare, or is
retired where it did not converge (R282 to R284). -/
def execCalibrateComplete (offset gain : Int) (converged : Bool) (s : State) : Out :=
  .next (match s.sense.cal with
    | some k =>
      if s.sense.phase = 2 && s.sense.at_ + 1310720 ≤ s.now then
        if converged then
          let s := s.mapConv k (fun v => { v with
            st := 1, input := none, offset := offset, gain := gain, cals := incSat 32 v.cals, last := (s.time.sec, s.clockNs) })
          let s := s.mapSense (fun v => { v with
            phase := 0, cal := none, spare := k, steps := incSat 32 v.steps, at_ := s.now, pass := 0, passAt := s.now })
          if s.sense.steps % 17 = 0 then s.storeCoeffs else s
        else s.stopRotation k
      else s
    | none => s)

/-! ### Internal channels (R285, R286) -/

/-- Whether a value of channel 17 + i lies outside its limits, and the event of it (Table 10-4). -/
def State.intOut (s : State) (i : Nat) (v : Int) : Bool × Nat :=
  if i < 5 then (v < s.INT_LO (17 + i) || s.INT_HI (17 + i) < v, if i = 0 then 0x4051 else 0x4050)
  else (s.TJ_WARN * 16 < v, 0x4052)

/-- A converted channel is held against its limits: one event per episode, and SENSE faults where a temperature is above
TJ_TRIP in two consecutive passes (R286). -/
def State.intJudge (s : State) (i : Nat) (v : Int) : State :=
  let (out, code) := s.intOut i v
  let hot := 5 ≤ i && s.TJ_TRIP * 16 < v
  let n := if hot then (entry s.sense.ints i {}).trips + 1 else 0
  let s := s.mapSense (fun x => { x with ints := updAt i (fun k => { k with inside := !out, trips := n }) x.ints })
  let s := if out then s.warnOn code (17 + i) (if i = 0 then le 2 s.sense.spare else le 2 (17 + i)) else s
  if n = 2 then s.trip 0x4053 .sense (le 2 (17 + i)) else s

/-- The end of a full pass ends the episodes of the channels that were inside their limits in it (R286). -/
def State.passEnd (s : State) : State :=
  (List.range 8).foldl (fun s i =>
    if (entry s.sense.ints i {}).inside then s.warnOff (if i = 0 then 0x4051 else if i < 5 then 0x4050 else 0x4052) (17 + i)
    else s) s

/-- INTERNAL_CHANNEL_CONVERTED: the spare has converted channel 17 + i, the next of its pass, in 320 clocks (R285). -/
def execInternalChannelConverted (ch : Fin 8) (v : Int) (s : State) : Out :=
  .next (if s.isRun .sense && s.sense.phase = 0 && s.sense.pass = ch.val && s.sense.passAt + 3200 ≤ s.now then
      let s := (s.mapSense (fun x => { x with
        pass := (ch.val + 1) % 8, passAt := x.passAt + 3200
        ints := updAt ch.val (fun k => { k with value := v, ok := true }) x.ints })).intJudge ch.val v
      if ch.val = 7 then s.passEnd else s
    else s)

/-! ### Start (R281, R308) -/

/-- The start check of SENSE (Table 10-13). -/
def State.senseCheck (s : State) : Nat :=
  let en := (List.range 16).filter (fun c => s.AIN_ENABLE c == 1)
  if en.isEmpty then 1
  else if en.any (fun c => s.CMP_ACTION c != 0 &&
      !(decide (s.CMP_LO c + s.CMP_HYST c < s.CMP_HI c - s.CMP_HYST c))) then 2
  else if s.TJ_TRIP ≤ s.TJ_WARN then 3
  else if s.ROT_STEP * s.TICK_LENGTH < 2000 then 4
  else 0

/-- There are stored coefficients for every converter and their check value is correct (R281). -/
def State.storedList (s : State) : Bool :=
  match s.sense.stored with
  | some k => k.ok && k.list.length = 17
  | none => false

/-- The stored coefficients can be used at a temperature of channel 22 (R281). -/
def State.storedUsable (s : State) (temp : Int) : Bool :=
  s.storedList && absI (temp - ((s.sense.stored.map (·.temp)).getD 0)) ≤ 240

/-- Every converter serves its first input, and converter 16 is the spare; under foreground calibration all of them are
calibrated (R281, Table 10-9). -/
def State.convsFirst (s : State) (fg : Bool) : State :=
  s.mapSense (fun v => { v with
    calSince := some s.now, calFg := fg
    convs := v.convs.zipIdx.map (fun p =>
      { p.1 with st := if fg then 2 else b2n (p.2 = 16), input := if p.2 = 16 then none else some p.2 }) })

/-- A passing START of SENSE: the initial assignment, counters since the start at 0, coefficients due (R281). -/
def State.senseUp (s : State) : State :=
  let s := s.mapMode (fun m => { m with warns := m.warns.filter (fun w => w.code != 0x4032 && w.code != 0x4054) })
  (s.mapSense (fun v => { v with
    convs := v.convs.map (fun k => { k with cals := 0, fails := 0 })
    ins := v.ins.zipIdx.map (fun p =>
      { p.1.down with conv := some p.2, fed := 0, ended := false, satTick := false, within := true, overruns := 0,
                      testFails := 0 })
    ints := v.ints.map (fun i => { i with ok := false, trips := 0 })
    spare := 16, phase := 0, x := 0, cal := none, steps := 0, retired := 0, refuse := false })).convsFirst (!s.storedList)

/-- SENSE reaches RUNNING; the windows of R298 start at the next tick edge, the first internal pass begins. -/
def State.senseRuns (s : State) : State :=
  let s := s.mapSense (fun v => { v with
    calSince := none, calFg := false, at_ := s.now, pass := 0, passAt := s.now
    ins := v.ins.map (fun a => { a with ended := true }) })
  s.setRun .sense .running

/-- Stored coefficients are put in force. -/
def State.setCoeffs (s : State) (l : List (Int × Int)) : State :=
  s.mapSense (fun v => { v with
    source := 1
    convs := v.convs.zipIdx.map (fun p => { p.1 with offset := (entry l p.2 (0, 0)).1, gain := (entry l p.2 (0, 0)).2 }) })

/-- A converter after the foreground calibration: one that did not converge keeps its last coefficients (R281, R283). -/
def Conv.calibrated (v : Conv) (k : Nat) (c : Option (Int × Int)) (time : Nat × Nat) : Conv :=
  let v := { v with st := b2n (k = 16) }
  match c with
  | some x => { v with offset := x.1, gain := x.2, cals := incSat 32 v.cals, last := time }
  | none => v

/-- The foreground calibration ends; each converter that did not converge is retired, and rotation stops (R281, R283). -/
def State.foreground (s : State) (cal : List (Option (Int × Int))) : State :=
  let s := s.mapSense (fun x => { x with
    source := 0, convs := x.convs.zipIdx.map (fun p => p.1.calibrated p.2 (entry cal p.2 none) (s.time.sec, s.clockNs)) })
  let s := (s.note 0x4033 []).senseRuns
  let bad := (List.range 17).filter (fun k => (entry cal k none).isNone)
  if bad.isEmpty then s else (bad.foldl (fun s k => s.retire k) s).rotationOff

/-- Channel 22 has been read: stored coefficients that can be used are loaded, otherwise the foreground calibration goes on or
begins (R281). -/
def State.coeffsRead (s : State) (temp : Int) : State :=
  let s := s.mapSense (fun x => { x with ints := updAt 5 (fun k => { k with value := temp, ok := true }) x.ints })
  if s.storedUsable temp then (s.setCoeffs ((s.sense.stored.map (·.list)).getD [])).senseRuns
  else if s.sense.calFg then s
  else s.convsFirst true

/-- SENSE_CALIBRATION_DONE: the stored coefficients are loaded where they can be used at the temperature read; a foreground
calibration ends after 131 072 conversion clocks (R281). -/
def execSenseCalibrationDone (temp : Int) (cal : List (Option (Int × Int))) (s : State) : Out :=
  .next (if s.sense.calSince.isSome && s.run .sense == .starting then
      let s := s.coeffsRead temp
      if s.run .sense == .starting && s.sense.calFg && s.sense.calSince.any (fun t => t + 1310720 ≤ s.now) then
        s.foreground cal
      else s
    else s)

end Sys2Proof.Machine
end

