-- ==== Sys2Proof/Machine/Spine.lean ====
section
/-! DEFINITION. The spine ring (09): messages and their headers, forwarding, the roll call and the ring it describes,
path delays and the budget, the tick marker and mastership, membership. -/
namespace Sys2Proof.Machine

/-! ### Messages (R241, R242, Table 9-1) -/

/-- A takeover is in progress (R436). -/
def State.takingOver (s : State) : Bool :=
  match s.dpx.take with
  | .begun _ => true
  | .live _ => true
  | .ready _ => true
  | _ => false

/-- The active logic runs (R549). -/
def State.spnActive (s : State) : Bool :=
  s.spn.joined && s.powered .spn && !(s.fenced 4 0) &&
    match s.mode.mode with
    | .boot => 7 ≤ s.mode.bootStep && !s.mode.halted
    | .safe => false
    | .standby => s.mode.sub == 2 || s.takingOver
    | _ => true

/-- The tick whose points come next: the present one where its tick edge has been taken already. -/
def State.nextTick (s : State) : Nat := if s.edge then s.tick else s.tick + 1

/-- The low 24 bits of a tick number, as a header names it. -/
def tick24 (n : Nat) : Nat := n % 16777216

/-- A header (Table 9-1). -/
def spineHeader (type src station len tick hops : Nat) : Nat :=
  type + 256 * src + 131072 * station + 4194304 * len + 4294967296 * tick24 tick + 72057594037927936 * hops

/-- A whole message: header, payload and the CRC over both with HOPS taken as 0 (R241). -/
def spineBytes (type src station tick : Nat) (payload : List Nat) : List Nat :=
  let h := le 8 (spineHeader type src station ((payload.length + 4) / 8) tick 0)
  h ++ payload ++ le 4 (crc32 (h ++ payload))

/-- A message leaves on both ports, naming a tick; nothing while the active logic does not run (R242, R549). -/
def State.spineSend (s : State) (type tick : Nat) (payload : List Nat) : State :=
  if s.spnActive then s.emit (.spine 3 (spineBytes type s.device s.station tick payload)) else s

/-- The fields of a received header. -/
structure SpineHdr where
  /-- TYPE -/
  type : Nat
  /-- SOURCE -/
  src : Nat
  /-- STATION -/
  station : Nat
  /-- LENGTH -/
  len : Nat
  /-- TICK -/
  tick : Nat
  /-- HOPS -/
  hops : Nat
deriving DecidableEq, Repr

/-- A header read by Table 9-1. -/
def spineParse (h : Nat) : SpineHdr :=
  { type := bits h 0 8, src := bits h 8 9, station := bits h 17 5, len := bits h 22 6, tick := bits h 32 24
    hops := bits h 56 5 }

/-- The CRC of a received message is correct and its length is that of its header (R241). -/
def spineGood (h : Nat) (data : List Nat) : Bool :=
  let z := h - 72057594037927936 * bits h 56 5
  let n := data.length - 4
  data.length == 8 * bits h 22 6 && ofLe (data.drop n) == crc32 (le 8 z ++ data.take n)

/-- The other port. -/
def otherPort : Side → Nat
  | .a => 2
  | .b => 1

/-- An ECHO is addressed to the next device with running active logic, an ECHO_REPLY to the device whose ECHO waits for it
(R239, R242). -/
def State.spineMine (s : State) (type : Nat) (data : List Nat) : Bool :=
  let t := ofLe (data.take 4)
  type == 0x40 || (type == 0x41 && (s.spn.east.sentAt == some t || s.spn.west.sentAt == some t))

/-- A received message goes on out of the other port, with HOPS counted: always by the repeat path while KEEP is
powered, not where HOPS has reached 31; the active logic also takes off its own returning messages and the echoes
addressed to it (R242, R254, R255). -/
def State.spineForward (s : State) (p : Side) (h : Nat) (data : List Nat) : State :=
  let x := spineParse h
  let mine := s.spnActive && (x.src == s.device || s.spineMine x.type data)
  if !s.keepUp || 31 ≤ x.hops || mine then s
  else s.emit (.spine (otherPort p) (le 8 (h + 72057594037927936) ++ data))

/-- The active logic may use the message: it runs, the type is right, the CRC is correct, the station is its own, the
sender another device. -/
def State.spineUsable (s : State) (type h : Nat) (data : List Nat) : Bool :=
  let x := spineParse h
  s.spnActive && x.type == type && spineGood h data && x.station == s.station && x.src != s.device

/-- The first copy of (SOURCE, TYPE, TICK); item tells the messages of one type and tick apart (R242; log entry 13). -/
def State.firstCopy (s : State) (x : SpineHdr) (item : Nat) : Bool :=
  !(s.spn.seen.contains (x.src, x.type + 256 * item, x.tick))

/-- The copy has been used. -/
def State.markCopy (s : State) (x : SpineHdr) (item : Nat) : State :=
  s.mapSpn (fun n => { n with seen := (x.src, x.type + 256 * item, x.tick) :: n.seen })

/-- A message held later than its time: discarded, event 0x5213 once per forming period (R244). -/
def State.lateMsg (s : State) : State :=
  if s.spn.lateOnce then s else (s.mapSpn (fun n => { n with lateOnce := true })).note 0x5213 []

/-- A received message: forwarded; used by f where it is usable, a first copy, not late and names a tick that ok
accepts (R242, R244). -/
def State.spineTake (s : State) (p : Side) (type item : Nat) (h : Nat) (data : List Nat) (late : Bool)
    (ok : Nat → Bool) (f : SpineHdr → State → State) : State :=
  let x := spineParse h
  let use := s.spineUsable type h data && s.firstCopy x item
  let t := s.spineForward p h data
  if !use then t
  else if late then (t.markCopy x item).lateMsg
  else if ok x.tick then f x (t.markCopy x item)
  else t

/-- The message names the tick whose points come next. -/
def State.forThis (s : State) (t : Nat) : Bool := t == tick24 s.nextTick

/-- The message names the tick before it. -/
def State.forLast (s : State) (t : Nat) : Bool := t == tick24 (s.nextTick - 1)

/-- The number of the last tick of the present forming period: the next period begins at a multiple of F (R249). -/
def State.lastTick (s : State) : Nat := s.tick - s.tick % s.fp + s.fp - 1

/-- The message names the last tick of the present forming period, and it is running or over. -/
def State.forPeriod (s : State) (t : Nat) : Bool := t == tick24 s.lastTick && s.fp ≤ s.k + 2

/-! ### The ring (R239, R240, R246, R270, R273) -/

/-- One port. -/
def State.port (s : State) : Side → SpinePort
  | .a => s.spn.east
  | .b => s.spn.west

/-- One port changed. -/
def State.mapPort (s : State) (p : Side) (f : SpinePort → SpinePort) : State :=
  s.mapSpn (fun n => match p with
    | .a => { n with east := f n.east }
    | .b => { n with west := f n.west })

/-- The delay and hops of a port as the roll call publishes them: 0 hops for a segment that is broken or not measured
(log entry 13). -/
def SpinePort.shown (x : SpinePort) : Nat × Nat := if x.lock && x.measured then (x.seg, x.hops) else (0, 0)

/-- The tick-length code of MARKER and ROLL_CALL. -/
def State.tickCode (s : State) : Nat := if s.mode.tickLen = 4 then 2 else if s.mode.tickLen = 2 then 1 else 0

/-- The arm index of this device's span (R245). -/
def State.ownArm (s : State) : Nat := s.ARM_PHASE + 4 * s.ARM_POLE

/-- The six arms have an arm lead in FORMING or with an entry pending among the roll calls (R257, R259). -/
def allArms (cs : List RollCall) : Bool :=
  [0, 4, 1, 5, 2, 6].all (fun a => cs.any (fun c =>
    c.arm == a && bit c.flags 6 && (c.mode == 3 || bit c.flags2 5)))

/-- The candidate flags may be set: the position lease is held, or the hand-back has raised the epoch (R434, R444). -/
def State.mayLead (s : State) : Bool := s.holdsLease || s.dpx.hbRaised

/-- The device is the holder in the last tick before a hand-back: its CAND_RUN is 0 (R444). -/
def State.handsOver (s : State) : Bool := s.holdsLease && s.dpx.hbB != 0 && s.dpx.hbB == s.tick + 1 && s.dpx.hbAck

/-- QUORUM (R257). -/
def State.quorumNow (s : State) : Bool := allArms s.spn.roster

/-- CAND_RUN (R258). -/
def State.candRunNow (s : State) : Bool :=
  s.LEAD_ENABLE == 1 && s.isRun .form && s.mode.mode == .forming && s.form.valid && s.quorumNow && s.mayLead && !s.handsOver

/-- CAND_NEW (R258). -/
def State.candNewNow (s : State) : Bool :=
  s.LEAD_ENABLE == 1 && s.isRun .form && s.mode.pend.isSome && s.mayLead

/-- The device's own roll call for a tick (Table 9-5). -/
def State.ownCall (s : State) : RollCall :=
  let e := s.spn.east.shown
  let w := s.spn.west.shown
  { src := s.device, tick := s.tick, mode := s.mode.mode.code, sub := s.mode.sub
    flags := flagBits [s.isRun .form, s.form.valid, s.candRunNow, s.candNewNow, s.spn.leader == some s.device,
      s.quorumNow, s.ARM_LEAD == 1, s.spn.locked]
    flags2 := flagBits [s.spn.isMaster, s.TICK_MASTER_EN == 1, s.spn.budget, bit s.tickCode 0, bit s.tickCode 1,
      s.mode.pend.isSome]
    pos := s.POSITION, arm := s.ownArm, epoch := s.dpx.epoch, view := s.spn.leader.getD 65535
    segE := e.1, segW := w.1, hopsE := e.2, hopsW := w.2, place := 0 }

/-- The roll calls as a ring, this device first, then going west. -/
def State.ring (s : State) : List RollCall :=
  s.ownCall :: sortBy (fun c => c.place) (s.spn.roster.filter (fun c => c.src != s.device))

/-- The link from entry i to its west neighbour, going west: delay and hops, where it is intact. -/
def linkW (r : List RollCall) (i : Nat) : Option (Nat × Nat) :=
  match r[i % r.length]?, r[(i + 1) % r.length]? with
  | some a, some b => if 2 ≤ r.length && a.hopsW != 0 && b.hopsE != 0 then some (a.segW, a.hopsW) else none
  | _, _ => none

/-- The same link going east. -/
def linkE (r : List RollCall) (i : Nat) : Option (Nat × Nat) :=
  match r[i % r.length]?, r[(i + 1) % r.length]? with
  | some a, some b => if 2 ≤ r.length && a.hopsW != 0 && b.hopsE != 0 then some (b.segE, b.hopsE) else none
  | _, _ => none

/-- The sum over n links from link i; none where one is not intact. -/
def pathSum (link : Nat → Option (Nat × Nat)) : Nat → Nat → Option (Nat × Nat)
  | 0, _ => some (0, 0)
  | n + 1, i => match link i, pathSum link n (i + 1) with
    | some a, some b => some (a.1 + b.1, a.2 + b.2)
    | _, _ => none

/-- Delay and hops from entry i to entry j, going west and going east. -/
def pathsOf (r : List RollCall) (i j : Nat) : Option (Nat × Nat) × Option (Nat × Nat) :=
  let n := r.length
  let w := (j + n - i) % n
  (pathSum (linkW r) w i, pathSum (linkE r) ((n - w) % n) j)

/-- The delay of the shorter direction, where one is intact. -/
def shorter (p : Option (Nat × Nat) × Option (Nat × Nat)) : Option Nat :=
  match p with
  | (some a, some b) => some (min a.1 b.1)
  | (some a, none) => some a.1
  | (none, some b) => some b.1
  | (none, none) => none

/-- P_max (R240). -/
def pathMax (r : List RollCall) : Nat :=
  let n := r.length
  maxN 0 ((List.range n).flatMap (fun i => (List.range n).filterMap (fun j =>
    if i = j then none else shorter (pathsOf r i j))))

/-- The ring budget is met (R240). -/
def State.budgetMet (s : State) (r : List RollCall) : Bool :=
  r.all (fun c => c.segE ≤ 65 * c.hopsE && c.segW ≤ 65 * c.hopsW) && pathMax r + 400 ≤ s.tickNs

/-- The active device of a position: a roll call with a mode other than STANDBY, the newer epoch first (R256, R434). -/
def State.activeOf (s : State) (pos : Nat) : Option Nat :=
  let cs := s.spn.roster.filter (fun c => c.pos == pos && c.mode != 4)
  match cs with
  | [] => none
  | c :: rest => some (rest.foldl (fun a b => if 0 < (b.epoch + 65536 - a.epoch) % 65536 && (b.epoch + 65536 - a.epoch) % 65536 < 32768 then b else a) c).src

/-- Neither direction reaches the partner span within 3 hops and 3 × 65 ns; neither does so where no roll call of it is held
(R270). -/
def State.partnerFar (s : State) (r : List RollCall) : Bool :=
  match s.activeOf s.ARM_PARTNER_POS with
  | none => true
  | some d =>
    match r.findIdx? (fun c => c.src == d) with
    | none => true
    | some i =>
      let (w, e) := pathsOf r 0 i
      let near (p : Option (Nat × Nat)) := match p with | some x => x.2 ≤ 3 && x.1 ≤ 195 | none => false
      !(near w || near e)

/-- Member: the conditions of R250 hold; becoming one is recorded. -/
def State.memberJudge (s : State) : State :=
  let m := s.spnActive && !s.spn.foreign && s.spn.locked && s.spn.budget
  let was := s.spn.member
  let s := s.mapSpn (fun n => { n with member := m })
  if m && !was then s.note 0x5201 [] else s

/-- Path delays, D_m, the budget, the reach of the partner and membership, from the roll calls and the own segments. -/
def State.ringJudge (s : State) : State :=
  let r := s.ring
  let ok := s.budgetMet r
  let s := s.mapSpn (fun n => { n with budget := ok, pathMax := min 65535 (pathMax r) })
  let s := if ok then s.warnOff 0x5212 0 else s.warnOn 0x5212 0 []
  let s := match s.spn.master.bind (fun m => r.findIdx? (fun c => c.src == m)) with
    | some i =>
      -- from the master to this device: eastward it arrives on SPN_W, westward on SPN_E
      let (w, e) := pathsOf r i 0
      s.mapSpn (fun n => { n with
        east := { n.east with dm := (w.map (fun x : Nat × Nat => x.1)).getD n.east.dm }
        west := { n.west with dm := (e.map (fun x : Nat × Nat => x.1)).getD n.west.dm } })
    | none => s
  s.memberJudge

/-- The reach of the partner is judged at every roll call (R270). -/
def State.reachJudge (s : State) : State :=
  if s.ARM_PARTNER_POS != 255 && s.partnerFar s.ring then
    (s.mapSpn (fun n => { n with hopsEp := true })).warnOn 0x5214 0 []
  else (s.mapSpn (fun n => { n with hopsEp := false })).warnOff 0x5214 0

/-! ### Segments (R239, R273) -/

/-- An ECHO that measures the segment of a port leaves; like every message it goes out on both ports (R239, R242). -/
def State.sendEcho (s : State) (p : Side) : State :=
  let s := s.mapPort p (fun x => { x with sentAt := some (s.now % 4294967296) })
  s.spineSend 0x40 s.tick (le 4 s.now)

/-- A measurement of the segment of a port begins: 16 exchanges (R239). -/
def State.segMeasure (s : State) (p : Side) : State :=
  if s.spnActive && (s.port p).lock then (s.mapPort p (fun x => { x with echoes := [] })).sendEcho p else s

/-- SEGMENT_MEASURE (R239): every 1 s, and when the device joins the ring. -/
def execSegmentMeasure (p : Side) (s : State) : Out := .next (s.segMeasure p)

/-- The echoes of one tick are told apart by their send time and the port they came in by, since each direction is measured on
its own (R239, R242; log entry 13). -/
def echoItem (p : Side) (data : List Nat) : Nat := 1 + p.code + 2 * ofLe (data.take 4)

/-- SPINE_ECHO (R239): the first copy on a port is answered; hold is the time from receipt to reply. -/
def execSpineEcho (p : Side) (header : BitVec 64) (data : List Nat) (hold : BitVec 16) (s : State) : Out :=
  let h := header.toNat
  let x := spineParse h
  let item := echoItem p data
  let use := s.spineUsable 0x40 h data && s.firstCopy x item
  let s := s.spineForward p h data
  .next (if use then
      (s.markCopy x item).spineSend 0x41 s.tick (data.take 4 ++ le 2 hold.toNat ++ List.replicate 6 0)
    else s)

/-- Round trips less hold times whose one-way delays agree within 2 ns: the mean one-way delay, rounded to the nearest ns (R239;
log entry 13). -/
def echoResult (es : List Nat) : Option Nat :=
  let hi := maxN 0 es
  let lo := es.foldl Nat.min hi
  if hi ≤ lo + 4 then some (divNearUp (sumN es : Nat) (2 * es.length)).toNat else none

/-- A segment is measured: it counts in the paths, and a broken one is back in use (R239, R273). -/
def State.segDone (s : State) (p : Side) (ns hops : Nat) : State :=
  let s := s.mapPort p (fun x => { x with seg := min 65535 ns, hops := hops, measured := true, echoes := [], sentAt := none })
  let s := if s.mode.warns.contains ⟨4, 0x5210, p.code⟩ then (s.warnOff 0x5210 p.code).note 0x5211 (le 2 p.code) else s
  s.ringJudge

/-- SPINE_ECHO_REPLY (R239): rx is the time of receipt in ns, modulo 2^32. -/
def execSpineEchoReply (p : Side) (header : BitVec 64) (data : List Nat) (rx : BitVec 32) (s : State) : Out :=
  let h := header.toNat
  let x := spineParse h
  let item := echoItem p data
  let sent := ofLe (data.take 4)
  let use := s.spineUsable 0x41 h data && (s.port p).lock && s.firstCopy x item && (s.port p).sentAt == some sent
  let s := s.spineForward p h data
  .next (if use then
      let s := s.markCopy x item
      let trip := (rx.toNat + 4294967296 - sent) % 4294967296
      let es := (trip - ofLe ((data.drop 4).take 2)) :: (s.port p).echoes
      if es.length < 16 then (s.mapPort p (fun y => { y with echoes := es })).sendEcho p
      else match echoResult es with
        | some ns => s.segDone p ns (x.hops + 1)
        | none => (s.mapPort p (fun y => { y with echoes := [] })).sendEcho p
    else s)

/-- SPINE_PORT_LOCK_LOST (R273): the segment is left out of the paths. -/
def execSpinePortLockLost (p : Side) (s : State) : Out :=
  .next (if (s.port p).lock then
      ((s.mapPort p (fun x => { x with lock := false, measured := false, echoes := [], sentAt := none })).warnOn 0x5210 p.code
        (le 2 p.code)).ringJudge
    else s)

/-- SPINE_PORT_RESTORED (R273): the port has block lock; its segment is measured anew. -/
def execSpinePortRestored (p : Side) (s : State) : Out :=
  .next (if (s.port p).lock then s else (s.mapPort p (fun x => { x with lock := true })).segMeasure p)

/-! ### The tick marker (R246 to R253) -/

/-- The device becomes unlocked (R247). -/
def State.lockLost (s : State) : State :=
  if s.spn.locked then
    ((s.mapSpn (fun n => { n with locked := false, lockRun := 0 })).warnOn 0x5202 0 []).memberJudge
  else s

/-- The device becomes locked (R247). -/
def State.lockGot (s : State) : State :=
  if s.spn.locked then s else ((s.mapSpn (fun n => { n with locked := true })).warnOff 0x5202 0).memberJudge

/-- The marker of another station or tick length (R250). -/
def State.foreignMarker (s : State) (src station code : Nat) : State :=
  ((s.mapSpn (fun n => { n with foreign := true, foreignEp := true })).warnOn 0x5205 0
    (le 2 src ++ [station, code])).memberJudge

/-- The master that is followed changes (R251, R252). -/
def State.follow (s : State) (src : Nat) : State :=
  if s.spn.master == some src then s
  else
    let s := if s.spn.master.isSome then s.note 0x5204 [] else s
    let s := if s.spn.isMaster then
        (s.mapSpn (fun n => { n with isMaster := false, lockRun := 0 })).lockLost
      else s
    (s.mapSpn (fun n => { n with master := some src })).ringJudge

/-- The copy of a port sets the phase error: own tick edge less arrival less D_m, 0.125 ns; of two copies the one with the smaller
D_m counts (R246, R247). -/
def State.markerPhase (s : State) (p : Side) (arrival : Int) : State :=
  let d := (s.port p).dm
  let o := (s.port (match p with | .a => .b | .b => .a)).dm
  if s.spn.gotMarker && o ≤ d then s
  else
    let e := (d : Int) * 8 - arrival
    let s := s.mapSpn (fun n => { n with phase := clampI (-32768) 32767 e, gotMarker := true })
    if 200 < absI e then s.lockLost else s

/-- How many ticks after the tick edge that comes next the marker-derived edge of a copy lies (R246). -/
def State.markerLag (s : State) (p : Side) (arrival : Int) : Int :=
  divNearUp (arrival - (s.port p).dm * 8) (8 * s.tickNs)

/-- A marker that is followed: its TICK is checked against the own count of the tick that its edge begins (R248); of the tick to
come the phase is taken, a copy that is late for its tick is not used (R242, R246). -/
def State.goodMarker (s : State) (p : Side) (x : SpineHdr) (arrival : Int) : State :=
  let s := (s.mapSpn (fun n => { n with foreign := false, foreignEp := false })).warnOff 0x5205 0
  let s := s.follow x.src
  let j := s.markerLag p arrival
  if x.tick != tick24 ((s.nextTick : Int) + j).toNat then (s.mapSpn (fun n => { n with numbered := false })).lockLost
  else if j != 0 then s
  else (s.markerPhase p arrival).memberJudge

/-- MARKER (R246 to R251): arrival is the time of its start block after the own tick edge, 0.125 ns. -/
def execMarkerMsg (p : Side) (header : BitVec 64) (data : List Nat) (arrival : Int) (s : State) : Out :=
  let h := header.toNat
  let x := spineParse h
  let code := entry data 0 0
  let ok := s.spnActive && x.type == 0x01 && spineGood h data && x.src != s.device && s.firstCopy x p.code
  let own := x.station == s.station
  let t := s.spineForward p h data
  let t := if ok && own then (t.markCopy x p.code).mapSpn (fun n => { n with heard := true }) else t
  .next (if !ok then t
    else if !own || code != s.tickCode then t.foreignMarker x.src x.station code
    else if s.spn.isMaster then (if x.src < s.device then t.goodMarker p x arrival else t)
    else match s.spn.master with
      | some m => if x.src ≤ m || s.MARKER_MISS_MAX ≤ s.spn.markMiss then t.goodMarker p x arrival else t
      | none => t.goodMarker p x arrival)

/-- The device becomes tick master (R247, R251, R252). -/
def State.becomeMaster (s : State) : State :=
  ((s.mapSpn (fun n => { n with
    isMaster := true, master := some s.device, phase := 0, markMiss := 0, lossRun := 0, numbered := true
    foreign := false })).lockGot).ringJudge

/-- MARKER_WAIT_EXPIRY (R251): no marker of the station since the active logic started. -/
def execMarkerWaitExpiry (s : State) : Out :=
  .next (if s.spnActive && s.TICK_MASTER_EN == 1 && !s.spn.heard && !s.spn.isMaster &&
      s.MARKER_WAIT ≤ s.spn.markWait then s.becomeMaster else s)

/-- The master named when the old one's marker is missing: the lowest-numbered other device of the last roll call with
TICK_MASTER_EN = 1 and locked (R252). -/
def State.nextMaster (s : State) : Option Nat :=
  let ok := s.spn.roster.filter (fun c => bit c.flags2 1 && bit c.flags 7 && some c.src != s.spn.master)
  match ok.map (fun c => c.src) with
  | [] => none
  | d :: ds => some (ds.foldl Nat.min d)

/-- The master's marker has been missing for MARKER_MISS_MAX ticks: unlocked, and a new master is named (R247,
R252). -/
def State.markerMissing (s : State) : State :=
  match s.nextMaster with
  | some d =>
    let s := s.note 0x5204 []
    if d = s.device then s.becomeMaster
    else ((s.lockLost).mapSpn (fun n => { n with master := some d, markMiss := 0 })).ringJudge
  | none => s.lockLost

/-- MARKER_MISSING (R252). -/
def execMarkerMissing (s : State) : Out :=
  .next (if s.spnActive && !s.spn.isMaster && s.spn.master.isSome && s.MARKER_MISS_MAX ≤ s.spn.markMiss
    then s.markerMissing
    else if s.mode.mode == .standby && s.mode.sub == 1 then
      s.mapPwr (fun p => { p with wake := p.wake.map (fun w => { w with counted := false }) })
    else s)

/-- MARKER_LOSS_TRIP (R253). -/
def execMarkerLossTrip (s : State) : Out :=
  .next (if s.mode.mode == .forming && !s.spn.isMaster && s.MARKER_LOSS_TRIP ≤ s.spn.lossRun && s.isRun .trunk
    then s.trip 0x5203 .trunk [] else s)

/-- Consecutive ticks within 5 ns that make the device locked: 1000, in a takeover 64 (R247, Table 15-8). -/
def State.lockTicks (s : State) : Nat := if s.takingOver then 64 else 1000

/-- TICK_LOCK_ACQUIRED (R247): 1000 consecutive ticks within 5 ns, in a takeover 64. -/
def execTickLockAcquired (s : State) : Out :=
  .next (if s.spnActive && s.lockTicks ≤ s.spn.lockRun then s.lockGot else s)

/-- The tick servo sets the trim of PLL A once per tick from the phase error: a free value of its range, since the manual gives no
law for it. It stands still while PLL A is neither LOCKED nor in RELOCK_P, or runs on its backup (R247, R323; log entry 134). -/
def State.tickServo (s : State) : State :=
  let a := s.clk.pll 0
  if (a.st == .locked || a.st == .relockP) && !a.backup then
    { s.drawn with clk := { s.clk with trim := (s.freeNat % 40001 : Nat) - 20000 } }
  else s

/-- The spine at a tick edge: the master's own marker, or the judgement of the marker of the tick that begins (R246,
R247, R251). -/
def State.markerTick (s : State) : State :=
  if !s.spnActive then s.mapSpn (fun n => { n with gotMarker := false })
  else if s.spn.isMaster then
    let s := s.spineSend 0x01 s.tick ([s.tickCode] ++ [0, 0, 0])
    s.mapSpn (fun n => { n with phase := 0, markMiss := 0, lossRun := 0, gotMarker := false })
  else
    let n := s.spn
    if n.gotMarker then
      let run := if absI n.phase ≤ 40 then min (n.lockRun + 1) 1000 else 0
      let s := s.mapSpn (fun n => { n with lockRun := run, markMiss := 0, lossRun := 0, gotMarker := false })
      (if s.lockTicks ≤ run && s.spn.numbered then s.lockGot else s).tickServo
    else
      let s := s.mapSpn (fun n => { n with
        lockRun := 0, markMiss := satU 32 (n.markMiss + 1), lossRun := satU 32 (n.lossRun + 1)
        markWait := if n.heard then n.markWait else satU 32 (n.markWait + 1) })
      if s.MARKER_MISS_MAX ≤ s.spn.lossRun then s.lockLost else s

/-! ### Roll call (R256, R248) -/

/-- The payload of a roll call (Table 9-5). -/
def RollCall.payload (c : RollCall) : List Nat :=
  le 8 c.tick ++ [c.mode + 16 * c.sub, c.flags, c.flags2, c.pos, c.arm, 0] ++ le 2 c.epoch ++ le 2 c.view ++
    le 2 c.segE ++ le 2 c.segW ++ [c.hopsE, c.hopsW, 0, 0, 0, 0]

/-- A received roll call; its place in the ring follows from the port it came in by and the hops it travelled. -/
def RollCall.ofBytes (p : Side) (x : SpineHdr) (b : List Nat) : RollCall :=
  let f (i n : Nat) := ofLe ((b.drop i).take n)
  { src := x.src, tick := f 0 8, mode := f 8 1 % 8, sub := f 8 1 / 16 % 8, flags := f 9 1, flags2 := f 10 1, pos := f 11 1
    arm := f 12 1, epoch := f 14 2, view := f 16 2, segE := f 18 2, segW := f 20 2, hopsE := f 22 1, hopsW := f 23 1
    place := match p with | .b => 1 + x.hops | .a => 1000 - x.hops }

/-- The full tick number of the master's roll call is taken; a forming period begins at every multiple of F (R248,
R249). -/
def State.takeNumber (s : State) (n : Nat) : State :=
  { s with tick := n, k := n % s.fp, spn := { s.spn with numbered := true } }

/-- A roll call is held (R256). -/
def State.holdCall (s : State) (c : RollCall) : State :=
  s.mapSpn (fun n => { n with calls := n.calls.filter (fun d => d.src != c.src) ++ [c] })

/-- ROLL_CALL (R248, R256). -/
def execRollCall (p : Side) (header : BitVec 64) (data : List Nat) (late : Bool) (s : State) : Out :=
  let x := spineParse header.toNat
  let c := RollCall.ofBytes p x data
  let renumber := s.spn.master == some x.src && !s.spn.numbered && !s.edge && !late
  .next (s.spineTake p 0x20 0 header.toNat data late (fun t => renumber || s.forPeriod t) (fun _ s =>
    let s := if renumber then s.takeNumber c.tick else s
    (s.holdCall c)))

/-- The roll calls of tick F − 1 become the roster of the period that begins; paths, budget and reach follow (R239,
R240, R256, R270). -/
def State.takeRoster (s : State) : State :=
  let s := s.mapSpn (fun n => { n with roster := n.calls, calls := [], lateOnce := false })
  if s.spnActive then s.ringJudge.reachJudge else s

/-- The leader of the period that begins (R259). -/
def electFrom (cs : List RollCall) : Option Nat :=
  let low (l : List Nat) : Option Nat := match l with | [] => none | d :: ds => some (ds.foldl Nat.min d)
  match low ((cs.filter (fun c => bit c.flags 2)).map (fun c => c.src)) with
  | some d => some d
  | none => if allArms cs then low ((cs.filter (fun c => bit c.flags 3)).map (fun c => c.src)) else none

/-- The leader was chosen from CAND_NEW: no roll call carries CAND_RUN (R259, R260). -/
def newLeader (cs : List RollCall) : Bool := (electFrom cs).isSome && cs.all (fun c => !(bit c.flags 2))

/-- The election at tick k = 0, with its events; the forming state of a device in FORMING that leads is valid for as long as it
leads (R259 to R262). -/
def State.elect (s : State) : State :=
  let l := electFrom s.spn.roster
  let old := s.spn.leader
  let s := s.mapSpn (fun n => { n with leader := l, noLeadEp := l.isNone, voted := true })
  let s := if l == some s.device && s.mode.mode == .forming then
      (s.mapForm (fun f => { f with valid := true, barred := false, mism := 0 })).warnOff 0x1031 0
    else s
  let s := if l == old then s
    else (s.mapSpn (fun n => { n with changes := incSat 32 n.changes })).note 0x5220 (le 2 (old.getD 65535) ++ le 2 (l.getD 65535))
  if !s.spnActive then s
  else if l.isNone then s.warnOn 0x5221 0 [] else s.warnOff 0x5221 0

end Sys2Proof.Machine
end

