-- ==== Sys2Proof/Machine/ArmLaw.lean ====
section
/-! DEFINITION. Hysteretic arm current control (06): the arm current, the references in force, the count law of each
tick, the split between two spans, and the messages SHARE, REPORT, ARM_STATE and SPAN_PUB (09). -/
namespace Sys2Proof.Machine

/-! ### Arm current and references (R153, R154, R112, R265) -/

/-- An input's value in PU32: full scale, 2^23, stands for the scale object (Tables 4-9, 6-4; log entry 14). -/
def scaled (value : Int) (scale : Int) : Int := sat32 (rsh 23 (value * scale))

/-- The latched arm current, PU32 on I_BASE (R153). -/
def State.armIm (s : State) : Int :=
  if s.ARM_I_CH = 255 then 0
  else
    let i := scaled (s.ain s.ARM_I_CH).value s.ARM_I_SCALE
    if s.ARM_I_INVERT == 1 then sat32 (0 - i) else i

/-- The arm-current channel is valid and not frozen (R301). -/
def State.armImOk (s : State) : Bool :=
  s.ARM_I_CH != 255 && bit (s.ain s.ARM_I_CH).flags 0 && !(bit (s.ain s.ARM_I_CH).flags 3)

/-- The channel is lost, or not valid (R166). -/
def State.armLost (s : State) : Bool :=
  let f := (s.ain s.ARM_I_CH).flags
  s.ARM_I_CH == 255 || bit f 1 || bit f 2 || !(bit f 0)

/-- The channel is flagged frozen (R166). -/
def State.armFrozen (s : State) : Bool := s.ARM_I_CH != 255 && bit (s.ain s.ARM_I_CH).flags 3

/-- This span is arm lead of a two-span arm. -/
def State.leads2 (s : State) : Bool := s.ARM_LEAD == 1 && s.ARM_PARTNER_POS != 255

/-- shift_x of the arm's phase, TURN32 (R112). -/
def State.armShift (s : State) : Nat := match s.ARM_PHASE with | 0 => 0 | 1 => 0xAAAAAAAB | _ => 0x55555555

/-- a·cos φ − b·sin φ at a 64-bit angle, one shift (R112, R154, R544). -/
def rotated (a b : Int) (phi : Nat) : Int := sat32 (rsh 24 (a * cosPu (turn32 phi) - b * sinPu (turn32 phi)))

/-- k of the set in force, counting on while it is extended (R164). -/
def State.refK (s : State) : Nat := s.k + (if s.arm.extended then s.fp else 0)

/-- The arm voltage reference for apply tick k + d, PU32 (R112, R155). -/
def State.armVoltage (s : State) (r : RefSet) : Int :=
  let phi := ang64 ((r.theta0 : Int) + s.refK * r.dtheta + s.armShift * 4294967296)
  let v := rotated r.vd r.vq phi
  sat32 (if s.ARM_POLE = 0 then r.uh - v else r.uh + v)

/-- The arm-current reference (R154, R265). -/
def State.armRef (s : State) (r : RefSet) : Int :=
  let g := groupDelay (s.RESPONSE s.ARM_I_CH) s.tickNs
  let phi := ang64 ((r.theta0 : Int) + ((s.refK : Int) - s.APPLY_DELAY) * r.dtheta - rsh 16 (g * r.dtheta : Nat) +
    s.armShift * 4294967296)
  let ix := rotated s.arm.idq.1 s.arm.idq.2 phi
  let leg := entry r.legs s.ARM_PHASE (0, 0)
  let cm := sat32 (leg.1 + mulPu leg.2 (rotated r.vd r.vq phi))
  sat32 (cm + rsh 1 (if s.ARM_POLE = 0 then ix else 0 - ix))

/-! ### The count (R155 to R159) -/

/-- The step for an error and a band (R155). -/
def armStep (e b : Int) : Int :=
  if 3 * b < e then -4 else if 2 * b < e then -2 else if b < e then -1
  else if e < 0 - 3 * b then 4 else if e < 0 - 2 * b then 2 else if e < 0 - b then 1 else 0

/-- The correction after a step, judged after the step, never moved back (R155). -/
def correction (nc step nff nav cmax : Int) : Int :=
  let n1 := clampI (0 - cmax) cmax (nc + step)
  let n1 := if 0 < step then max nc (min n1 (nav - nff)) else n1
  if step < 0 then min nc (max n1 (0 - nff)) else n1

/-- n_ff from a reference in PU32: nearest, ties upward; 0 where it is not above 0 (R155). A mean of 0 gives a free
value, since the manual states no result there (log entry 14). -/
def State.feedforward (s : State) (u : Int) : Nat × State :=
  if u ≤ 0 then (0, s)
  else if s.arm.sumV = 0 then (s.freeNat % 513, s.drawn)
  else ((divNearUp (u * s.V_BASE * 16 * s.arm.nAv) (16777216 * s.arm.sumV)).toNat, s)

/-- The other span's share (R159). -/
def shareOf (n aO a : Nat) : Nat := if a = 0 then 0 else (2 * n * aO + a) / (2 * a)

/-- Events of the count (R156). -/
def State.countEvents (s : State) (limited : Bool) : State :=
  let at_ := 0 < s.C_MAX && absI s.arm.nc == s.C_MAX
  let s := if at_ then s.warnOn 0x2002 0 [] else s.warnOff 0x2002 0
  let once := limited && !s.arm.once2001
  let s := if once then s.note 0x2001 [] else s
  s.mapArm (fun a => { a with cLimit := at_, clamp := limited, once2001 := a.once2001 || once })

/-- The count of a tick in which the set r is in force (R155, R157, R158). -/
def State.armCount (s : State) (r : RefSet) : State :=
  let u := s.armVoltage r
  let (nff, s) := if s.arm.nAv = 0 then (0, s) else s.feedforward u
  let iRef := s.armRef r
  let e := sat32 (iRef - s.arm.im)
  let nav : Int := s.arm.nAv
  let step := if s.arm.fresh then 0 else armStep e (s.HBAND s.law.region)
  let nc := if s.arm.fresh then 0 else correction s.arm.nc step nff nav s.C_MAX
  let raw : Int := nff + nc
  let n := if s.arm.nAv = 0 then 0 else clampI 0 nav raw
  let s := s.mapArm (fun a => { a with
    nff := min nff 65535, iRef := iRef, err := e, step := step, nc := nc, count := n.toNat, fresh := false })
  s.countEvents (n != raw)

/-! ### Blocks (R160, R164, R271) -/

/-- A cause of rule 1 of Table 7-2 other than the absence of references: not FORMING, a block request, ARM or SELECT
not RUNNING. -/
def State.ruleOne (s : State) : Bool :=
  s.mode.mode != .forming || s.blockLine || !(s.isRun .arm) || !(s.isRun .select)

/-- What the arm law hands to the selector of a tick. -/
structure ArmTick where
  /-- target t; R191 (07) -/
  t : Nat
  /-- rule 1 acts; R160 (06) -/
  block : Bool
  /-- rule 2 acts; R161 (06) -/
  hold : Bool
  /-- rule 1 acts for a cause other than the absence of references; R271 (09) -/
  armBlock : Bool
deriving DecidableEq, Repr

/-- The channel is flagged lost in FORMING (R166). -/
def State.lostTrip (s : State) : State :=
  if s.armLost then (s.mapArm (fun a => { a with iLost := true })).trip 0x2010 .arm [] else s

/-- The channel is flagged frozen in FORMING; a flag that was raised in BLOCKED does not fault (R166, R167). -/
def State.frozenTrip (s : State) : State :=
  if s.armFrozen && !s.arm.ep2012 then (s.mapArm (fun a => { a with iFrozen := true })).trip 0x2011 .arm [] else s

/-- The channel's loss in FORMING faults ARM, with an event for each flag of the latch; a flag raised in BLOCKED is recorded
(R166, R167, R169). -/
def State.armFeedback (s : State) : State :=
  if s.ARM_LEAD != 1 || !(s.isRun .arm) then s
  else if s.mode.mode == .forming then
    (s.mapArm (fun a => { a with ep2012 := a.ep2012 && s.armFrozen })).lostTrip.frozenTrip
  else if s.mode.mode == .blocked && s.armFrozen then
    (s.mapArm (fun a => { a with ep2012 := true })).warnOn 0x2012 0 []
  else (s.mapArm (fun a => { a with ep2012 := false })).warnOff 0x2012 0

/-- The flag of the share sent in a tick (R162). -/
def State.flagOf (s : State) (n : Nat) : Option Bool := (s.arm.flags.find? (fun f => f.1 == n)).map (fun f => f.2)

/-- ARM of the lead faults: the other span blocked or silent (R162). -/
def State.partnerTrip (s : State) : State := s.trip 0x2040 .arm []

/-- An arm in FORMING whose ARM is RUNNING. -/
def State.armForms (s : State) : Bool := s.mode.mode == .forming && s.isRun .arm

/-- The lead of a two-span arm counts the ticks without a report; live says that it forms as the tick begins (R162, R169). -/
def State.reportTick (s : State) (n : Nat) (live : Bool) : State :=
  if !s.leads2 then s.mapArm (fun a => { a with repMiss := 0, partnerBlk := false })
  else
    let got := match s.arm.report with | some r => r.tick + 1 == n | none => false
    let miss := if got then 0 else satU 8 (s.arm.repMiss + 1)
    let blk := got && (match s.arm.report with | some r => r.block | none => false)
    let s := s.mapArm (fun a => { a with repMiss := miss, partnerBlk := blk })
    if live && s.SHARE_MISS_MAX ≤ miss then s.partnerTrip else s

/-- SHARE of a tick leaves (R159, R160, Table 9-3). -/
def State.sendShare (s : State) (no : Nat) (block : Bool) : State :=
  let s := s.mapArm (fun a => { a with share := no, flags := (s.tick, block) :: a.flags.take 3 })
  if s.holdsLease then
    s.spineSend 0x10 s.tick (le 2 no ++ leI 4 s.arm.im ++ [b2n s.arm.imOk + 2 * b2n block, s.ownArm] ++ [0, 0, 0, 0])
  else s

/-- No interval was held: event 0x2107 once per forming period (R191). -/
def State.noInterval (s : State) : State :=
  let once := s.cell.once2107
  let s := s.mapCellS (fun c => { c with noIval := true, once2107 := true })
  if once then s else s.note 0x2107 []

/-- The lead's own target: less the other span's interval where its report of the last tick holds one (R191). -/
def State.leadTarget (s : State) (n no : Nat) : Nat × State :=
  match s.arm.report with
  | some r =>
    if r.tick + 1 == s.tick then (n - clampN no r.lo r.hi, s)
    else (n - no, s.noInterval)
  | none => (n - no, s.noInterval)

/-- The arm lead's tick (R155 to R160, R164). -/
def State.leadTick (s : State) : ArmTick × State :=
  let s := (s.armFeedback).reportTick s.tick s.armForms
  let rule := s.ruleOne
  match rule, s.arm.refs with
  | false, some r =>
    let s := s.armCount r
    let n := s.arm.count
    if s.leads2 then
      let no := shareOf n s.arm.avOther s.arm.nAv
      let s := s.sendShare no false
      let (t, s) := s.leadTarget n no
      ({ t := t, block := false, hold := false, armBlock := false }, s)
    else ({ t := n, block := false, hold := false, armBlock := false }, s)
  | _, _ =>
    let s := s.mapArm (fun a => { a with count := 0, step := 0, clamp := false })
    let s := if s.leads2 then s.sendShare 0 true else s
    ({ t := 0, block := true, hold := false, armBlock := rule }, s)

/-- A share is expected: a span with ARM_LEAD = 0 in FORMING with ARM RUNNING (R161). -/
def State.expectsShare (s : State) : Bool := s.ARM_LEAD == 0 && s.mode.mode == .forming && s.isRun .arm

/-- The share held for a tick. -/
def State.shareFor (s : State) (n : Nat) : Option ShareMsg :=
  match s.arm.held with | some h => if h.tick = n then some h else none | none => none

/-- A share is missed: HOLD, event 0x2020 once per forming period, counts (R161). -/
def State.missShare (s : State) : State :=
  let once := s.arm.once2020
  let s := s.mapArm (fun a => { a with
    holdNow := true, once2020 := true, misses := incSat 32 a.misses, missRun := satU 8 (a.missRun + 1) })
  if once then s else s.note 0x2020 []

/-- SHARE_MISS_MAX consecutive misses fault ARM (R161). -/
def State.missTrip (s : State) : State :=
  if s.expectsShare && s.SHARE_MISS_MAX ≤ s.arm.missRun then s.trip 0x2021 .arm [] else s

/-- The tick of a span with ARM_LEAD = 0 (R160, R161, R169). -/
def State.followTick (s : State) : ArmTick × State :=
  let share := s.shareFor s.tick
  let s := if s.expectsShare && share.isNone && !s.arm.holdNow then s.missShare else s
  let s := if s.expectsShare && share.isNone then s.missTrip else s
  let held := s.arm.holdNow
  let s := s.mapArm (fun a => { a with holdNow := false })
  let rule := s.ruleOne
  match share with
  | some h =>
    let s := s.mapArm (fun a => { a with missRun := 0, count := h.no, im := h.im, imOk := h.imOk })
    ({ t := h.no, block := rule || h.block, hold := false, armBlock := rule }, s)
  | none => ({ t := 0, block := rule, hold := held, armBlock := rule }, s)

/-- The arm law of the present tick, up to the share points of Table 1-3; i_m enters the history of R181. -/
def State.armTick (s : State) : ArmTick × State :=
  let s := s.mapCellS (fun c => { c with noIval := false })
  let s := if s.ARM_LEAD = 1 then s.mapArm (fun a => { a with im := s.armIm, imOk := s.armImOk }) else s
  let (x, s) := if s.ARM_LEAD = 1 then s.leadTick else s.followTick
  let s := s.mapArm (fun a => { a with
    snapTick := s.tick
    liveAt := if x.block || x.hold then a.liveAt else some (a.liveAt.getD (s.tick + s.APPLY_DELAY)) })
  (x, s.mapCellS (fun c => { c with ims := (s.arm.im :: c.ims).take 24 }))

/-- REPORT and ARM_STATE leave after the issue point (R162, R191, R271). -/
def State.armAfter (s : State) (x : ArmTick) : State :=
  let s := s.mapCellS (fun c => { c with ival := s.predict s.tick })
  let s := if s.ARM_LEAD = 0 && s.ARM_PARTNER_POS != 255 && s.holdsLease then
      s.spineSend 0x11 s.tick ([b2n x.block, 0] ++ le 2 s.cell.ival.1 ++ le 2 s.cell.ival.2 ++ List.replicate 6 0)
    else s
  if s.ARM_LEAD = 1 && s.holdsLease then
    s.spineSend 0x12 s.tick [s.ownArm, b2n x.armBlock + 2 * b2n s.arm.edgeForm, 0, 0]
  else s

/-! ### Periods -/

/-- The period values from the publications held (R157, R267). -/
def State.periodValues (s : State) : State :=
  let me := (s.activeOf s.POSITION).getD s.device
  let own := s.spn.pubs.find? (fun p => p.src == me)
  let two := s.ARM_PARTNER_POS != 255
  let oth := if two then (s.activeOf s.ARM_PARTNER_POS).bind (fun d => s.spn.pubs.find? (fun p => p.src == d)) else none
  let ps := own.toList ++ oth.toList
  let all := own.isSome && (!two || oth.isSome)
  let w := if all && s.ARM_CELLS_NOM != 0 && s.V_CELL_NOM != 0 then
      some (sat32 (divNearUp ((sumN (ps.map (fun p => p.sq)) * 16777216 : Nat) : Int)
        (s.ARM_CELLS_NOM * s.V_CELL_NOM * s.V_CELL_NOM)))
    else none
  { s with
    arm := { s.arm with
      nAv := sumN (ps.map (fun p => p.av)), sumV := sumN (ps.map (fun p => p.sum))
      avOther := (oth.map (fun p => p.av)).getD 0, once2001 := false, once2020 := false }
    spn := { s.spn with energy := w, pubs := [] } }

/-- No new set arrived for a second period: the lead faults; another device has no references then (R164). -/
def State.refsLost (s : State) : State :=
  let s := (s.mapArm (fun a => { a with refs := none, extended := false })).warnOff 0x2030 0
  if s.ARM_LEAD = 1 && s.mode.mode == .forming && s.isRun .arm then s.trip 0x2031 .arm [] else s

/-- The references at a boundary: the set received is put in force, or the set in force is extended once (R111, R154,
R164). -/
def State.refsBoundary (s : State) : State :=
  match s.arm.next with
  | some r => (s.mapArm (fun a => { a with refs := some r, next := none, extended := false, idq := a.idqNext })).warnOff 0x2030 0
  | none =>
    if s.arm.refs.isNone then s
    else if s.arm.extended then s.refsLost
    else
      let s := s.mapArm (fun a => { a with extended := true })
      if s.ARM_LEAD = 1 then s.warnOn 0x2030 0 [] else s

/-- A period in FORMING without a set in force ends (R263). -/
def State.leadCount (s : State) : State :=
  s.mapForm (fun f => { f with
    leadWait := if s.mode.mode == .forming && s.arm.refs.isNone then satU 32 (f.leadWait + 1) else 0 })

/-- FORMING begins, or a takeover: the arm law starts anew (R158, R161, R272). -/
def State.armFresh (s : State) : State :=
  { s.warnOff 0x2030 0 with
    arm := { s.arm with refs := none, next := none, extended := false, fresh := true, liveAt := none, missRun := 0, repMiss := 0 }
    spn := { s.spn with arms := List.replicate 8 {} } }

/-! ### The commands -/

/-- SHARE (R160): accepted from the active device of ARM_PARTNER_POS, for the present tick only. -/
def execShareMsg (p : Side) (header : BitVec 64) (data : List Nat) (late : Bool) (s : State) : Out :=
  .next (s.spineTake p 0x10 0 header.toNat data late s.forThis (fun x s =>
    let fl := entry data 6 0
    if s.ARM_LEAD = 0 && s.activeOf s.ARM_PARTNER_POS == some x.src then
      let h : ShareMsg := { tick := s.nextTick, no := ofLe (data.take 2), im := ofLeI ((data.drop 2).take 4)
                            imOk := bit fl 0, block := bit fl 1 }
      s.mapArm (fun a => { a with held := some h })
    else s))

/-- REPORT (R162): a BLOCK report for a tick whose share did not carry the flag faults ARM of a lead in FORMING. -/
def execSpanReport (p : Side) (header : BitVec 64) (data : List Nat) (late : Bool) (s : State) : Out :=
  .next (s.spineTake p 0x11 0 header.toNat data late s.forLast (fun x s =>
    if s.leads2 && s.activeOf s.ARM_PARTNER_POS == some x.src then
      let blk := bit (entry data 0 0) 0
      let n := s.nextTick - 1
      let r : ReportMsg := { tick := n, block := blk, lo := ofLe ((data.drop 2).take 2), hi := ofLe ((data.drop 4).take 2) }
      let s := s.mapArm (fun a => { a with report := some r })
      if blk && s.flagOf n == some false && s.mode.mode == .forming && s.isRun .arm then s.partnerTrip else s
    else s))

/-- ARM_STATE (R271, R272): another arm blocked while forming faults ARM of an arm lead in FORMING. -/
def execArmState (p : Side) (header : BitVec 64) (data : List Nat) (late : Bool) (s : State) : Out :=
  .next (s.spineTake p 0x12 0 header.toNat data late s.forLast (fun _ s =>
    let idx := entry data 0 0 % 8
    let fl := entry data 1 0
    let lead := s.ARM_LEAD == 1 && s.mode.mode == .forming && s.isRun .arm
    let s := s.mapSpn (fun n => { n with arms := updAt idx (fun a => { seen := a.seen || bit fl 1, tick := s.nextTick - 1 }) n.arms })
    if lead && idx != s.ownArm && bit fl 0 && bit fl 1 then s.trip 0x5240 .arm [] else s))

/-- An arm seen forming has sent none for ARM_STATE_MISS_MAX ticks (R272). -/
def State.armSilent (s : State) : Bool :=
  s.ARM_LEAD == 1 && s.mode.mode == .forming && s.isRun .arm &&
    s.spn.arms.zipIdx.any (fun p => p.2 != s.ownArm && p.1.seen && s.ARM_STATE_MISS_MAX ≤ s.nextTick - 1 - p.1.tick)

/-- ARM_STATE_MISSING (R272). -/
def execArmStateMissing (s : State) : Out := .next (if s.armSilent then s.trip 0x5241 .arm [] else s)

/-- SPAN_PUB (R157). -/
def execSpanPub (p : Side) (header : BitVec 64) (data : List Nat) (late : Bool) (s : State) : Out :=
  .next (s.spineTake p 0x21 0 header.toNat data late s.forPeriod (fun x s =>
    s.mapSpn (fun n => { n with pubs := n.pubs ++
      [{ src := x.src, av := ofLe (data.take 2), arm := entry data 2 0, sum := ofLe ((data.drop 4).take 8)
         sq := ofLe ((data.drop 12).take 8) }] })))

/-- SHARE_MISSING (R161): no share for the tick whose points come next. -/
def execShareMissing (s : State) : Out :=
  .next (if s.expectsShare && (s.shareFor s.nextTick).isNone && !s.arm.holdNow then s.missShare else s)

/-- SHARE_MISS_TRIP (R161). -/
def execShareMissTrip (s : State) : Out := .next s.missTrip

/-- REPORT_MISSING_TRIP (R162). -/
def execReportMissingTrip (s : State) : Out :=
  .next (if s.leads2 && s.mode.mode == .forming && s.isRun .arm && s.SHARE_MISS_MAX ≤ s.arm.repMiss then s.partnerTrip else s)

/-- REFS_LOST_TRIP (R164): the further period ends without a new set. -/
def execRefsLostTrip (s : State) : Out :=
  .next (if s.arm.extended && s.arm.refs.isSome && s.arm.next.isNone && s.k + 1 == s.fp && !s.edge then s.refsLost else s)

/-- LEAD_WAIT_EXPIRY (R263). -/
def execLeadWaitExpiry (s : State) : Out :=
  .next (if s.forming && s.LEAD_WAIT ≤ s.form.leadWait then s.trip 0x5223 .form [] else s)

/-! ### Start of ARM -/

/-- The start check of ARM (Table 6-9). -/
def State.armCheck (s : State) : Nat :=
  let c := s.ARM_I_CH
  if c = 255 then 1
  else if s.SAT_COUNT c = 0 || s.TEST_T c = 0 || s.FROZEN_WIN c = 0 || 1000 < s.FROZEN_WIN c then 2
  else if 131072 < groupDelay (s.RESPONSE c) s.tickNs then 3
  else if s.V_BASE = 0 || s.I_BASE = 0 then 4
  else if s.ARM_LEAD = 0 && s.ARM_PARTNER_POS = 255 then 5
  else if s.ARM_PARTNER_POS = s.POSITION then 6
  else 0

/-- What a passing START of ARM does (Tables 6-6, 6-7, R158, R161). -/
def State.armUp (s : State) : State :=
  ((s.mapArm (fun a => { a with
    misses := 0, missRun := 0, repMiss := 0, iLost := false, iFrozen := false, fresh := true, nc := 0
    cLimit := false })).warnOff 0x2002 0).setRun .arm .running

end Sys2Proof.Machine
end

