-- ==== Sys2Proof/Machine/SafetyFns.lean ====
section
/-! DEFINITION. The safety functions (14): dual-channel inputs, the four functions, safety outputs and test pulses,
interlocks, the protection set, the safety image and its confirmation, the safety layer. -/
namespace Sys2Proof.Machine

/-! ### Dual-channel inputs (R389 to R391) -/

/-- Safety input i names a pin. -/
def State.siUsed (s : State) (i : Nat) : Bool := s.SI_PIN_A i != 255 || s.SI_PIN_B i != 255

/-- A channel demands: its pin's value is not valid, or is the value that demands (R389). -/
def State.chDemand (s : State) (p : Nat) (v : Bool) : Bool := !(s.pinValid p) || s.logical p == v

/-- What one safety cycle makes of an input: the input, whether a discrepancy fault latches, and whether the reset
cleared a fault and a restart lock. -/
structure SiStep where
  /-- the input after the cycle -/
  x : SafeIn
  /-- a discrepancy fault is latched in this cycle -/
  newFault : Bool
  /-- the safety reset cleared its fault -/
  clrFault : Bool
  /-- the safety reset cleared its restart lock -/
  clrLock : Bool
deriving DecidableEq, Repr

/-- One cycle of one input with its channels a and b (R390 to R392). In the first cycle of a start it starts fresh. -/
def SafeIn.judge (x : SafeIn) (a b first reset : Bool) (now discT : Nat) (restart : Bool) : SiStep :=
  let x := if first then ({} : SafeIn) else x
  let disc := if a == b then none else some (x.disc.getD now)
  let late := match disc with | some c => decide (c + discT ≤ now) | none => false
  let newFault := late && !x.fault
  let clrFault := reset && x.fault && a && b
  let fault := (x.fault || newFault) && !clrFault
  let demand := a || b || fault
  let lock := x.lock || (x.demand && !demand && restart)
  let clrLock := reset && lock && !a && !b
  ⟨{ demand := demand, disc := disc, fault := fault, lock := lock && !clrLock, a := a, b := b }, newFault, clrFault,
   clrLock⟩

/-- Safety input i. -/
def State.si (s : State) (i : Nat) : SafeIn := entry s.safe.ins i {}

/-- Input i of an evaluation: a used input is judged, an unused one rests. -/
def State.siJudge (s : State) (i : Nat) (first reset : Bool) : SiStep :=
  if s.siUsed i then
    (s.si i).judge (s.chDemand (s.SI_PIN_A i) false) (s.chDemand (s.SI_PIN_B i) (s.SI_TYPE i == 1)) first reset s.now
      (ms (s.DISC_T i)) (s.SI_RESTART i == 1)
  else ⟨{}, false, false, false⟩

/-- One cycle of input i with its event 0x6020; the mask of what the reset cleared, as event 0x6021 lists it. -/
def State.siCycle (s : State) (i : Nat) (first reset : Bool) : State × Nat :=
  let r := s.siJudge i first reset
  let s := s.mapSafe (fun f => { f with ins := putAt i r.x f.ins })
  let s := if r.newFault then s.warnOn 0x6020 i (le 2 i) else s
  let s := if r.x.fault then s else s.warnOff 0x6020 i
  (s, (if r.clrFault then 2 ^ i else 0) + (if r.clrLock then 2 ^ (8 + i) else 0))

/-- Input i demands its functions: in demand, or under its restart lock (R391). -/
def State.siDemands (s : State) (i : Nat) : Bool := (s.si i).demand || (s.si i).lock

/-- SI_DEMAND: every input reads as in demand while SAFETY is not RUNNING (R391). -/
def State.siDemandMask (s : State) : Nat :=
  if s.isRun .safety then flagBits ((List.range 8).map (fun i => (s.si i).demand)) else 255

/-! ### The protection set (R410 to R412) -/

/-- The live set in the order of Table 14-8. -/
def State.protLive (s : State) : List Int :=
  [(s.PROT_I_CH : Int), s.PROT_I_MAX, s.PROT_VDC_CH, s.PROT_VDC_MAX, s.PROT_VCELL_MAX, s.PROT_VNOM, s.PROT_W_HI,
   s.PROT_W_LO, s.PROT_N, s.PROT_TRIP]

/-- The widths of its values in bytes (Table 14-8). -/
def protWidths : List Nat := [1, 4, 1, 4, 2, 2, 4, 4, 1, 1]

/-- The bytes of a set, fields little-endian (R401, R412). -/
def protBytes (v : List Int) : List Nat := (List.zipWith leI protWidths v).flatten

/-- Cells of class ACTIVE or RESERVE. -/
def State.populatedCells (s : State) : List Nat := (List.range 256).filter (fun c => s.populated c)

/-- The squares of VCAP over the unfailed ACTIVE cells that are not stale: how many, and their sum (R410). -/
def State.wSum (s : State) : Nat × Nat :=
  ((List.range 256).filter (fun c =>
      let x := s.cellAt c
      s.CELL_CLASS c == 1 && x.fail == 0 && x.latched.isSome && !(s.stale c s.tick))).foldl
    (fun a c => let v := (s.cellAt c).vcap; (a.1 + 1, a.2 + v * v)) (0, 0)

/-- W, the mean of VCAP² over PROT_VNOM², in PU32; none where no cell enters it (R410). -/
def State.protW (s : State) : Option Int :=
  let (n, q) := s.wSum
  if n = 0 || s.PROT_VNOM = 0 then none
  else some (divNearAway (pu1 * q) (n * s.PROT_VNOM * s.PROT_VNOM))

/-- The latched value of input c is valid (R301). -/
def State.ainValidAt (s : State) (c : Nat) : Bool := bit (entry s.sense.ins c {}).flags 0

/-- The highest VCAP among the cells of class ACTIVE or RESERVE that have delivered a valid word. -/
def State.vcapMax (s : State) : Nat :=
  maxN 0 ((s.populatedCells.filter (fun c => !(s.cellAt c).tel.isEmpty)).map (fun c => (s.cellAt c).vcap))

/-- Whether item 1 to 6 of Table 14-7 is violated on the latched values, and the value judged. -/
def State.protItem (s : State) (item : Nat) : Bool × Int :=
  let forming := s.mode.mode == .forming
  match item with
  | 1 => let v := absI (entry s.sense.ins s.PROT_I_CH {}).value; (v > s.PROT_I_MAX, v)
  | 2 => let v := (entry s.sense.ins s.PROT_VDC_CH {}).value; (v > s.PROT_VDC_MAX, v)
  | 3 => let v := s.vcapMax; (v > s.PROT_VCELL_MAX, v)
  | 4 => match s.protW with | some w => (w > s.PROT_W_HI, w) | none => (false, 0)
  | 5 => match s.protW with | some w => (forming && w < s.PROT_W_LO, w) | none => (false, 0)
  | _ =>
    let bad (c : Nat) : Bool := !(s.ainValidAt c) || bit (entry s.sense.ins c {}).flags 3
    (forming && (bad s.PROT_I_CH || bad s.PROT_VDC_CH || (s.wSum).1 == 0), 0)

/-- An item is judged in one cycle: its count, and in the PROT_N-th cycle in a row its latch, with event 0x6200 (R411). -/
def State.protJudge (s : State) (item : Nat) : State :=
  let (bad, v) := s.protItem item
  let n := if bad then entry s.safe.prot.counts (item - 1) 0 + 1 else 0
  let latch := bad && s.PROT_N ≤ n && !(bit s.safe.prot.latched (item - 1))
  let s := s.mapSafe (fun f => { f with prot := { f.prot with
    counts := putAt (item - 1) (min n 16) f.prot.counts,
    latched := if latch then setBit f.prot.latched (item - 1) else f.prot.latched } })
  if latch then s.warnOn 0x6200 item (le 2 item ++ leI 4 v) else s

/-- The protection check (Table 14-12). -/
def State.protCheck (s : State) : Nat :=
  let on (c : Nat) : Bool := c < 16 && s.AIN_ENABLE c == 1
  if !(on s.PROT_I_CH && on s.PROT_VDC_CH) then 1
  else if s.PROT_VNOM = 0 || !(s.PROT_W_LO < pu1 && pu1 < s.PROT_W_HI) then 2
  else if crc32c (protBytes s.safe.prot.stored) != s.safe.prot.crc then 3
  else 0

/-- A start of the protection function: the check, and RUNNING in the next safety cycle (R412). -/
def State.protStart (s : State) : State :=
  let c := s.protCheck
  s.mapSafe (fun f => { f with prot := { f.prot with check := c, starting := c == 0 && !f.prot.run } })

/-- An accepted write of the protection set: stopped, event 0x6201, the set stored with a new check value (R412). -/
def State.protWritten (s : State) : State :=
  let l := s.protLive
  let s := s.mapSafe (fun f => { f with prot := { f.prot with
    run := false, starting := false, stored := l, crc := crc32c (protBytes l) } })
  (s.warnOff 0x6203 0).warnOn 0x6201 0 []

/-- The protection function in one cycle: a start due takes effect, then the six items are judged (R410 to R412). -/
def State.protCycle (s : State) : State :=
  let s := if s.safe.prot.starting then
      ((s.mapSafe (fun f => { f with prot := { f.prot with run := true, starting := false,
                                                           counts := [0, 0, 0, 0, 0, 0] } })).note 0x6202 []).warnOff
        0x6201 0
    else s
  if s.safe.prot.run then [1, 2, 3, 4, 5, 6].foldl (fun s i => s.protJudge i) s else s

/-- A safety reset clears the latches of items no longer violated: their mask (R392, R411). -/
def State.protReset (s : State) : State × Nat :=
  let clr := flagBits ([1, 2, 3, 4, 5, 6].map (fun i => bit s.safe.prot.latched (i - 1) && !(s.protItem i).1))
  let s := s.mapSafe (fun f => { f with prot := { f.prot with latched := f.prot.latched - clr } })
  ([1, 2, 3, 4, 5, 6].foldl (fun s i => if bit clr (i - 1) then s.warnOff 0x6200 i else s) s, clr)

/-! ### The functions (Table 14-1, R399) -/

/-- Connections that consume. -/
def State.consumes (s : State) (c : Nat) : Bool := s.SL_DIR c == 1

/-- A consumed connection shows a 0 in one of the bits (Table 14-1). -/
def State.slZero (s : State) (bits_ : Nat → Nat) : Bool :=
  (List.range 8).any (fun c => s.consumes c &&
    (List.range 32).any (fun b => bit (bits_ c) b && !(bit (entry s.safe.conns c {}).data b)))

/-- Every cell of class ACTIVE or RESERVE has a telemetry word that is not stale, and a VCAP at most INTLK_VCELL
(R399). -/
def State.cellsLow (s : State) : Bool :=
  s.populatedCells.all (fun c =>
    let x := s.cellAt c
    x.latched.isSome && !(s.stale c s.tick) && x.vcap ≤ s.INTLK_VCELL)

/-- The conditions of R399 that SF3 and SF4 share, SF1 being demanded or not as given. -/
def State.releaseOk (s : State) (sf1 : Bool) : Bool :=
  sf1 && (match s.safe.sf1Since with | some t => decide (t + secs s.INTLK_DWELL ≤ s.now) | none => false) &&
    s.cellsLow && s.ainValidAt s.INTLK_VDC_CH &&
    absI (entry s.sense.ins s.INTLK_VDC_CH {}).value ≤ s.INTLK_VDC && s.safe.confirmed && s.isRun .safety

/-- The causes of SF1 other than a release output (0x6101:02). -/
def State.sf1Causes (s : State) : Nat :=
  flagBits ((List.range 8).map (fun i => s.siUsed i && bit (s.SI_MASK i) 0 && s.siDemands i) ++
    [s.safe.prot.latched != 0, !s.safe.prot.run, s.slZero s.SL_BLOCK_BITS, !s.safe.confirmed, false,
     !(s.isRun .safety)])

/-- The causes of SF2 in the same bits (Table 14-1). -/
def State.sf2Causes (s : State) : Nat :=
  flagBits ((List.range 8).map (fun i => s.siUsed i && bit (s.SI_MASK i) 1 && s.siDemands i) ++
    [(List.range 6).any (fun i => bit s.safe.prot.latched i && bit s.PROT_TRIP i), false, s.slZero s.SL_TRIP_BITS,
     !s.safe.confirmed, false, !(s.isRun .safety)])

/-- The first latched protection item, as event 0x6010 names it. -/
def State.firstLatched (s : State) : Nat :=
  match (List.range 6).find? (fun i => bit s.safe.prot.latched i) with | some i => i + 1 | none => 65535

/-- The four functions evaluated: releases, then SF1 and SF2 and the block line (R384, R385, R399). A release output
that is on keeps SF1 demanded. -/
def State.sfEval (s : State) : State :=
  let c1 := s.sf1Causes
  let ok := s.releaseOk (c1 != 0 || s.safe.door || s.safe.earth)
  let free := s.DOOR_REQ_SI == 255 || !(s.si s.DOOR_REQ_SI).demand
  let s := s.releaseSet (ok && bit s.REL_REQ 0 && free) (ok && bit s.REL_REQ 1)
  let c1 := c1 + (if s.safe.door || s.safe.earth then 2 ^ 12 else 0)
  (s.sf1Set c1 s.firstLatched).sf2Set s.sf2Causes s.firstLatched

/-! ### Safety outputs (R393 to R398) -/

/-- Safety output n. -/
def State.so (s : State) (n : Nat) : SafeOut := entry s.safe.outs n {}

/-- The state with safety output n replaced. -/
def State.putSo (s : State) (n : Nat) (o : SafeOut) : State :=
  s.mapSafe (fun f => { f with outs := putAt n o f.outs })

/-- The function of output n permits it (R393). -/
def State.soPermits (s : State) (n : Nat) : Bool :=
  match s.SO_FUNC n with
  | 1 => !s.safe.sf2
  | 2 => s.safe.door
  | 3 => s.safe.earth
  | 4 => !s.safe.sf1
  | _ => false

/-- The device may drive safety outputs: mode, confirmation, lease, barrier, supply, and 60 µs after a transfer taken
(Table 3-2, R377, R403, R429, R445). -/
def State.soAllowed (s : State) : Bool :=
  (s.mode.mode == .blocked || s.mode.mode == .forming) && s.safe.confirmed && s.isRun .safety && s.holdsLease &&
    s.field.up && !s.supplyOut && (match s.dpx.tookAt with | some t => decide (t + us 60 ≤ s.now) | none => true)

/-- Output n is commanded on. -/
def State.soWanted (s : State) (n : Nat) : Bool := s.soPermits n && !(s.so n).lock && s.soAllowed

/-- SOn_H is below 3.0 V (R394). -/
def SafeOut.low (o : SafeOut) : Bool := o.volt.1 < 3000

/-- A safety-output fault: both switches off, the output lock, event 0x6031 with its cause (1 short, 2 read-back,
3 overload, 4 thermal) (R396, R548). -/
def State.soFault (s : State) (n cause : Nat) : State :=
  let o := s.so n
  let o := { o.turnOff with
    lock := true, shortH := o.shortH || cause == 1, readback := o.readback || cause == 2,
    overload := o.overload || cause == 3, thermal := o.thermal || cause == 4 }
  (s.putSo n o).warnOn 0x6031 (n * 8 + cause) (le 2 n ++ [cause])

/-- Output n in one cycle: step 1 of switching on, or off at once (R394, R397). -/
def State.soCycle (s : State) (n : Nat) : State :=
  let o := s.so n
  if s.soWanted n then
    if o.cmd then s
    else if o.low then s.putSo n { o with cmd := true, l := true, step := some s.now }
    else s.soFault n 1
  else if o.cmd then s.putSo n o.turnOff else s

/-- Step 3 of switching on: 100 µs after L, H is switched on where SOn_H is still low; an output that the supply had
switched off is recorded as on again (R394, R398). -/
def State.soStep (s : State) (n : Nat) : State :=
  let o := s.so n
  match o.step with
  | some t =>
    if t + us 100 ≤ s.now then
      if o.low then
        let s := s.putSo n { o with h := true, step := none, onSince := some s.now, supply := false }
        if o.supply then s.note 0x6032 (le 2 n) else s
      else s.soFault n 1
    else s
  | none => s

/-- SO_SWITCH_ON_STEP. -/
def execSoSwitchOnStep (n : Fin 4) (s : State) : Out := .next (s.soStep n)

/-- SO_TEST_PULSE_DUE: an output on for SO_TEST_T begins an off-pulse on the switch whose turn it is (R395). -/
def execSoTestPulseDue (n : Fin 4) (s : State) : Out :=
  let o := s.so n
  .next (match o.onSince with
    | some t =>
      if t + ms (s.SO_TEST_T n) ≤ s.now && o.h && o.l && o.pulse.isNone then
        s.putSo n { o with pulse := some (!o.nextL, s.now), spoiled := false,
                           h := if o.nextL then o.h else false, l := if o.nextL then false else o.l }
      else s
    | none => s)

/-- A pulse on H passes with SOn_H below 3.0 V, one on L with SOn_L above L+ − 5.0 V (R395). -/
def State.pulsePasses (s : State) (o : SafeOut) (onH : Bool) : Bool :=
  if onH then o.low else o.volt.2 > s.field.lpMean - 5000

/-- The end of a pulse: judged and the switch on again, or failed and locked; a spoiled pulse is neither judged nor
counted and the next is made on the same switch (R395 to R397). -/
def State.pulseEnd (s : State) (n : Nat) : State :=
  let o := s.so n
  match o.pulse with
  | some (onH, t) =>
    if t + us (s.SO_PULSE n) ≤ s.now then
      if o.spoiled || !o.cmd then s.putSo n { o with pulse := none, spoiled := false }
      else if s.pulsePasses o onH then
        s.putSo n { o with pulse := none, h := true, l := true, nextL := onH, tests := incSat 32 o.tests,
                           onSince := some s.now }
      else
        let o := { o with pulse := none, nextL := onH, tests := incSat 32 o.tests, testH := o.testH || onH,
                          testL := o.testL || !onH }
        let s := s.putSo n { o.turnOff with lock := true }
        s.warnOn 0x6030 (n * 2 + b2n (!onH)) (le 2 n ++ [b2n (!onH)])
    else s
  | none => s

/-- SO_PULSE_END. -/
def execSoPulseEnd (n : Fin 4) (s : State) : Out := .next (s.pulseEnd n)

/-- The time since which a condition holds. -/
def heldSince (c : Bool) (at_ : Option Nat) (now : Nat) : Option Nat := if c then some (at_.getD now) else none

/-- One safety cycle looks at an output through the readings of the latest barrier frame, L+ being lp mV: on, SOn_H must be above
L+ − 2.0 V and SOn_L below 2.0 V, and the current is compared with 3 mA; off, SOn_H is compared with 12.0 V (R394). -/
def SafeOut.watch (o : SafeOut) (lp : Int) (now : Nat) : SafeOut :=
  let on := o.h && o.l && o.pulse.isNone
  let off := !o.h && !o.cmd
  { o with
    highAt := heldSince (off && o.volt.1 > 12000) o.highAt now
    devAt := heldSince (on && !(o.volt.1 > lp - 2000 && o.volt.2 < 2000)) o.devAt now
    openAt := heldSince (on && o.amps < 3) o.openAt now
    loadAt := heldSince (on && 3 ≤ o.amps) o.loadAt now }

/-- A condition has held for a time. -/
def lasted (at_ : Option Nat) (t now : Nat) : Bool := match at_ with | some a => decide (a + t ≤ now) | none => false

/-- The open load of output n: below 3 mA for 10 ms; gone after 10 ms at 3 mA or more (R394, notes/assumptions/139.md). -/
def State.soOpen (s : State) (n : Nat) : State :=
  let o := s.so n
  if lasted o.openAt (ms 10) s.now && !o.open_ then (s.putSo n { o with open_ := true }).warnOn 0x6034 n (le 2 n)
  else if lasted o.loadAt (ms 10) s.now && o.open_ then (s.putSo n { o with open_ := false }).warnOff 0x6034 n
  else s

/-- The short of output n, SOn_H above 12.0 V for 1 ms while it is off (R394). -/
def State.soShort (s : State) (n : Nat) : State :=
  if lasted (s.so n).highAt (ms 1) s.now && !(s.so n).shortH then s.soFault n 1 else s

/-- The read-back of output n, deviating for 1 ms while it is on (R394). -/
def State.soReadback (s : State) (n : Nat) : State :=
  if lasted (s.so n).devAt (ms 1) s.now && !(s.so n).readback then s.soFault n 2 else s

/-- The diagnostics of output n in one safety cycle, on what has crossed the barrier link (R394). -/
def State.soWatch (s : State) (n : Nat) : State :=
  if s.fieldSeen then
    (((s.putSo n ((s.so n).watch s.field.lpMean s.now)).soShort n).soReadback n).soOpen n
  else s

/-- SO_DIAG_TIMER: a condition of output n has held for its time. The conditions that the cycles time are 0 short, 1 read-back and
4 open load; the field-side die itself reports, with present, 2 current limiting and 3 thermal shutdown, or without it that the
switches have cooled (R394, R396). -/
def execSoDiagTimer (n : Fin 4) (which : Fin 5) (present : Bool) (s : State) : Out :=
  let o := s.so n
  .next (if !s.fieldSeen || !(s.isRun .safety) then s
    else match which with
    | 0 => s.soShort n
    | 1 => s.soReadback n
    | 2 => if present && (o.h || o.l) then s.soFault n 3 else s
    | 3 => if present then (if o.h || o.l then s.soFault n 4 else s)
           else (s.putSo n { o with thermal := false }).warnOff 0x6031 (n * 8 + 4)
    | 4 => s.soOpen n)

/-- The condition of the lock of output n is gone: SOn_H low where it was short or failed its test, cooled, and the supply back
(R396, R398). -/
def State.soGone (s : State) (n : Nat) : Bool :=
  let o := s.so n
  (!(o.shortH || o.testH) || o.low) && !o.thermal && !(o.supply && s.supplyOut)

/-- A safety reset on output n: the lock and its flags where the condition is gone; whether it was cleared. -/
def State.soReset (s : State) (n : Nat) : State × Bool :=
  let o := s.so n
  if o.lock && s.soGone n then
    let s := s.putSo n { o with lock := false, testH := false, testL := false, shortH := false, readback := false,
                                overload := false, supply := false }
    let s := [1, 2, 3, 4].foldl (fun s c => s.warnOff 0x6031 (n * 8 + c)) s
    ((s.warnOff 0x6030 (n * 2)).warnOff 0x6030 (n * 2 + 1), true)
  else (s, false)

/-- SO_STATE (Table 14-11). -/
def SafeOut.state (o : SafeOut) : Nat := flagBits [o.cmd, o.h, o.l, o.pulse.isSome, o.lock]

/-- SO_DIAG (Table 14-11). -/
def SafeOut.diag (o : SafeOut) : Nat :=
  flagBits [o.testH, o.testL, o.shortH, o.readback, o.overload, o.thermal, o.supply, o.open_]

/-! ### The safety layer (R404 to R409) -/

/-- Connection c. -/
def State.conn (s : State) (c : Nat) : SlConn := entry s.safe.conns c {}

/-- The state with connection c replaced. -/
def State.putConn (s : State) (c : Nat) (x : SlConn) : State :=
  s.mapSafe (fun f => { f with conns := putAt c x f.conns })

/-- The data in force follow the latest valid frame in RUN unless latched, and are 0 otherwise; a rising edge of the
reset bit gives a safety reset (R392, R408, R409). -/
def State.slData (s : State) (c : Nat) : State :=
  let x := s.conn c
  let d := if x.st == .run && !x.latched then x.raw else 0
  let r := s.SL_RESET_BIT c < 32 && bit d (s.SL_RESET_BIT c)
  let s := s.putConn c { x with data := d, rbit := r }
  if r && !x.rbit then s.mapSafe (fun f => { f with reset := true }) else s

/-- A connection is LOST, with its cause (R407, R408): 1 watchdog, 2 error limit, 3 producer restarted. -/
def State.slLost (s : State) (c cause : Nat) : State :=
  let s := s.putConn c { s.conn c with st := .lost, raw := 0, good := 0, seq := none }
  (s.slData c).warnOn 0x6301 c (le 2 c ++ [cause])

/-- An error of connection c: counted; SL_ERR_MAX within 1 s lose a connection in RUN (R407, R408). -/
def State.slError (s : State) (c : Nat) : State :=
  let x := s.conn c
  let es := s.now :: x.errTimes.filter (fun t => s.now < t + secs 1)
  let s := s.putConn c { x with errors := incSat 32 x.errors, errTimes := es.take 16 }
  if x.st == .run then (if s.SL_ERR_MAX c ≤ es.length then s.slLost c 2 else s)
  else s.putConn c { s.conn c with good := 0, seq := none }

/-- SEQ follows the last one by 1 to 16 (R407). -/
def SlConn.follows (x : SlConn) (seq : Nat) : Bool :=
  match x.seq with
  | some q => let d := (seq + 4294967296 - q % 4294967296) % 4294967296; 1 ≤ d && d ≤ 16
  | none => false

/-- The checks of a frame that do not concern SEQ (R407). -/
def State.slFields (s : State) (c : Nat) (bs : List Nat) : Bool :=
  bs.length == 24 && ofLe (bs.drop 20) == crc32c (bs.take 20) && ofLe (bs.take 4) == s.SL_CONN_ID c &&
    ofLe ((bs.drop 8).take 2) == s.SL_WATCHDOG c

/-- A valid frame outside RUN: the run grows, and WAIT or LOST end as R407 and R409 state. -/
def State.slJoin (s : State) (c seq raw : Nat) (startup : Bool) : State :=
  let x := s.conn c
  let x := { x with good := x.good + 1, seq := some seq, at_ := s.now }
  let enters := (x.st == .wait && startup) || 3 ≤ x.good
  if enters then
    let s := s.putConn c { x with st := .run, raw := raw, good := 0, latched := x.latched || x.st == .lost }
    ((s.slData c).warnOff 0x6301 c).note 0x6300 (le 2 c)
  else s.putConn c x

/-- Connection c judges a datagram of its peer (R407). -/
def State.slJudge (s : State) (c : Nat) (bs : List Nat) : State :=
  let x := s.conn c
  let seq := ofLe ((bs.drop 4).take 4)
  let flags := entry bs 10 0
  let raw := if bit flags 0 then 0 else ofLe ((bs.drop 12).take 4)
  match x.st with
  | .off => s
  | .run =>
    if s.slFields c bs then
      if x.follows seq then (s.putConn c { x with seq := some seq, raw := raw, at_ := s.now }).slData c
      else if bit flags 1 then
        (s.putConn c { x with errors := incSat 32 x.errors }).slLost c 3
      else s.slError c
    else s.slError c
  | _ =>
    if s.slFields c bs && (x.good == 0 || x.follows seq) then s.slJoin c seq raw (bit flags 1) else s.slError c

/-- A datagram on port 43111 from a source address: judged by the connections that consume from it, else discarded and
counted (R407). -/
def State.slDatagram (s : State) (src : Nat) (bs : List Nat) : State :=
  let cs := (List.range 8).filter (fun c => s.consumes c && s.SL_PEER c == be 16 src)
  if cs.isEmpty then
    let s := s.mapSafe (fun f => { f with foreign := incSat 32 f.foreign })
    (s.mapSafe (fun f => { f with foreignEp := true })).warnOn 0x6302 0 []
  else cs.foldl (fun s c => s.slJudge c bs) ((s.mapSafe (fun f => { f with foreignEp := false })).warnOff 0x6302 0)

/-- SAFETY_FRAME: policed and freed of its PRP duplicate at its port, then judged while SAFETY runs (R404, R407). -/
def execSafetyFrame (p : Side) (rct : Option (Nat × Nat)) (src : Nat) (bytes : List Nat) (s : State) : Out :=
  let (pass, s) := s.ingress p rct .sl 1
  .next (if pass && s.isRun .safety && !(s.fenced 4 6) then s.slDatagram src bytes else s)

/-- SL_WATCHDOG_EXPIRY: no valid frame in RUN for SL_WATCHDOG (R408). -/
def execSlWatchdogExpiry (c : Fin 8) (s : State) : Out :=
  let x := s.conn c
  .next (if s.consumes c && x.st == .run && x.at_ + ms (s.SL_WATCHDOG c) ≤ s.now then s.slLost c 1 else s)

/-- The produced safe data (Table 14-6). -/
def State.slProduced (s : State) : Nat :=
  flagBits ([!s.safe.sf1, !s.safe.sf2, s.safe.door, s.safe.earth] ++
    (List.range 8).map (fun i => s.isRun .safety && !(s.si i).demand) ++
    (List.range 4).map (fun n => (s.so n).h && (s.so n).l) ++ [s.safe.prot.run])

/-- A safety frame of connection c (Table 14-5, R406). -/
def State.slFrame (s : State) (c seq : Nat) : List Nat :=
  let fs := !s.safe.confirmed
  let b := le 4 (s.SL_CONN_ID c) ++ le 4 seq ++ le 2 (s.SL_WATCHDOG c) ++
    [flagBits [fs, 1 ≤ seq && seq ≤ 8 && (s.conn c).txEarly], 0] ++
    le 4 (if fs then 0 else s.slProduced) ++ [0, 0, 0, 0]
  b ++ le 4 (crc32c b)

/-- SL_PRODUCE: one frame every SL_CYCLE while SAFETY is RUNNING (R406). -/
def execSlProduce (c : Fin 8) (s : State) : Out :=
  let x := s.conn c
  let due := match x.txAt with | none => true | some t => decide (t + ms (s.SL_CYCLE c) ≤ s.now)
  .next (if s.isRun .safety && s.SL_DIR c == 2 && due then
      let seq := (x.txSeq + 1) % 4294967296
      let f := s.slFrame c seq
      let s := s.putConn c { x with txSeq := seq, txAt := some s.now, txEarly := x.txEarly && seq < 8,
                                    data := if s.safe.confirmed then s.slProduced else 0 }
      if s.fenced 4 6 then s else s.emit (.safety c f)
    else s)

/-! ### The cycle -/

/-- The latched connections that a reset releases, in RUN (R409). -/
def State.connReset (s : State) (c : Nat) : State × Bool :=
  let x := s.conn c
  if s.consumes c && x.st == .run && x.latched then ((s.putConn c { x with latched := false }).slData c, true)
  else (s, false)

/-- What a safety reset clears beside the inputs: protection latches, output locks, latched connections; the mask of
event 0x6021 (R392). -/
def State.resetItems (s : State) : State × Nat :=
  let (s, p) := s.protReset
  let (s, o) := (List.range 4).foldl (fun a n =>
    let (s, b) := a.1.soReset n
    (s, a.2 + (if b then 2 ^ (24 + n) else 0))) (s, 0)
  let (s, c) := (List.range 8).foldl (fun a c =>
    let (s, b) := a.1.connReset c
    (s, a.2 + (if b then 2 ^ (32 + c) else 0))) (s, 0)
  (s, p * 2 ^ 16 + o + c)

/-- One safety cycle: inputs, protection, a safety reset that is due, the functions, the outputs (R386, R392). -/
def State.safetyCycle (s : State) : State :=
  if s.isRun .safety then
    let first := s.safe.first
    let reset := s.safe.reset
    let s := s.mapSafe (fun f => { f with reset := false, first := false })
    let (s, m) := (List.range 8).foldl (fun a i =>
      let (s, b) := a.1.siCycle i first reset
      (s, a.2 + b)) (s, 0)
    let s := s.protCycle
    let s := if reset then
        let (s, k) := s.resetItems
        s.note 0x6021 (le 8 (m + k))
      else s
    (List.range 4).foldl (fun s n => (s.soWatch n).soCycle n) s.sfEval
  else s

/-- SAFETY_CYCLE. -/
def execSafetyCycle (s : State) : Out := .next s.safetyCycle

/-- The functions and outputs after a step of the cycle taken on its own. -/
def State.sfApply (s : State) : State := (List.range 4).foldl (fun s n => s.soCycle n) s.sfEval

/-- PROT_ITEM_LATCH: the cycle in which item has been violated PROT_N times in a row (R411). -/
def execProtItemLatch (item : Fin 6) (s : State) : Out :=
  let n := item.val + 1
  .next (if s.isRun .safety && s.safe.prot.run && s.PROT_N ≤ entry s.safe.prot.counts item 0 + 1 && (s.protItem n).1 then
      (s.protJudge n).sfApply
    else s)

/-- DISCREPANCY_TIMEOUT: the cycle DISC_T after c0, with the channels of input i still differing (R390). -/
def execDiscrepancyTimeout (inp : Fin 8) (s : State) : Out :=
  .next (if s.isRun .safety && !s.safe.first && (s.siJudge inp false false).newFault then
      (s.siCycle inp false false).1.sfApply
    else s)

/-- INTLK_DWELL_ELAPSED: SF1 has been demanded for INTLK_DWELL; the releases requested are judged (R399). -/
def execIntlkDwellElapsed (s : State) : Out :=
  .next (match s.safe.sf1Since with
    | some t => if s.isRun .safety && !s.safe.first && t + secs s.INTLK_DWELL ≤ s.now then s.sfApply else s
    | none => s)

/-- The comparator hardware after a mismatch or a failed self-test: SAFE, block line, barrier frames stopped, every
output off (R359, R388). -/
def State.lockstepStop (s : State) (code : Nat) : State :=
  let s := s.safeFault code 5 []
  let s := s.mapSafe (fun f => { f with line := true, stopped := true, outs := f.outs.map (fun o => o.turnOff) })
  s.barrierDown

/-- LOCKSTEP_MISMATCH. -/
def execLockstepMismatch (s : State) : Out := .next (if s.powered .safe then s.lockstepStop 0x6001 else s)

/-- LOCKSTEP_SELFTEST_FAIL. -/
def execLockstepSelftestFail (s : State) : Out := .next (if s.powered .safe then s.lockstepStop 0x6002 else s)

/-! ### Resets, the safety set, starts -/

/-- The status of SAFE_RESET: Operator-writable, value 1 (Table 14-11). -/
def State.safeResetStatus (s : State) (level : Nat) : Nat :=
  if s.modeStatus != stOk then s.modeStatus else if level < 1 then stPrivilege else stOk

/-- A safety reset is requested (R392). -/
def State.safeReset (s : State) : State := s.mapSafe (fun f => { f with reset := true })

/-- SAFE_RESET. -/
def execSafeReset (level : Nat) (s : State) : Out :=
  .next (if s.safeResetStatus level = stOk then s.safeReset else s)

/-- The status of PROT_START: P2, in any mode in which writes are accepted (R412). -/
def State.protStartStatus (s : State) (level : Nat) : Nat :=
  if s.modeStatus != stOk then s.modeStatus else if level < 2 then stPrivilege else stOk

/-- PROT_START: a start needs SAFETY RUNNING to take effect in the next cycle (R412). -/
def execProtStart (level : Nat) (s : State) : Out :=
  .next (if s.protStartStatus level = stOk then s.protStart else s)

/-- Pins owned by safety, ascending. -/
def State.safetyPins (s : State) : List Nat := (List.range 32).filter (fun p => s.safetyPin p)

/-- The safety image of the live set (Table 14-4). -/
def State.safetyImage (s : State) : List Nat :=
  [1] ++
  (List.range 4).flatMap (fun n =>
    [s.SO_FUNC n] ++ le 2 (s.SO_TEST_T n) ++ le 2 (s.SO_PULSE n) ++ [s.SO_RESTART n]) ++
  le 2 s.INTLK_DWELL ++ le 2 s.INTLK_VCELL ++ [s.INTLK_VDC_CH] ++ leI 4 s.INTLK_VDC ++ [s.DOOR_REQ_SI] ++
  (List.range 8).flatMap (fun i =>
    [s.SI_PIN_A i, s.SI_PIN_B i, s.SI_TYPE i] ++ le 2 (s.DISC_T i) ++ [s.SI_MASK i, s.SI_RESTART i]) ++
  (List.range 8).flatMap (fun c =>
    [s.SL_DIR c] ++ le 4 (s.SL_CONN_ID c) ++ padTo 16 (s.SL_PEER c) ++ le 2 (s.SL_CYCLE c) ++ le 2 (s.SL_WATCHDOG c) ++
    [s.SL_ERR_MAX c] ++ le 4 (s.SL_BLOCK_BITS c) ++ le 4 (s.SL_TRIP_BITS c) ++ [s.SL_RESET_BIT c]) ++
  s.safetyPins.flatMap (fun p =>
    [p, s.FIO_MODE p] ++ le 2 (s.DEBOUNCE p) ++ [s.INVERT p, s.DIAG_EN p] ++ le 2 (s.WB_I p)) ++
  le 2 s.LP_SO_MIN

/-- SAFETY_CRC of the live set (R401). -/
def State.safetyCrc (s : State) : Nat := crc32c s.safetyImage

/-- The safety image of the stored set, where a record is stored. -/
def State.storedImage (s : State) : Option (List Nat) :=
  match s.stored with
  | some r => if r.ok then some ({ s with objs := r.objs }).safetyImage else none
  | none => none

/-- An accepted write of the safety set: confirmation withdrawn, CONFIG_STATE 2 to 1, event 0x6110 (R400). -/
def State.safetyWritten (s : State) : State :=
  let s := s.mapSafe (fun f => { f with confirmed := false })
  (s.mapMode (fun m => { m with config := if m.config = 2 then 1 else m.config })).note 0x6110 []

/-- The condition of R402 that fails, 0 for none (R548). -/
def State.confirmFails (s : State) (v : Nat) : Nat :=
  if s.mode.config != 1 then 1
  else if s.storedImage != some s.safetyImage then 2
  else if v != s.safetyCrc then 3 else 0

/-- The status of SAFETY_CONFIRM (R402). -/
def State.confirmStatus (s : State) (level v : Nat) : Nat :=
  if level < 3 then stPrivilege
  else if s.mode.mode != .commission && s.mode.mode != .blocked then stMode
  else if s.confirmFails v != 0 then stRange else stOk

/-- SAFETY_CONFIRM takes effect, or is refused with event 0x6112 (R402). -/
def State.safetyConfirm (s : State) (level v : Nat) : State :=
  let st := s.confirmStatus level v
  if st = stOk then
    let s := s.mapSafe (fun f => { f with confirmed := true, conf := some v })
    (s.mapMode (fun m => { m with config := 2 })).note 0x6111 []
  else if st = stRange then s.warn 0x6112 [s.confirmFails v]
  else s

/-- SAFETY_CONFIRM. -/
def execSafetyConfirm (level : Nat) (v : BitVec 32) (s : State) : Out := .next (s.safetyConfirm level v.toNat)

/-- Every pin named by a used input is named once. -/
def State.siPins (s : State) : List Nat :=
  ((List.range 8).filter (fun i => s.siUsed i)).flatMap (fun i => [s.SI_PIN_A i, s.SI_PIN_B i])

/-- The start check of SAFETY (Table 14-15). -/
def State.safetyCheck (s : State) : Nat :=
  let ps := s.siPins
  let cs := (List.range 8).filter (fun c => s.SL_DIR c != 0)
  let pinOk (p : Nat) : Bool := p < 32 && (s.FIO_MODE p == 1 || s.FIO_MODE p == 2) && p != s.BRK_PIN && p != s.CLOSE_PIN
  if !(ps.all pinOk) || !(decide ps.Nodup) then 1
  else if cs.any (fun c => s.SL_CONN_ID c == 0 || (s.SL_PEER c).all (· == 0)) ||
      !(decide (cs.map (fun c => s.SL_CONN_ID c)).Nodup) then 2
  else if cs.any (fun c => s.consumes c && s.SL_WATCHDOG c < 3 * s.SL_CYCLE c) then 3
  else if (s.DOOR_REQ_SI != 255 && !(s.siUsed s.DOOR_REQ_SI)) ||
      ((List.range 4).any (fun n => s.SO_FUNC n == 2 || s.SO_FUNC n == 3) && s.INTLK_VDC_CH == 255) then 4
  else if (List.range 8).any (fun c => s.SL_RESET_BIT c < 32 &&
      (bit (s.SL_BLOCK_BITS c) (s.SL_RESET_BIT c) || bit (s.SL_TRIP_BITS c) (s.SL_RESET_BIT c))) then 5
  else 0

/-- What a passing START of SAFETY does: counters cleared, consuming connections in WAIT, producers at SEQ 1 with
STARTUP, the protection function started, the first cycle due, RUNNING (R391, R406, R407, R412). -/
def State.safetyUp (s : State) : State :=
  let conns := (List.range 8).map (fun c =>
    ({ st := if s.consumes c then .wait else .off } : SlConn))
  let s := s.mapSafe (fun f => { f with
    conns := conns, first := true, reset := false
    outs := f.outs.map (fun o => { o with tests := 0, highAt := none, devAt := none, openAt := none, loadAt := none }) })
  (s.setRun .safety .running).protStart

end Sys2Proof.Machine
end

