-- ==== Sys2Proof/Machine/SpineLaw.lean ====
section
/-! DEFINITION. The law on the spine (04, 09): the measurement set and its publication, station setpoints, the reference
set and the state block of the leader, the shadow check. -/
namespace Sys2Proof.Machine

/-! ### Payload layouts (Tables 9-4, 9-7, 9-8) -/

/-- A reference set as REFS carries it (Table 9-7). -/
def RefSet.payload (r : RefSet) : List Nat :=
  le 8 r.boundary ++ leI 4 r.uh ++ leI 4 r.vd ++ leI 4 r.vq ++ le 8 r.theta0 ++ le 8 r.dtheta ++
    [r.sub, r.phase, b2n r.close, 0] ++
    ((List.range 3).map (fun x => leI 4 (entry r.legs x (0, 0)).1 ++ leI 4 (entry r.legs x (0, 0)).2)).flatten ++ [0, 0, 0, 0]

/-- A reference set read from REFS. -/
def RefSet.ofBytes (b : List Nat) : RefSet :=
  let u (i n : Nat) := ofLe ((b.drop i).take n)
  let i4 (i : Nat) := ofLeI ((b.drop i).take 4)
  { boundary := u 0 8, uh := i4 8, vd := i4 12, vq := i4 16, theta0 := u 20 8, dtheta := u 28 8, sub := u 36 1, phase := u 37 1
    close := bit (u 38 1) 0, legs := [(i4 40, i4 44), (i4 48, i4 52), (i4 56, i4 60)] }

/-- Entries i of a list of states, as 8 bytes each. -/
def states8 (n : Nat) (l : List Int) : List Nat := ((List.range n).map (fun i => leI 8 (entry l i 0))).flatten

/-- The state block as STATE carries it (Table 9-8). -/
def LawBlock.payload (b : LawBlock) : List Nat :=
  leI 8 b.w ++ leI 8 b.wd ++ le 8 b.theta ++ le 8 b.dth ++
    leI 8 b.pf ++ leI 8 b.qf ++ leI 8 b.vf ++ leI 8 b.vgf ++ leI 8 b.uh ++ leI 8 b.wgf ++ leI 8 b.wbf ++
    leI 8 b.xi ++ le 4 b.thb ++ le 4 b.thg ++ states8 4 b.xe ++ states8 4 b.xim ++ states8 3 b.xm ++
    [b.pwin % 256, b.ewin % 256, b.region % 256, b.rpend % 256] ++ le 4 b.dwell ++ leI 8 b.px ++ leI 8 b.vxd ++ leI 8 b.vxq ++
    [b.sub % 256, b.phase % 256, 0, 0] ++ le 4 b.tr ++ le 4 b.phT ++ le 4 b.syT ++ le 4 b.riT ++ [b.fails % 256, b.rideN % 256, 0, 0] ++
    leI 8 b.xs ++ states8 3 b.xh ++ states8 3 b.xv ++
    [b.exN % 256, b.exSt % 256] ++ le 2 b.exRun ++ ((List.range 4).map (fun i => leI 4 (entry b.exOut i 0))).flatten ++
    ((List.range 4).map (fun i => le 4 (entry b.subN i 0))).flatten ++ [b.sources % 256] ++ List.replicate 7 0

/-- A state block read from STATE. -/
def LawBlock.ofBytes (d : List Nat) : LawBlock :=
  let u (i n : Nat) := ofLe ((d.drop i).take n)
  let s8 (i : Nat) := ofLeI ((d.drop i).take 8)
  let s8s (i n : Nat) := (List.range n).map (fun j => s8 (i + 8 * j))
  { w := s8 0, wd := s8 8, theta := u 16 8, dth := u 24 8
    pf := s8 32, qf := s8 40, vf := s8 48, vgf := s8 56, uh := s8 64, wgf := s8 72, wbf := s8 80, xi := s8 88
    thb := u 96 4, thg := u 100 4, xe := s8s 104 4, xim := s8s 136 4, xm := s8s 168 3
    pwin := u 192 1, ewin := u 193 1, region := u 194 1 % 8, rpend := u 195 1, dwell := u 196 4
    px := s8 200, vxd := s8 208, vxq := s8 216
    sub := u 224 1, phase := u 225 1, tr := u 228 4, phT := u 232 4, syT := u 236 4, riT := u 240 4
    fails := u 244 1, rideN := u 245 1, xs := s8 248, xh := s8s 256 3, xv := s8s 280 3
    exN := u 304 1, exSt := u 305 1, exRun := u 306 2
    exOut := (List.range 4).map (fun j => ofLeI ((d.drop (308 + 4 * j)).take 4))
    subN := (List.range 4).map (fun j => u (324 + 4 * j) 4), sources := u 340 1 }

/-- A measurement item as MEAS carries it (Table 9-4). -/
def MeasItem.payload : MeasItem → List Nat
  | .pcc p => [1, b2n p.ok + 2 * b2n p.brk + 4 * b2n p.brkOk, 0, 0] ++ leI 4 p.a ++ leI 4 p.b ++ leI 4 p.c ++ le 4 p.g
  | .line v => [2, b2n v.ok, 0, 0] ++ leI 4 v.a ++ leI 4 v.b ++ leI 4 v.c ++ [0, 0, 0, 0]
  | .dc v => [3, b2n v.ok, 0, 0] ++ leI 4 v.a ++ leI 4 v.b ++ List.replicate 8 0
  | .arm i a => [4, b2n a.ok + 2 * b2n a.wOk] ++ le 2 i ++ leI 4 a.i ++ leI 4 a.w ++ List.replicate 8 0

/-- A measurement item read from MEAS. -/
def MeasItem.ofBytes (d : List Nat) : Option MeasItem :=
  let fl := entry d 1 0
  let p (i : Nat) := ofLeI ((d.drop i).take 4)
  match entry d 0 0 with
  | 1 => some (.pcc { ok := bit fl 0, a := p 4, b := p 8, c := p 12, brk := bit fl 1, brkOk := bit fl 2, g := ofLe ((d.drop 16).take 4) })
  | 2 => some (.line { ok := bit fl 0, a := p 4, b := p 8, c := p 12 })
  | 3 => some (.dc { ok := bit fl 0, a := p 4, b := p 8, c := 0 })
  | 4 => some (.arm (ofLe ((d.drop 2).take 2)) { ok := bit fl 0, i := p 4, wOk := bit fl 1, w := p 8 })
  | _ => none

/-! ### Messages received -/

/-- MEAS (R99, R100). -/
def execMeasMsg (p : Side) (header : BitVec 64) (data : List Nat) (late : Bool) (s : State) : Out :=
  let item := entry data 0 0 + 16 * (if entry data 0 0 = 4 then ofLe ((data.drop 2).take 2) else 0)
  .next (s.spineTake p 0x22 item header.toNat data late s.forPeriod (fun x s =>
    match MeasItem.ofBytes data with
    | some m => s.mapSpn (fun n => { n with meas := n.meas ++ [(x.src, m)] })
    | none => s))

/-- SETPOINT (R101). -/
def execSetpointMsg (p : Side) (header : BitVec 64) (data : List Nat) (late : Bool) (s : State) : Out :=
  .next (s.spineTake p 0x23 (entry data 2 0) header.toNat data late s.forPeriod (fun x s =>
    if ofLe (data.take 2) = 0x2002 then
      s.mapSpn (fun n => { n with sets := n.sets ++ [(x.src, entry data 2 0, ofLeI ((data.drop 4).take 4))] })
    else s))

/-- The message names tick F − 2 of the present period, and that tick is running or over. -/
def State.forRefs (s : State) (t : Nat) : Bool :=
  t == tick24 (s.lastTick - 1) && s.fp ≤ s.k + 2

/-- REFS (R111, R261): held from the leader, discarded from any other source. -/
def execRefsMsg (p : Side) (header : BitVec 64) (data : List Nat) (late : Bool) (s : State) : Out :=
  .next (s.spineTake p 0x30 0 header.toNat data late s.forRefs (fun x s =>
    if s.spn.leader != some x.src then (if s.ARM_LEAD = 1 then s.warn 0x5222 [] else s)
    else
      let r := RefSet.ofBytes data
      let s := s.mapSpn (fun n => { n with refsMsg := some r })
      if s.mode.mode == .forming then s.mapArm (fun a => { a with next := some r }) else s))

/-- STATE (R113, R261): held from the leader. -/
def execStateMsg (p : Side) (header : BitVec 64) (data : List Nat) (late : Bool) (s : State) : Out :=
  .next (s.spineTake p 0x31 0 header.toNat data late s.forRefs (fun x s =>
    if s.spn.leader == some x.src then s.mapSpn (fun n => { n with stateMsg := some (LawBlock.ofBytes data) }) else s))

/-! ### Station setpoints (R101) -/

/-- The values of a number type or its range allow for v (Tables 2-3, 4-8). -/
def ObjRow.admits (r : ObjRow) (v : Int) : Bool :=
  r.rng.isEmpty || r.rng.any (fun (lo, hi, st) => lo ≤ v && v ≤ hi && (v - lo) % st == 0)

/-- The status of a write of setpoint sub of 0x2002. -/
def State.setpointStatus (s : State) (level sub : Nat) (v : Int) : Nat :=
  match findObj 0x2002 sub with
  | none => stNoSub
  | some r =>
    if level < r.wl then stPrivilege
    else if !(r.admits v) then stRange
    else if s.fenced 4 0 then stFenced
    else if !s.spnActive then stMode
    else stOk

/-- The write waits for its publication in tick F − 1. -/
def State.holdSetpoint (s : State) (sub : Nat) (v : Int) : State :=
  s.mapSpn (fun n => { n with toPub := n.toPub.filter (fun p => p.1 != sub) ++ [(sub, v)] })

/-- STATION_SETPOINT_WRITE (R101): a write of setpoint sub by a session of a level. -/
def execStationSetpointWrite (level : Nat) (sub : Fin 4) (value : BitVec 32) (s : State) : Out :=
  let v := signed 32 value.toNat
  .next (if s.setpointStatus level (sub.val + 1) v = stOk then s.holdSetpoint (sub.val + 1) v else s)

/-- The published writes take effect at k = 0: the highest device number wins (R101). -/
def State.applySetpoints (s : State) : State :=
  let ws := sortBy (fun w : Nat × Nat × Int => w.1) s.spn.sets
  let s := ws.foldl (fun s w => s.setObj 0x2002 w.2.1 0 (.num w.2.2)) s
  s.mapSpn (fun n => { n with sets := [] })

/-! ### Publication in tick F − 1 (R99, R157, R256, R267) -/

/-- A message of tick F − 1 leaves and is held by its sender as well. -/
def State.publishMeas (s : State) (m : MeasItem) : State :=
  (s.spineSend 0x22 s.tick m.payload).mapSpn (fun n => { n with meas := n.meas ++ [(s.device, m)] })

/-- The device is named publisher of an item. -/
def State.publishes (s : State) (p a : Nat) : Bool := s.device == p || s.device == a

/-- The latched value of a channel in PU32, 0 where none is set, and whether it is valid and not frozen (R301). -/
def State.chanPu (s : State) (c : Nat) (scale : Int) : Int × Bool :=
  if c = 255 then (0, false) else (scaled (s.ain c).value scale, bit (s.ain c).flags 0 && !(bit (s.ain c).flags 3))

/-- The three phases of an item. -/
def State.threePhase (s : State) (a b c : Nat) : VItem :=
  let x := s.chanPu a s.V_SCALE
  let y := s.chanPu b s.V_SCALE
  let z := s.chanPu c s.V_SCALE
  { ok := x.2 && y.2 && z.2, a := x.1, b := y.1, c := z.1 }

/-- The PCC item of this device (Table 4-1). -/
def State.pccItem (s : State) : PccItem :=
  let v := s.threePhase s.PCC_CH_A s.PCC_CH_B s.PCC_CH_C
  { ok := v.ok, a := v.a, b := v.b, c := v.c
    brk := s.BRK_PIN != 255 && bit s.field.vals s.BRK_PIN, brkOk := s.BRK_PIN != 255 && bit s.field.valid s.BRK_PIN
    g := groupDelay (s.RESPONSE s.PCC_CH_A) s.tickNs }

/-- The DC item of this device: the negative pole as a positive value (Table 4-1). -/
def State.dcItem (s : State) : VItem :=
  let p := s.chanPu s.DC_CH_P s.DC_SCALE
  let n := s.chanPu s.DC_CH_N s.DC_SCALE
  { ok := p.2 && n.2, a := p.1, b := n.1, c := 0 }

/-- Every measurement item this device publishes (R98, R99, R267). -/
def State.pubItems (s : State) : List MeasItem :=
  (if s.publishes s.PCC_PUB s.PCC_PUB_ALT then [.pcc s.pccItem] else []) ++
  (if s.publishes s.LINE_PUB s.LINE_PUB_ALT then [.line (s.threePhase s.LINE_CH_A s.LINE_CH_B s.LINE_CH_C)] else []) ++
  (if s.publishes s.DC_PUB s.DC_PUB_ALT then [.dc s.dcItem] else []) ++
  (if s.ARM_LEAD = 1 then
    [.arm s.ownArm { ok := s.armImOk, i := s.armIm, wOk := s.spn.energy.isSome, w := s.spn.energy.getD 0 }] else [])

/-- The available count and the sums as the latch point of the present tick gives them: i_m is the lead's own latched value, in the
other span that of the last share held (R157, R177, R181, R182). -/
def State.spanSums (s : State) : Nat × Nat × Nat :=
  let im := if s.ARM_LEAD = 1 then s.armIm else s.arm.im
  (s.mapCellS (fun c => { c with ims := (im :: c.ims).take 24 })).publish s.tick

/-- What this device publishes, as it stands now. -/
def State.publication (s : State) : Publication := { call := s.ownCall, span := s.spanSums, items := s.pubItems }

/-- The latch point of tick F − 1 takes what the tick publishes, and the count of a span that holds the position lease is checked
against AV_MIN (R157, R180, R256, R429). -/
def State.pubLatch (s : State) : State :=
  if s.k + 1 = s.fp then
    let p := s.publication
    let s := s.mapSpn (fun n => { n with pub := some p })
    if s.holdsLease then s.avCheck p.span.1 else s
  else s

/-- SPAN_PUB of a span that holds the position lease (R157, R429). -/
def State.spanPublish (s : State) (p : Nat × Nat × Nat) : State :=
  if s.holdsLease then
    (s.spineSend 0x21 s.tick (le 2 p.1 ++ [s.ownArm, 0] ++ le 8 p.2.1 ++ le 8 p.2.2)).mapSpn (fun x => { x with
      pubs := x.pubs ++ [{ src := s.device, av := p.1, arm := s.ownArm, sum := p.2.1, sq := p.2.2 }] })
  else s

/-- The accepted setpoint writes are published (R101). -/
def State.setpointPublish (s : State) : State :=
  if !s.spnActive then s
  else
    let s := s.spn.toPub.foldl (fun s w =>
      (s.spineSend 0x23 s.tick (le 2 0x2002 ++ [w.1, 0] ++ leI 4 w.2 ++ [0, 0, 0, 0])).mapSpn (fun n => { n with
        sets := n.sets ++ [(s.device, w.1, w.2)] })) s
    s.mapSpn (fun n => { n with toPub := [] })

/-- The roll call of this device (R256 to R258). -/
def State.rollCall (s : State) (c : RollCall) : State :=
  let s := s.mapSpn (fun n => { n with quorum := bit c.flags 5, candRun := bit c.flags 2, candNew := bit c.flags 3 })
  if s.spnActive then (s.spineSend 0x20 s.tick c.payload).holdCall c else s

/-- The messages of tick F − 1, in the order of Table 9-2 (R101, R243, R256, R267). -/
def State.publishAll (s : State) : State :=
  let p := s.spn.pub.getD s.publication
  (p.items.foldl State.publishMeas ((s.rollCall p.call).spanPublish p.span)).setpointPublish

/-! ### The leader's references (R111, R261) -/

/-- In tick F − 2 the leader sends REFS and STATE, and its own arm lead holds the set. -/
def State.refsSend (s : State) : State :=
  let s := { s with refsDone := true }
  match s.form.refs with
  | some r =>
    if s.forming && s.spn.leader == some s.device && s.holdsLease then
      ((s.spineSend 0x30 s.tick r.payload).spineSend 0x31 s.tick s.law.payload).mapArm (fun a => { a with next := some r })
    else s
  | none => s

/-- REFS_SEND (R111): in tick F − 2, once per period. -/
def execRefsSend (s : State) : Out :=
  .next (if s.k + 2 = s.fp && !s.refsDone && !s.edge then s.slotsFinish.refsSend else s)

/-! ### The shadow check (R113, R260, R266) -/

/-- Three consecutive mismatches (R113). -/
def State.shadowLimit (s : State) : State :=
  if 3 ≤ s.form.mism && !s.form.barred then
    (s.mapForm (fun f => { f with barred := true, matchRun := 0 })).warnOn 0x1031 0 []
  else s

/-- 16 consecutive matches make the forming state valid again (R113). -/
def State.shadowRestore (s : State) : State :=
  if s.form.barred && 16 ≤ s.form.matchRun then
    (s.mapForm (fun f => { f with barred := false, valid := true })).warnOff 0x1031 0
  else s

/-- A match. -/
def State.shadowMatch (s : State) : State :=
  (s.mapForm (fun f => { f with mism := 0, matchRun := min (f.matchRun + 1) 16, valid := !f.barred })).shadowRestore

/-- A mismatch: the leader's block is loaded at the next boundary. -/
def State.shadowMismatch (s : State) (b : LawBlock) : State :=
  ((s.mapForm (fun f => { f with mism := min (f.mism + 1) 3, matchRun := 0, valid := false, load := some b })).note 0x1030 []).shadowLimit

/-- The shadow check of tick F − 1. -/
def State.shadowCheck (s : State) : State :=
  if !s.forming then s.mapForm (fun f => { f with valid := false, mism := 0, matchRun := 0 })
  else if s.spn.leader == some s.device then (s.mapForm (fun f => { f with valid := true, mism := 0, barred := false })).warnOff 0x1031 0
  else match s.spn.leader, s.spn.refsMsg, s.spn.stateMsg with
    | some _, some r, some b =>
      if s.form.refs == some r && s.law == b then s.shadowMatch else s.shadowMismatch b
    | _, _, _ => s.mapForm (fun f => { f with valid := false })

/-- SHADOW_MISMATCH_LIMIT (R113). -/
def execShadowMismatchLimit (s : State) : Out := .next s.shadowLimit

/-- SHADOW_MATCH_RESTORE (R113). -/
def execShadowMatchRestore (s : State) : Out := .next s.shadowRestore

/-! ### The boundary -/

/-- The items and publications of two devices of one position: those of the device that is not active for the position
are left out (R434). -/
def State.activeOnly (s : State) : State :=
  let keep (d : Nat) : Bool := match s.spn.roster.find? (fun c => c.src == d) with
    | some c => s.activeOf c.pos == some d || (s.activeOf c.pos).isNone
    | none => true
  s.mapSpn (fun n => { n with meas := n.meas.filter (fun m => keep m.1), pubs := n.pubs.filter (fun p => keep p.src) })

/-- What was held for the period that ends is taken off. -/
def State.spineClear (s : State) : State :=
  s.mapSpn (fun n => { n with
    meas := [], stateMsg := none, refsMsg := none, pub := none
    seen := n.seen.filter (fun e => (tick24 s.tick + 16777216 - e.2.2) % 16777216 ≤ 2) })

end Sys2Proof.Machine
end

