-- ==== Sys2Proof/Machine/Trunk.lean ====
section
/-! DEFINITION. The cell trunks (08): uplink acceptance, reactions, authority epochs, bring-up and loss, mailbox,
downlink frames, the start check. -/
namespace Sys2Proof.Machine

/-- Epoch e is newer than h (R218). -/
def newer (e h : Nat) : Bool :=
  let d := (e + 65536 - h % 65536) % 65536
  1 ≤ d && d ≤ 32767

/-- The cells of a quire, in slot order (R200). -/
def quireCells (q : Nat) : List Nat := (List.range 32).map (fun w => 32 * q + w)

/-! ### Management frames (R209) -/

/-- A management frame: header, payload, and the CRC-32 over what stands before it in the last 32 bits of the final block, which
is one of its own where the payload leaves no room in its last block (R206, R209; DESIGN CHOICE, log entry 132). -/
def mgmtFrame (type seq : Nat) (data : List Nat) : List Nat :=
  let b := [type % 256, (data.length + 7) / 8, seq % 256, 0, 0, 0, 0, 0] ++ padTo (8 * ((data.length + 11) / 8) - 4) data
  b ++ le 4 (crc32 b)

/-- A management frame leaves on trunk q with the next SEQ; a request stays outstanding until its answer. -/
def State.mgmtSend (s : State) (q type : Nat) (data : List Nat) : State :=
  let n := ((s.trk q).seq + 1) % 256
  (s.mapTrk q (fun t => { t with seq := n, req := some (type, data, s.tick) })).emit (.mgmt q (mgmtFrame type n data))

/-- The answer to an outstanding request of a type has arrived. -/
def State.mgmtDone (s : State) (q type : Nat) : State :=
  match (s.trk q).req with
  | some (ty, _, _) => if ty = type then s.mapTrk q (fun t => { t with req := none }) else s
  | none => s

/-- The request of trunk q is sent again when no answer came within 8 ticks (R209). -/
def State.mgmtAgain (s : State) (q : Nat) : State :=
  match (s.trk q).req with
  | some (ty, pl, sent) => if sent + 8 ≤ s.tick then s.mgmtSend q ty pl else s
  | none => s

/-- MGMT_REQUEST_TIMEOUT. -/
def execMgmtRequestTimeout (q : Fin 8) (s : State) : Out := .next (s.mgmtAgain q.val)

/-- The management work of one tick of trunk q: the next ECHO of MEASURE, the next request of ALIGN (Table 8-8). -/
def State.mgmtTick (s : State) (q : Nat) : State :=
  let t := s.trk q
  if t.req.isSome then s.mgmtAgain q
  else if t.st = 2 then
    if t.echoes.length < 64 then s.mgmtSend q 1 (le 4 s.now) else s
  else if t.st = 3 then
    if !t.aligned then s.mgmtSend q 2 (le 2 t.tTrk ++ le 8 s.tick)
    else if !t.gotInfo then s.mgmtSend q 4 []
    else if !t.gotDelays then s.mgmtSend q 3 []
    else s
  else s

/-! ### Leaving a state -/

/-- The mailbox transactions of a quire are abandoned (R225). -/
def State.abandon (s : State) (q : Nat) : State :=
  (quireCells q).foldl (fun s c => s.mapCell c (fun x => { x with
    mail := none, due := none, lostRun := 0, wrote := false, dropped := false })) s

/-- A trunk that is being brought up fails: RETRY, its event once per cause (R214). -/
def State.bringFail (s : State) (q code cause : Nat) (payload : List Nat) : State :=
  let key := code * 256 + cause
  let seen := (s.trk q).causes.contains key
  let s := (s.mapTrk q (fun t => { t with
    st := 6, at_ := s.now, ticks := 0, req := none, echoes := [], turns := [], lockDn := false, lockUp := false,
    causes := if seen then t.causes else key :: t.causes })).abandon q
  if seen then s.warnHold code q else s.warnKeep code q payload

/-- The warnings of a trunk's bring-up and of its departure end: it is UP, or OFF (R19, R214, R215). -/
def State.trunkWell (s : State) (q : Nat) : State := ((s.warnOff 0x3002 q).warnOff 0x3004 q).warnOff 0x3006 q

/-- Enabled trunks not in UP (R216, Table 8-19). -/
def State.downN (s : State) : Nat := ((List.range 8).filter (fun q => s.trkOn q && !(s.linkUp q))).length

/-- Too many enabled trunks are not in UP (R216). -/
def State.quireLoss (s : State) : State :=
  if s.downN ≤ s.QUIRE_LOSS_MAX then s.warnOff 0x3005 0
  else if !(s.isRun .arm) then s
  else if s.mode.mode == .forming && (List.range 8).all (fun q => !(s.trkOn q) || (s.trk q).everUp) then
    s.trip 0x3003 .trunk []
  else s.warnOn 0x3005 0 []

/-- A trunk in UP goes to RETRY with event 0x3002 and a cause (R215). -/
def State.leaveUp (s : State) (q cause : Nat) : State :=
  if (s.trk q).st = 5 then
    let s := (s.mapTrk q (fun t => { t with
      st := 6, at_ := s.now, ticks := 0, downs := incSat 32 t.downs, dlRun := 0, unbound := 0 })).abandon q
    s.warnKeep 0x3002 q (le 2 q ++ [cause])
  else s

/-- The counts of R215 of trunk q are judged: cause 1 misses, 2 DL_MISS, 4 BOUND = 0. -/
def State.leaveJudge (s : State) (q : Nat) : State :=
  let t := s.trk q
  if t.st = 5 then
    if s.LINK_MISS_MAX ≤ t.missRun then s.leaveUp q 1
    else if s.LINK_MISS_MAX ≤ t.dlRun then s.leaveUp q 2
    else if s.LINK_MISS_MAX ≤ t.unbound then s.leaveUp q 4
    else s
  else s

/-- TRUNK_LEAVES_UP. -/
def execTrunkLeavesUp (q : Fin 8) (s : State) : Out := .next (s.leaveJudge q.val).quireLoss

/-- TRUNK_BLOCK_LOCK_LOST: the downlink or the uplink lane of trunk q loses block lock (R214, R215). -/
def execTrunkBlockLockLost (q : Fin 8) (down : Bool) (s : State) : Out :=
  let s := s.mapTrk q.val (fun t => if down then { t with lockDn := false } else { t with lockUp := false })
  let st := (s.trk q.val).st
  .next (if st = 5 then (s.leaveUp q.val 3).quireLoss
    else if st = 2 || st = 3 || st = 4 then s.bringFail q.val 0x3006 3 (le 2 q.val)
    else s)

/-! ### Settings block (Table 8-11) -/

/-- GD_BLOCK: the 32 bytes encoded from 0x3301:01 to :10. -/
def State.gdBlock (s : State) : List Nat :=
  let b := [1, (s.DEAD_TIME - 500) / 125, s.PRE_ON / 10, s.PLAT_I_ON] ++ le 2 (s.PLAT_T_ON / 10)
    ++ [s.PRE_OFF / 10, s.PLAT_I_OFF] ++ le 2 (s.PLAT_T_OFF / 10)
    ++ [s.DESAT_BLANK / 250, s.DESAT_THR / 100, s.UV_LP / 100, s.UV_LN / 100, s.UV_UP / 100, s.UV_UN / 100,
        s.BS_GOOD_THR / 100, s.TRICKLE_EN % 2] ++ le 2 (s.HOLD_T / 10) ++ List.replicate 8 0
  b ++ le 4 (crc32 b)

/-! ### Mailbox (R221 to R225) -/

/-- A read of cell c failed: not answered (3) or different (2); reason 5, and 0x3031 in UP (R223, R224). -/
def State.mailFail (s : State) (c gd : Nat) : State :=
  let why := (s.cellAt c).mail.map (·.why)
  let s := (s.mapCell c (fun x => { x with gd := gd, mail := none })).markFail c 5
  if why == some .verify then s else s.warnKeep 0x3031 c (le 2 c)

/-- The parts of a read answer in order, as bytes. -/
def mailBytes (parts : List (Nat × Nat)) : List Nat := (sortBy (fun p => p.1) parts).flatMap (fun p => le 4 p.2)

/-- The part of a read answer in the word of cell c is taken; a complete answer is compared (R221). -/
def State.mailIn (s : State) (c : Nat) : State :=
  let x := s.cellAt c
  match x.mail with
  | none => s
  | some m =>
    if x.mbxValid && x.mbxTag == m.tag && !(m.parts.any (fun p => p.1 == x.mbxPart)) then
      let m := { m with parts := (x.mbxPart, x.mbxData) :: m.parts }
      let s := s.mapCell c (fun x => { x with mail := some m })
      if m.parts.length = 8 then
        if mailBytes m.parts == s.gdBlock then
          let s := (s.mapCell c (fun x => { x with gd := 1, mail := none })).warnOff 0x3031 c
          if m.why == .verify then s.mapTrk (c / 32) (fun t => { t with verified := t.verified + 1 }) else s
        else s.mailFail c 2
      else s
    else s

/-- A read of cell c that was sent a second time and is not complete 16 ticks after it fails (R221). -/
def State.mailLate (s : State) (c n : Nat) : State :=
  match (s.cellAt c).mail with
  | some m => if m.again && m.sent + 16 ≤ n then s.mailFail c 3 else s
  | none => s

/-- MAILBOX_READ_TIMEOUT: the open read of a cell is judged in the present tick. -/
def execMailboxReadTimeout (c : Fin 256) (s : State) : Out := .next (s.mailLate c.val s.tick)

/-- The mailbox request of trunk q in tick n: cell, MBX_OP, and for a read whether it is a repeat and why (R221,
R223, R224). -/
def State.mailPick (s : State) (q n : Nat) : Option (Nat × Nat × Bool × MailWhy) :=
  let t := s.trk q
  let j := t.ticks
  let turn (i : Nat) : Option Nat := t.turns[i]?
  if s.fenced 2 2 then none
  else if t.st = 4 then
    if j % 3 = 0 then
      match turn (j / 3) with
      | some c => if (s.cellAt c).fail = 0 then some (c, 1, false, .verify) else none
      | none => none
    else if j % 3 = 1 then
      if j < 4 then none
      else match turn ((j - 4) / 3) with
        | some c => if (s.cellAt c).dropped then none else some (c, 2, false, .verify)
        | none => none
    else if j < 20 then none
    else match turn ((j - 20) / 3) with
      | some c => match (s.cellAt c).mail with
        | some m => if m.again then none else some (c, 2, true, .verify)
        | none => none
      | none => none
  else if t.st = 5 then
    match (quireCells q).find? (fun c => match (s.cellAt c).mail with
        | some m => !m.again && m.sent + 16 ≤ n
        | none => false) with
    | some c => some (c, 2, true, ((s.cellAt c).mail.map (·.why)).getD .periodic)
    | none =>
      match (quireCells q).find? (fun c => (s.cellAt c).due.isSome && (s.cellAt c).mail.isNone) with
      | some c => some (c, 2, false, ((s.cellAt c).due).getD .periodic)
      | none => none
  else none

/-- The request of a frame is entered: the tag of the quire advances, a read opens or repeats its transaction
(R221). -/
def State.mailSend (s : State) (q n : Nat) : Option (Nat × Nat × Bool × MailWhy) → State
  | none => s
  | some (c, op, again, why) =>
    let tag := ((s.trk q).tag + 1) % 16
    let s := s.mapTrk q (fun t => { t with tag := tag })
    if op = 2 then
      s.mapCell c (fun x => { x with
        mail := some { tag := tag, why := why, sent := n, again := again }, due := none, wrote := false })
    else s.mapCell c (fun x => { x with wrote := true })

/-- PERIODIC_READBACK: VERIFY_T ticks after the last one, the next populated cell of an UP quire is to be read
(R224). -/
def execPeriodicReadback (q : Fin 8) (s : State) : Out :=
  let t := s.trk q.val
  .next (if t.st = 5 && s.VERIFY_T != 0 && s.VERIFY_T ≤ t.vCount then
      match ((List.range 32).map (fun i => (t.pos + i) % 32)).find? (fun w => s.populated (32 * q.val + w)) with
      | some w =>
        (s.mapTrk q.val (fun t => { t with vCount := 0, pos := (w + 1) % 32 })).mapCell (32 * q.val + w)
          (fun x => { x with due := some (x.due.getD .periodic) })
      | none => s.mapTrk q.val (fun t => { t with vCount := 0 })
    else s)

/-- A pass over every cell that can be read: those of the trunks in UP (R222, R224). -/
def State.gdVerify (s : State) : State :=
  (List.range 256).foldl (fun s c =>
    if s.populated c && s.linkUp (c / 32) then s.mapCell c (fun x => { x with due := some .pass }) else s) s

/-- GD_VERIFY: a write of 1 by a session of a level (R224). -/
def execGdVerify (level : Nat) (s : State) : Out := .next (if 2 ≤ level then s.gdVerify else s)

/-! ### Downlink frames (R204 to R206) -/

/-- A command word (Table 8-3). -/
def commandWord (st apply slot : Nat) : Nat :=
  let v := st % 4 + (3 - st % 4) * 4 + (apply % 256) * 256 + (slot % 32) * 65536
  v + crc8 (le 3 v) * 16777216

/-- The 176 bytes of a downlink quire frame (Tables 8-1 to 8-3). -/
def quireFrame (epoch n d : Nat) (words : List Nat) (slot op tag : Nat) (data : List Nat) : List Nat :=
  let head := epoch % 65536 + (n % 16777216) * 2 ^ 16 + ((n + d) % 256) * 2 ^ 40 + (slot % 32) * 2 ^ 48
    + (op % 4) * 2 ^ 53 + (tag % 16) * 2 ^ 55
  let b := le 8 head ++ (words.zipIdx.flatMap (fun p => le 4 (commandWord p.1 (n + d) p.2))) ++ padTo 32 data
    ++ [0, 0, 0, 0]
  b ++ le 4 (crc32 b)

/-- The words of trunk q: BLOCK under a block, in VERIFY BLOCK or the BYPASS of rule 6, otherwise the selector's (R28,
Table 8-8). -/
def State.quireWords (s : State) (q : Nat) (words : List Nat) (block : Bool) : List Nat :=
  (quireCells q).map (fun c =>
    let w := entry words c 2
    if block then 2
    else if (s.trk q).st = 4 then (if w = 0 && (s.cellAt c).rule == 6 then 0 else 2)
    else w)

/-- One frame leaves on trunk q, with its mailbox request. -/
def State.sendFrame (s : State) (q n : Nat) (words : List Nat) : State :=
  let req := s.mailPick q n
  let s := s.mailSend q n req
  let (slot, op, data) := match req with
    | some (c, op, _, _) => (c % 32, op, if op = 1 then s.gdBlock else [])
    | none => (0, 0, [])
  let tag := if op = 0 then 0 else (s.trk q).tag
  s.emit (.quire q (quireFrame s.dpx.epoch n s.APPLY_DELAY words slot op tag data))

/-- The issue point of tick n: frames of the sending trunks and the last BLOCK frames after a fault of TRUNK; a fenced
framer sends none and its entry is discarded; the words sent are recorded (R204, R217, R502, Table 18-5). -/
def State.issue (s : State) (n : Nat) (words : List Nat) (block : Bool) : State :=
  let live := s.sending
  let last := s.cell.final
  let framed (q : Nat) : Bool := (live.contains q || last.contains q) && !(s.fenced 2 (3 + q))
  let lists := (List.range 8).map (fun q => (q, s.quireWords q words (block || last.contains q)))
  let s1 := lists.foldl (fun s p =>
    if framed p.1 then s.sendFrame p.1 n p.2
    else if live.contains p.1 then { s with fab := { s.fab with discarded := incSat 32 s.fab.discarded } } else s) s
  let sent := lists.flatMap (fun p => p.2.map (fun w => if framed p.1 then some w else none))
  let s2 := s1.record n sent
  { s2 with cell := { s2.cell with
      final := [], trunks := s2.cell.trunks.map (fun t => { t with ticks := t.ticks + 1, vCount := satU 32 (t.vCount + 1) }) } }

/-! ### Uplink (R207, R208, R218, R220, R228 to R230) -/

/-- UPLINK_FRAME: a frame of trunk q arrives; it is held for its latch point when its CHECK is right and its TICK names
a sample tick that is still to be latched; in TRAIN, without block lock, none is accepted (R208, R233). -/
def execUplinkFrame (q : Fin 8) (head : List Nat) (words : List (List Nat)) (s : State) : Out :=
  let h := ofLe head
  let tk := h % 16777216
  let want := [(s.tick + 16777216 - 1) % 16777216, s.tick % 16777216]
  .next (if (s.trk q.val).st = 1 then s.mapTrk q.val (fun t => { t with refused := true })
    else if (s.trk q.val).st != 0 && head.length = 8 &&
      crc8 (head.take 7) == entry head 7 0 && want.contains tk then
      s.mapTrk q.val (fun t => { t with held := (t.held.filter (fun f => ofLe f.head % 16777216 != tk)) ++ [⟨head, words⟩] })
    else s)

/-- The hub alarm changes: 0x3050 at each change to a code other than 0 (Table 8-14). -/
def State.alarmChange (s : State) (q code detail : Nat) : State :=
  if (s.trk q).almEv = code then s
  else
    let s := (s.mapTrk q (fun t => { t with almEv := code })).warnOff 0x3050 q
    if code = 0 then s else s.warnOn 0x3050 q (le 2 q ++ [code % 256] ++ le 4 detail)

/-- ALARM: a management frame with the alarm code and its detail (Table 8-7). -/
def execHubAlarm (q : Fin 8) (code : BitVec 8) (detail : BitVec 32) (s : State) : Out :=
  .next (if (s.trk q.val).st = 0 then s else s.alarmChange q.val code.toNat detail.toNat)

/-- The fields of an accepted header are held, and the counts of R215 go on (R208, Tables 8-17, 8-19, 8-20). -/
def State.headerHold (s : State) (q h : Nat) : State :=
  let ep := bits h 24 16
  let own := s.dpx.epoch
  let s := s.mapTrk q (fun t => { t with
    epoch := ep, bound := bit h 40, dlMiss := bit h 41, conflict := bit h 42, alarm := bits h 48 8, missRun := 0
    dlRun := if bit h 41 then t.dlRun + 1 else 0
    unbound := if !(bit h 40) && ep == own then t.unbound + 1 else 0 })
  { s with cell := { s.cell with
    highest := if s.cell.anyEpoch && !(newer ep s.cell.highest) then s.cell.highest else ep, anyEpoch := true
    confNow := s.cell.confNow || bit h 42 } }

/-- While a takeover stands before its liveness check, the headers of a trunk that has reached ALIGN are counted (R437). -/
def State.liveHold (s : State) (q h : Nat) : State :=
  match s.dpx.take with
  | .begun _ =>
    if 3 ≤ (s.trk q).st then
      s.mapDpx (fun d => { d with live := updAt q (fun l =>
        if l.1 < 4 then (l.1 + 1, l.2 && !(bit h 40) && !(bit h 41)) else l) d.live })
    else s
  | _ => s

/-- The alarm of a header; one that no ALARM frame announced carries a free detail (Table 8-14). -/
def State.headerAlarm (s : State) (q code : Nat) : State :=
  if (s.trk q).almEv = code then s else (s.drawn).alarmChange q code (s.freeNat % 4294967296)

/-- A trunk leaves UP for a conflict, with a free cause: Table 16-10 names none for it (R220). -/
def State.conflictLeave (s : State) (q : Nat) : State :=
  if s.linkUp q then (s.drawn).leaveUp q (s.freeNat % 256) else s

/-- The epoch and the conflict of a header are judged (R220). -/
def State.headerEpoch (s : State) (q ep : Nat) (conflict : Bool) : State :=
  let s := { s with cell := { s.cell with superseded := s.cell.superseded || newer ep s.dpx.epoch } }
  if s.holdsLease && newer ep s.dpx.epoch then (s.trip 0x3040 .trunk (le 2 q)).leaseLost
  else if ep == s.dpx.epoch && conflict then (s.warnOn 0x3041 q (le 2 q)).conflictLeave q
  else s.warnOff 0x3041 q

/-- The header of an accepted frame (R208, R215, R220). -/
def State.headerIn (s : State) (q h : Nat) : State :=
  (((s.headerHold q h).liveHold q h).headerAlarm q (bits h 48 8)).headerEpoch q (bits h 24 16) (bit h 42)

/-- One word of an accepted frame of trunk q, sampled in tick n − 2 (R208, R228). -/
def State.wordIn (s : State) (q n c : Nat) (w : List Nat) : State :=
  if wordValid w (n - 2) then
    s.mapCell c (fun x => { x with
      tel := w, latched := some n, bsSeen := x.bsSeen || bit (ofLe w) 30, cleared := x.cleared && !(bit (ofLe w) 30)
      cmdErr := if bit (ofLe w) 34 then incSat 32 x.cmdErr else x.cmdErr })
  else
    let s := s.mapCell c (fun x => { x with wordErr := incSat 32 x.wordErr })
    let t := s.trk q
    let s := s.mapTrk q (fun t => { t with bad := incSat 32 t.bad, badOnce := true })
    if t.badOnce then s else s.note 0x3011 (le 2 q)

/-- The frame of sample tick n − 2 of trunk q is latched, or its absence counted (R208, R215). -/
def State.latchTrunk (s : State) (q n : Nat) : State :=
  let t := s.trk q
  let of_ (k : Nat) (f : UpFrame) : Bool := ofLe f.head % 16777216 == k % 16777216
  let s := s.mapTrk q (fun t => { t with held := t.held.filter (of_ (n + 16777216 - 1)) })
  match t.held.find? (of_ (n + 16777216 - 2)) with
  | some f =>
    let s := s.headerIn q (ofLe f.head)
    if (s.trk q).st = 0 then s
    else (List.range 32).foldl (fun s w =>
      if s.populated (32 * q + w) then s.wordIn q n (32 * q + w) (entry f.words w []) else s) s
  | none =>
    if 2 ≤ t.st then s.mapTrk q (fun t => { t with rejected := incSat 32 t.rejected, missRun := t.missRun + 1 })
    else if t.refused then s.mapTrk q (fun t => { t with rejected := incSat 32 t.rejected, refused := false })
    else s

/-- The count of R229 of cell c in tick n; others says that another cell of the quire delivered a valid word. -/
def State.lostCount (s : State) (c n : Nat) (others : Bool) : State :=
  s.mapCell c (fun x => { x with
    lostRun := if x.latched == some n || !others || !(s.linkUp (c / 32)) then 0 else x.lostRun + 1 })

/-- A cell whose telemetry is lost is marked failed with reason 4 (R229). -/
def State.lostJudge (s : State) (c : Nat) : State :=
  if s.TEL_LOST ≤ (s.cellAt c).lostRun then s.markFail c 4 else s

/-- TEL_LOST. -/
def execTelLost (c : Fin 256) (s : State) : Out := .next (s.lostJudge c.val)

/-- The failure reason that a fresh word gives by itself: the lowest of Table 7-1 (R228, R230). -/
def State.wordReason (s : State) (c : Nat) : Option Nat :=
  let x := s.cellAt c
  let t := s.trk (c / 32)
  if x.desat then some 1
  else if bit x.uv 0 || bit x.uv 1 || bit x.uv 3 then some 2
  else if 3 ≤ x.gu && x.gu ≤ 6 then some 3
  else if (x.gu = 1 || x.gu = 2) && t.st = 5 then some 5
  else if x.gu = 2 && t.st = 4 && ((t.turns.zipIdx).any (fun p => p.1 == c && 3 * p.2 + 3 ≤ t.ticks)) then some 5
  else none

/-- The comparison of APPLIED with the word that was issued for the sample tick, and in UP the SELF_BLOCK report (R228, Table
8-14). -/
def State.appliedJudge (s : State) (c : Nat) : State :=
  let x := s.cellAt c
  let differs := bit x.told (s.APPLY_DELAY + 1) && x.applied != (entry x.hist (s.APPLY_DELAY + 1) .block).code
  let own := x.selfBlock && s.linkUp (c / 32)
  let s := s.mapCell c (fun x => { x with
    misRun := if differs then x.misRun + 1 else 0, sbRun := if own then x.sbRun + 1 else 0 })
  let s := if differs && x.misRun = 0 then s.note 0x3020 (le 2 c) else s
  if own then s.warnOn 0x3021 c (le 2 c) else s.warnOff 0x3021 c

/-- 16 consecutive samples that differ, or that report SELF_BLOCK, mark the cell failed with reason 3 (Table 8-14). -/
def State.mismatchJudge (s : State) (c : Nat) : State :=
  if 16 ≤ (s.cellAt c).misRun || 16 ≤ (s.cellAt c).sbRun then s.markFail c 3 else s

/-- APPLIED_MISMATCH_LIMIT. -/
def execAppliedMismatchLimit (c : Fin 256) (s : State) : Out := .next (s.mismatchJudge c.val)

/-- The temperature warning of cell c (Table 8-14). -/
def State.hotJudge (s : State) (c : Nat) : State :=
  let x := s.cellAt c
  if s.CELL_T_WARN < x.temp && !x.hot then
    (s.mapCell c (fun x => { x with hot := true })).note 0x3022 (le 2 c)
  else if x.temp ≤ s.CELL_T_WARN - 5 then s.mapCell c (fun x => { x with hot := false })
  else s

/-- Every reaction to the word of cell c latched in tick n, the lowest reason first (R228, R230). -/
def State.react (s : State) (c n : Nat) : State :=
  if (s.cellAt c).latched == some n then
    let s := if (s.cellAt c).fail = 0 then (s.hotJudge c).appliedJudge c
      else s.mapCell c (fun x => { x with misRun := 0, sbRun := 0 })
    match s.wordReason c with
    | some r => if r = 5 then (s.mismatchJudge c).markFail c 5 else s.markFail c r
    | none => s.mismatchJudge c
  else s

/-- The judgements of one populated cell at the latch point of tick n, in the order of their reasons (R178, R230). -/
def State.latchCell (s : State) (c n : Nat) (others : Bool) : State :=
  let s := s.react c n
  let s := (s.lostCount c n others).lostJudge c
  let s := if (s.cellAt c).latched == some n then s.mailIn c else s
  let s := s.mailLate c n
  let s := if s.isRun .select then ((s.staleJudge c n).refreshBegin c n).refreshJudge c n else s
  if (s.cellAt c).failNow then (s.markFail c 7).mapCell c (fun x => { x with failNow := false }) else s

/-- The cells of trunk q at the latch point of tick n. -/
def State.latchCells (s : State) (q n : Nat) : State :=
  let cs := (quireCells q).filter (fun c => s.populated c)
  let fresh := cs.filter (fun c => (s.cellAt c).latched == some n)
  cs.foldl (fun s c => s.latchCell c n (fresh.any (fun o => o != c))) s

/-- VERIFY of trunk q is over: every turn is served and no transaction is open, or 160 ticks have passed (R223). -/
def State.verifyOver (s : State) (q : Nat) : Bool :=
  let t := s.trk q
  t.st == 4 && (160 ≤ t.ticks || ((t.turns.isEmpty || 3 * t.turns.length + 2 ≤ t.ticks) &&
    (quireCells q).all (fun c => (s.cellAt c).mail.isNone)))

/-- A trunk whose VERIFY is over reaches UP (R214, R223). -/
def State.verifyDone (s : State) (q : Nat) : State :=
  if s.verifyOver q then
    let v := (s.trk q).verified
    let s := s.abandon q
    let s := s.mapTrk q (fun t => { t with
      st := 5, at_ := s.now, ticks := 0, upTick := some s.tick, everUp := true, causes := [], dlRun := 0
      unbound := 0, vCount := 0, turns := [] })
    (((s.trunkWell q).note 0x3030 (le 2 q ++ le 4 v)).note 0x3001 (le 2 q)).quireLoss
  else s

/-- TRUNK_VERIFY_COMPLETE. -/
def execTrunkVerifyComplete (q : Fin 8) (s : State) : Out := .next (s.verifyDone q.val)

/-- The latch point of tick n for the Cell region: uplink frames, reactions, marks, departures from UP, quire loss, and
the management work of the tick (Table 1-3). -/
def State.cellLatch (s : State) (n : Nat) : State :=
  let s := { s with cell := { s.cell with confNow := false } }
  let s := (List.range 8).foldl (fun s q => if (s.trk q).st = 0 then s else s.latchTrunk q n) s
  let s := (List.range 8).foldl (fun s q => s.latchCells q n) s
  let s := (List.range 8).foldl (fun s q =>
    let s := s.leaveJudge q
    let s := if 160 ≤ (s.trk q).ticks then s.verifyDone q else s
    s.mgmtTick q) s
  if s.isRun .trunk then s.quireLoss else s

/-! ### Bring-up (R214, Table 8-8) -/

/-- A takeover from COLD on a valid wake record: the held settings serve and MEASURE is skipped (Table 15-8). -/
def State.wokenHeld (s : State) : Bool :=
  let w := match s.pwr.wake with | some r => r.counted | none => false
  match s.dpx.take with
  | .begun false => w
  | .live false => w
  | .ready false => w
  | _ => false

/-- TRUNK_TRAIN_COMPLETE: both lanes hold block lock, or 2 ms have passed without it. -/
def execTrunkTrainComplete (q : Fin 8) (locked : Bool) (s : State) : Out :=
  let t := s.trk q.val
  .next (if t.st = 1 then
      if locked then s.mapTrk q.val (fun t => { t with
        st := if s.wokenHeld then 3 else 2, at_ := s.now, ticks := 0, lockDn := true, lockUp := true, echoes := [], req := none
        aligned := false, gotInfo := false, gotDelays := false })
      else if t.at_ + ms 2 ≤ s.now then s.bringFail q.val 0x3006 1 (le 2 q.val) else s
    else s)

/-- TRUNK_ECHO_REPLY: the reply to the outstanding ECHO with its hold time; rt is the round trip in ns (Tables 8-7,
8-8). -/
def execTrunkEchoReply (q : Fin 8) (sent : BitVec 32) (hold : BitVec 16) (rt : Nat) (s : State) : Out :=
  let t := s.trk q.val
  .next (match t.req with
    | some (1, pl, _) =>
      if t.st = 2 && pl == le 4 sent.toNat then
        s.mapTrk q.val (fun t => { t with req := none, echoes := t.echoes ++ [rt - hold.toNat] })
      else s
    | _ => s)

/-- TRUNK_MEASURE_COMPLETE: the 64 exchanges are judged, or 1 ms has passed without them. -/
def execTrunkMeasureComplete (q : Fin 8) (s : State) : Out :=
  let t := s.trk q.val
  let lo := t.echoes.foldl Nat.min (t.echoes.headD 0)
  let hi := maxN 0 t.echoes
  let mean := (divNearUp (sumN t.echoes) 128).toNat
  .next (if t.st = 2 then
      if 64 ≤ t.echoes.length then
        if lo + 8 < hi || 760 < mean then
          (s.mapTrk q.val (fun t => { t with tTrk := mean })).bringFail q.val 0x3006 2 (le 2 q.val)
        else s.mapTrk q.val (fun t => { t with
          st := 3, at_ := s.now, ticks := 0, tTrk := mean, req := none, echoes := [], aligned := false, gotInfo := false
          gotDelays := false })
      else if t.at_ + ms 1 ≤ s.now then s.bringFail q.val 0x3006 2 (le 2 q.val) else s
    else s)

/-- DELAY_ACK: the hub reports whether it is aligned (Table 8-7). -/
def execDelayAck (q : Fin 8) (aligned : Bool) (s : State) : Out :=
  .next (if (s.trk q.val).st = 3 then
      (s.mgmtDone q.val 2).mapTrk q.val (fun t => { t with aligned := aligned })
    else s)

/-- INFO: the hub's 12 bytes (Table 8-7). -/
def execHubInfo (q : Fin 8) (data : List Nat) (s : State) : Out :=
  .next (if (s.trk q.val).st = 0 then s
    else (s.mgmtDone q.val 4).mapTrk q.val (fun t => { t with gotInfo := true, info := padTo 12 data }))

/-- CELL_DELAYS: 32 one-way delays, 0xFF where no cell link is trained (Table 8-7). -/
def execCellDelays (q : Fin 8) (ds : List Nat) (s : State) : Out :=
  let ds := padTo 32 ds
  .next (if (s.trk q.val).st = 0 then s
    else
      let s := (s.mgmtDone q.val 3).mapTrk q.val (fun t => { t with
        gotDelays := true, tCell := maxN 0 (ds.filter (fun d => d < 255)) })
      (List.range 32).foldl (fun s w => s.mapCell (32 * q.val + w) (fun x => { x with delay := entry ds w 0 })) s)

/-- The slot of the longest trained cell link of a quire. -/
def State.longestSlot (s : State) (q : Nat) : Nat :=
  ((List.range 32).find? (fun w => (s.cellAt (32 * q + w)).delay == (s.trk q).tCell)).getD 255

/-- Cells that pass through VERIFY; none in a takeover (R223, Table 15-8). -/
def State.verifyTurns (s : State) (q : Nat) : List Nat :=
  match s.dpx.take with
  | .idle => (quireCells q).filter (fun c => s.populated c)
  | .abandoned => (quireCells q).filter (fun c => s.populated c)
  | _ => []

/-- TRUNK_ALIGN_COMPLETE: the limits of R203 and R211 are judged; a device without the position lease, or in STANDBY,
stays in ALIGN (R214, R429). -/
def execTrunkAlignComplete (q : Fin 8) (s : State) : Out :=
  let t := s.trk q.val
  let need := 1278 + t.tTrk + t.tCell
  let dmin := max 2 ((need + s.tickNs - 1) / s.tickNs)
  .next (if t.st = 3 && t.aligned && t.gotInfo && t.gotDelays then
      let s := s.mapTrk q.val (fun t => { t with dMin := dmin })
      if 155 < t.tCell then s.bringFail q.val 0x3004 2 (le 2 q.val ++ [2, s.longestSlot q.val])
      else if s.APPLY_DELAY * s.tickNs < need then s.bringFail q.val 0x3004 1 (le 2 q.val ++ [1, 255])
      else if s.holdsLease && s.mode.mode != .standby then
        let turns := s.verifyTurns q.val
        (s.abandon q.val).mapTrk q.val (fun t => { t with st := 4, at_ := s.now, ticks := 0, turns := turns, verified := 0 })
      else s
    else s)

/-- TRUNK_RETRY_EXPIRY: 100 ms after a departure the trunk begins again at TRAIN. -/
def execTrunkRetryExpiry (q : Fin 8) (s : State) : Out :=
  let t := s.trk q.val
  .next (if t.st = 6 && t.at_ + ms 100 ≤ s.now then
      s.mapTrk q.val (fun t => { t with st := 1, at_ := s.now, ticks := 0, lockDn := false, lockUp := false })
    else s)

/-! ### Start (R235) -/

/-- The start check of TRUNK (Table 8-21). -/
def State.trunkCheck (s : State) : Nat :=
  if s.TRUNK_ENABLE = 0 then 1
  else if s.BS_GOOD_THR < s.UV_UP + 500 then 2
  else if s.DESAT_BLANK < s.PRE_ON + s.PLAT_T_ON then 3
  else if s.DEAD_TIME < s.PRE_OFF + s.PLAT_T_OFF then 4
  else if s.DPX_ENABLE = 1 && s.HOLD_T < 1800 then 5
  else if s.APPLY_DELAY * s.TICK_LENGTH < 2 then 6
  else 0

/-- The enabled trunks begin at TRAIN (R214). -/
def State.trunksTrain (s : State) : State :=
  { s with cell := { s.cell with trunks := s.cell.trunks.zipIdx.map (fun p =>
      if s.trkOn p.2 then { p.1 with st := 1, at_ := s.now, ticks := 0, causes := [] } else p.1.offNow s.now) } }

/-- A passing START of TRUNK: counters, marks and words since its last start begin anew, and every enabled trunk begins
at TRAIN (R177, R183, R187, R214, Tables 8-15, 8-17, 8-19). -/
def State.trunkUp (s : State) : State :=
  let cells := s.cell.cells.map (fun x => { x with
    latched := none, bsSeen := false, refresh := none, cleared := false, wordErr := 0, cmdErr := 0, lostRun := 0, misRun := 0
    sbRun := 0, mail := none, due := none, wrote := false, dropped := false })
  let trunks := s.cell.trunks.map (fun t => { t with
    rejected := 0, downs := 0, bad := 0, missRun := 0, dlRun := 0, unbound := 0, everUp := false, upTick := none
    held := [], req := none, refused := false })
  let s := { s with cell := { s.cell with
    superseded := false, highest := 0, anyEpoch := false, confNow := false, swCount := 0, final := []
    cells := cells, trunks := trunks } }
  ((List.range 8).foldl (fun s q => s.trunkWell q) s).trunksTrain

end Sys2Proof.Machine
end

