-- ==== Sys2Proof/Machine/Runs.lean ====
section
/-! DEFINITION. Run commands, start checks and stops (02), mode requests (03), and the configuration commit (R92). -/
namespace Sys2Proof.Machine

/-! ### Run commands: 1 START, 2 STOP (R58, R61, R62, R82) -/

/-- Table 3-10 allows the command in the present mode, and it does not break condition 1 of Table 3-8 while an entry
into FORMING is pending (R82, Table 3-9). -/
def State.runAllowed (s : State) (n : Fn) (cmd : Nat) : Bool :=
  match s.mode.mode with
  | .boot | .standby | .safe => false
  | .forming => n == .time || n == .record || cmd == 1
  | .commission | .blocked => !(s.mode.pend.isSome && cmd == 2 && n != .time && n != .record)

/-- The status of a run command by a session or master of a level. -/
def State.runStatus (s : State) (level : Nat) (n : Fn) (cmd : Nat) : Nat :=
  if level < n.level then stPrivilege
  else if !(s.runAllowed n cmd) then stMode
  else if cmd = 1 then
    if !(s.isDown n) then stRunstate else if n.needs.all (fun m => s.isRun m) then stOk else stDependent
  else if s.run n != .starting && s.run n != .running then stRunstate
  else if n.users.all (fun m => s.isDown m) then stOk else stDependent

/-- The start check of a function falls due, or is no longer due. -/
def State.setDue (s : State) (n : Fn) (d : Bool) : State :=
  { s with fns := s.fns.put n { s.fns.get n with due := d } }

/-- An accepted command: its folio, then the change of run state. A START ends the TRIPs that faulted the function. -/
def State.runApply (s : State) (n : Fn) (cmd : Nat) : State :=
  let s := s.offer 0x0120 .note n.region [n.sub, 1, cmd, (s.run n).code]
  if cmd = 1 then
    ((s.mapMode (fun m => { m with trips := m.trips.filter (fun t => t.fn != n) })).setDue n true).setRun n .starting
  else (s.setDue n false).setRun n .stopping

/-- RUN_START. -/
def execRunStart (level : Nat) (n : Fn) (s : State) : Out :=
  .next (if s.runStatus level n 1 = stOk then s.runApply n 1 else s)

/-- RUN_STOP. -/
def execRunStop (level : Nat) (n : Fn) (s : State) : Out :=
  .next (if s.runStatus level n 2 = stOk then s.runApply n 2 else s)

/-- The start check of a function, as its chapter states it; memOk is the answer of the memory die to RECORD's check
(Table 16-8). -/
def State.checkOf (s : State) (memOk : Bool) : Fn → Nat
  | .form => s.formCheck | .arm => s.armCheck | .select => s.selectCheck | .trunk => s.trunkCheck
  | .sense => s.senseCheck | .field => s.fieldCheck | .safety => s.safetyCheck | .time => s.timeCheck
  | .record => s.recordCheck memOk | .clock => s.clockCheck

/-- What follows a passing check: SENSE and CLOCK stay in STARTING until their bring-up is complete (R281, R318). -/
def State.bringUp (s : State) : Fn → State
  | .form => s.formUp
  | .arm => s.armUp
  | .select => s.selectUp.setRun .select .running
  | .trunk => s.trunkUp.setRun .trunk .running
  | .sense => s.senseUp
  | .field => s.fieldUp
  | .safety => s.safetyUp
  | .time => s.timeUp
  | .record => s.recordUp.setRun .record .running
  | .clock => s.clockUp

/-- The start check completes: STOPPED with the code of the first failed rule and event 0x0121, or on toward RUNNING
(R59). -/
def State.startDone (s : State) (n : Fn) (memOk : Bool) : State :=
  if s.run n == .starting && (s.fns.get n).due then
    let c := s.checkOf memOk n
    let s := (s.setDue n false).setCheck n c
    let s := if n == .form then s.noteLimits c else s
    if c = 0 then s.bringUp n else (s.setRun n .stopped).offer 0x0121 .warn n.region [n.sub, c]
  else s

/-- START_CHECK_DONE. -/
def execStartCheckDone (n : Fn) (memOk : Bool) (s : State) : Out := .next (s.startDone n memOk)

/-- STOPPING ends in STOPPED; RECORD goes on until its margin buffer is written (R58, R460). -/
def State.stopDone (s : State) (n : Fn) : State :=
  if s.run n == .stopping && (n != .record || s.recd.margin.isEmpty || s.recd.memFail) then
    (s.fnDown n).setRun n .stopped
  else s

/-- STOP_COMPLETE. -/
def execStopComplete (n : Fn) (s : State) : Out := .next (s.stopDone n)

/-! ### Mode requests (R75 to R80) -/

/-- The analog channels of condition 4. -/
def State.formingChannels (s : State) : List Nat :=
  (if s.ARM_LEAD = 1 then [s.ARM_I_CH] else []) ++ [s.PROT_I_CH, s.PROT_VDC_CH] ++
  (if s.publishes s.PCC_PUB s.PCC_PUB_ALT then [s.PCC_CH_A, s.PCC_CH_B, s.PCC_CH_C] else []) ++
  (if s.publishes s.LINE_PUB s.LINE_PUB_ALT then [s.LINE_CH_A, s.LINE_CH_B, s.LINE_CH_C] else []) ++
  (if s.publishes s.DC_PUB s.DC_PUB_ALT then [s.DC_CH_P, s.DC_CH_N] else [])

/-- The first condition of Table 3-8 that fails, 0 for none (R77). -/
def State.formingFails (s : State) : Nat :=
  firstFail
    [[Fn.form, .arm, .select, .trunk, .sense, .clock, .field, .safety].all (fun n => s.isRun n),
     s.mode.config == 2,
     s.noTrip && !s.blockSource,
     s.formingChannels.all (fun c => bit (s.ain c).flags 0),
     (List.range 8).all (fun q => !(s.trkOn q) || s.linkUp q),
     s.spn.member && s.spn.locked,
     s.safe.prot.run && s.protCheck == 0]

/-- An entry into FORMING is pending that was accepted before the present boundary (R75). -/
def ModeState.ripe (m : ModeState) : Bool := match m.pend with | some p => p.ripe | none => false

/-- MODE_CHECK. -/
def State.setModeCheck (s : State) (c : Nat) : State := s.mapMode (fun m => { m with check := c })

/-- A mode request refused with a code: status MODE, MODE_CHECK and event 0x0111 (R76). -/
def State.modeRefuse (s : State) (r code : Nat) : Nat × State :=
  (stMode, (s.setModeCheck code).note 0x0111 [r, code])

/-- The lowest level of a mode request (0x1200:03). -/
def modeLevel : Nat → Nat
  | 1 => 3 | 2 => 1 | _ => 2

/-- A mode request (1 COMMISSION, 2 BLOCKED, 3 FORMING) by a session or master of a level: its status and the state
after it (R75 to R80, Tables 3-7 to 3-9, 3-15). A further MODE_REQUEST 3 while an entry is pending changes nothing, MODE_CHECK
among it (DEDUCED, log entry 122). -/
def State.modeRequest (s : State) (level r : Nat) : Nat × State :=
  let ok := s.setModeCheck 0
  if level < modeLevel r then (stPrivilege, s)
  else match s.mode.mode, r with
  | .commission, 1 => (stOk, ok)
  | .forming, 3 => (stOk, ok)
  | .blocked, 2 => (stOk, ok.mapMode (fun m => { m with pend := none }))
  | .forming, 2 => (stOk, ok.setMode .blocked 0)
  | .commission, 2 => if s.mode.config = 0 then s.modeRefuse r 9 else (stOk, ok.setMode .blocked 0)
  | .blocked, 1 =>
    if s.mode.pend.isSome then s.modeRefuse r 11
    else if !(s.isDown .form && s.isDown .arm) then s.modeRefuse r 10
    else (stOk, ok.setMode .commission 0)
  | .blocked, 3 =>
    if s.mode.pend.isSome then (stOk, s)
    else if s.formingFails = 0 then (stOk, ok.mapMode (fun m => { m with pend := some {} }))
    else s.modeRefuse r s.formingFails
  | _, _ => s.modeRefuse r 8

/-- MODE_REQUEST_COMMISSION. -/
def execModeRequestCommission (level : Nat) (s : State) : Out := .next (s.modeRequest level 1).2

/-- MODE_REQUEST_BLOCKED. -/
def execModeRequestBlocked (level : Nat) (s : State) : Out := .next (s.modeRequest level 2).2

/-- MODE_REQUEST_FORMING. -/
def execModeRequestForming (level : Nat) (s : State) : Out := .next (s.modeRequest level 3).2

/-! ### Configuration (R92, R93) -/

/-- The objects of the live values that CONFIG_COMMIT stores. -/
def storedObjs (objs : List (Nat × Val)) : List (Nat × Val) :=
  objs.filter (fun kv => match findObj (kv.1 / 0x100 % 0x10000) (kv.1 % 0x100) with
    | some r => r.stored
    | none => false)

/-- The status of CONFIG_COMMIT (R92): P3, in COMMISSION and BLOCKED; the memory-die interface must not be fenced. -/
def State.configStatus (s : State) (level : Nat) : Nat :=
  if level < 3 then stPrivilege
  else if s.mode.mode != .commission && s.mode.mode != .blocked then stMode
  else if bit (entry s.hdrs 0 {}).fenced 2 then stFenced else stOk

/-- A commit begins. -/
def State.commitConfig (s : State) : State := { s with commitAt := some s.now }

/-- CONFIG_COMMIT. -/
def execConfigCommit (level : Nat) (s : State) : Out :=
  .next (if s.configStatus level = stOk then s.commitConfig else s)

/-- The commit completes: the record is written with its check value, CONFIG_STATE becomes 1 or 2 (R92); a fenced
memory-die interface makes the write fail (Table 18-5). The values stored are those in force as it completes (DEDUCED, log entry
123). -/
def State.commitDone (s : State) : State :=
  match s.commitAt with
  | none => s
  | some _ =>
    let s := { s with commitAt := none }
    if bit (entry s.hdrs 0 {}).fenced 2 then s
    else
      (({ s with stored := some ⟨storedObjs s.objs, true⟩ }).warnOff 0x0016 0).mapMode
        (fun m => { m with config := if s.safe.confirmed then 2 else 1 })

/-- The status of a write of TICK_LENGTH (R93). -/
def State.tickLenStatus (s : State) (level v : Nat) : Nat :=
  if level < 2 then stPrivilege
  else if v != 1 && v != 2 && v != 4 then stRange
  else if s.mode.mode != .blocked then stMode
  else if [Fn.arm, .select, .trunk, .sense].all (fun n => s.run n == .stopped) then stOk else stRunstate

/-- A tick length waits for the next boundary. -/
def State.setTickLen (s : State) (v : Nat) : State := s.mapMode (fun m => { m with tickPend := some v })

/-- TICK_LENGTH_WRITE. -/
def execTickLengthWrite (level : Nat) (v : BitVec 8) (s : State) : Out :=
  .next (if s.tickLenStatus level v.toNat = stOk then s.setTickLen v.toNat else s)

/-- The waiting tick length takes effect (R93). -/
def State.tickLenApply (s : State) : State :=
  match s.mode.tickPend with
  | some v => (s.setObj 0x1203 1 0 (.num v)).mapMode (fun m => { m with tickPend := none, tickLen := v })
  | none => s

end Sys2Proof.Machine
end

