-- ==== Sys2Proof/Machine/Verify.lean ====
section
/-! DEFINITION. Signed images, the colophon, the device's LMS counter, security versions and the boot chain (17, R471 to
R481). -/
namespace Sys2Proof.Machine

/-- n bytes at an offset of a byte string. -/
def sliceOf (b : List Nat) (off n : Nat) : List Nat := (b.drop off).take n

/-- The number at an offset (R7). -/
def numAt (b : List Nat) (off n : Nat) : Nat := ofLe (sliceOf b off n)

/-- A big-endian number (R472). -/
def ofBe (b : List Nat) : Nat := ofLe b.reverse

/-- Security engine and session table not fenced (Table 18-5). -/
def State.secUp (s : State) : Bool := !(s.fenced 7 0)

/-- SHA-384 of the owner image key block (R471), none while unclaimed. -/
def State.ownerHash (s : State) : Option (List Nat) := s.sec.owner.map (fun o => Config.sha384 (sliceOf o 8 152))

/-! ### Images (R473, R474) -/

/-- An LMS public key names the one parameter set that is accepted (R472). -/
def lmsKeyOk (k : List Nat) : Bool := ofBe (k.take 4) == 8 && ofBe (sliceOf k 4 4) == 4

/-- The ECDSA signature of a signature block verifies under a key block. -/
def ecdsaOk (keys msg sig : List Nat) : Bool := Config.ecdsaVerify (keys.take 96) msg (sig.take 96)

/-- The LMS signature of a signature block verifies under a key block (R472). -/
def lmsOk (keys msg sig : List Nat) : Bool :=
  lmsKeyOk (sliceOf keys 96 56) && Config.lmsVerify (sliceOf keys 96 56) msg (sliceOf sig 96 1772)

/-- Check 1 (Table 17-3). -/
def Image.headOk (i : Image) (type : Nat) : Bool :=
  i.header.length == 256 && numAt i.header 0 4 == 0x4939474B && numAt i.header 4 1 == 1 && numAt i.header 5 1 == type &&
  numAt i.header 0x1C 2 == 0x9256 && numAt i.header 0x1E 1 == 0xB0

/-- Check 2: the image fits its slot of 8 MB. -/
def Image.sizeOk (i : Image) : Bool :=
  i.payload.length == numAt i.header 8 4 && i.payload.length % 16 == 0 && i.keyBlock.length == 152 &&
  i.sigBlock.length == 1868 && 256 + i.payload.length + 152 + 1868 ≤ 8388608

/-- SVN of an image. -/
def Image.svn (i : Image) : Nat := numAt i.header 0x14 2

/-- BUILD of an image. -/
def Image.build (i : Image) : Nat := numAt i.header 0x18 4

/-- The checks of Table 17-3 in their order on a slot: the code of the first that fails, 0 when all seven pass. -/
def imageCheck (slot : Option Image) (type : Nat) (keyHash : Option (List Nat)) (minSvn : Nat) : Nat :=
  match slot with
  | none => 1
  | some i =>
    firstFail
      [i.headOk type,
       i.sizeOk,
       sliceOf i.header 0x20 48 == Config.sha384 i.keyBlock && some (sliceOf i.header 0x20 48) == keyHash,
       minSvn ≤ i.svn,
       ecdsaOk i.keyBlock i.header i.sigBlock,
       lmsOk i.keyBlock i.header i.sigBlock,
       Config.sha384 i.payload == sliceOf i.header 0x50 48]

/-- The image of a flash slot (Table 17-4). -/
def State.slotImage (s : State) (i : Nat) : Option Image := entry s.sec.slots i none

/-- The check of slot i: 0 boot, 1 recovery, 2 and 3 application. -/
def State.slotCheck (s : State) (i : Nat) : Nat :=
  if i < 2 then imageCheck (s.slotImage i) (i + 1) (some Config.rootHash) s.sec.fusedSvn
  else imageCheck (s.slotImage i) 3 s.ownerHash s.sec.appMinSvn

/-- The secure firmware of slot i runs: its slot, SVN and measurement (R474, R476). -/
def State.runSecure (s : State) (i : Nat) : State :=
  match s.slotImage i with
  | some img => s.mapSec (fun x => { x with
      fwRun := true, bootImage := i, secSvn := img.svn, secMeas := Config.sha384 img.header })
  | none => s

/-- Step 4: the boot image, or the recovery image first; no image accepted, or a flash that does not answer in
8D-8D-8D, halts with 0x9003 (R475, R476). The answer is false where BOOT halts. -/
def State.bootImages (s : State) : Bool × State :=
  let s := s.warnOff 0x9003 0
  if !s.sec.flashOk then (false, s.warnOn 0x9003 0 [])
  else
    let i := if bits s.mode.straps 1 2 = 1 then 1 else 0
    let c := s.slotCheck i
    let d := s.slotCheck (1 - i)
    if c = 0 then (true, if i = 1 then (s.runSecure 1).warnOn 0x9002 0 [1, 0] else s.runSecure 0)
    else if d = 0 then (true, if i = 0 then (s.runSecure 1).warnOn 0x9002 0 [0, c] else s.runSecure 0)
    else (false, s.warnOn 0x9003 0 [])

/-- The accepted application image: the higher SVN, then the higher BUILD, then slot A (R476). -/
def State.appChoice (s : State) : Option Nat :=
  let a := s.slotCheck 2 = 0
  let b := s.slotCheck 3 = 0
  match s.slotImage 2, s.slotImage 3 with
  | some x, some y =>
    if a && b then some (if x.svn < y.svn || (x.svn = y.svn && x.build < y.build) then 3 else 2)
    else if a then some 2 else if b then some 3 else none
  | some _, none => if a then some 2 else none
  | none, some _ => if b then some 3 else none
  | none, none => none

/-- Application firmware of slot i runs. -/
def State.runApp (s : State) (i : Nat) : State :=
  match s.slotImage i with
  | some img => s.mapSec (fun x => { x with
      appSlot := i - 2, appSvn := img.svn, appMeas := Config.sha384 img.header, coresHeld := 0 })
  | none => s

/-- Both application slots are verified, failing ones recorded, and the chosen one started; with none accepted the
cores stay in reset (R476). -/
def State.bootApps (s : State) : State :=
  let s := [2, 3].foldl (fun s i =>
    if s.slotCheck i = 0 then s.warnOff 0x9004 i else s.warnOn 0x9004 i [i, s.slotCheck i]) s
  match s.appChoice with
  | some i => (s.runApp i).warnOff 0x9005 0
  | none => (s.mapSec (fun x => { x with appSlot := 255, appSvn := 0, appMeas := List.replicate 48 0, coresHeld := 15 })).warnOn
      0x9005 0 []

/-- FIRMWARE_VERIFY: after a takeover, once control runs, the firmware is verified as in steps 4 and 7; a failure holds
the cores (R423, R477). -/
def execFirmwareVerify (s : State) : Out :=
  .next (if s.sec.fwRun || !s.secUp || (s.mode.mode != .blocked && s.mode.mode != .forming) then s
    else
      let (ok, s) := s.bootImages
      if ok then ({ s with pwr := { s.pwr with domains := setBit s.pwr.domains 3 } }).bootApps else s)

/-! ### The colophon (R479) and the LMS counter (R480) -/

/-- A copy of the colophon passes checks 3, 5 and 6 against ROOT_HASH. -/
def SecState.colophonOk (x : SecState) (body sig : List Nat) : Bool :=
  Config.sha384 x.rootKeys == Config.rootHash && ecdsaOk x.rootKeys body sig && lmsOk x.rootKeys body sig

/-- Both copies are verified; a failing copy is rewritten from the good one with 0x9006 (R479). False where both fail. -/
def State.bootColophon (s : State) : Bool × State :=
  let x := s.sec
  let a := x.colophonOk x.colA x.colSigA
  let b := x.colophonOk x.colB x.colSigB
  if a && b then (true, s)
  else if a then (true, (s.mapSec (fun y => { y with colB := y.colA, colSigB := y.colSigA })).warn 0x9006 [])
  else if b then (true, (s.mapSec (fun y => { y with colA := y.colB, colSigA := y.colSigB })).warn 0x9006 [])
  else (false, s)

/-- How many leaves there are. -/
abbrev lmsLeaves : Nat := 1048576

/-- The LMS signing state: the higher of the valid copies; a lower or invalid copy is rewritten, an invalid one with
0x9006 (R480); STATUS.WARN shows leaves that run out (R481, R19). False where both are invalid. -/
def State.bootLms (s : State) : Bool × State :=
  let a := s.sec.lmsA
  let b := s.sec.lmsB
  if !a.2 && !b.2 then (false, s)
  else
    let q := max (if a.2 then a.1 else 0) (if b.2 then b.1 else 0)
    let s := s.mapSec (fun y => { y with lmsA := (q, true), lmsB := (q, true) })
    let s := if lmsLeaves < q + 65536 then s.warnHold 0x9022 0 else s
    let s := if lmsLeaves ≤ q then s.warnHold 0x9023 0 else s
    (true, if a.2 && b.2 then s else s.warn 0x9006 [])

/-- q, the next unused leaf (R480). -/
def State.lmsNext (s : State) : Nat := s.sec.lmsA.1

/-- LMS_LOW and LMS_EXHAUSTED (R481). -/
def State.lmsLow (s : State) : Bool := lmsLeaves < s.lmsNext + 65536

/-- No leaf is left. -/
def State.lmsOut (s : State) : Bool := lmsLeaves ≤ s.lmsNext

/-- The counter advances to q + 1: copy A, verified, then copy B, verified (R480). False, with 0x9024, where a write or
a verify fails; the events of R481 as the leaves run out. -/
def State.lmsAdvance (s : State) (okA okB : Bool) : Bool × State :=
  let q := s.lmsNext + 1
  let ok := okA && !(s.fenced 0 2)
  let s := if ok then s.mapSec (fun y => { y with lmsA := (q, true) }) else s
  if ok && okB then
    let s := (s.mapSec (fun y => { y with lmsB := (q, true) })).warnOff 0x9024 0
    let s := if lmsLeaves < q + 65536 then s.warnOn 0x9022 0 [] else s
    (true, if q = lmsLeaves then s.warnOn 0x9023 0 [] else s)
  else (false, s.warnKeep 0x9024 0 [])

/-- LMS_TOKEN_REFILL: the bucket of 16 gains a token every 675 s (R481). -/
def execLmsTokenRefill (s : State) : Out :=
  .next (if s.sec.tokenAt + secs 675 ≤ s.now then
      s.mapSec (fun x => { x with tokens := min 16 (x.tokens + 1), tokenAt := x.tokenAt + secs 675 })
    else s)

/-! ### Security versions (R478), debug lock (R492) -/

/-- The status of a write of FUSE_SVN (R478). -/
def State.fuseSvnStatus (s : State) (level v : Nat) : Nat :=
  if s.modeStatus != stOk then s.modeStatus
  else if level < 3 then stPrivilege
  else if !s.secUp then stFenced
  else if 63 < v || v < s.sec.fusedSvn || s.sec.secSvn < v then stRange
  else if s.slotCheck 1 != 0 || ((s.slotImage 1).map Image.svn).getD 0 < v then stRange
  else stOk

/-- Fuses are blown (R478). -/
def State.fuseSvn (s : State) (v : Nat) : State :=
  if v = s.sec.fusedSvn then s else (s.mapSec (fun x => { x with fusedSvn := v })).note 0x9032 []

/-- FUSE_SVN. -/
def execFuseSvn (level : Nat) (v : BitVec 16) (s : State) : Out :=
  .next (if s.fuseSvnStatus level v.toNat = stOk then s.fuseSvn v.toNat else s)

/-- An accepted write of an RW-PRIV object is recorded, in region 5 for the protection set and 7 for the security objects
(R63, Table 16-9). -/
def State.privNote (s : State) (idx sub session : Nat) : State :=
  s.offer 0x0122 .note (if idx < 0x9000 then 5 else 7) (le 2 idx ++ [sub] ++ le 4 session)

/-- The status of a write of APP_MIN_SVN (R478). -/
def State.appMinStatus (s : State) (level v : Nat) : Nat :=
  if s.modeStatus != stOk then s.modeStatus
  else if level < 3 then stPrivilege
  else if !s.secUp || !s.nvOk then stFenced
  else if 63 < v || v < s.sec.appMinSvn || s.sec.appSvn < v then stRange
  else stOk

/-- APP_MIN_SVN is written (R478). -/
def State.appMinSvn (s : State) (v : Nat) : State :=
  if v = s.sec.appMinSvn then s else (s.mapSec (fun x => { x with appMinSvn := v })).note 0x9032 []

/-- APP_MIN_SVN_WRITE. -/
def execAppMinSvnWrite (session level : Nat) (v : BitVec 16) (s : State) : Out :=
  .next (if s.appMinStatus level v.toNat = stOk then (s.privNote 0x9001 5 session).appMinSvn v.toNat else s)

/-- The status of a write of DEBUG_LOCK_SET (R492). -/
def State.debugLockStatus (s : State) (level v : Nat) : Nat :=
  if level < 3 then stPrivilege
  else if v != 0x4C4F434B then stRange
  else if s.mode.mode != .commission then stMode
  else stOk

/-- The debug session ends with 0x9042 (R490). -/
def State.dbgEnd (s : State) : State :=
  if s.sec.dbg.isSome then (s.mapSec (fun x => { x with dbg := none })).note 0x9042 [] else s

/-- The debug-lock fuse is blown: a debug session ends with it (R492, Table 17-10). -/
def State.debugLock (s : State) : State :=
  ((s.mapSec (fun x => { x with debugLock := true, dbgNonce := none })).note 0x9033 []).dbgEnd

/-- DEBUG_LOCK_SET. -/
def execDebugLockSet (level : Nat) (v : BitVec 32) (s : State) : Out :=
  .next (if s.debugLockStatus level v.toNat = stOk then s.debugLock else s)

end Sys2Proof.Machine
end

