-- ==== Sys2Proof/Machine/Boot.lean ====
section
/-! DEFINITION. Resets (03, R84 to R88), the boot sequence (R89 to R91) and the listen window. -/
namespace Sys2Proof.Machine

/-! ### Resets -/

/-- The security functions after a reset: fuses, non-volatile contents and flash stay (R86). -/
def SecState.kept (x : SecState) (now : Nat) : SecState :=
  { fusedSvn := x.fusedSvn, appMinSvn := x.appMinSvn, credMinGen := x.credMinGen, sessionIdle := x.sessionIdle
    owner := x.owner, lmsA := x.lmsA, lmsB := x.lmsB, tokens := x.tokens, tokenAt := now
    colA := x.colA, colB := x.colB, colSigA := x.colSigA, colSigB := x.colSigB, rootKeys := x.rootKeys
    debugLock := x.debugLock, slots := x.slots, flashOk := x.flashOk, lastSync := x.lastSync, lastSyncAt := now
    draws := x.draws }

/-- The recorder after a reset: the memory die, the clear floor and its copy stay; the margin buffer is discarded (R458). -/
def RecState.kept (r : RecState) : RecState := { ring := r.ring, floor := r.floor, floorCopy := r.floorCopy }

/-- What a FULL reset leaves while it is in progress: every domain at its reset values, KEEP at a stop, non-volatile contents
preserved (R72, R84, R86). -/
def State.fullReset (s : State) : State :=
  { State.reset with
    pending := s.pending, now := s.now, freeCount := s.freeCount, device := s.device, station := s.station
    stored := s.stored, tx := s.tx
    mode := { strapPins := s.mode.strapPins, cause := 1, held := true }
    recd := s.recd.kept, sec := s.sec.kept s.now
    cell := { cells := s.cell.cells.map (fun c => { fail := c.failNv, failNv := c.failNv }) }
    safe := { prot := { stored := s.safe.prot.stored, crc := s.safe.prot.crc }, conf := s.safe.conf }
    sense := { stored := s.sense.stored }
    dpx := { stored := s.dpx.stored }
    fab := { netUp := s.fab.netUp } }

/-- RESET_CAUSE after a SYSTEM reset by a source: its own bit (none for a yield), and FROM_SAFE (Table 3-5). -/
def State.sysCause (s : State) (bits_ : Nat) : Nat := bits_ + (if s.mode.mode == .safe then 0x20 else 0)

/-- A SYSTEM reset: every domain except AON and KEEP. The feed monitors, the reference and its losses stay, and in KEEP PLL D, the
checkpoint store, the duplex receiver and the wake record (R84, R86, R332, Tables 1-6, 11-1). -/
def State.sysReset (s : State) (cause event : Nat) : State :=
  let f := s.fullReset
  let m := { f.mode with cause := s.sysCause cause, bootEvent := event, held := false }
  let d := { f.dpx with
    buf0 := s.dpx.buf0, buf1 := s.dpx.buf1, link := s.dpx.link, lastRx := s.dpx.lastRx, rxSeq := s.dpx.rxSeq
    takeovers := s.dpx.takeovers, last := s.dpx.last, errors := s.dpx.errors }
  let p := { f.pwr with
    feedA := s.pwr.feedA, feedB := s.pwr.feedB, conduct := s.pwr.conduct, neither := s.pwr.neither, wake := s.pwr.wake }
  let c := { f.clk with
    ref := s.clk.ref, lostAt := s.clk.lostAt, losses := s.clk.losses, ratio := s.clk.ratio, ratioAt := s.clk.ratioAt
    d := { s.clk.d with coasts := 0, drift := false } }
  let w := s.mode.warns.filter (fun w => w.code == 0x0202 || (0x0201 ≤ w.code && w.code ≤ 0x0208 && w.key == 3))
  { f with mode := { m with warns := w }, dpx := d, pwr := p, clk := c }

/-- POWER_ON_RESET: both feeds below 2.50 V (in mV) assert the FULL reset (R527, Table 3-12). -/
def execPowerOnReset (va vb : Nat) (s : State) : Out := .next (if va < 2500 && vb < 2500 then s.fullReset else s)

/-- SYS_RESET_N: held low for a number of ns. 10 µs or more make a SYSTEM reset, less than 1 µs none, and between them the
manual leaves it open (R533). -/
def execSysResetN (low : Nat) (s : State) : Out :=
  .next (if 10000 ≤ low then s.sysReset 2 0x0010
    else if low < 1000 then s
    else if s.freeNat % 2 = 0 then s.drawn.sysReset 2 0x0010 else s.drawn)

/-- The status of RESET_COMMAND: 0x0A01 at P2, 0x0A02 at P3 and in SAFE too (Tables 3-2, 3-3). -/
def State.resetStatus (s : State) (level v : Nat) : Nat :=
  if v != 0x0A01 && v != 0x0A02 then stRange
  else if s.mode.mode == .boot || s.mode.mode == .standby || (s.mode.mode == .safe && v = 0x0A01) then stMode
  else if level < (if v = 0x0A01 then 2 else 3) then stPrivilege
  else stOk

/-- An APPLICATION reset of the cores of a mask: their cause bits are set, the event recorded, their semaphores released
(R84, R85, R517). -/
def State.appReset (s : State) (cores bits_ event : Nat) (cls : Cls) : State :=
  let s := (List.range 4).foldl (fun s c => if bit cores c then s.dropSems c else s) s
  let cause := (List.range 12).foldl (fun v i => if bit bits_ i then setBit v i else v) s.mode.cause
  (s.mapMode (fun m => { m with cause := cause })).offer event cls 0 (le 2 cause)

/-- RESET_COMMAND takes effect. -/
def State.resetCommand (s : State) (v : Nat) : State :=
  if v = 0x0A01 then s.appReset 15 0x40 0x0010 .note else s.sysReset 4 0x0010

/-- APPLICATION_RESET_COMMAND. -/
def execApplicationResetCommand (level : Nat) (s : State) : Out :=
  .next (if s.resetStatus level 0x0A01 = stOk then s.resetCommand 0x0A01 else s)

/-- SYSTEM_RESET_COMMAND. -/
def execSystemResetCommand (level : Nat) (s : State) : Out :=
  .next (if s.resetStatus level 0x0A02 = stOk then s.resetCommand 0x0A02 else s)

/-- HK_WATCHDOG_EXPIRY. -/
def execHkWatchdogExpiry (s : State) : Out := .next (if s.powered .hk then s.sysReset 8 0x0013 else s)

/-- APP_WATCHDOG_EXPIRY. -/
def execAppWatchdogExpiry (core : Fin 4) (s : State) : Out :=
  .next (if s.powered .app && !(bit s.sec.coresHeld core) then
      s.appReset (2 ^ core.val) (2 ^ (8 + core.val)) 0x0014 .warn
    else s)

/-! ### The boot sequence (Table 3-13) -/

/-- BOOT halts: only AON, KEEP and HK stay powered (R90). -/
def State.halt (s : State) : State :=
  { s with mode := { s.mode with halted := true }, pwr := { s.pwr with domains := 7 } }

/-- A step of the boot sequence is complete. -/
def State.stepDone (s : State) (n : Nat) : State := s.mapMode (fun m => { m with bootStep := n })

/-- Domains are switched on. -/
def State.powerOn (s : State) (bits_ : List Nat) : State :=
  { s with pwr := { s.pwr with domains := bits_.foldl setBit s.pwr.domains } }

/-- Steps 1 and 2: straps, HK, the main PLL from its band table in ROM. -/
def State.boot12 (s : State) (x : BootIn) : State :=
  let s := (s.mapMode (fun m => { m with
    straps := x.straps % 16, strapPins := x.straps % 16, bootStep := 1, held := false, released := s.now })).powerOn [0, 1, 2]
  let p := s.clk.pll 4
  let s := ((s.putPll 4 { p with act := { p.act with band := bandWords s.MAIN_BAND_TABLE } }).acquire 4).acqRun 4 x.mainTry
  (if (s.clk.pll 4).st == .locked then s
    else (s.putPll 4 { s.clk.pll 4 with backup := true }).warnOn 0x0015 0 []).stepDone 2

/-- Functions start at boot without a command: a function whose dependencies run is checked and brought up; for CLOCK and
SENSE the boot sequence waits for the acquisitions and the coefficients (Table 3-13 step 7, R281, R318). -/
def State.bootStart (s : State) (x : BootIn) (n : Fn) : State :=
  if s.isDown n && n.needs.all (fun m => s.isRun m) then
    let s := ((s.setDue n true).setRun n .starting).startDone n x.memOk
    match n with
    | .clock => (List.range 4).foldl (fun s i => s.acqRun i (entry x.againTry i 0)) s
    | .sense =>
      if s.run .sense == .starting then
        let s := s.coeffsRead x.temp
        if s.run .sense == .starting then s.foreground x.cal else s
      else s
    | _ => s
  else s

/-- The stored configuration record is there and its check value is correct. -/
def State.storedOk (s : State) : Bool := match s.stored with | some r => r.ok | none => false

/-- Step 3: colophon, LMS counter, stored configuration; recorder scanned and started; the reset recorded (R88, R458). The
answer is false where BOOT halts. -/
def State.boot3 (s : State) (x : BootIn) : Bool × State :=
  let ev := s.mode.bootEvent
  let s := s.offer ev (if ev = 0x0013 then .warn else .note) 0 (le 2 s.mode.cause)
  let (col, s) := s.bootColophon
  let (lms, s) := s.bootLms
  let s := s.bootScan
  let s := s.bootStart x .record
  if !(col && lms) then (false, s)
  else
    let s := if s.stored.isSome && !s.storedOk then s.warnOn 0x0016 0 [] else s
    let s := s.mapMode (fun m => { m with config := if s.storedOk then 1 else 0 })
    (bits s.mode.straps 1 2 != 2, s.stepDone 3)

/-- Secure firmware fills the band tables: from the stored configuration where there is one, otherwise from the factory record,
which the objects hold after a reset; the main PLL's table is rewritten (11_clocks.md, Band tables and lock). -/
def State.fillBands (s : State) : State :=
  let s := match s.stored with
    | some r => if r.ok then
        let t := { s with objs := r.objs }
        ((List.range 4).foldl (fun (s : State) i => s.setObj 0x8001 6 i (.oct (t.BAND_TABLE i))) s).setObj 0x8010 6 0
          (.oct t.MAIN_BAND_TABLE)
      else s
    | none => s
  let p := s.clk.pll 4
  s.putPll 4 { p with act := { p.act with band := bandWords s.MAIN_BAND_TABLE } }

/-- Step 5: band tables written, PLLs A to D locked and committed, spread profile applied; otherwise 0x0017, of class SAFE. A
commit without a present reference is held (R319). The answer is false where SAFE is entered. -/
def State.boot5 (s : State) (x : BootIn) : Bool × State :=
  let s := s.fillBands.clkCommit true
  let s := (List.range 4).foldl (fun s i => s.acqRun i (entry x.pllTry i 0)) s
  if (List.range 4).all (fun i => (s.clk.pll i).st == .locked) then (true, s.stepDone 5)
  else (false, s.safeFault 0x0017 0 [])

/-- Step 6: the domains in their order, memory self-tests, lockstep self-test; a failure is of class SAFE. -/
def State.boot6 (s : State) (x : BootIn) : Bool × State :=
  let s := s.powerOn [4, 5, 6, 7, 8, 9, 10, 11]
  if !x.memTest then (false, s.enterSafe)
  else if !x.lockTest then (false, s.lockstepStop 0x6002)
  else (true, (s.mapFieldS (fun f => { f with up := x.barrier })).stepDone 6)

/-- The protection set is loaded from non-volatile memory; a wrong check value is recorded (R412). -/
def State.loadProt (s : State) : State :=
  let l := s.safe.prot.stored
  let s := (List.range 10).foldl (fun s i => s.setObj 0x6200 (i + 1) 0 (.num (entry l i 0))) s
  if crc32c (protBytes l) = s.safe.prot.crc then s else s.warnOn 0x6203 0 []

/-- The stored configuration becomes the live one; the tick length is put in force before any function starts; the set is
confirmed only where the stored confirmation equals its check value (R92, R93, R402). -/
def State.loadConfig (s : State) : State :=
  match s.stored with
  | some r =>
    if r.ok then
      let s := { s with objs := r.objs }
      let s := s.mapMode (fun m => { m with tickLen := s.TICK_LENGTH })
      let ok := s.safe.conf == some s.safetyCrc
      let s := s.mapSafe (fun f => { f with confirmed := ok })
      s.mapMode (fun m => { m with config := if ok then 2 else 1 })
    else s
  | none => s

/-- The order in which every function is started: dependencies first (Table 2-10). -/
def bootOrder : List Fn := [.clock, .time, .sense, .trunk, .select, .arm, .form, .field, .safety, .record]

/-- Step 7: application firmware, stored configuration, functions, spine. -/
def State.boot7 (s : State) (x : BootIn) : State :=
  let s := (s.powerOn [3]).bootApps
  let full := decide (1 ≤ s.mode.config)
  let s := s.loadConfig.loadProt
  let s := { s with dpx := { s.dpx with epoch := s.dpx.stored.getD 0 } }
  let s := (if full then bootOrder else [Fn.clock, .time, .record]).foldl (fun s n => s.bootStart x n) s
  (s.mapSpn (fun n => { n with joined := true })).stepDone 7

/-- The listen window of step 8 begins. -/
def State.boot8 (s : State) : State :=
  s.mapMode (fun m => { m with bootStep := 8, listenAt := s.now, streamSeen := false })

/-- Steps 5 to 8, as far as none fails. -/
def State.bootRest (s : State) (x : BootIn) : State :=
  let (ok, s) := s.boot5 x
  if !ok then s
  else
    let (ok, s) := s.boot6 x
    if !ok then s else (s.boot7 x).boot8

/-- BOOT_SEQUENCE: at the release of a FULL or SYSTEM reset, steps 1 to 7 and the beginning of the listen window (R89,
R90). -/
def execBootSequence (x : BootIn) (s : State) : Out :=
  .next (if s.mode.mode != .boot || s.mode.bootStep != 0 || s.mode.halted then s
    else
      let (ok, s) := (s.boot12 x).boot3 x
      if !ok then s.halt
      else
        let (ok, s) := s.bootImages
        if ok then (s.stepDone 4).bootRest x else s.halt)

/-- The listen window: 2 ms for a primary, 200 ms for a partner (STRAPS.DPX_ROLE), in ns. -/
def State.listenWindow (s : State) : Nat := if bit s.mode.straps 0 then ms 200 else ms 2

/-- The mode of step 9: STANDBY, COLD after a valid checkpoint stream, BLOCKED with a stored configuration, otherwise
COMMISSION (Table 3-7). -/
def State.bootMode (s : State) : Mode × Nat :=
  if s.mode.streamSeen then (.standby, 1) else if 1 ≤ s.mode.config then (.blocked, 0) else (.commission, 0)

/-- DPX_LISTEN_WINDOW_END: the mode is entered, 0x0011 with the boot duration; a partner that saw no stream records 0x0112
(R89 step 9, R91). -/
def execDpxListenWindowEnd (s : State) : Out :=
  .next (if s.mode.mode == .boot && s.mode.bootStep == 8 && decide (s.mode.listenAt + s.listenWindow ≤ s.now) then
      let (m, sub) := s.bootMode
      let s := if bit s.mode.straps 0 && !s.mode.streamSeen then s.warnOn 0x0112 0 [] else s
      let s := (s.stepDone 9).enterMode m sub
      let s := s.note 0x0011 (le 4 (min 4294967295 ((s.now - s.mode.released) / 1000)) ++ [m.code])
      if m == .standby then { s with dpx := { s.dpx with downAt := some s.now } } else s
    else s)

end Sys2Proof.Machine
end

