-- ==== Sys2Proof/Machine/Duplex.lean ====
section
/-! DEFINITION. The duplex link, the checkpoint and its store, leases and epochs, takeover, mirror and hand-back (15, R424 to
R446). -/
namespace Sys2Proof.Machine

/-! ### The link (R424, R425) -/

/-- DPX_ROLE of the straps: 0 primary, 1 partner (Table 3-6). -/
def State.dpxRole (s : State) : Nat := bits s.mode.straps 0 1

/-- The DPX receiver works: KEEP powered, block not fenced, not on its backup clock, a partner configured (R425, R512). -/
def State.dpxHears (s : State) : Bool :=
  s.keepUp && !(s.fenced 4 4) && !s.clk.d.backup && s.DPX_ENABLE == 1

/-- The device may send on DPX: not in BOOT, SAFE or STANDBY, COLD (Table 3-2, R425). -/
def State.dpxSends (s : State) : Bool :=
  s.dpxHears && match s.mode.mode with
    | .boot => false
    | .safe => false
    | .standby => s.mode.sub == 2
    | _ => true

/-- A frame after its comma: TYPE, a reserved byte, LEN, SEQ, the payload, and the CRC-32 of R206 over header and payload
(R424). -/
def dpxFrame (type n : Nat) (data : List Nat) : List Nat :=
  let b := [type, 0] ++ le 2 data.length ++ le 2 n ++ data
  b ++ le 4 (crc32 b)

/-- The CRC-32 that arrived with a frame is that of its header and payload (R424). -/
def dpxGood (type n : Nat) (data : List Nat) (crc : Nat) : Bool :=
  crc32 ([type, 0] ++ le 2 data.length ++ le 2 n ++ data) == crc

/-- A frame leaves with the next SEQ of its type; ix counts the types in the order of Table 15-3. -/
def State.dpxSend (s : State) (type ix : Nat) (data : List Nat) : State :=
  if s.dpxSends then
    let n := (entry s.dpx.txSeq ix 0 + 1) % 65536
    (s.mapDpx (fun d => { d with txSeq := putAt ix n d.txSeq })).emit (.dpx type n (dpxFrame type n data))
  else s

/-- A valid frame has arrived: the link is up (R425), and a partner's stream is seen (R91). -/
def State.dpxAlive (s : State) : State :=
  let up := s.dpx.link
  let s := (s.mapDpx (fun d => { d with link := true, lastRx := some s.now })).warnOff 0x0112 0
  if up then s else (s.warnOff 0x7011 0).note 0x7010 []

/-- A received frame: discarded and counted when its CRC is wrong, otherwise taken by f (R424). -/
def State.dpxTake (s : State) (ok : Bool) (f : State → State) : State :=
  if !s.dpxHears then s
  else if ok then f s.dpxAlive
  else s.mapDpx (fun d => { d with errors := incSat 32 d.errors })

/-- Every valid frame from the store-lease holder renews the store lease (R432). -/
def State.storeRenew (s : State) : State :=
  if s.dpx.holder.isSome && !s.dpx.frozen then s.mapDpx (fun d => { d with renewed := s.now }) else s

/-- Mode and sub-state in one byte, as byte 8 of ROLL_CALL (Table 9-5). -/
def State.modeByte (s : State) : Nat := s.mode.mode.code + 16 * s.mode.sub

/-- DPX_LINK_DOWN: 100 µs without a valid frame; the mirror stops with the link (R425; log entry 17). -/
def execDpxLinkDown (s : State) : Out :=
  .next (match s.dpx.lastRx with
    | some t => if s.dpx.link && t + us 100 ≤ s.now then s.dpxLinkLost else s
    | none => s)

/-! ### The configuration check value -/

/-- Configuration objects that CFG_CRC leaves out: PHY latencies, band tables, Table 15-11 (Table 15-4). -/
def cfgLeftOut (key : Nat) : Bool :=
  let idx := key / 0x100 % 0x10000
  let sub := key % 0x100
  (idx == 0x8001 && sub == 6) || (idx == 0x8010 && sub == 6) || ((idx == 0x7010 || idx == 0x7011) && (sub == 1 || sub == 2)) ||
    idx == 0x8200

/-- CFG_CRC over the stored configuration. -/
def State.cfgCrc (s : State) : Nat :=
  let objs := match s.stored with | some r => r.objs | none => []
  Config.recordCheck ((objs.filter (fun o => !(cfgLeftOut o.1))).map (fun o =>
    (o.1, match o.2 with | .num n => leI 8 n | .oct b => b))) % 4294967296

/-! ### The store (R428, R432) -/

/-- Epoch of a checkpoint. -/
def CkptBuf.epoch (b : CkptBuf) : Nat := numAt b.bytes 4 2

/-- SEQ of a checkpoint. -/
def CkptBuf.seq (b : CkptBuf) : Nat := numAt b.bytes 0 4

/-- T_b of a checkpoint. -/
def CkptBuf.tb (b : CkptBuf) : Nat := numAt b.bytes 8 8

/-- The newest valid checkpoint is in the second buffer. -/
def DpxState.secondNewest (d : DpxState) : Bool := d.buf1.valid && (!d.buf0.valid || d.buf0.seq < d.buf1.seq)

/-- The newest valid checkpoint: the valid buffer with the higher SEQ; none that an abandoned takeover left (R428, R437). -/
def State.newestCkpt (s : State) : Option CkptBuf :=
  let d := s.dpx
  if d.take == .abandoned then none
  else if d.secondNewest then some d.buf1
  else if d.buf0.valid then some d.buf0 else none

/-- The device stores a partner's stream: in STANDBY, or in the listen window of BOOT (R91, R428). -/
def State.listens (s : State) : Bool :=
  (s.mode.mode == .standby && s.dpx.take != .abandoned) || (s.mode.mode == .boot && s.mode.bootStep == 8)

/-- The store lease is granted to the first stream accepted, by device number and epoch; checkpoints of another epoch are
dropped with it (R432; log entry 17). -/
def State.storeGrant (s : State) (dev epoch : Nat) : State :=
  let old := match s.newestCkpt with | some b => b.epoch != epoch | none => false
  s.mapDpx (fun d => { d with
    holder := some (dev, epoch), renewed := s.now
    buf0 := if old then {} else d.buf0, buf1 := if old then {} else d.buf1 })

/-- A stream may be granted the store lease: none holds it, the store is not frozen, its epoch is not older than that of
the newest valid checkpoint (R432). -/
def State.grantable (s : State) (epoch : Nat) : Bool :=
  s.listens && s.dpx.holder.isNone && !s.dpx.frozen &&
    match s.newestCkpt with | some b => !(newer b.epoch epoch) | none => true

/-- A checkpoint is dropped: counted, 0x7012 once per episode, the count of SETTLE_T anew (R428, R441). -/
def State.ckptDrop (s : State) : State :=
  let s := s.mapDpx (fun d => { d with rx := none, errors := incSat 32 d.errors, ckptEp := true, goodSince := none })
  s.warnOn 0x7012 0 []

/-- The 8192 bytes of the segments received. -/
def CkptRx.bytes (r : CkptRx) : List Nat := (sortBy (fun p => p.1) r.segs).flatMap (fun p => padTo 256 p.2)

/-- The conditions on a whole checkpoint (R428). -/
def State.ckptOk (s : State) (b : List Nat) (seq : Nat) : Bool :=
  numAt b 0x1FF4 4 == crc32 (b.take 0x1FF4) && numAt b 0 4 == seq && numAt b 0x1FF8 4 == seq &&
    numAt b 0x1FFC 4 == seq ^^^ 0xFFFFFFFF && (seq == 1 || seq == s.dpx.rxSeq + 1) &&
    (s.dpx.holder == some (numAt b 6 2, numAt b 4 2) || s.grantable (numAt b 4 2))

/-- The window of 100 µs, counted from the start of the run of good checkpoints, in which a time lies (R441). -/
def settleWindow (start t : Nat) : Nat := (t - start) / us 100

/-- The run of good checkpoints at an accepted checkpoint: it goes on where no window of 100 µs was left without one. -/
def State.goodRun (s : State) : Option Nat :=
  match s.dpx.goodSince with
  | some t => if settleWindow t s.now ≤ settleWindow t s.dpx.lastCkpt + 1 then some t else some s.now
  | none => some s.now

/-- A whole checkpoint is written into the buffer that does not hold the newest, VALID last (R428). -/
def State.ckptStore (s : State) (b : List Nat) : State :=
  let s := if s.dpx.holder.isSome then s else s.storeGrant (numAt b 6 2) (numAt b 4 2)
  let buf : CkptBuf := { valid := true, bytes := b }
  let run := s.goodRun
  let s := s.mapDpx (fun d => { d with
    buf0 := if d.secondNewest || !d.buf0.valid then buf else d.buf0
    buf1 := if d.secondNewest || !d.buf0.valid then d.buf1 else buf
    ckptEp := false, goodSince := run, lastCkpt := s.now, renewed := s.now })
  let s := s.warnOff 0x7012 0
  if s.mode.mode == .boot then s.mapMode (fun m => { m with streamSeen := true }) else s

/-- VALID of the buffer to be written is cleared before segment 0 (R428). -/
def State.ckptOpen (s : State) (seq : Nat) (data : List Nat) : State :=
  let rx : CkptRx := { seq := seq, segs := [(0, data)] }
  s.mapDpx (fun d => { d with
    rx := some rx
    buf0 := if d.secondNewest then { d.buf0 with valid := false } else d.buf0
    buf1 := if d.secondNewest || !d.buf0.valid then d.buf1 else { d.buf1 with valid := false } })

/-- All 32 segments of one SEQ have arrived. -/
def State.ckptClose (s : State) (r : CkptRx) : State :=
  let b := r.bytes
  let ok := s.ckptOk b r.seq
  let s := (if ok then s.ckptStore b else s.ckptDrop)
  s.mapDpx (fun d => { d with rx := none, rxSeq := r.seq })

/-- A further segment. -/
def State.ckptMore (s : State) (seq idx : Nat) (data : List Nat) : State :=
  match s.dpx.rx with
  | some r =>
    if r.seq != seq then s.ckptDrop
    else
      let r := { r with segs := r.segs.filter (fun p => p.1 != idx) ++ [(idx, data)] }
      if r.segs.length = 32 then s.ckptClose r else s.mapDpx (fun d => { d with rx := some r })
  | none => if idx = 31 then s.ckptDrop else s

/-- CKPT: a segment of a checkpoint (R428, R432). -/
def execCkpt (f : DpxFrame) (seq : BitVec 32) (idx : Fin 32) (data : List Nat) (s : State) : Out :=
  .next (s.dpxTake (dpxGood 0x02 f.n.toNat (le 4 seq.toNat ++ [idx.val, 0, 0, 0] ++ data) f.crc.toNat) (fun s =>
    let s := s.storeRenew
    if !s.listens || s.dpx.frozen then s
    else if idx.val = 0 then
      let s := if s.dpx.rx.isSome then s.ckptDrop else s
      s.ckptOpen seq.toNat data
    else s.ckptMore seq.toNat idx.val data))

/-! ### BEAT and STATUS (R424, R431, R433) -/

/-- A BEAT is due: 10 µs after the last, from a lease holder with a configured partner (Tables 3-2, 15-3). -/
def State.beatDue (s : State) : Bool :=
  s.DPX_ENABLE == 1 && s.dpx.lease && s.dpxSends &&
    (match s.mode.mode with | .commission => true | .blocked => true | .forming => true | _ => false) &&
    match s.dpx.beatAt with | some t => decide (t + us 10 ≤ s.now) | none => true

/-- BEAT_SEND. -/
def execBeatSend (s : State) : Out :=
  .next (if s.beatDue then
      let s := s.dpxSend 0x01 0 (le 8 s.tick ++ le 2 s.dpx.epoch ++ le 2 s.device ++
        [s.modeByte, b2n s.dpx.mirrorOn + 2 * b2n (s.dpx.hbB != 0)] ++ [0, 0])
      s.mapDpx (fun d => { d with beatAt := some s.now, beats := (entry d.txSeq 0 0, s.now) :: d.beats.take 15 })
    else s)

/-- BEAT: a newer epoch, or an equal one seen by a partner's strap, ends the own lease (R433); in STANDBY it renews or
receives the store lease (R432). -/
def execBeatMsg (seq : BitVec 16) (tick : BitVec 64) (epoch : BitVec 16) (dev : Fin 512) (mode flags : BitVec 8)
    (crc : BitVec 32) (s : State) : Out :=
  let data := le 8 tick.toNat ++ le 2 epoch.toNat ++ le 2 dev.val ++ [mode.toNat, flags.toNat, 0, 0]
  .next (s.dpxTake (dpxGood 0x01 seq.toNat data crc.toNat) (fun s =>
    let e := epoch.toNat
    let s := s.mapDpx (fun d => { d with beatRx := some (seq.toNat, s.now) })
    let s := if s.dpx.holder == some (dev.val, e) then s.storeRenew
      else if s.grantable e then s.storeGrant dev.val e else s
    if s.dpx.lease && (newer e s.dpx.epoch || (e == s.dpx.epoch && s.dpxRole == 1)) then s.leaseLost else s))

/-- The age of the BEAT that a STATUS acknowledges is beyond 40 µs (R431). A BEAT that is no longer held was sent more than
40 µs ago. -/
def State.ackOld (s : State) (beat : Nat) : Bool :=
  match s.dpx.beats.find? (fun b => b.1 == beat) with
  | some b => decide (b.2 + us 40 < s.now)
  | none => s.dpx.beats.length == 16

/-- The holder's lease expires on an acknowledgement that is too old (R431, R433). -/
def State.ackJudge (s : State) (beat : Nat) : State :=
  if s.dpx.lease && s.ackOld beat then s.leaseLost else s

/-- HOLDER_LEASE_EXPIRY: a STATUS acknowledged this BEAT. -/
def execHolderLeaseExpiry (beat : BitVec 16) (s : State) : Out := .next (s.ackJudge beat.toNat)

/-- One-way delay from a STATUS: (arrival − send time of the acknowledged BEAT − HOLD) / 2 (R424). -/
def State.dpxDelay (s : State) (beat hold : Nat) : Nat :=
  match s.dpx.beats.find? (fun b => b.1 == beat) with
  | some b => min 65535 ((s.now - b.2 - hold) / 2)
  | none => s.dpx.delay

/-- STATUS: the holder holds it, measures the delay, starts the mirror for a prepared partner, and judges the BEAT it
acknowledges (R424, R431, R442). -/
def execStatusMsg (f : DpxFrame) (state flags : BitVec 8) (beat hold : BitVec 16) (ckpt run cfg : BitVec 32) (dev : Fin 512) (s : State) : Out :=
  let data := [state.toNat, flags.toNat] ++ le 2 beat.toNat ++ le 2 hold.toNat ++ le 4 ckpt.toNat ++ le 4 run.toNat ++
    le 4 cfg.toNat ++ le 2 dev.val ++ [0, 0]
  .next (s.dpxTake (dpxGood 0x81 f.n.toNat data f.crc.toNat) (fun s =>
    if !s.dpx.lease then s
    else
      let st := state.toNat
      let p : PartnerStatus := { state := st, mismatch := bit flags.toNat 0, ckpt := ckpt.toNat, run := run.toNat, cfg := cfg.toNat
                                 dev := dev.val }
      let delay := s.dpxDelay beat.toNat hold.toNat
      let s := s.mapDpx (fun d => { d with
        partner := some p, delay := delay, mirrorOn := d.mirrorOn || (3 ≤ st && st ≤ 5) })
      s.ackJudge beat.toNat))

/-- DPX_STATE (0x8201:01). -/
def State.dpxState (s : State) : Nat :=
  if s.DPX_ENABLE = 0 then 0
  else if s.dpx.lease then 1
  else if s.dpx.hbIn then 5
  else if s.mode.mode == .standby && s.mode.sub == 1 then 2
  else if s.mode.mode == .standby then (if s.dpx.hbB != 0 then 5 else if s.dpx.warm then 4 else 3)
  else 6

/-- CKPT_SEQ: last sent, or newest valid in the store (0x8201:03). -/
def State.ckptSeqShown (s : State) : Nat :=
  if s.holdsLease then s.dpx.ckptSeq else match s.newestCkpt with | some b => b.seq | none => 0

/-- CKPT_AGE: ticks since T_b of that checkpoint (0x8201:04). -/
def State.ckptAge (s : State) : Nat :=
  let tb := if s.holdsLease then s.dpx.lastTb else s.newestCkpt.map CkptBuf.tb
  match tb with | some t => min 4294967295 (s.tick - t) | none => 0

/-- STATUS_SEND: every 10 µs from PREPARED or a returning device (Table 15-3). -/
def execStatusSend (s : State) : Out :=
  .next (if ((s.mode.mode == .standby && s.mode.sub == 2) || s.dpx.hbIn) && s.dpxSends &&
      (match s.dpx.statusAt with | some t => decide (t + us 10 ≤ s.now) | none => true) then
      let (bs, hold) := match s.dpx.beatRx with | some b => (b.1, min 65535 (s.now - b.2)) | none => (0, 0)
      let ck := match s.newestCkpt with | some b => b.seq | none => 0
      (s.dpxSend 0x81 4 ([s.dpxState, b2n s.dpx.mism] ++ le 2 bs ++ le 2 hold ++ le 4 ck ++ le 4 s.dpx.run ++ le 4 s.cfgCrc ++
        le 2 s.device ++ [0, 0])).mapDpx (fun d => { d with statusAt := some s.now })
    else s)

/-- YIELD_RESET: 1 ms after the loss of the lease a SYSTEM reset, which sets no cause bit of its own (R433, Table 3-5). -/
def execYieldReset (s : State) : Out :=
  .next (match s.dpx.yielded with | some t => if t + ms 1 ≤ s.now then s.sysReset 0 0x0010 else s | none => s)

/-! ### Acquiring the lease (R430) -/

/-- The newest of the stored epoch and the hub-reported epochs, and of a further one (Table 15-6, R218); none exists at
first. -/
def State.newestEpoch (s : State) (more : Option Nat) : Option Nat :=
  let hub := if s.cell.anyEpoch then some s.cell.highest else none
  [s.dpx.stored, hub, more].foldl (fun a e =>
    match a, e with
    | none, e => e
    | some x, some y => some (if newer y x then y else x)
    | some x, none => some x) none

/-- The epoch after the newest: 1 where none exists. -/
def nextEpoch : Option Nat → Nat
  | some e => (e + 1) % 65536
  | none => 1

/-- The lease is acquired by a path: the epoch raised and stored, event 0x7040; its checkpoints count from 1 (R430,
Table 15-4). -/
def State.acquireLease (s : State) (path e : Nat) : State :=
  (s.mapDpx (fun d => { d with
    lease := true, epoch := e, stored := some e, ckptSeq := 0, lastTb := none, beats := [], beatAt := none, coldEp := false
    partner := none, mirrorOn := false })).note 0x7040 ([path] ++ le 2 e)

/-- Every trunk from which uplink frames are accepted has reported DL_MISS = 1 in 16 consecutive ones, and at least one
is there (Table 15-6; log entry 17). -/
def State.hubsSilent (s : State) : Bool :=
  let qs := (List.range 8).filter (fun q => 2 ≤ (s.trk q).st && (s.trk q).st ≤ 5 && (s.trk q).missRun == 0)
  !qs.isEmpty && qs.all (fun q => 16 ≤ (s.trk q).dlRun)

/-- The device waits for cold acquisition: a mode of Table 15-6, or STANDBY after an abandoned takeover (R437). -/
def State.waitsCold (s : State) : Bool :=
  s.DPX_ENABLE == 1 && !s.dpx.lease && s.dpx.yielded.isNone && !s.dpx.hbIn && !s.takingOver &&
    match s.mode.mode with
    | .commission => true
    | .blocked => true
    | .forming => true
    | .standby => s.dpx.take == .abandoned
    | _ => false

/-- COLD_ACQUISITION: the lease is acquired, or the wait is recorded once per episode (R430). After an abandoned takeover the
device goes to BLOCKED, its checkpoint not counting as valid (R437, R439). -/
def execColdAcquisition (s : State) : Out :=
  .next (if !s.waitsCold then s
    else if s.hubsSilent && s.nvOk then
      let s := (s.acquireLease 1 (nextEpoch (s.newestEpoch none))).warnOff 0x7042 0
      if s.mode.mode == .standby then
        let s := ((s.setMode .blocked 0).warnOff 0x7022 0).warn 0x7023 [1]
        s.mapDpx (fun d => { d with
          take := .idle, takeovers := incSat 32 d.takeovers
          last := { boundary := s.tick, tb := 0, g := 0, epoch := d.epoch, outcome := 1 } })
      else s
    else s.warnOn 0x7042 0 [])

/-! ### Checkpoints (R426, R427) -/

/-- The record of one cell (Table 15-5). -/
def State.cellRecord (s : State) (c tb : Nat) : List Nat :=
  let x := s.cellAt c
  let v := if x.tel.isEmpty then 0 else x.vcap
  let f := if x.tel.isEmpty then 0 else x.flags
  le 2 v ++ le 2 f ++
    [x.last.code + 4 * b2n x.refresh.isSome + 8 * b2n x.bsSeen + 16 * (s.CELL_CLASS c % 4), x.fail % 256, x.credit % 256, 0] ++
    le 2 x.issued ++ le 2 (min 65535 (s.dwellLeft x tb)) ++ le 4 x.age ++
    le 4 (match x.refresh with | some a => tb - a | none => 0) ++ le 4 0

/-- The 8192 bytes of a checkpoint (Table 15-4). -/
def State.ckptBytes (s : State) (seq tb : Nat) : List Nat :=
  let ns := s.clockNs + s.tickNs
  let refs := match s.arm.next with | some r => r.payload | none => match s.arm.refs with | some r => r.payload | none => []
  let sf := flagBits [s.safe.sf1, s.safe.sf2, s.safe.door, s.safe.earth]
  let outs := flagBits ((List.range 4).map (fun n => (s.so n).h && (s.so n).l))
  let head := le 4 seq ++ le 2 s.dpx.epoch ++ le 2 s.device ++ le 8 tb ++
    time96 (s.time.sec + ns / 1000000000) (ns % 1000000000) ++ [s.modeByte, 1, s.fp, s.APPLY_DELAY % 16 + 16 * s.tickCode] ++
    le 4 s.cfgCrc ++
    [flagBits [s.spn.leader == some s.device, s.ARM_LEAD == 1, s.spn.isMaster, s.form.valid], 0, 0, 0] ++
    le 4 s.outState ++ le 4 (sf + 16 * outs)
  let body := padTo 0x40 head ++ padTo 448 s.law.payload ++ padTo 128 (refs.take 68) ++ padTo 128 (le 4 s.cell.swCount) ++
    (List.range 256).flatMap (fun c => s.cellRecord c tb)
  let b := padTo 0x1FF4 body
  b ++ le 4 (crc32 b) ++ le 4 seq ++ le 4 (seq ^^^ 0xFFFFFFFF)

/-- A snapshot is due at the end of this tick, whose next tick is T_b (R426). -/
def State.ckptDue (s : State) : Bool :=
  s.DPX_ENABLE == 1 && s.dpx.lease && s.dpxSends && (s.mode.mode == .blocked || s.mode.mode == .forming) &&
    match s.dpx.lastTb with | some t => decide (t + 100 / s.mode.tickLen ≤ s.tick + 1) | none => true

/-- The snapshot is taken and its 32 segments leave (R426). -/
def State.ckptSend (s : State) : State :=
  if s.ckptDue then
    let tb := s.tick + 1
    let seq := (s.dpx.ckptSeq + 1) % 4294967296
    let b := s.ckptBytes seq tb
    let s := s.mapDpx (fun d => { d with ckptSeq := seq, lastTb := some tb })
    (List.range 32).foldl (fun s i => s.dpxSend 0x02 1 (le 4 seq ++ [i, 0, 0, 0] ++ sliceOf b (256 * i) 256)) s
  else s

end Sys2Proof.Machine
end

