-- ==== Sys2Proof/Machine/Takeover.lean ====
section
/-! DEFINITION. Takeover, return of the primary, mirror and hand-back (15, R435 to R446), and the power-down to COLD (R422). -/
namespace Sys2Proof.Machine

/-! ### Reading a checkpoint (Tables 15-4, 15-5) -/

/-- The 24 bytes of a cell. -/
def CkptBuf.cell (b : CkptBuf) (c : Nat) : List Nat := sliceOf b.bytes (0x300 + 24 * c) 24

/-- The applied state that a STATE code names. -/
def codeOf : Nat → CellCode
  | 0 => .bypass | 1 => .insert | _ => .block

/-- Ticks from T_b to a tick. -/
def CkptBuf.g (b : CkptBuf) (t : Nat) : Nat := t - b.tb

/-- Failed marks are written to the device's own memory, and classes are taken (R438). -/
def State.mergeMarks (s : State) (b : CkptBuf) : State :=
  (List.range 256).foldl (fun s c =>
    let r := b.cell c
    let f := entry r 5 0
    let ok := s.nvOk
    let s := s.mapCell c (fun x =>
      if x.fail = 0 && 1 ≤ f && f ≤ 7 then { x with fail := f, failNv := if ok then f else x.failNv } else x)
    s.setObj 0x3002 1 c (.num (bits (entry r 4 0) 4 2))) s

/-- The state a cell has now: APPLIED of its telemetry word latched since ALIGN, BLOCK where there is none (R438). -/
def Cell.heldState (x : Cell) : CellCode := if x.latched.isSome then codeOf x.applied else .block

/-- A cell restored from its record after g ticks, at the first boundary t (R438): sw and ends describe SW_PERIOD, dwell is
T_DWELL_MIN, d the apply delay. -/
def Cell.restored (x : Cell) (r : List Nat) (g t tb ends dwell d : Nat) : Cell :=
  let b4 := entry r 4 0
  let now := x.heldState
  let differs := now != codeOf (bits b4 0 2)
  let left := numAt r 10 2
  let cred := numAt r 6 1
  { x with
    hist := now :: List.replicate 23 .block
    age := if now == .bypass then 0 else min 4294967295 (numAt r 12 4 + g)
    bypRun := 0
    change := if dwell ≤ g || left = 0 then none else some (tb + d + left - dwell)
    credit := cred - ends + b2n differs
    refresh := if bit b4 2 then some (t - numAt r 16 4) else none }

/-- Every cell restored, and the ticks of the present SW_PERIOD (R438). -/
def State.restoreCells (s : State) (b : CkptBuf) : State :=
  let g := b.g s.tick
  let run := numAt b.bytes 0x280 4 + g
  let ends := run / max 1 s.SW_PERIOD
  let cells := s.cell.cells.zipIdx.map (fun p => p.1.restored (b.cell p.2) g s.tick b.tb ends s.T_DWELL_MIN s.APPLY_DELAY)
  s.mapCellS (fun c => { c with cells := cells, swCount := run % max 1 s.SW_PERIOD })

/-- The law's states after g ticks: θ advanced by g × δθ, ω and ω_d unchanged; no reference set is in force (R438). -/
def State.restoreLaw (s : State) (b : CkptBuf) (g : Nat) : State :=
  let l := LawBlock.ofBytes (sliceOf b.bytes 0x40 348)
  let s := s.mapB (fun _ => { l with theta := (l.theta + g * l.dth) % two64 })
  let s := s.mapForm (fun f => { f with
    valid := bit (numAt b.bytes 0x24 1) 3, first := false, refs := none, mism := 0, matchRun := 0
    gPrev := s.gains s.law.region, gainNew := false, dwOn := 0 < l.phT })
  s.armFresh

/-- The local clock takes the checkpoint's time g ticks on; the servo is FREE (R438, R346). -/
def State.restoreTime (s : State) (b : CkptBuf) (g : Nat) : State :=
  let ns := numAt b.bytes 0x18 4 + g * s.tickNs
  (s.setClock ((numAt b.bytes 0x10 8 * 1000000000 + ns : Nat) : Int)).servoFree

/-- The standard outputs start from OUT_STATE (R438). -/
def State.restoreOuts (s : State) (out : Nat) : State :=
  { s with field := { s.field with pins := s.field.pins.zipIdx.map (fun p =>
      if bit out p.2 then p.1.turnOn s.now s.tick else p.1.turnOff s.now s.tick) } }

/-- The mode recorded in a checkpoint: mode and sub-state. -/
def CkptBuf.mode (b : CkptBuf) : Mode × Nat :=
  let m := numAt b.bytes 0x1C 1
  if m % 8 = 3 then (.forming, m / 16 % 8) else (.blocked, 0)

/-- The trunks in ALIGN whose delays are set go to UP; VERIFY pushes nothing (Table 15-8, R445). -/
def State.alignUp (s : State) : State :=
  (List.range 8).foldl (fun s q =>
    let t := s.trk q
    if t.st = 3 && t.aligned && t.gotInfo && t.gotDelays && t.tCell ≤ 155 && 1278 + t.tTrk + t.tCell ≤ s.APPLY_DELAY * s.tickNs then
      let s := s.mapTrk q (fun t => { t with
        st := 5, at_ := s.now, ticks := 0, upTick := some s.tick, everUp := true, causes := [], dlRun := 0
        unbound := 0, vCount := 0, turns := [], verified := 0 })
      (((s.trunkWell q).note 0x3030 (le 2 q ++ le 4 0)).note 0x3001 (le 2 q)).quireLoss
    else s) s

/-! ### Takeover (R436 to R439) -/

/-- The domains of a wake: all but APP (Table 15-2). -/
def wakeDomains : List Nat := [0, 1, 2, 4, 5, 6, 7, 8, 9, 10, 11]

/-- The main PLL and PLLs A, B and C lock from the wake-record bands (Table 15-8, R315). -/
def State.wakePlls (s : State) (x : BootIn) : State :=
  let dflt : Nat × Nat := (0, 0)
  let bands := match s.pwr.wake with | some w => w.plls | none => []
  let one (s : State) (i fails : Nat) : State :=
    let p := s.clk.pll i
    let act := if i = 4 then { p.act with band := bandWords s.MAIN_BAND_TABLE } else s.shadow i
    let b := (entry bands (if i = 4 then 0 else i + 1) dflt).1
    (s.putPll i { p with
      act := act, st := .acquire, out := false, bandIx := some b, at_ := s.now
      tries := (bandOrder act.band act.vco).filter (fun e => e != b) }).acqRun i fails
  one (one (one (one s 4 x.mainTry) 0 (entry x.pllTry 0 0)) 1 (entry x.pllTry 1 0)) 2 (entry x.pllTry 2 0)

/-- The trunk delays, segment and marker delays of the wake record are held (R423). -/
def State.wakeDelays (s : State) : State :=
  match s.pwr.wake with
  | some w =>
    let s := (List.range 8).foldl (fun s q =>
      let r := entry w.trunks q (0, 0, 0)
      s.mapTrk q (fun t => { t with tTrk := r.1, tCell := r.2.1 })) s
    s.mapSpn (fun n => { n with
      east := { n.east with seg := entry w.spine 0 0, dm := entry w.spine 2 0 }
      west := { n.west with seg := entry w.spine 1 0, dm := entry w.spine 3 0 } })
  | none => s

/-- The controller wakes from COLD: domains, PLLs, configuration and sets, marks and classes of the checkpoint, functions,
spine (Table 15-8, R438). Functions start in the order of their dependencies. -/
def State.wake (s : State) (x : BootIn) (all : Bool) (b : Option CkptBuf) : State :=
  let s := (s.powerOn (if all then [0, 1, 2, 3, 4, 5, 6, 7, 8, 9, 10, 11] else wakeDomains)).loadConfig.loadProt
  let s := s.wakePlls x
  let s := s.mapFieldS (fun f => { f with up := x.barrier })
  let s := match b with | some b => s.mergeMarks b | none => s
  let s := bootOrder.foldl (fun s n => s.bootStart x n) s
  (s.wakeDelays).mapSpn (fun n => { n with joined := true })

/-- The sequence of Table 15-8 begins: store frozen, event 0x7020, from COLD the wake (R436). -/
def State.takeBegin (s : State) (x : BootIn) (b : CkptBuf) : State :=
  let prep := s.mode.mode != .standby || s.mode.sub == 2
  let s := s.warnOn 0x7020 0 []
  let s := s.mapDpx (fun d => { d with
    take := .begun prep, live := List.replicate 8 (0, true), hbIn := false, hbB := 0, hbRaised := false, downAt := none
    mirror := [], shadow := none, run := 0, warm := false })
  if prep then s.mergeMarks b else s.wake x false (some b)

/-- STORE_LEASE_EXPIRY: 50 µs without a valid frame from the store-lease holder freezes the store; a standby, or a returning
device in the window of R446, that holds a valid checkpoint takes over (R432, R436). -/
def execStoreLeaseExpiry (x : BootIn) (s : State) : Out :=
  .next (if s.dpx.holder.isSome && !s.dpx.frozen && s.dpx.renewed + us 50 ≤ s.now then
      let s := s.mapDpx (fun d => { d with frozen := true, rx := none })
      match s.newestCkpt with
      | some b => if (s.mode.mode == .standby || s.dpx.hbIn) && s.dpx.yielded.isNone && s.mode.mode != .safe then s.takeBegin x b else s
      | none => s
    else s)

/-- The takeover that goes on: a device that has entered SAFE takes nothing over, since only a reset leads out of SAFE
(R87). -/
def State.takeNow (s : State) : Takeover := if s.mode.mode == .safe then .idle else s.dpx.take

/-- Trunks that have reached ALIGN or later. -/
def State.alignedTrunks (s : State) : List Nat := (List.range 8).filter (fun q => s.trkOn q && 3 ≤ (s.trk q).st && (s.trk q).st ≤ 5)

/-- The takeover is abandoned: the former holder is still commanding (R437). -/
def State.takeAbandon (s : State) : State :=
  let tb := match s.newestCkpt with | some b => b.tb | none => 0
  let s := ((s.warnOff 0x7020 0).warnOn 0x7022 0 []).setMode .standby 2
  s.mapDpx (fun d => { d with
    take := .abandoned, last := { boundary := 0, tb := tb, g := 0, epoch := d.epoch, outcome := 2 } })

/-- LIVENESS_CHECK: once four uplink headers have been read on every trunk in ALIGN, the takeover is abandoned or the lease
acquired (R437, R430, Table 15-6). -/
def execLivenessCheck (s : State) : Out :=
  .next (match s.takeNow with
    | .begun prep =>
      let qs := s.alignedTrunks
      let live (q : Nat) : Nat × Bool := entry s.dpx.live q (0, true)
      if qs.any (fun q => (live q).1 < 4) then s
      else if qs.any (fun q => (live q).2) then s.takeAbandon
      else if !s.nvOk then s
      else
        let e := nextEpoch (s.newestEpoch (s.newestCkpt.map CkptBuf.epoch))
        (s.acquireLease 2 e).mapDpx (fun d => { d with take := .live prep })
    | _ => s)

/-- TAKEOVER_BRINGUP_DONE: lockstep comparator tested, functions RUNNING; the first boundary restores the checkpoint (Table
15-8). -/
def execTakeoverBringupDone (s : State) : Out :=
  .next (match s.takeNow with
    | .live prep => s.mapDpx (fun d => { d with take := .ready prep })
    | _ => s)

/-- The cause for which a takeover enters BLOCKED, 0 for none: 1 no valid checkpoint, 2 wake record not valid, 3 stored
coefficients not used, 4 CFG_CRC (R439). -/
def State.takeCause (s : State) (prep : Bool) : Nat :=
  match s.newestCkpt with
  | none => 1
  | some b =>
    let wakeOk := match s.pwr.wake with | some w => w.counted | none => false
    if !prep && !wakeOk then 2
    else if !prep && s.sense.source != 1 then 3
    else if numAt b.bytes 0x20 4 != s.cfgCrc then 4 else 0

/-- The roll calls held show an arm lead of another arm in FORMING (R439). -/
def State.othersForm (s : State) : Bool :=
  s.spn.roster.any (fun c => c.src != s.device && c.arm != s.ownArm && bit c.flags 6 && c.mode == 3)

/-- The takeover is recorded: event 0x7021 with G and the epoch, TAKEOVERS, LAST_TAKEOVER (R436). -/
def State.takeRecord (s : State) (tb g outcome : Nat) : State :=
  let s := s.mapDpx (fun d => { d with
    take := .idle, takeovers := incSat 32 d.takeovers, frozen := true
    last := { boundary := s.tick, tb := tb, g := g, epoch := d.epoch, outcome := outcome } })
  (s.warnOff 0x7020 0).note 0x7021 (le 4 (min 4294967295 g) ++ le 2 s.dpx.epoch)

/-- What the checkpoint restores whatever the mode (R438). -/
def State.takeState (s : State) (b : CkptBuf) : State :=
  let g := b.g s.tick
  (((s.restoreCells b).restoreTime b g).restoreOuts (numAt b.bytes 0x28 4)).restoreLaw b g

/-- The mode of the checkpoint; in FORMING, another arm must be forming and SF1 not be demanded (R439, R385). -/
def State.takeMode (s : State) (b : CkptBuf) : State :=
  let (m, sub) := b.mode
  let s := s.setMode m sub
  if m == .forming && !s.othersForm then s.trip 0x7024 .form [] else s.sf1Hold

/-- The first boundary of a takeover (R436, R438, R439). -/
def State.takeRestore (s : State) (prep : Bool) : State :=
  let cause := s.takeCause prep
  match s.newestCkpt with
  | some b =>
    let g := b.g s.tick
    let s := s.takeState b
    if cause = 0 then ((s.takeMode b).alignUp).takeRecord b.tb g 0
    else (((s.setMode .blocked 0).warn 0x7023 [cause]).alignUp).takeRecord b.tb g 1
  | none => (((s.setMode .blocked 0).warn 0x7023 [1]).alignUp).takeRecord 0 0 1

/-! ### PREPARED and the mirror (R441, R442) -/

/-- PREPARED_ENTRY: a valid checkpoint in every 100 µs for SETTLE_T, and a revertive primary or STANDBY_PREP (R441). -/
def execPreparedEntry (x : BootIn) (s : State) : Out :=
  .next (match s.dpx.goodSince with
    | some t =>
      if s.mode.mode == .standby && s.mode.sub == 1 && s.dpx.downAt.isNone && s.dpx.take == .idle &&
          ((s.REVERT == 1 && s.dpxRole == 0) || s.STANDBY_PREP == 1) && t + ms s.SETTLE_T ≤ s.now &&
          settleWindow t s.now ≤ settleWindow t s.dpx.lastCkpt + 1 then
        ((s.wake x true none).setMode .standby 2).note 0x7030 []
      else s
    | none => s)

/-- The device is WARM once its match run has reached WARM_TICKS (R442). -/
def State.warmJudge (s : State) : State :=
  if s.WARM_TICKS ≤ s.dpx.run && !s.dpx.warm && s.mode.mode == .standby && s.mode.sub == 2 then
    (s.mapDpx (fun d => { d with warm := true })).note 0x7031 []
  else s

/-- WARM_REACHED. -/
def execWarmReached (s : State) : Out := .next s.warmJudge

/-- The states after the eight words of a record, newest first; a HOLD, or no word, keeps the state before it. -/
def issuedStates (w : Nat) : List CellCode :=
  (List.range 8).foldl (fun l i =>
    let c := bits w (2 * i) 2
    (if c = 3 then l.headD .block else codeOf c) :: l) []

/-- A cell as its record states it at T_b (R442). -/
def Cell.loaded (x : Cell) (r : List Nat) (tb dwell d : Nat) : Cell :=
  let b4 := entry r 4 0
  let left := numAt r 10 2
  { x with
    hist := (codeOf (bits b4 0 2) :: ((issuedStates (numAt r 8 2)).drop 1 ++ List.replicate 24 .block)).take 24
    issued := numAt r 8 2, bsSeen := x.bsSeen || bit b4 3, age := numAt r 12 4
    change := if left = 0 then none else some (tb + d + left - dwell)
    credit := numAt r 6 1, refresh := if bit b4 2 then some (tb - numAt r 16 4) else none }

/-- The words of a mirror record are recorded as issued in its tick. -/
def State.mirrorApply (s : State) (m : MirrorRec) : State := s.record m.tick (m.words.map some)

/-- The checkpoint is loaded and the mirrored words since T_b are applied, where every record is held (R442; log entry 17). -/
def State.mirrorLoad (s : State) (b : CkptBuf) : State :=
  let rs := (s.dpx.mirror.filter (fun m => b.tb ≤ m.tick)).reverse
  let whole := rs.zipIdx.all (fun p => p.1.tick == b.tb + p.2) && !rs.isEmpty
  if whole then
    let cells := s.cell.cells.zipIdx.map (fun p => p.1.loaded (b.cell p.2) b.tb s.T_DWELL_MIN s.APPLY_DELAY)
    let s := s.mapCellS (fun c => { c with cells := cells, swCount := numAt b.bytes 0x280 4 })
    (rs.foldl (fun s m => s.mirrorApply m) s).mapDpx (fun d => { d with shadow := some b.tb, mism := false })
  else s

/-- A trunk that waits after ALIGN counts as up for the shadow selector (R214, R442). -/
def State.asUp (s : State) : State :=
  { s with cell := { s.cell with trunks := s.cell.trunks.map (fun t =>
      if t.st = 3 && t.aligned && t.gotInfo && t.gotDelays then { t with st := 5 } else t) } }

/-- The shadow selection of a tick on the mirrored target: its words, and the cells after it (R442). -/
def State.shadowSelect (s : State) (n t : Nat) : List Nat × List Cell :=
  let r := s.asUp.selectRun n t
  (r.2, r.1.cell.cells)

/-- A record that cannot be compared with a selection: all words BLOCK or all HOLD (rules 1 and 2 of Table 7-2). -/
def flatWords (ws : List Nat) : Bool := ws.all (fun w => w == 2) || ws.all (fun w => w == 3)

/-- A mismatch: the run restarts, and the next checkpoint is loaded; in the window of R446 the device yields (R442,
R446). -/
def State.mirrorMismatch (s : State) : State :=
  let back := s.dpx.hbIn
  let s := s.mapDpx (fun d => { d with run := 0, warm := false, shadow := none, mism := true })
  if back then
    let off := s.safe.outs.map (fun o => o.turnOff)
    ({ s with dpx := { s.dpx with yielded := some s.now, hbIn := false, hbB := 0, hbRaised := false }
              safe := { s.safe with outs := off } }).warnOn 0x7041 0 []
  else s

/-- A record is compared and applied (R442). -/
def State.mirrorCompare (s : State) (m : MirrorRec) : State :=
  let s := s.mapCellS (fun c => { c with ims := (m.im :: c.ims).take 24 })
  let (words, cells) := s.shadowSelect m.tick m.target
  if flatWords m.words then
    ((s.mirrorApply m).mapDpx (fun d => { d with run := incSat 32 d.run, mism := false })).warmJudge
  else if words == m.words then
    (((s.mapCellS (fun c => { c with cells := cells })).mirrorApply m).mapDpx (fun d => { d with
      run := incSat 32 d.run, mism := false })).warmJudge
  else (s.mirrorApply m).mirrorMismatch

/-- The record follows the newest one held. -/
def State.mirrorNext (s : State) (tick : Nat) : Bool :=
  match s.dpx.mirror with | m :: _ => m.tick + 1 == tick | [] => true

/-- A MIRROR record in PREPARED or in the window of a hand-back (R442, R444). -/
def State.mirrorIn (s : State) (m : MirrorRec) : State :=
  let next := s.mirrorNext m.tick
  let s := if next then s else s.mapDpx (fun d => { d with mirror := [] })
  let s := if !next && s.dpx.shadow.isSome then s.mirrorMismatch else s
  let loaded := s.dpx.shadow.isSome
  let s := s.mapDpx (fun d => { d with mirror := (m :: d.mirror).take 200 })
  if loaded then s.mirrorCompare m
  else match s.newestCkpt with | some b => s.mirrorLoad b | none => s

/-- 256 STATE codes in 64 bytes, slot 0 of trunk 0 in bits [1:0] of the first (Table 15-3). -/
def mirrorBytes (words : List Nat) : List Nat :=
  (List.range 64).map (fun i => flagBits ((List.range 8).map (fun j => bit (entry words (4 * i + j / 2) 2) (j % 2))))

/-- MIRROR: the record of one tick, 256 STATE codes in cell order (Table 15-3). -/
def execMirror (f : DpxFrame) (tick : BitVec 64) (target count : BitVec 16) (nc : BitVec 16) (im : BitVec 32) (out : BitVec 32)
    (words : List Nat) (s : State) : Out :=
  let data := le 8 tick.toNat ++ le 2 target.toNat ++ le 2 count.toNat ++ le 2 nc.toNat ++ le 4 im.toNat ++ le 4 out.toNat ++
    mirrorBytes words ++ [0, 0]
  let m : MirrorRec := { tick := tick.toNat, target := target.toNat, count := count.toNat, nc := signed 16 nc.toNat
                         im := signed 32 im.toNat, out := out.toNat, words := (padTo 256 words).map (fun w => w % 4) }
  .next (s.dpxTake (dpxGood 0x03 f.n.toNat data f.crc.toNat) (fun s =>
    let s := s.storeRenew
    if ((s.mode.mode == .standby && s.mode.sub == 2 && s.dpx.take == .idle) || s.dpx.hbIn) && s.dpx.yielded.isNone then
      s.mirrorIn m
    else s))

/-- The holder's MIRROR record of the present tick, with the words of its frames (R442). -/
def State.mirrorSend (s : State) (target : Nat) (words : List Nat) : State :=
  if s.dpx.mirrorOn && s.dpx.lease && s.DPX_ENABLE == 1 then
    s.dpxSend 0x03 2 (le 8 s.tick ++ le 2 target ++ le 2 s.arm.count ++ leI 2 s.arm.nc ++ leI 4 s.arm.im ++ le 4 s.outState ++
      mirrorBytes words ++ [0, 0])
  else s

/-! ### Hand-back (R443 to R446) -/

/-- The first condition of Table 15-9 that fails, 0 for none. -/
def State.handFails (s : State) : Nat :=
  let p := s.dpx.partner
  firstFail
    [match p with | some x => (x.state == 4 || x.state == 5) && !x.mismatch | none => false,
     (s.REVERT == 1 && s.dpxRole == 1) || s.dpx.switchover,
     match p with | some x => x.cfg == s.cfgCrc | none => false,
     s.dpx.delay ≤ 250,
     (List.range 4).all (fun n => s.SO_FUNC n == 0 || 160 ≤ s.SO_PULSE n),
     (s.mode.mode == .blocked || (s.mode.mode == .forming && s.mode.sub == 3)) && s.noTrip]

/-- A scheduled hand-back whose condition fails before B is cancelled: HANDBACK with B = 0 and event 0x7033 (R443). -/
def State.handJudge (s : State) : State :=
  if s.dpx.lease && s.dpx.hbB != 0 then
    let c := s.handFails
    if c = 0 then s
    else
      let s := s.dpxSend 0x04 3 (le 8 0 ++ le 2 s.dpx.hbEpoch ++ [0, 0])
      (s.mapDpx (fun d => { d with hbB := 0, hbAck := false })).warnKeep 0x7033 0 [c]
  else s

/-- Tick F − 1 of the holder: a hand-back without an answer is cancelled, and one whose conditions hold is scheduled for the
boundary 4F ticks after the one that follows (R443, R444). -/
def State.handSend (s : State) : State :=
  if s.DPX_ENABLE == 1 && s.dpx.lease && s.dpx.mirrorOn then
    if s.dpx.hbB != 0 && s.dpx.hbAck then s
    else if s.handFails = 0 then
      let b := s.tick + 1 + 4 * s.fp
      let e := (s.dpx.epoch + 1) % 65536
      let s := s.dpxSend 0x04 3 (le 8 b ++ le 2 e ++ [0, 0])
      (s.mapDpx (fun d => { d with hbB := b, hbEpoch := e, hbAck := false })).warnOff 0x7033 0
    else s.mapDpx (fun d => { d with hbB := 0, hbAck := false })
  else s

/-- The returning device yields in the window of R446. -/
def State.handYield (s : State) : State :=
  let off := s.safe.outs.map (fun o => o.turnOff)
  ({ s with dpx := { s.dpx with yielded := some s.now, hbIn := false, hbB := 0, hbRaised := false }
            safe := { s.safe with outs := off } }).warnOn 0x7041 0 []

/-- HANDBACK: a cancellation leaves a device before B − 3F in PREPARED and makes one in the window yield; otherwise the
device answers, and accepts where it is WARM (R444, R446). -/
def execHandback (f : DpxFrame) (b : BitVec 64) (epoch : BitVec 16) (s : State) : Out :=
  .next (s.dpxTake (dpxGood 0x04 f.n.toNat (le 8 b.toNat ++ le 2 epoch.toNat ++ [0, 0]) f.crc.toNat) (fun s =>
    let s := s.storeRenew
    if b.toNat = 0 then
      if s.dpx.hbIn then s.handYield else s.mapDpx (fun d => { d with hbB := if d.lease then d.hbB else 0 })
    else if s.mode.mode == .standby && s.mode.sub == 2 && s.dpx.take == .idle then
      let yes := s.dpx.warm
      let s := s.mapDpx (fun d => { d with hbB := if yes then b.toNat else 0, hbEpoch := epoch.toNat })
      s.dpxSend 0x84 5 (le 8 b.toNat ++ [b2n yes, 0, 0, 0])
    else s))

/-- HB_ACK: accepted, or the hand-back is cancelled (R444). -/
def execHbAck (f : DpxFrame) (b : BitVec 64) (result : BitVec 8) (s : State) : Out :=
  .next (s.dpxTake (dpxGood 0x84 f.n.toNat (le 8 b.toNat ++ [result.toNat, 0, 0, 0]) f.crc.toNat) (fun s =>
    if s.dpx.lease && s.dpx.hbB != 0 && s.dpx.hbB == b.toNat then
      if result.toNat = 1 then s.mapDpx (fun d => { d with hbAck := true }) else s.mapDpx (fun d => { d with hbB := 0, hbAck := false })
    else s))

/-- HANDBACK_MODE_ENTRY: at B − 3F the returning device enters the mode of the newest checkpoint without the lease; in
FORMING its law goes on from the checkpoint: the law units of this boundary run on it, now where the tick edge has been taken,
otherwise at the edge (R444). -/
def execHandbackModeEntry (s : State) : Out :=
  .next (if s.mode.mode == .standby && s.mode.sub == 2 && s.dpx.hbB != 0 && !s.dpx.hbIn && s.dpx.hbB ≤ s.nextTick + 3 * s.fp then
      match s.newestCkpt with
      | some b =>
        let (m, sub) := b.mode
        let s := (s.mapDpx (fun d => { d with hbIn := true })).setMode m sub
        let s := (s.restoreLaw b (b.g s.nextTick)).sf1Hold
        if s.edge then s.lawPeriod false else s
      | none => s
    else s)

/-- n_c in the window: the mirrored value of tick n − 2, advanced through tick n − 1 with the own step of that tick
(R444). -/
def State.handCount (s : State) : State :=
  if s.dpx.hbIn then
    match s.dpx.mirror.find? (fun m => m.tick + 2 == s.tick) with
    | some m => s.mapArm (fun a => { a with
        nc := correction m.nc a.step a.nff a.nAv s.C_MAX, fresh := a.fresh && a.refs.isNone })
    | none => s
  else s

/-- The epoch of the hand-back is raised and stored (R444, R430). -/
def State.handRaise (s : State) : State :=
  s.mapDpx (fun d => { d with epoch := d.hbEpoch, stored := some d.hbEpoch, hbRaised := true })

/-- HANDBACK_EPOCH_RAISE: at the latch point of tick B − 1 (R444). -/
def execHandbackEpochRaise (s : State) : Out :=
  .next (if s.dpx.hbIn && !s.dpx.hbRaised && s.dpx.hbB ≤ s.nextTick + 1 && s.nvOk then s.handRaise else s)

/-- The returning device holds the lease from tick B: outputs from the mirrored OUT_STATE, safety outputs from 60 µs after B
(R445). -/
def State.handTake (s : State) : State :=
  let out := match s.dpx.mirror with | m :: _ => m.out | [] => 0
  let s := if s.dpx.hbRaised then s else s.handRaise
  let e := s.dpx.epoch
  let s := s.acquireLease 3 e
  let s := s.mapDpx (fun d => { d with
    hbIn := false, hbB := 0, hbRaised := false, warm := false, run := 0, shadow := none, mirror := [], tookAt := some s.now
    frozen := true })
  (s.restoreOuts out).alignUp

/-- The holder gives the position at B: safety outputs off, STANDBY, COLD, the store lease granted to the returning device;
its standard outputs stay on for 100 µs (R445). -/
def State.handGive (s : State) : State :=
  let off := s.safe.outs.map (fun o => o.turnOff)
  let dev := match s.dpx.partner with | some p => p.dev | none => s.PARTNER_DEV
  let s := { s with safe := { s.safe with outs := off } }
  let s := s.setMode .standby 1
  s.mapDpx (fun d => { d with
    lease := false, gaveAt := some s.now, hbB := 0, hbAck := false, switchover := false, mirrorOn := false, partner := none
    holder := some (dev, d.hbEpoch), renewed := s.now, frozen := false, buf0 := {}, buf1 := {}, goodSince := none })

/-- HANDBACK_TRANSFER: the position changes hands at B (R445). -/
def execHandbackTransfer (s : State) : Out :=
  .next (if s.dpx.hbB = 0 || s.nextTick < s.dpx.hbB then s
    else if s.dpx.hbIn then (if s.mode.mode == .safe then s else s.handTake)
    else if s.dpx.lease && s.dpx.hbAck && s.handFails = 0 then s.handGive
    else s)

/-- HOLDER_OUTPUT_RELEASE: 100 µs after B the holder switches its standard outputs off and powers down (R445). -/
def execHolderOutputRelease (s : State) : Out :=
  .next (match s.dpx.gaveAt with
    | some t =>
      if t + us 100 ≤ s.now then
        (s.mapDpx (fun d => { d with gaveAt := none, downAt := some s.now })).note 0x7032 []
      else s
    | none => s)

/-- The status of SWITCHOVER (Table 15-12). -/
def State.switchStatus (s : State) (level : Nat) : Nat :=
  if level < 2 then stPrivilege
  else match s.dpx.lease, s.dpx.partner with
    | true, some p => if p.state == 4 then stOk else stMode
    | _, _ => stMode

/-- SWITCHOVER (R443). -/
def execSwitchover (level : Nat) (s : State) : Out :=
  .next (if s.switchStatus level = stOk then s.mapDpx (fun d => { d with switchover := true }) else s)

/-! ### Power-down to COLD (R422, R423) -/

/-- The wake record as it stands (R423). -/
def State.wakeRecord (s : State) : WakeRec :=
  let pll (i : Nat) : Nat × Nat := ((s.clk.pll i).bandIx.getD 0, (s.clk.pll i).act.od0 + 64 * (s.clk.pll i).act.od1)
  { plls := [pll 4, pll 0, pll 1, pll 2]
    trunks := (List.range 8).map (fun q => ((s.trk q).tTrk, (s.trk q).tCell, ofLe ((s.trk q).info.take 4)))
    spine := [s.spn.east.seg, s.spn.west.seg, s.spn.east.dm, s.spn.west.dm]
    tick := s.tick, epoch := s.dpx.epoch, counted := true }

/-- Only AON and KEEP stay powered: KEEP holds the store, the wake record and the recorder's state; every other domain is
at its reset values (R421, R422; log entry 17). -/
def State.coldState (s : State) : State :=
  let w := s.wakeRecord
  let f := s.fullReset
  let c := { f.clk with ref := s.clk.ref, lostAt := s.clk.lostAt, d := s.clk.d }
  { f with
    objs := s.objs, tick := s.tick, k := s.k, edge := s.edge, recd := s.recd, mode := s.mode, clk := c
    fns := { record := s.fns.record }
    dpx := { s.dpx with downAt := none }
    pwr := { s.pwr with domains := 3, wake := some w } }

/-- POWER_DOWN_COLD_COMPLETE: the domains are off in the order of Table 15-2 (R422). -/
def execPowerDownColdComplete (s : State) : Out :=
  .next (if s.dpx.downAt.isSome && s.mode.mode == .standby && s.mode.sub == 1 then s.coldState else s)

end Sys2Proof.Machine
end

