-- ==== Sys2Proof/Machine/Power.lean ====
section
/-! DEFINITION. Feeds, VDD_3V3 and the PMBus controller (15, R418 to R420; 19, R537). -/
namespace Sys2Proof.Machine

/-- A feed. -/
def State.feedOf (s : State) : Side → Feed
  | .a => s.pwr.feedA
  | .b => s.pwr.feedB

/-- A feed replaced. -/
def State.putFeed (s : State) (p : Side) (f : Feed) : State :=
  s.mapPwr (fun w => match p with | .a => { w with feedA := f } | .b => { w with feedB := f })

/-- The code of Table 15-1. -/
def FeedLevel.code : FeedLevel → Nat
  | .good => 0 | .low => 1 | .fail => 2

/-- The state a feed enters that has stayed at a voltage for its dwell; from FEED_LOW to 50 mV above it keeps its state (Table
15-1). -/
def State.feedEnters (s : State) (f : Feed) (mv : Nat) : FeedLevel :=
  if mv < 2700 then .fail
  else if mv < s.FEED_LOW then .low
  else if s.FEED_LOW + 50 ≤ mv then .good
  else f.level

/-- 0x7004 once per episode in which neither feed is GOOD (R419). -/
def State.neitherJudge (s : State) : State :=
  let none_ := s.pwr.feedA.level != .good && s.pwr.feedB.level != .good
  let was := s.pwr.neither
  let s := s.mapPwr (fun p => { p with neither := none_ })
  if none_ && !was then s.warnOn 0x7004 0 [] else if none_ then s else s.warnOff 0x7004 0

/-- The event of a feed that enters a state. -/
def State.feedEvent (s : State) (p : Side) : FeedLevel → State
  | .good => ((s.warnOff 0x7001 p.code).warnOff 0x7002 p.code).note 0x7003 (le 2 p.code)
  | .low => (s.warnOff 0x7002 p.code).warnOn 0x7001 p.code (le 2 p.code)
  | .fail => s.warnOn 0x7002 p.code (le 2 p.code)

/-- FEED_STATE_CHANGE: a feed has stayed at a voltage, in mV, for the dwell of the state that it enters (R419). -/
def execFeedStateChange (p : Side) (mv : BitVec 16) (s : State) : Out :=
  let f := s.feedOf p
  let l := s.feedEnters f mv.toNat
  let s := s.putFeed p { level := l, volt := mv.toNat }
  .next (if l == f.level then s else (s.feedEvent p l).neitherJudge)

/-- CONDUCTING_FEED_CHANGE: the feeds' voltages in mV; the other feed takes over when the conducting one has fallen 30 mV
below it (R418). -/
def execConductingFeedChange (va vb : BitVec 16) (s : State) : Out :=
  let a := va.toNat
  let b := vb.toNat
  .next (s.mapPwr (fun p => { p with
    feedA := { p.feedA with volt := a }, feedB := { p.feedB with volt := b }
    conduct := if p.conduct == .a && a + 30 ≤ b then .b else if p.conduct == .b && b + 30 ≤ a then .a else p.conduct }))

/-- VDD_3V3_CHECK: the reading of every 1 ms, in mV; 0x7005 once per episode outside 3.00 V to 3.60 V (R420). -/
def execVdd3v3Check (mv : BitVec 16) (s : State) : Out :=
  .next (if s.powered .hk && s.pwr.vddAt + ms 1 ≤ s.now then
      let bad := mv.toNat < 3000 || 3600 < mv.toNat
      let s := s.mapPwr (fun p => { p with vdd33 := mv.toNat, vdd33Bad := bad, vddAt := s.now })
      if bad then s.warnOn 0x7005 0 [] else s.warnOff 0x7005 0
    else s)

/-- A regulator's answer in one poll: its STATUS_WORD, or none. -/
def State.pollOne (s : State) (addr : Nat) (ans : Option Nat) : State :=
  let old := match s.pwr.regs.find? (fun r => r.addr == addr) with | some r => r | none => { addr := addr, status := 0, misses := 0 }
  let new : Regulator := match ans with
    | some w => { addr := addr, status := w % 65536, misses := 0 }
    | none => { addr := addr, status := old.status, misses := min 255 (old.misses + 1) }
  let was := old.status != 0 || 3 ≤ old.misses
  let bad := (ans.isSome && new.status != 0) || 3 ≤ new.misses
  let word := if 3 ≤ new.misses then 65535 else new.status
  let s := s.emit (.pmbus addr [0x79, 0x20, 0x8B])
  let s := s.mapPwr (fun p => { p with
    regs := p.regs.filter (fun r => r.addr != addr) ++ [new], pmbFault := p.pmbFault || (bad && !was) })
  if bad then s.warnOn 0x7006 addr ([addr, 0] ++ le 2 word) else if ans.isSome then s.warnOff 0x7006 addr else s

/-- PMBUS_POLL: every 10 ms, or at once after an alert; ans gives the answer of each configured address in order (R420,
R537). -/
def execPmbusPoll (ans : List (Option Nat)) (s : State) : Out :=
  .next (if s.powered .hk && (s.pwr.pollDue || s.pwr.pollAt + ms 10 ≤ s.now) then
      let s := s.mapPwr (fun p => { p with
        pollAt := s.now, pollDue := false, regs := p.regs.filter (fun r => s.PMBUS_DEV.contains r.addr) })
      s.PMBUS_DEV.zipIdx.foldl (fun s a => s.pollOne a.1 (if s.fenced 0 3 then none else entry ans a.2 none)) s
    else s)

/-- PMB_ALERT: a low level on PMB_ALERT_N makes the next poll due at once (R537). -/
def execPmbAlert (s : State) : Out := .next (if s.powered .hk then s.mapPwr (fun p => { p with pollDue := true }) else s)

end Sys2Proof.Machine
end

