-- ==== Sys2Proof/Machine/Sessions.lean ====
section
/-! DEFINITION. Sessions of the parameter service, owner record, attestation (17, R482 to R488), and the JTAG port with
authenticated debug (R489 to R492), but for DBG_ACCESS. -/
namespace Sys2Proof.Machine

/-! ### Sessions -/

/-- An open session by its number. -/
def State.session (s : State) (id : Nat) : Option Session := s.ps.sessions.find? (fun x => x.id == id)

/-- One session changed. -/
def State.mapSession (s : State) (id : Nat) (f : Session → Session) : State :=
  s.mapPs (fun p => { p with sessions := p.sessions.map (fun x => if x.id == id then f x else x) })

/-- A session ends, with the cause's place in the list of R486; selects, cursor and attestation answer end with it. -/
def State.sessionEnd (s : State) (id cause : Nat) : State :=
  if (s.session id).isSome then
    (s.mapPs (fun p => { p with sessions := p.sessions.filter (fun x => x.id != id) })).note 0x9011 (le 4 id ++ [cause])
  else s

/-- Every session that meets a condition ends with a cause. -/
def State.sessionsEnd (s : State) (p : Session → Bool) (cause : Nat) : State :=
  (s.ps.sessions.filter p).foldl (fun s x => s.sessionEnd x.id cause) s

/-- The tag of R38: the first 16 bytes of the HMAC of a message under a key (R485). -/
def tagOf (key msg : List Nat) : List Nat := (Config.hmac384 msg key).take 16

/-- The validity times of a credential hold: against the local clock while synchronized, otherwise NOT_AFTER alone against
the last synchronized time (R487). -/
def State.timesOk (s : State) (notBefore notAfter : Nat) : Bool :=
  if s.synced then notBefore ≤ s.time.sec && s.time.sec < notAfter else s.sec.lastSync < notAfter

/-- NOT_AFTER has come (R486, R487, R490). -/
def State.pastEnd (s : State) (notAfter : Nat) : Bool := !(s.timesOk 0 notAfter)

/-- Checks 2 to 6 of R484 on a 240-byte credential, with the signature of its holder over a transcript followed by it: the
first that fails, 0 for none. A credential whose FORMAT or LEVEL Table 17-8 does not allow fails check 2. -/
def State.credCheck (s : State) (cred sig transcript : List Nat) : Nat :=
  let body := cred.take 0x90
  let key := (s.sec.owner.map (fun o => sliceOf o 0xA0 96)).getD []
  let level := numAt cred 1 1
  if s.sec.owner.isNone || numAt cred 0 1 != 1 || level < 1 || 3 < level ||
      !(Config.ecdsaVerify key body (sliceOf cred 0x90 96)) then 2
  else if numAt cred 4 4 < s.sec.credMinGen then 3
  else if s.device < numAt cred 0x28 2 || numAt cred 0x2A 2 < s.device then 4
  else if !(s.timesOk (numAt cred 0x18 8) (numAt cred 0x20 8)) then 5
  else if !(Config.ecdsaVerify (sliceOf cred 0x30 96) (transcript ++ cred) sig) then 6
  else 0

/-- A status other than OK that the manual does not name (notes/assumptions/18.md): a free value. -/
def State.freeStatus (s : State) : Nat := 1 + s.freeNat % 14

/-- Sessions can be opened: secure firmware runs, the security engine is not fenced, and the mode's service is not confined
to reads (R477, R512, Table 3-2). SAFE answers sessions, for its reset command needs P3. -/
def State.sessionStatus (s : State) : Nat :=
  if !s.secUp then stFenced
  else if !s.sec.fwRun || s.mode.mode == .boot || s.mode.mode == .standby then stMode
  else stOk

/-- The HELLO transcript (Table 17-7). -/
def helloTranscript (device : Nat) (h : Hello) : List Nat :=
  le 2 device ++ h.clientNonce ++ h.clientKey ++ h.devNonce ++ Config.ephemeralKey h.secret

/-- HELLO: nonces and ephemeral keys are exchanged, the device's side signed with its identity key; at most four exchanges
are held, a new one replacing the oldest (R483, R484). The answer is the status and the response's payload. -/
def State.hello (s : State) (session : Nat) (data : List Nat) : Nat × List Nat × State :=
  if s.sessionStatus != stOk then (s.sessionStatus, [], s)
  else if session != 0 || data.length != 128 then (s.freeStatus, [], s.drawn)
  else
    let n := s.sec.draws
    let h : Hello := ⟨s.now, data.take 32, data.drop 32, Config.randomBytes 32 n, n⟩
    let keep := if 4 ≤ s.ps.hellos.length then s.ps.hellos.drop 1 else s.ps.hellos
    let s := (s.mapSec (fun x => { x with draws := n + 1 })).mapPs (fun p => { p with hellos := keep ++ [h] })
    (stOk, h.devNonce ++ Config.ephemeralKey n ++ Config.identityEcdsa (helloTranscript s.device h), s)

/-- The session that an accepted OPEN grants, and its response (R485, R486, Table 17-7). -/
def State.grantSession (s : State) (h : Hello) (cred : List Nat) : List Nat × State :=
  let id := ofLe (Config.randomBytes 4 s.sec.draws) % 4294967295 + 1
  let t := helloTranscript s.device h
  let key := Config.hkdf384 (Config.ecdhShared h.secret h.clientKey) (h.clientNonce ++ h.devNonce)
    ([0x4B, 0x47, 0x39, 0x32, 0x35, 0x36, 0x2D, 0x50, 0x53] ++ le 4 id)
  let level := numAt cred 1 1
  let na := numAt cred 0x20 8
  let ends := min na (s.time.sec + 86400)
  let x : Session := { id := id, level := level, gen := numAt cred 4 4, holder := sliceOf cred 8 16, notAfter := na,
                       expiry := ends, opened := s.now, last := s.now, key := key, cursor := s.recd.oldest }
  let s := (s.mapSec (fun y => { y with draws := y.draws + 1 })).mapPs (fun p => { p with sessions := p.sessions ++ [x] })
  (le 4 id ++ [level, 0, 0, 0] ++ le 8 ends ++ tagOf key (le 4 id ++ Config.sha384 t), s)

/-- The first check of R484 that fails, and the exchange that OPEN names by the device nonce. -/
def State.openCheck (s : State) (data : List Nat) : Nat × Option Hello :=
  match s.ps.hellos.find? (fun h => h.devNonce == data.take 32 && s.now < h.at_ + secs 2) with
  | none => (1, none)
  | some h => (s.credCheck (sliceOf data 32 240) (sliceOf data 272 96) (helloTranscript s.device h), some h)

/-- OPEN: the checks of R484 in order; a failure answers PRIVILEGE with event 0x9012; with eight sessions BUSY. An exchange
is used once. -/
def State.openNow (s : State) (session : Nat) (data : List Nat) : Nat × List Nat × State :=
  if s.sessionStatus != stOk then (s.sessionStatus, [], s)
  else if session != 0 || data.length != 368 then (s.freeStatus, [], s.drawn)
  else if 8 ≤ s.ps.sessions.length then (stBusy, [], s)
  else
    let (c, h) := s.openCheck data
    let used := s.mapPs (fun p => { p with hellos := p.hellos.filter (fun x => x.devNonce != data.take 32) })
    match c, h with
    | 0, some h =>
      let (resp, t) := used.grantSession h (sliceOf data 32 240)
      (stOk, resp, t)
    | _, _ => (stPrivilege, [], used.warn 0x9012 [c])

/-- HELLO_EXPIRY: an exchange is held for 2 s (R484). -/
def execHelloExpiry (s : State) : Out :=
  .next (s.mapPs (fun p => { p with hellos := p.hellos.filter (fun h => s.now < h.at_ + secs 2) }))

/-- Why a session ends by itself: SESSION_IDLE, NOT_AFTER or 24 h after OPEN (2 to 4 in the list of R486). -/
def State.sessionCause (s : State) (x : Session) : Option Nat :=
  if x.last + secs s.sec.sessionIdle ≤ s.now then some 2
  else if s.pastEnd x.notAfter then some 3
  else if x.opened + secs 86400 ≤ s.now then some 4
  else none

/-- SESSION_TIMEOUT. -/
def execSessionTimeout (id : BitVec 32) (s : State) : Out :=
  .next (match (s.session id.toNat).bind s.sessionCause with
    | some c => s.sessionEnd id.toNat c
    | none => s)

/-- SESSION_CLOSE takes effect. -/
def State.closeNamed (s : State) (id : Nat) : State := s.sessionEnd id 7

/-- SESSION_CLOSE: a write of 0x9020:02, at P3 (Table 17-11). -/
def execSessionClose (level : Nat) (id : BitVec 32) (s : State) : Out :=
  .next (if 3 ≤ level && s.modeStatus == stOk && s.secUp then s.closeNamed id.toNat else s)

/-- SYNC_TIME_STORE: every hour while synchronized (R487). -/
def execSyncTimeStore (s : State) : Out :=
  .next (if s.synced && s.nvOk && s.sec.lastSyncAt + secs 3600 ≤ s.now then
      s.mapSec (fun x => { x with lastSync := s.time.sec, lastSyncAt := s.now })
    else s)

/-! ### Owner record (R488) and credentials -/

/-- The content that Table 17-9 admits. -/
def ownerOk (o : List Nat) : Bool := o.length == 256 && numAt o 0 1 == 1 && (sliceOf o 1 7).all (fun b => b == 0)

/-- CLAIM: the first owner record, in COMMISSION only (R488). -/
def State.claim (s : State) (session : Nat) (data : List Nat) : Nat × State :=
  if !s.secUp || !s.nvOk then (stFenced, s)
  else if s.mode.mode != .commission || s.sec.owner.isSome then (stMode, s)
  else if session != 0 || data.length != 256 then (s.freeStatus, s.drawn)
  else if !(ownerOk data) then (stRange, s)
  else (stOk, (s.mapSec (fun x => { x with owner := some data })).note 0x9030 [])

/-- The status of a write of OWNER_KEYS (R488). -/
def State.ownerStatus (s : State) (level : Nat) (data : List Nat) : Nat :=
  if data.length != 256 then stType
  else if level < 3 then stPrivilege
  else if s.mode.mode != .commission && s.mode.mode != .blocked then stMode
  else if !s.secUp || !s.nvOk then stFenced
  else if !(ownerOk data) then stRange else stOk

/-- The owner record is replaced; every session but the writing one ends at once (R488). -/
def State.ownerChange (s : State) (session : Nat) (data : List Nat) : State :=
  (((s.privNote 0x9001 1 session).mapSec (fun x => { x with owner := some data })).note 0x9030 []).sessionsEnd
    (fun x => x.id != session) 8

/-- OWNER_KEYS_WRITE: the writing session ends too, once its response is sent (R488). -/
def execOwnerKeysWrite (session level : Nat) (data : List Nat) (s : State) : Out :=
  .next (if s.ownerStatus level data = stOk then (s.ownerChange session data).sessionEnd session 8 else s)

/-- The status of a write of CRED_MIN_GEN: it may only rise (Table 17-12). -/
def State.credGenStatus (s : State) (level v : Nat) : Nat :=
  if level < 3 then stPrivilege
  else if s.modeStatus != stOk then s.modeStatus
  else if !s.secUp || !s.nvOk then stFenced
  else if v < s.sec.credMinGen then stRange else stOk

/-- CRED_MIN_GEN is written: a raise ends the sessions whose generation lies below it (R486). -/
def State.credGen (s : State) (session v : Nat) : State :=
  let up := s.sec.credMinGen < v
  let s := (s.privNote 0x9001 3 session).mapSec (fun x => { x with credMinGen := v })
  if up then (s.note 0x9031 []).sessionsEnd (fun x => x.gen < v) 6 else s

/-- CRED_MIN_GEN_WRITE. -/
def execCredMinGenWrite (session level : Nat) (v : BitVec 32) (s : State) : Out :=
  .next (if s.credGenStatus level v.toNat = stOk then s.credGen session v.toNat else s)

/-! ### Attestation (R482) -/

/-- Why an attestation is refused: the ATTEST_STATE 3, 4 or 5 that gives the cause, or 0. -/
def State.attestBusy (s : State) : Nat :=
  if s.sec.signing.isSome then 3 else if s.sec.tokens = 0 then 4 else if s.lmsOut then 5 else 0

/-- The status of a write of ATTEST_REQUEST. -/
def State.attestStatus (s : State) (level : Nat) (nonce : List Nat) : Nat :=
  if nonce.length != 32 then stType
  else if level < 1 then stPrivilege
  else if s.modeStatus != stOk then s.modeStatus
  else if !s.secUp then stFenced
  else if s.attestBusy != 0 then stBusy else stOk

/-- A refusal as BUSY leaves its cause in ATTEST_STATE; the answer of the session's request before it is no longer held (R482). -/
def State.attestRefused (s : State) (session : Nat) : State :=
  s.mapSession session (fun x => { x with attState := s.attestBusy, attAnswer := [] })

/-- An accepted request: the token is taken, the counter advances in both copies, then leaf q is signed with; where a
write or verify fails no signature is made (R480, R482). -/
def State.attestBegin (s : State) (session : Nat) (nonce : List Nat) (okA okB : Bool) : State :=
  let q := s.lmsNext
  let s := s.mapSec (fun x => { x with tokens := x.tokens - 1 })
  let (ok, s) := s.lmsAdvance okA okB
  if ok then
    (s.mapSec (fun x => { x with signing := some ⟨session, nonce, q⟩ })).mapSession session
      (fun x => { x with attState := 1, attAnswer := [] })
  else s.mapSession session (fun x => { x with attState := 6, attAnswer := [] })

/-- ATTEST_REQUEST: a write of a nonce by a session; okA and okB say whether the writes of the two counter copies verify. -/
def execAttestRequest (session level : Nat) (nonce : List Nat) (okA okB : Bool) (s : State) : Out :=
  let st := s.attestStatus level nonce
  .next (if st = stOk then s.attestBegin session nonce okA okB
    else if st = stBusy then s.attestRefused session else s)

/-- The bytes of the stored configuration record's check value (R92). -/
def State.recordCrc (s : State) : Nat :=
  let objs := match s.stored with | some r => r.objs | none => []
  Config.recordCheck (objs.map (fun o => (o.1, match o.2 with | .num n => leI 8 n | .oct b => b))) % 4294967296

/-- SERIAL, from the colophon (Table 17-5). -/
def State.serial (s : State) : List Nat := sliceOf s.sec.colA 8 8

/-- The attestation record (Table 17-6), 256 bytes. -/
def State.attestRecord (s : State) (g : Signing) : List Nat :=
  let flags := flagBits [s.sec.bootImage == 1, s.sec.debugLock, s.sec.dbg.isSome, s.safe.prot.run]
  padTo 256 ([1, s.modeByte] ++ le 2 s.device ++ le 4 g.leaf ++ s.serial ++ padTo 32 g.nonce
    ++ time96 s.time.sec s.clockNs ++ le 2 s.timeTag ++ [0, 0] ++ le 8 s.tick
    ++ padTo 48 s.sec.secMeas ++ padTo 48 s.sec.appMeas ++ padTo 48 ((s.ownerHash).getD [])
    ++ le 2 s.sec.fusedSvn ++ le 2 s.sec.appMinSvn ++ [s.mode.config, flags, 0, 0]
    ++ le 4 s.recordCrc ++ le 4 s.safetyCrc ++ le 4 s.safe.prot.crc ++ le 2 s.dpx.epoch)

/-- ATTEST_SIGNED: the answer, record and signature block, is held for the session that asked, while it lasts (R482). -/
def execAttestSigned (s : State) : Out :=
  .next (match s.sec.signing with
    | none => s
    | some g =>
      if s.secUp then
        let r := s.attestRecord g
        let a := r ++ Config.identityEcdsa r ++ Config.identityLms g.leaf r
        ((s.mapSec (fun x => { x with signing := none })).mapSession g.session
          (fun x => { x with attState := 2, attAnswer := a })).note 0x9020 (le 4 g.leaf)
      else s)

/-! ### The JTAG port (R489) -/

/-- IDCODE. -/
def execIdcode (s : State) : Out :=
  .next (s.mapSec (fun x => { x with jtag := .idcode, tdo := le 4 0x29256A6B }))

/-- Bits as numbers. -/
def bitsOut (l : List Bool) : List Nat := l.map b2n

/-- BYPASS: one bit of delay between the data shifted in and out (IEEE 1149.1; log entry 19). -/
def execBypass (tdi : List Bool) (s : State) : Out :=
  .next (s.mapSec (fun x => { x with
    jtag := .bypass, tdo := bitsOut ((false :: tdi).take tdi.length), bypassReg := tdi.getLast?.getD false }))

/-- SAMPLE/PRELOAD: the pins are sampled and shifted out, the register is preloaded (IEEE 1149.1; log entry 19). -/
def execSamplePreload (pins tdi : List Bool) (s : State) : Out :=
  .next (s.mapSec (fun x => { x with
    jtag := .samplePreload, tdo := bitsOut pins, boundary := if tdi.isEmpty then pins else tdi }))

/-- The level of the debug session, 0 for none. -/
def State.dbgLevel (s : State) : Nat := match s.sec.dbg with | some d => d.level | none => 0

/-- EXTEST is available: a P3 session, in a halted BOOT or with BOOT_SRC = 0b10 (Table 17-10). -/
def State.extestOk (s : State) : Bool :=
  s.dbgLevel == 3 && !s.sec.debugLock && ((s.mode.mode == .boot && s.mode.halted) || bits s.mode.straps 1 2 == 2)

/-- EXTEST: the pins are captured and shifted out, the register that drives them is loaded. -/
def execExtest (pins tdi : List Bool) (s : State) : Out :=
  .next (if s.extestOk then s.mapSec (fun x => { x with
      jtag := .extest, tdo := bitsOut pins, boundary := if tdi.isEmpty then pins else tdi })
    else s)

/-! ### Authenticated debug (R490 to R492) -/

/-- The challenge of a nonce: nonce, SERIAL, device number. -/
def State.challenge (s : State) (nonce : List Nat) : List Nat := nonce ++ s.serial ++ le 2 s.device

/-- DBG_CHALLENGE: a fresh nonce, unless debug is locked. -/
def execDbgChallenge (s : State) : Out :=
  let n := Config.randomBytes 32 s.sec.draws
  .next (if s.sec.debugLock || !s.secUp then s
    else s.mapSec (fun x => { x with
      jtag := .challenge, dbgNonce := some n, draws := x.draws + 1, tdo := s.challenge n }))

/-- A failed DBG_RESPONSE: three within 60 s refuse it for 60 s, with event 0x9041. -/
def State.dbgFailed (s : State) : State :=
  let l := s.now :: s.sec.dbgFails.filter (fun t => s.now < t + secs 60)
  if 3 ≤ l.length then
    (s.mapSec (fun x => { x with dbgNonce := none, dbgFails := [], dbgLockout := some (s.now + secs 60) })).warnOn 0x9041 0 []
  else s.mapSec (fun x => { x with dbgNonce := none, dbgFails := l })

/-- DBG_RESPONSE is judged: FLAGS [0] and checks 2 to 6 of R484, over the challenge; on success the one debug session opens,
with event 0x9040, whose 16-byte payload holds the holder and has no room for the level (R453, R490). -/
def State.dbgJudge (s : State) (cred sig : List Nat) : State :=
  match s.sec.dbgNonce with
  | none => s.dbgFailed
  | some n =>
    if bit (numAt cred 2 1) 0 && s.credCheck cred sig (s.challenge n) == 0 then
      let d : DebugSession := ⟨numAt cred 1 1, sliceOf cred 8 16, numAt cred 0x20 8, s.now⟩
      (s.mapSec (fun x => { x with dbgNonce := none, dbg := some d })).note 0x9040 (d.holder ++ [d.level])
    else s.dbgFailed

/-- DBG_RESPONSE: unless debug is locked, a session is open, or the refusal of 60 s runs. -/
def execDbgResponse (cred sig : List Nat) (s : State) : Out :=
  let refused := match s.sec.dbgLockout with | some t => s.now < t | none => false
  .next (if s.sec.debugLock || !s.secUp || s.sec.dbg.isSome || refused then s
    else (s.dbgJudge cred sig).mapSec (fun x => { x with jtag := .response }))

/-- DBG_LOCKOUT_END. -/
def execDbgLockoutEnd (s : State) : Out :=
  .next (match s.sec.dbgLockout with
    | some t => if t ≤ s.now then (s.mapSec (fun x => { x with dbgLockout := none })).warnOff 0x9041 0 else s
    | none => s)

/-- DBG_END. -/
def execDbgEnd (s : State) : Out :=
  .next (if s.sec.dbg.isSome then s.dbgEnd.mapSec (fun x => { x with jtag := .dbgEnd }) else s)

/-- DBG_IDLE_TIMEOUT: 600 s without a DBG_ACCESS, or NOT_AFTER. -/
def execDbgIdleTimeout (s : State) : Out :=
  .next (match s.sec.dbg with
    | some d => if d.last + secs 600 ≤ s.now || s.pastEnd d.notAfter then s.dbgEnd else s
    | none => s)

/-- In FORMING and STANDBY debug access is read-only (R491). -/
def State.dbgReadOnly (s : State) : Bool := s.mode.mode == .forming || s.mode.mode == .standby

/-- DBG_RESET: a SYSTEM reset with RESET_CAUSE.DEBUG, in a session at P2 or above; refused with ERROR.PRIV where debug access
is read-only (R489, R491). -/
def execDbgReset (s : State) : Out :=
  .next (if s.dbgLevel < 2 then s
    else if s.dbgReadOnly then s.errBit 0 0
    else s.sysReset 0x10 0x0010)

end Sys2Proof.Machine
end

