-- ==== Sys2Proof/Machine/Views.lean ====
section
/-! DEFINITION. What the objects of the dictionary read as: the encodings of Table 2-3 and one view per read-only object of
the object tables of 02 to 18. -/
namespace Sys2Proof.Machine

/-! ### Who asks -/

/-- Who reads or writes: a session, a client of session 0, or a bus master. -/
inductive Caller where
  | sess (id : Nat)
  | client (src sport : Nat)
  | master (m : Nat)
deriving DecidableEq, Repr

/-- Session 0's state of a client (R52). -/
def State.client (s : State) (src sport : Nat) : Option Client :=
  s.ps.clients.find? (fun c => c.src == src && c.sport == sport)

/-- The level of a caller; session 0, and STANDBY's service, are P0 (R41, R64, Table 3-2). -/
def State.levelOf (s : State) : Caller → Nat
  | .sess id => if s.mode.mode == .standby then 0 else match s.session id with | some x => x.level | none => 0
  | .client _ _ => 0
  | .master m => s.mlevel m

/-- The select values of a caller (R52, R53). -/
def State.selectsOf (s : State) : Caller → Selects
  | .sess id => match s.session id with | some x => x.sel | none => {}
  | .client a p => match s.client a p with | some x => x.sel | none => {}
  | .master m => (entry s.masters m {}).sel

/-- A client's state changed. -/
def State.mapClient (s : State) (src sport : Nat) (f : Client → Client) : State :=
  s.mapPs (fun p => { p with clients := p.clients.map (fun c => if c.src == src && c.sport == sport then f c else c) })

/-- The select values of a caller replaced. -/
def State.putSelects (s : State) (c : Caller) (v : Selects) : State :=
  match c with
  | .sess id => s.mapSession id (fun x => { x with sel := v })
  | .client a p => s.mapClient a p (fun x => { x with sel := v })
  | .master m => { s with masters := updAt m (fun x => { x with sel := v }) s.masters }

/-- Recorder cursor and advance setting of a caller (R461). -/
def State.cursorOf (s : State) : Caller → Nat × Bool
  | .sess id => match s.session id with | some x => (x.cursor, x.advance) | none => (s.recd.oldest, true)
  | .client a p => match s.client a p with | some x => (x.cursor, x.advance) | none => (s.recd.oldest, true)
  | .master m => ((entry s.masters m {}).cursor, (entry s.masters m {}).advance)

/-- Recorder cursor and advance setting replaced. -/
def State.putCursor (s : State) (c : Caller) (v : Nat) (a : Bool) : State :=
  match c with
  | .sess id => s.mapSession id (fun x => { x with cursor := v, advance := a })
  | .client x p => s.mapClient x p (fun x => { x with cursor := v, advance := a })
  | .master m => { s with masters := updAt m (fun x => { x with cursor := v, advance := a }) s.masters }

/-- The session number that events name: 0 for session 0 and for a bus master. -/
def Caller.number : Caller → Nat
  | .sess id => id
  | _ => 0

/-! ### Channel-indexed groups (Table 2-5) -/

/-- The group of an index: 0 cell, 1 analog channel, 2 field pin, 3 safety output, 4 small PLL. The objects 0x5010 on and
0x8010 on are not channel-indexed (R380, Table 11-6). -/
def groupOf (idx : Nat) : Option Nat :=
  if 0x3000 ≤ idx && idx ≤ 0x30FF then some 0
  else if 0x4000 ≤ idx && idx ≤ 0x40FF then some 1
  else if 0x5000 ≤ idx && idx ≤ 0x500F then some 2
  else if 0x6000 ≤ idx && idx ≤ 0x60FF then some 3
  else if 0x8000 ≤ idx && idx ≤ 0x800F then some 4
  else none

/-- The select value of a group. -/
def Selects.get (v : Selects) : Nat → Nat
  | 0 => v.cell | 1 => v.ain | 2 => v.fio | 3 => v.so | _ => v.pll

/-- The select values with one group's value replaced. -/
def Selects.put (v : Selects) (g x : Nat) : Selects :=
  match g with
  | 0 => { v with cell := x } | 1 => { v with ain := x } | 2 => { v with fio := x } | 3 => { v with so := x }
  | _ => { v with pll := x }

/-- The largest select value of a group. -/
def selMax : Nat → Nat
  | 0 => 255 | 1 => 24 | 2 => 31 | _ => 3

/-- The channel in force for an index, 0 outside the groups. -/
def Selects.chan (v : Selects) (idx : Nat) : Nat := match groupOf idx with | some g => v.get g | none => 0

/-- A select object: subindex 0 of the first index of a group (R51). -/
def isSelect (idx sub : Nat) : Bool :=
  sub == 0 && (idx == 0x3000 || idx == 0x4000 || idx == 0x5000 || idx == 0x6000 || idx == 0x8000)

/-- CHANNEL where the selected channel is not configured for the object: an unpopulated cell answers only its class (R195),
and the objects of the Sense region apply to the channels of R303 to R305. -/
def State.channelStatus (s : State) (idx sub chan : Nat) : Nat :=
  let ok :=
    if (idx == 0x3001 || idx == 0x3002) && !(idx == 0x3002 && sub == 1) then s.populated chan
    else if idx == 0x4001 then (if sub ≤ 0x0F then chan ≤ 15 else 17 ≤ chan)
    else if idx == 0x4002 then chan ≤ 15 || (17 ≤ chan && (sub == 1 || sub == 3 || sub == 4 || sub == 10))
    else if idx == 0x4003 then chan ≤ 16
    else true
  if ok then stOk else stChannel

/-! ### Encodings (Table 2-3) -/

/-- The size of a type, 0 for OCTETS. -/
def Ty.size : Ty → Nat
  | .u8 => 1 | .u16 => 2 | .u32 => 4 | .u64 => 8 | .i16 => 2 | .i32 => 4 | .pu32 => 4 | .turn32 => 4 | .time96 => 12
  | .octets => 0

/-- The code of a type. -/
def Ty.code : Ty → Nat
  | .u8 => 1 | .u16 => 2 | .u32 => 3 | .u64 => 4 | .i16 => 5 | .i32 => 6 | .pu32 => 7 | .turn32 => 8 | .time96 => 9
  | .octets => 10

/-- The types whose codes are signed. -/
def Ty.isSigned : Ty → Bool
  | .i16 | .i32 | .pu32 => true
  | _ => false

/-- The code of an access class (R56). -/
def Acc.code : Acc → Nat
  | .ro => 0 | .rw => 1 | .rwStop => 2 | .rwPriv => 3 | .wo => 4

/-- A value in its bytes. A PU32 default of Table 5-4 that does not fit its type is a free value (log entry 7). -/
def encodeVal (ty : Ty) : Val → List Nat
  | .oct b => b
  | .num n => if ty == .pu32 && maxI32 < n then le 4 (Config.wideCode n) else leI ty.size n

/-- A value from its bytes. -/
def decodeVal (ty : Ty) (b : List Nat) : Val :=
  if ty == .octets || ty == .time96 then .oct b
  else if ty.isSigned then .num (ofLeI b) else .num (ofLe b)

/-- A number as a value. -/
def nat (n : Nat) : Val := .num n

/-- A truth value as a value. -/
def flag (b : Bool) : Val := .num (b2n b)

/-- The values of an index packed with a tick number, as the snapshot objects do. -/
def snapshot (tick : Nat) (tys : List Ty) (vs : List Val) : Val :=
  .oct (le 8 tick ++ (List.zipWith encodeVal tys vs).flatten)

/-! ### Forming law, limiters, arm (04 to 06) -/

/-- 0x2004:01 to 06. -/
def State.gainView (s : State) : List Val :=
  let g := s.form.inForce
  [nat s.law.region, .num g.d, .num g.kp, .num g.kq, .num g.rv, .num g.xv]

/-- 0x2008:01 to 0E (Table 4-12). -/
def State.formView (s : State) : List Val :=
  let b := s.law
  [nat b.phase, .num (view b.w), nat (turn32 b.theta), .num (view b.pf), .num (view b.qf), .num (view b.vf),
   .num (view b.vgf), .num (view b.wgf), .num s.form.eSel, .num s.form.dvM, .num s.form.dwM, .num s.form.dthM,
   flag s.form.valid, nat b.sources]

/-- The types of 0x2008:01 to 0E. -/
def formTys : List Ty :=
  [.u8, .pu32, .turn32, .pu32, .pu32, .pu32, .pu32, .pu32, .pu32, .pu32, .pu32, .i32, .u8, .u8]

/-- A list of PU32 codes in bytes. -/
def puBytes (l : List Int) : List Nat := l.flatMap (leI 4)

/-- 0x2011:01 to 0A (Table 5-6). -/
def State.limView (s : State) : List Val :=
  let b := s.law
  [nat b.pwin, nat b.ewin, .num s.form.pSel, .oct (puBytes s.form.pOut), .oct (puBytes s.form.eOut), .num (view b.px),
   .num (view b.vxd), .num (view b.vxq), nat b.rpend, nat b.dwell]

/-- The types of 0x2011:01 to 0A. -/
def limTys : List Ty := [.u8, .u8, .pu32, .octets, .octets, .pu32, .pu32, .pu32, .u8, .u32]

/-- 0x3101:01 to 0A (Table 6-6). -/
def State.armView (s : State) : List Val :=
  let a := s.arm
  let mean := if a.nAv = 0 then 0 else (2 * a.sumV + a.nAv) / (2 * a.nAv)
  [nat a.count, nat a.nff, .num a.nc, .num a.iRef, .num a.im, .num a.err, nat a.share, nat a.nAv, nat mean, nat a.misses]

/-- The types of 0x3101:01 to 0A. -/
def armTys : List Ty := [.u16, .u16, .i16, .pu32, .pu32, .pu32, .u16, .u16, .u16, .u32]

/-! ### Cells, selector, trunks, spine (07 to 09) -/

/-- 0x3002:05: the values of one tick. -/
def State.cellSnapshot (s : State) (c : Nat) : Val :=
  let x := (s.cellAt c).shot
  .oct (le 8 s.cell.snapTick ++ [x.applied.code, x.word, x.rule, b2n x.refresh, x.credit % 256] ++ le 2 (min 65535 x.dwell) ++
    le 4 x.age ++ leI 4 x.est ++ leI 4 x.bkey)

/-- 0x3201:01 to 0A (Table 7-7). -/
def State.selView (s : State) : List Val :=
  let c := s.cell
  [nat c.target, nat c.delivered, nat c.lockedI, nat c.freeN, nat c.forcedN, nat c.avail, nat s.failedN, nat s.reserveN,
   nat c.refreshes, nat c.shortfalls]

/-- The types of 0x3201:01 to 0A. -/
def selTys : List Ty := [.u16, .u16, .u16, .u16, .u16, .u16, .u16, .u16, .u32, .u32]

/-- 0x3001:01 to 09 of a cell (Table 8-15). -/
def State.cellView (s : State) (c : Nat) : List Val :=
  let x := s.cellAt c
  let none_ := x.tel.isEmpty
  [.oct (padTo 12 x.tel), nat (if none_ then 0 else x.vcap), .num (if none_ then 0 else x.temp),
   nat (if none_ then 0 else x.flags), nat (min 65535 (s.staleness c s.tick)), nat x.wordErr, nat x.cmdErr, nat x.gd,
   nat x.delay]

/-- 0x3310+q:01 to 08 (Table 8-17). -/
def State.trunkView (s : State) (q : Nat) : List Val :=
  let t := s.trk q
  [nat t.st, nat t.tTrk, nat t.tCell, nat t.dMin, nat t.epoch, nat t.rejected, nat t.downs, .oct (padTo 12 t.info)]

/-- SPINE_STATE (0x1301:01). -/
def State.spineState (s : State) : Nat := if s.spn.member then 2 else if s.spnActive && !s.spn.locked then 1 else 0

/-- 0x1301:01 to 07 (Table 9-10). -/
def State.spineView (s : State) : List Val :=
  let n := s.spn
  [nat s.spineState, nat (n.leader.getD 65535), nat (n.master.getD 65535), nat n.pathMax, flag n.budget,
   .oct (n.roster.flatMap (fun c => le 2 c.src ++ [c.flags, c.flags2, c.mode + 16 * c.sub, c.pos] ++ le 2 c.epoch ++ [0])),
   nat n.changes]

/-- 0x2041:01 to 03 (Table 9-11). -/
def State.balView (s : State) : List Val :=
  [.oct (puBytes s.form.wArm), .num s.form.ps, .oct (puBytes (s.form.legs.flatMap (fun l => [l.1, l.2])))]

/-! ### Sense, clocks, time (10 to 12) -/

/-- 0x4002:01 to 05 of a channel (Table 10-8); an internal channel has no raw sample, group delay or converter of its own. -/
def State.ainView (s : State) (c : Nat) : List Val :=
  if c ≤ 15 then
    let a := s.ain c
    [.num a.value, .num a.raw, nat (s.ainFlags c), nat (groupDelay (s.RESPONSE c) s.tickNs), nat (a.conv.getD 255)]
  else
    let i := entry s.sense.ints (c - 17) {}
    [.num i.value, .num 0, flag i.ok, .num 0, .num 255]

/-- The types of 0x4002:01 to 05. -/
def ainTys : List Ty := [.i32, .i16, .u16, .u32, .u8]

/-- INJ_RESULT (0x4002:07). -/
def AIn.result (a : AIn) : List Nat := leI 2 a.res ++ [a.resMode, 0] ++ le 2 a.resEdge ++ le 8 a.resTick

/-- 0x4003:01 to 07 of a converter (Table 10-9). -/
def State.convView (s : State) (k : Nat) : List Val :=
  let c := s.conv k
  [nat c.st, nat (c.input.getD 255), .num c.offset, .num c.gain, nat c.cals, nat c.fails, .oct (time96 c.last.1 c.last.2)]

/-- 0x4101:01 to 05 (Table 10-10). -/
def State.rotView (s : State) : List Val :=
  let v := s.sense
  [nat (if v.phase = 3 then 255 else v.spare), nat v.phase, nat v.steps, nat v.retired, nat v.source]

/-- The active copy in the layout of PLL_CFG (Table 11-7). -/
def PllCfg.word (c : PllCfg) : Nat := c.n % 256 + c.od0 % 64 * 256 + c.bw % 4 * 16384 + c.od1 % 64 * 65536

/-- 0x8001:07 to 0C of a PLL (Table 11-5). -/
def State.pllView (s : State) (i : Nat) : List Val :=
  let p := s.clk.pll i
  [nat p.st.code, flag p.backup, nat (p.bandIx.getD 255), .num p.ferr, nat p.coasts, nat p.act.word]

/-- 0x8011:02 to 05 (Table 11-6). -/
def State.clkView (s : State) : List Val :=
  [flag s.clk.commit, nat s.clk.ref.code, nat s.clk.losses, .num s.clk.trim]

/-- 0x7001:01 to 09 (Table 12-5). -/
def State.timeView (s : State) : List Val :=
  let t := s.time
  [nat t.servo.code, nat (match t.slave with | some p => p.code | none => 255), .num t.off, .num s.rate, .oct (padTo 8 t.gm),
   nat t.steps, .oct (time96 t.sec s.clockNs), nat s.timeTag, .oct (le 8 t.taiTick ++ time96 t.tai.1 t.tai.2)]

/-- 0x7010+p:04 to 07 (Table 12-6). -/
def State.ptpView (s : State) (p : Nat) : List Val :=
  let x := s.time.port (if p = 0 then .a else .b)
  [nat x.st.code, nat (satU 32 x.path.toNat), .num x.off, nat x.syncs]

/-! ### Field, safety (13, 14) -/

/-- 0x5002:01 to 07 of a pin (Table 13-6). -/
def State.pinView (s : State) (p : Nat) : List Val :=
  let x := s.pin p
  [nat (s.pinState p), nat (s.pinDiag p), nat (s.owner p), .oct (time96 x.edge.1 x.edge.2), nat x.edges, nat x.amps, .num x.volt]

/-- The types of 0x5002:01 to 07. -/
def pinTys : List Ty := [.u8, .u16, .u8, .time96, .u32, .u16, .i16]

/-- A mask over the pins. -/
def pinMask (f : Nat → Bool) : Nat := flagBits ((List.range 32).map f)

/-- 0x5010:03 to 06 (Table 13-7). -/
def State.pinsView (s : State) : List Val :=
  [nat s.outState, nat (pinMask (fun p => s.isRun .field && s.inputsOn && s.logical p)), nat (pinMask s.pinValid),
   nat (pinMask (fun p => s.pinDiag p != 0))]

/-- LP_VOLT in 10 mV, 0 in REVERSED (0x5011:01). -/
def State.lpVolt (s : State) : Nat := if s.field.lpState = 5 then 0 else satU 16 (s.field.lpMean / 10).toNat

/-- 0x6101:01 (Table 14-11). -/
def State.sfState (s : State) : Nat := flagBits [s.safe.sf1, s.safe.sf2, s.safe.door, s.safe.earth]

/-- SI_STATE of input i (0x6110+i:07). -/
def State.siState (s : State) (i : Nat) : Nat :=
  let x := s.si i
  flagBits [bit s.siDemandMask i, x.disc.isSome, x.fault, x.lock, x.a, x.b]

/-- The code of a connection's state (0x6130+c:0A). -/
def SlSt.code : SlSt → Nat
  | .off => 0 | .wait => 1 | .run => 2 | .lost => 3

/-! ### Power, duplex, recorder, security, fabric (15 to 18) -/

/-- 0x8100:01 to 05 (Table 15-10). -/
def State.powerView (s : State) : List Val :=
  let p := s.pwr
  [nat (p.feedA.level.code + 4 * p.feedB.level.code + 16 * p.conduct.code), nat p.feedA.volt, nat p.feedB.volt, nat p.vdd33,
   nat p.domains]

/-- 0x8201:01 to 0A (Table 15-12). -/
def State.dpxView (s : State) : List Val :=
  let d := s.dpx
  let l := d.last
  [nat s.dpxState, flag d.link, nat s.ckptSeqShown, nat s.ckptAge, nat d.delay, nat d.run, nat d.takeovers,
   .oct (le 8 l.boundary ++ le 8 l.tb ++ le 4 l.g ++ le 2 l.epoch ++ [l.outcome, 0]), nat d.hbB, nat d.errors]

/-- 0x7100:01 to 07 (Table 16-4). -/
def State.recView (s : State) : List Val :=
  let r := s.recd
  [nat r.newest, nat r.oldest, nat s.recState, nat r.count, nat r.dropped, nat r.suppressedN, nat r.floor]

/-- 0x9000:01 to 06 (Table 17-12). -/
def State.secView (s : State) : List Val :=
  let x := s.sec
  [nat x.bootImage, nat x.secSvn, nat x.appSlot, nat x.fusedSvn, .oct (padTo 48 x.secMeas ++ padTo 48 x.appMeas),
   flag x.debugLock]

/-- 0x9001:01 to 05 (Table 17-12). -/
def State.ownerView (s : State) : List Val :=
  let x := s.sec
  [.oct (padTo 256 (x.owner.getD [])), .oct (padTo 48 ((s.ownerHash).getD [])), nat x.credMinGen, nat x.sessionIdle,
   nat x.appMinSvn]

/-- 0x9002:01 to 04 (Table 17-12). -/
def State.colView (s : State) : List Val :=
  let x := s.sec
  [.oct (padTo 256 x.colA), .oct (padTo 1024 x.colSigA), .oct (padTo 844 (x.colSigA.drop 1024)), nat s.lmsNext]

/-- 0x9010:02 to 06 for a caller (Table 17-12). -/
def State.attestView (s : State) (c : Caller) : List Val :=
  let (st, a) := match c with
    | .sess id => (match s.session id with | some x => (x.attState, x.attAnswer) | none => (0, []))
    | _ => (0, [])
  [nat st, nat s.sec.tokens, .oct (padTo 1024 a), .oct (padTo 1024 (a.drop 1024)), .oct (padTo 76 (a.drop 2048))]

/-- SESSIONS (0x9020:01). -/
def State.sessionsView (s : State) : Val :=
  .oct (s.ps.sessions.flatMap (fun x => le 4 x.id ++ [x.level, 0] ++ padTo 16 x.holder ++ le 8 x.expiry ++ [0, 0, 0, 0]))

/-- FENCE_MAP (0xA000:01). -/
def State.fenceMap (s : State) : List Nat := (List.range 9).flatMap (fun r => le 2 (entry s.hdrs r {}).fenced)

/-- 0xA000:01 to 05 (Table 18-6). -/
def State.fabView (s : State) : List Val :=
  let f := s.fab
  [.oct s.fenceMap, nat f.parRetries, nat f.eccCorrected, nat f.discarded, nat f.escalation]

/-! ### The view of an object -/

/-- Entry sub − first of a list of values. -/
def pickVal (l : List Val) (first sub : Nat) : Val := l.getD (sub - first) (.num 0)

/-- Objects 0x1xxx that are not plain settings. -/
def State.view1 (s : State) (idx sub : Nat) : Option Val :=
  if idx = 0x1100 then (Fn.ofSub sub).map (fun n => nat (s.run n).code)
  else if idx = 0x1102 then (Fn.ofSub sub).map (fun n => nat (s.fns.get n).check)
  else if idx = 0x1200 then
    some (pickVal [nat s.mode.mode.code, nat s.mode.sub, .num 0, nat s.mode.check,
      .oct (time96 s.mode.sinceSec s.mode.sinceNs)] 1 sub)
  else if idx = 0x1201 then some (if sub = 1 then nat s.mode.cause else nat s.mode.straps)
  else if idx = 0x1202 then some (nat s.mode.config)
  else if idx = 0x1301 then some (pickVal s.spineView 1 sub)
  else if (idx = 0x1400 ∨ idx = 0x1401) ∧ sub = 7 then some (nat (entry s.fab.policers (idx - 0x1400) {}).drops)
  else none

/-- Objects 0x2xxx that are not plain settings. -/
def State.view2 (s : State) (idx sub : Nat) : Option Val :=
  if idx = 0x2004 then some (pickVal s.gainView 1 sub)
  else if idx = 0x2008 then some (if sub = 0x10 then .oct s.form.shot else pickVal s.formView 1 sub)
  else if idx = 0x2011 then some (if sub = 0x0B then .oct s.form.limShot else pickVal s.limView 1 sub)
  else if idx = 0x2012 then some (nat s.form.limCheck)
  else if idx = 0x2030 ∧ 2 ≤ sub ∧ sub ≤ 4 then some (pickVal [nat s.law.exSt, nat s.law.exN, nat s.form.exTotal] 2 sub)
  else if 0x2031 ≤ idx ∧ idx ≤ 0x2034 ∧ sub = 5 then some (nat (entry s.form.cycles (idx - 0x2031) 0))
  else if 0x2031 ≤ idx ∧ idx ≤ 0x2034 ∧ sub = 6 then some (.num (entry s.law.exOut (idx - 0x2031) 0))
  else if idx = 0x2041 then
    some (if sub = 4 then .oct s.form.balShot else pickVal s.balView 1 sub)
  else none

/-- Objects 0x3xxx that are not plain settings. -/
def State.view3 (s : State) (idx sub chan : Nat) : Option Val :=
  if idx = 0x3001 then some (pickVal (s.cellView chan) 1 sub)
  else if idx = 0x3002 ∧ sub = 3 then some (nat (s.cellAt chan).fail)
  else if idx = 0x3002 ∧ sub = 5 then some (s.cellSnapshot chan)
  else if idx = 0x3101 then some (if sub = 0x0B then .oct s.arm.shot else pickVal s.armView 1 sub)
  else if idx = 0x3201 then some (if sub = 0x0B then snapshot s.cell.snapTick selTys s.selView else pickVal s.selView 1 sub)
  else if idx = 0x3300 ∧ sub = 8 then some (nat s.dpx.epoch)
  else if idx = 0x3301 ∧ sub = 0x11 then some (.oct s.gdBlock)
  else if 0x3310 ≤ idx ∧ idx ≤ 0x3317 then some (pickVal (s.trunkView (idx - 0x3310)) 1 sub)
  else none

/-- Objects 0x4xxx that are not plain settings. -/
def State.view4 (s : State) (idx sub chan : Nat) : Option Val :=
  if idx = 0x4002 then
    if sub = 0x0A then some (.oct (if chan ≤ 15 then (s.ain chan).shot else (entry s.sense.ints (chan - 17) {}).shot))
    else if sub ≤ 5 then some (pickVal (s.ainView chan) 1 sub)
    else some (pickVal [.oct (s.ain chan).result, nat (s.ain chan).overruns, nat (s.ain chan).testFails] 7 sub)
  else if idx = 0x4003 then some (pickVal (s.convView chan) 1 sub)
  else if idx = 0x4101 then some (pickVal s.rotView 1 sub)
  else none

/-- Objects 0x5xxx that are not plain settings. -/
def State.view5 (s : State) (idx sub chan : Nat) : Option Val :=
  if idx = 0x5002 then
    some (if sub = 9 then .oct (s.pin chan).shot else pickVal (s.pinView chan) 1 sub)
  else if idx = 0x5010 then some (pickVal s.pinsView 3 sub)
  else if idx = 0x5011 ∧ sub = 1 then some (nat s.lpVolt)
  else if idx = 0x5011 ∧ sub = 2 then some (nat s.field.lpState)
  else if idx = 0x5012 then some (if sub = 1 then flag s.field.up else nat s.field.errors)
  else none

/-- Objects 0x6xxx that are not plain settings. -/
def State.view6 (s : State) (idx sub chan : Nat) : Option Val :=
  if idx = 0x6002 then some (pickVal [nat (s.so chan).state, nat (s.so chan).diag, nat (s.so chan).tests] 1 sub)
  else if idx = 0x6101 then
    match sub with
    | 1 => some (nat s.sfState)
    | 2 => some (nat s.safe.cause)
    | 5 => some (nat s.safetyCrc)
    | 7 => some (flag s.safe.confirmed)
    | 8 => some (.oct s.safetyImage)
    | 9 => some (nat s.safe.foreign)
    | _ => none
  else if 0x6110 ≤ idx ∧ idx ≤ 0x6117 ∧ sub = 7 then some (nat (s.siState (idx - 0x6110)))
  else if 0x6130 ≤ idx ∧ idx ≤ 0x6137 ∧ 10 ≤ sub then
    let c := s.conn (idx - 0x6130)
    some (pickVal [nat c.st.code, nat c.data, nat c.errors] 10 sub)
  else if idx = 0x6201 then
    some (pickVal [flag s.safe.prot.run, .num 0, nat s.safe.prot.crc, nat s.safe.prot.latched, nat s.safe.prot.check] 1 sub)
  else none

/-- Objects 0x7xxx that are not plain settings; reading WINDOW is not here, for it moves the cursor. -/
def State.view7 (s : State) (c : Caller) (idx sub : Nat) : Option Val :=
  if idx = 0x7001 then some (pickVal s.timeView 1 sub)
  else if (idx = 0x7010 ∨ idx = 0x7011) ∧ 4 ≤ sub then some (pickVal (s.ptpView (idx - 0x7010)) 4 sub)
  else if idx = 0x7100 then some (pickVal s.recView 1 sub)
  else if idx = 0x7101 ∧ sub = 1 then some (nat (s.cursorOf c).1)
  else if idx = 0x7101 ∧ sub = 2 then some (flag (s.cursorOf c).2)
  else none

/-- Objects 0x8xxx that are not plain settings. -/
def State.view8 (s : State) (idx sub chan : Nat) : Option Val :=
  if idx = 0x8001 ∧ 7 ≤ sub then some (pickVal (s.pllView chan) 7 sub)
  else if idx = 0x8010 ∧ sub = 7 then some (nat (s.clk.pll 4).st.code)
  else if idx = 0x8011 then some (pickVal s.clkView 2 sub)
  else if idx = 0x8100 ∧ sub ≤ 5 then some (pickVal s.powerView 1 sub)
  else if idx = 0x8101 ∧ sub = 3 then some (.oct (s.pwr.regs.flatMap (fun r => [r.addr, 0] ++ le 2 r.status)))
  else if idx = 0x8201 then some (pickVal s.dpxView 1 sub)
  else none

/-- Objects 0x9xxx and 0xAxxx that are not plain settings. -/
def State.view9 (s : State) (c : Caller) (idx sub : Nat) : Option Val :=
  if idx = 0x9000 then some (pickVal s.secView 1 sub)
  else if idx = 0x9001 then some (pickVal s.ownerView 1 sub)
  else if idx = 0x9002 then some (pickVal s.colView 1 sub)
  else if idx = 0x9010 then some (pickVal (s.attestView c) 2 sub)
  else if idx = 0x9020 then some s.sessionsView
  else if idx = 0xA000 then some (pickVal s.fabView 1 sub)
  else none

/-- What an object reads as for a caller on a channel; a plain setting reads as its live value. -/
def State.objView (s : State) (c : Caller) (idx sub chan : Nat) : Val :=
  let v := match idx / 0x1000 with
    | 1 => s.view1 idx sub
    | 2 => s.view2 idx sub
    | 3 => s.view3 idx sub chan
    | 4 => s.view4 idx sub chan
    | 5 => s.view5 idx sub chan
    | 6 => s.view6 idx sub chan
    | 7 => s.view7 c idx sub
    | 8 => s.view8 idx sub chan
    | _ => s.view9 c idx sub
  v.getD (s.val idx sub chan)

/-! ### Fenced objects (R68) -/

/-- The block that holds an object (Table 18-4; notes/assumptions/20.md). -/
def blockOf (idx sub chan : Nat) : Nat × Nat :=
  if 0x2030 ≤ idx && idx ≤ 0x2034 then (1, 2)
  else match idx / 0x1000 with
    | 1 => if idx = 0x1400 then (4, 1) else if idx = 0x1401 then (4, 2) else if idx / 0x100 = 0x13 then (4, 0) else (0, 0)
    | 2 => (1, 0)
    | 3 =>
      if idx / 0x100 = 0x31 then (1, 3)
      else if 0x3310 ≤ idx && idx ≤ 0x3317 then (2, 3 + (idx - 0x3310))
      else if idx = 0x3300 && sub != 9 then (2, 0)
      else if idx / 0x100 = 0x33 then (2, 2)
      else if idx = 0x3001 then (2, 3 + chan / 32)
      else if idx = 0x3002 || idx = 0x3201 then (2, 1) else (2, 0)
    | 4 => if idx / 0x100 = 0x41 then (3, 2) else (3, 0)
    | 5 => (5, 1)
    | 6 => (5, 0)
    | 7 =>
      if idx = 0x7010 then (4, 1) else if idx = 0x7011 then (4, 2) else if idx / 0x100 = 0x70 then (4, 3)
      else if idx = 0x7101 then (6, 0) else (6, 1)
    | 8 =>
      if idx / 0x100 = 0x80 then (0, 1) else if idx = 0x8101 then (0, 3) else if idx = 0x8100 then (0, 1) else (4, 4)
    | 9 => (7, 0)
    | _ => (0, 0)

/-- The power domain of a block (Tables 1-6, 18-5). -/
def blockDomain (region b : Nat) : Domain :=
  match region with
  | 0 => .hk
  | 1 => .ctl
  | 2 => if b ≤ 2 then .ctl else .trk
  | 3 => .snd
  | 4 => if b = 0 then .spn else if b = 4 then .keep else .net
  | 5 => .safe
  | 8 => .app
  | _ => .hk

/-- A block answers no access: it is fenced, or its domain is unpowered (R68, R421). -/
def State.blockDead (s : State) (region b : Nat) : Bool := s.fenced region b || !(s.powered (blockDomain region b))

/-- The block that holds the object answers no access. -/
def State.objFenced (s : State) (idx sub chan : Nat) : Bool :=
  let (r, b) := blockOf idx sub chan
  s.blockDead r b

/-! ### Reading (R46, R47) -/

/-- The status of a read by a caller on a channel. -/
def State.readStatus (s : State) (c : Caller) (idx sub chan : Nat) : Nat :=
  if isSelect idx sub then stOk
  else match findObj idx sub with
    | none => if hasIndex idx then stNoSub else stNoObject
    | some r =>
      if s.objFenced idx sub chan then stFenced
      else if r.acc == .wo then stAccess
      else if s.levelOf c < r.rl then stPrivilege
      else s.channelStatus idx sub chan

/-- A read of WINDOW takes a snapshot at the caller's cursor (R462). -/
def State.readWindow (s : State) (c : Caller) : List Nat × State :=
  let (cur, adv) := s.cursorOf c
  let (w, cur) := s.recd.window cur adv
  (w.bytes, s.putCursor c cur adv)

/-- A read: status, value and the state after it. -/
def State.readObj (s : State) (c : Caller) (sel : Selects) (idx sub : Nat) : Nat × List Nat × State :=
  let chan := sel.chan idx
  let st := s.readStatus c idx sub chan
  if st != stOk then (st, [], s)
  else if isSelect idx sub then (stOk, [chan], s)
  else if idx == 0x7101 && sub == 3 then
    let (b, s) := s.readWindow c
    (stOk, b, s)
  else match findObj idx sub with
    | some r => (stOk, encodeVal r.ty (s.objView c idx sub chan), s)
    | none => (stNoSub, [], s)

end Sys2Proof.Machine
end

