-- ==== Sys2Proof/Machine/Writes.lean ====
section
/-! DEFINITION. Writing objects: the checks in their order, the objects whose write is a command, the effect of a plain
write, and an entry list checked against the state its earlier entries leave (R41, R45 to R50, R54, R63, R400, R412). -/
namespace Sys2Proof.Machine

/-! ### Admitted values -/

/-- The LEN of a value suits the type of the object; for OCTETS the Range column gives the lengths (R45). -/
def ObjRow.sizeOk (r : ObjRow) (n : Nat) : Bool :=
  if r.ty == .octets then r.rng.isEmpty || r.rng.any (fun (lo, hi, _) => lo ≤ (n : Int) && (n : Int) ≤ hi)
  else n == r.ty.size

/-- An override table holds whole entries of six bytes whose last byte, reserved, is 0 (Table 16-6). -/
def overrideOk : Nat → List Nat → Bool
  | _, [] => true
  | n + 1, _ :: _ :: _ :: _ :: _ :: z :: rest => z == 0 && overrideOk n rest
  | _, _ => false

/-- The content of an OCTETS value that its description admits. -/
def contentOk (idx sub : Nat) (b : List Nat) : Bool :=
  if idx == 0x7104 && sub == 1 then overrideOk 16 b
  else if idx == 0x8101 && sub == 1 then b.all (fun x => x < 128)
  else if idx == 0x9001 && sub == 1 then ownerOk b
  else true

/-- The value lies in the object's range (R45, Table 2-8). -/
def ObjRow.valueOk (r : ObjRow) (idx sub : Nat) (v : Val) : Bool :=
  match v with
  | .num n => r.admits n
  | .oct b =>
    if r.ty == .time96 then numAt b 8 4 ≤ 999999999
    else (r.rng.isEmpty || r.admits b.length) && contentOk idx sub b

/-! ### The safety parameter set -/

/-- Field objects that belong to the safety parameter set where the pin is owned by safety (R400). -/
def State.safetyField (s : State) (idx sub chan : Nat) : Bool :=
  idx == 0x5001 && 1 ≤ sub && sub ≤ 5 && s.safetyPin chan

/-- Objects of the safety parameter set (R400). -/
def State.inSafetySet (s : State) (idx sub chan : Nat) : Bool :=
  idx == 0x6001 || idx == 0x6100 || (0x6110 ≤ idx && idx ≤ 0x6117 && sub ≤ 6) ||
    (0x6130 ≤ idx && idx ≤ 0x6137 && sub ≤ 9) || (idx == 0x5011 && sub == 4) || s.safetyField idx sub chan

/-! ### Objects whose write is a command -/

/-- The status that an object's own rules give a write of it, after the general checks; none for an object without rules of
its own. -/
def State.ownStatus (s : State) (level : Nat) (e : WEntry) : Option Nat :=
  let n := e.val.int.toNat
  match e.index, e.sub with
  | 0x1101, sub => (Fn.ofSub sub).map (fun f => s.runStatus level f n)
  | 0x1200, 3 => some (s.modeRequest level n).1
  | 0x1201, 2 => some (s.resetStatus level n)
  | 0x1202, 2 => some (s.configStatus level)
  | 0x1203, 1 => some (s.tickLenStatus level n)
  | 0x1300, 1 => some (if s.mode.mode == .commission then stOk else stMode)
  | 0x2002, sub => some (s.setpointStatus level sub e.val.int)
  | 0x3002, 3 => some (s.failStatus level e.chan n)
  | 0x4002, 6 => some (s.injStatus level e.chan)
  | 0x5001, 9 => some (s.forceStatus level e.chan n)
  | 0x5002, 8 => some (s.clearPinStatus level)
  | 0x5010, 1 => some (s.outStatus level n)
  | 0x5010, 2 => some (s.outStatus level n)
  | 0x6101, 3 => some (s.safeResetStatus level)
  | 0x6101, 6 => some (s.confirmStatus level n)
  | 0x6201, 2 => some (s.protStartStatus level)
  | 0x7000, 0x11 => some (s.timeSetStatus level (numAt e.val.bytes 8 4))
  | 0x7102, 1 => some (s.clearStatus level n)
  | 0x8011, 1 => some (s.commitStatus level)
  | 0x8200, _ => some (if s.mode.mode == .commission then stOk else stMode)
  | 0x8202, 1 => some (s.switchStatus level)
  | 0x9001, 1 => some (s.ownerStatus level e.val.bytes)
  | 0x9001, 3 => some (s.credGenStatus level n)
  | 0x9001, 5 => some (s.appMinStatus level n)
  | 0x9001, 6 => some (s.fuseSvnStatus level n)
  | 0x9001, 7 => some (s.debugLockStatus level n)
  | 0x9010, 1 => some (s.attestStatus level e.val.bytes)
  | _, _ => none

/-- What an accepted plain write does: the live value changes; the protection set is recorded, stopped and stored (R63,
R412), the safety set loses its confirmation (R400). -/
def State.putObj (s : State) (c : Caller) (e : WEntry) : State :=
  let member := s.inSafetySet e.index e.sub e.chan
  let s := s.setObj e.index e.sub e.chan e.val
  if e.index == 0x6200 then (s.privNote 0x6200 e.sub c.number).protWritten
  else if member then s.safetyWritten
  else s

/-- The effect of an accepted write. -/
def State.writeEffect (s : State) (c : Caller) (level : Nat) (e : WEntry) : State :=
  let n := e.val.int.toNat
  match e.index, e.sub with
  | 0x1101, sub => match Fn.ofSub sub with | some f => s.runApply f n | none => s
  | 0x1200, 3 => (s.modeRequest level n).2
  | 0x1201, 2 => s.resetCommand n
  | 0x1202, 2 => s.commitConfig
  | 0x1203, 1 => s.setTickLen n
  | 0x2002, sub => s.holdSetpoint sub e.val.int
  | 0x3002, 3 => s.setFail e.chan n
  | 0x3002, 4 => s.failNow e.chan
  | 0x3300, 9 => s.gdVerify
  | 0x4002, 6 => s.injSoftware e.chan
  | 0x5001, 9 => s.forcePin e.chan n
  | 0x5002, 8 => s.pinClear e.chan
  | 0x5010, 1 => s.outSet n
  | 0x5010, 2 => s.outClear n
  | 0x6101, 3 => s.safeReset
  | 0x6101, 6 => s.safetyConfirm level n
  | 0x6201, 2 => s.protStart
  | 0x7000, 0x11 => s.setClock ((numAt e.val.bytes 0 8 : Int) * 1000000000 + (numAt e.val.bytes 8 4 : Int))
  | 0x7101, 1 => s.putCursor c n (s.cursorOf c).2
  | 0x7101, 2 => s.putCursor c (s.cursorOf c).1 (n == 1)
  | 0x7102, 1 => s.clearNow c.number
  | 0x8011, 1 => s.clkCommit false
  | 0x8202, 1 => s.mapDpx (fun d => { d with switchover := true })
  | 0x9001, 1 => s.ownerChange c.number e.val.bytes
  | 0x9001, 3 => s.credGen c.number n
  | 0x9001, 4 => (s.privNote 0x9001 4 c.number).mapSec (fun x => { x with sessionIdle := n })
  | 0x9001, 5 => (s.privNote 0x9001 5 c.number).appMinSvn n
  | 0x9001, 6 => s.fuseSvn n
  | 0x9001, 7 => s.debugLock
  | 0x9010, 1 => s.attestBegin c.number e.val.bytes s.nvOk s.nvOk
  | 0x9020, 2 => s.closeNamed n
  | _, _ => s.putObj c e

/-- What a refused write leaves behind: a mode request its MODE_CHECK and event (R76), a confirmation its event (R402), an
attestation its cause (R482). at_ is the state that the entry was judged against. -/
def State.refused (s at_ : State) (c : Caller) (level st : Nat) (e : WEntry) : State :=
  let n := e.val.int.toNat
  if e.index == 0x1200 && e.sub == 3 && st == stMode && 1 ≤ n && n ≤ 3 then
    let code := (at_.modeRequest level n).2.mode.check
    (s.setModeCheck code).note 0x0111 [n, code]
  else if e.index == 0x6101 && e.sub == 6 && st == stRange then s.warn 0x6112 [at_.confirmFails n]
  else if e.index == 0x9010 && e.sub == 1 && st == stBusy then
    s.mapSession c.number (fun x => { x with attState := at_.attestBusy })
  else s

/-! ### The checks of one write -/

/-- Writes that the modes of Table 3-2 confined to reads still judge by themselves: a mode request, for its check code, and
in SAFE the reset command. -/
def State.pastReads (s : State) (idx sub : Nat) : Bool :=
  (idx == 0x1200 && sub == 3) || (idx == 0x1201 && sub == 2 && s.mode.mode == .safe)

/-- Objects whose own status decides the level: run commands, mode requests, resets. -/
def ownLevel (idx : Nat) : Bool := idx == 0x1101 || idx == 0x1200 || idx == 0x1201

/-- The run state admits a plain write (Table 2-4, R400). -/
def State.runAdmits (s : State) (r : ObjRow) (e : WEntry) : Bool :=
  (r.acc != .rwStop || (match Fn.ofSub r.fn with | some f => s.isDown f | none => true)) &&
    (!(s.safetyField e.index e.sub e.chan) || s.isDown .safety)

/-- The status of a write that passed the checks of existence, fence, class, type and level. -/
def State.valueStatus (s : State) (level : Nat) (r : ObjRow) (e : WEntry) : Nat :=
  if !(r.valueOk e.index e.sub e.val) then stRange
  else if !(s.runAdmits r e) then stRunstate
  else
    let ch := s.channelStatus e.index e.sub e.chan
    if ch != stOk then ch else (s.ownStatus level e).getD stOk

/-- The status of a write of the bytes b, by a caller of a level: session 0 first, then a mode confined to reads, then
existence, fence, class, type, level, and the value's own. -/
def State.writeStatus (s : State) (c : Caller) (level idx sub chan : Nat) (b : List Nat) : Nat :=
  let reads := match c with | .sess _ => s.modeStatus != stOk && !(s.pastReads idx sub) | _ => false
  let open_ := match c with | .client _ _ => true | _ => false
  if open_ then stPrivilege
  else if reads then stMode
  else match findObj idx sub with
    | none => if hasIndex idx then stNoSub else stNoObject
    | some r =>
      if s.objFenced idx sub chan then stFenced
      else if r.acc == .ro then stAccess
      else if !(r.sizeOk b.length) then stType
      else if !(ownLevel idx) && level < (if s.inSafetySet idx sub chan then 3 else r.wl) then stPrivilege
      else s.valueStatus level r ⟨idx, sub, chan, decodeVal r.ty b, 0⟩

/-- The entry that an accepted write makes. -/
def entryOf (idx sub chan : Nat) (b : List Nat) (pos : Nat) : WEntry :=
  ⟨idx, sub, chan, match findObj idx sub with | some r => decodeVal r.ty b | none => .oct b, pos⟩

/-- One write, by itself: its status, and the state after it. -/
def State.writeObj (s : State) (c : Caller) (level idx sub chan : Nat) (b : List Nat) : Nat × State :=
  let st := s.writeStatus c level idx sub chan b
  let e := entryOf idx sub chan b 0
  (st, if st = stOk then s.writeEffect c level e else s.refused s c level st e)

/-- A write of a select object: one byte, in the group's range (R54, Table 2-5). -/
def selectStatus (idx : Nat) (b : List Nat) : Nat :=
  match b with
  | [v] => if v ≤ selMax ((groupOf idx).getD 0) then stOk else stRange
  | _ => stType

/-- A select value is written. -/
def State.putSelect (s : State) (c : Caller) (idx v : Nat) : State :=
  s.putSelects c ((s.selectsOf c).put ((groupOf idx).getD 0) v)

/-! ### An entry list (R50, R54) -/

/-- The status of one entry of a request; a block cannot change the channel (R55). -/
def State.entryStatus (s : State) (c : Caller) (level : Nat) (block : Option Selects) (idx sub : Nat) (b : List Nat) :
    Nat :=
  if isSelect idx sub then (if block.isSome then stAccess else selectStatus idx b)
  else s.writeStatus c level idx sub ((block.getD (s.selectsOf c)).chan idx) b

/-- The effect of an entry. -/
def State.entryEffect (s : State) (c : Caller) (level : Nat) (e : WEntry) : State :=
  if isSelect e.index e.sub then s.putSelect c e.index (match e.val with | .num n => n.toNat | .oct b => b.headD 0)
  else s.writeEffect c level e

/-- The entries in list order, each judged against the state that the entries before it leave: status, position of the first
failing entry or 0xFF, the state after the last good one, the entries (the failing one last where one fails). -/
def State.writeList (c : Caller) (level : Nat) (block : Option Selects) :
    List (Nat × Nat × List Nat) → Nat → List WEntry → State → Nat × Nat × State × List WEntry
  | [], _, acc, s => (stOk, 255, s, acc.reverse)
  | (idx, sub, b) :: rest, pos, acc, s =>
    let st := s.entryStatus c level block idx sub b
    let e := entryOf idx sub ((block.getD (s.selectsOf c)).chan idx) b pos
    if st = stOk then State.writeList c level block rest (pos + 1) (e :: acc) (s.entryEffect c level e)
    else (st, pos, s, [e])

/-- An object whose write waits for the boundary of R49; a station setpoint also waits for its publication (R101). -/
def stagedObj (idx sub : Nat) : Bool :=
  idx == 0x2002 || (match findObj idx sub with | some r => r.staged | none => false)

/-- Run commands and mode requests, which R50 judges again at the boundary. -/
def WEntry.isCmd (e : WEntry) : Bool := e.index == 0x1101 || (e.index == 0x1200 && e.sub == 3)

/-- A whole write, as R50 makes it atomic: status, failing position, the state after it, and the entries that wait for the
boundary, none where it is complete. -/
def State.writeAll (s : State) (c : Caller) (level : Nat) (block : Option Selects) (es : List (Nat × Nat × List Nat)) :
    Nat × Nat × State × List WEntry :=
  let (st, pos, t, ws) := State.writeList c level block es 0 [] s
  if st != stOk then (st, pos, ws.foldl (fun s e => s.refused t c level st e) s, [])
  else if ws.any (fun e => stagedObj e.index e.sub) then
    (stOk, 255, ws.foldl (fun s e => if e.index == 0x2002 then s.entryEffect c level e else s) s, ws)
  else (stOk, 255, t, [])

/-- The waiting entries take effect at the boundary: the values first, then the commands, each judged again; the first
refusal is the answer (R50). -/
def State.applyStaged (s : State) (c : Caller) (level : Nat) (ws : List WEntry) : Nat × Nat × State :=
  let s := (ws.filter (fun e => !e.isCmd && e.index != 0x2002)).foldl (fun s e => s.entryEffect c level e) s
  (ws.filter WEntry.isCmd).foldl (fun (st, pos, s) e =>
    let x := (s.ownStatus level e).getD stOk
    if x = stOk then (st, pos, s.entryEffect c level e)
    else (if st = stOk then x else st, if st = stOk then e.pos else pos, s.refused s c level x e)) (stOk, 255, s)

/-! ### Rows that are one write -/

/-- SAFETY_SET_WRITE: a write of an object of the safety parameter set by a session of a level (R400, R401). -/
def execSafetySetWrite (session level idx sub chan : Nat) (value : List Nat) (s : State) : Out :=
  .next (if s.inSafetySet idx sub chan then (s.writeObj (.sess session) level idx sub chan value).2 else s)

/-- PROT_SET_WRITE: a write of an object of the protection set by a session of a level (R63, R412). -/
def execProtSetWrite (session level sub : Nat) (value : List Nat) (s : State) : Out :=
  .next (s.writeObj (.sess session) level 0x6200 sub 0 value).2

end Sys2Proof.Machine
end

