-- ==== Sys2Proof/Machine/Service.lean ====
section
/-! DEFINITION. The parameter service (02): arrival of a datagram, the queue, the requests of Tables 2-2 and 17-7, responses,
and the waits of R44. -/
namespace Sys2Proof.Machine

/-! ### Responses -/

/-- A response: header, payload, and the tag of a session (R38, R43, Table 2-1). -/
def responseBytes (device : Nat) (r : Request) (key : Option (List Nat)) (payload : List Nat) : List Nat :=
  let code := if r.code < 128 then r.code + 128 else r.code
  let m := [1, code] ++ le 2 r.trans ++ le 2 device ++ le 2 payload.length ++ le 4 r.session ++ le 4 r.counter ++ payload
  match key with
  | some k => m ++ tagOf k m
  | none => m

/-- Status, failing position, number of response entries, and the rest of a response's payload (R43). -/
def answerBytes (st pos count : Nat) (rest : List Nat) : List Nat := [st, pos] ++ le 2 count ++ rest

/-- A response leaves for the source of its request, from the port and the address on which that arrived (R37). -/
def State.sendResponse (s : State) (r : Request) (data : List Nat) : State :=
  s.emitNet r.port (.service r.port r.dst r.src r.sport data)

/-- A request that is not executed is answered with a status. -/
def State.reject (s : State) (r : Request) (st : Nat) : State :=
  s.sendResponse r (responseBytes s.device r r.key (answerBytes st 255 0 []))

/-! ### The queue (R40, R44) -/

/-- What R40 says of a request's COUNTER. -/
inductive Fresh where
  | fresh | resend | stale
deriving DecidableEq, Repr

/-- The judgement of R40 against the last executed request of the session. -/
def Session.judge (x : Session) (r : Request) : Fresh :=
  if x.counter < r.counter then .fresh
  else if r.counter = x.counter && r.trans = x.lastTrans && !x.lastResp.isEmpty then .resend
  else .stale

/-- The codes of Tables 2-2 and 17-7. -/
def knownCode (c : Nat) : Bool := (1 ≤ c && c ≤ 5) || (0x10 ≤ c && c ≤ 0x13)

/-- The queue without its head. -/
def State.popHead (s : State) : State := s.mapPs (fun p => { p with queue := p.queue.drop 1 })

/-- The counter, time and response of an executed request are kept (R40, R486). -/
def State.executed (s : State) (r : Request) (data : List Nat) : State :=
  if r.session = 0 then s
  else s.mapSession r.session (fun x => { x with counter := r.counter, lastTrans := r.trans, lastResp := data, last := s.now })

/-- Heads of the queue that are not executed are disposed of: a session that has ended, a COUNTER that R40 does not accept, a
code of no table (log entry 18). At most n of them. -/
def State.drain : Nat → State → State
  | 0, s => s
  | n + 1, s =>
    match s.ps.exec, s.ps.queue with
    | none, r :: _ =>
      let t := s.popHead
      let gone := r.session != 0 && (s.session r.session).isNone
      let f := match s.session r.session with | some x => if r.session = 0 then Fresh.fresh else x.judge r | none => .fresh
      if gone then State.drain n t
      else match f with
        | .resend => State.drain n (t.sendResponse r (((s.session r.session).map (·.lastResp)).getD []))
        | .stale => State.drain n (t.note 0x5131 [])
        | .fresh =>
          if knownCode r.code then s
          else
            let d := responseBytes s.device r r.key (answerBytes s.freeStatus 255 0 [])
            State.drain n ((t.drawn.sendResponse r d).executed r d)
    | _, _ => s

/-- The request at the head, ready to be executed, if it has the code. -/
def State.head (s : State) (code : Nat) : Option Request :=
  match s.ps.exec, s.ps.queue with
  | none, r :: _ => if r.code = code then some r else none
  | _, _ => none

/-- A request is answered and done; the next one can begin. -/
def State.finish (s : State) (r : Request) (key : Option (List Nat)) (payload : List Nat) : State :=
  let d := responseBytes s.device r key payload
  let s := s.mapPs (fun p => { p with exec := none })
  State.drain 17 ((s.sendResponse r d).executed r d)

/-- Who sent a request. -/
def Request.caller (r : Request) : Caller := if r.session = 0 then .client r.src r.sport else .sess r.session

/-! ### Arrival (R37 to R40, R44, R52) -/

/-- The state of session 0 for a client: begun at its first request, the oldest of sixteen giving way (R52). -/
def State.touchClient (s : State) (src sport : Nat) : State :=
  if (s.client src sport).isSome then s.mapClient src sport (fun c => { c with last := s.now })
  else
    let l := s.ps.clients
    let old := (l.map (·.last)).foldl Nat.min s.now
    let keep := if l.length < 16 then l else match l.find? (fun c => c.last == old) with
      | some v => l.filter (fun c => !(c.src == v.src && c.sport == v.sport))
      | none => l
    s.mapPs (fun p => { p with
      clients := keep ++ [{ src := src, sport := sport, last := s.now, cursor := s.recd.oldest }] })

/-- The lengths and the device of a datagram are right (R39). A LENGTH above the 1408 bytes of R38 is dropped as a wrong length
is (DESIGN CHOICE, log entry 115). -/
def State.datagramOk (s : State) (b : List Nat) : Bool :=
  let n := numAt b 6 2
  let ses := numAt b 8 4
  16 ≤ b.length && numAt b 4 2 == s.device && n ≤ 1408 && b.length == 16 + n + (if ses = 0 then 0 else 16)

/-- The tag of a datagram verifies under its session's key (R39, R485). -/
def State.tagOk (s : State) (b : List Nat) : Bool :=
  let ses := numAt b 8 4
  ses == 0 || (match s.session ses with
    | some x => tagOf x.key (b.take (b.length - 16)) == b.drop (b.length - 16)
    | none => false)

/-- The request a datagram spells. -/
def State.requestOf (s : State) (port : Side) (src sport dst : Nat) (b : List Nat) : Request :=
  let ses := numAt b 8 4
  let r : Request := { src := src, sport := sport, dst := dst, port := port, code := numAt b 1 1, trans := numAt b 2 2,
                       session := ses, counter := numAt b 12 4, payload := sliceOf b 16 (numAt b 6 2), sel := {},
                       key := if ses = 0 then none else (s.session ses).map (·.key) }
  { r with sel := s.selectsOf r.caller }

/-- A request that passed R39 and is of the right version: R40, then the waiting list (R44). A request at the head that no row has
begun yet waits with the others, so it counts among the sixteen (DESIGN CHOICE, log entry 116). -/
def State.takeRequest (s : State) (r : Request) : State :=
  let f := match s.session r.session with | some x => if r.session = 0 then Fresh.fresh else x.judge r | none => .fresh
  match f with
  | .resend => s.sendResponse r (((s.session r.session).map (·.lastResp)).getD [])
  | .stale => s.note 0x5131 []
  | .fresh =>
    if 16 ≤ s.ps.queue.length then s.reject r stBusy
    else State.drain 17 (s.mapPs (fun p => { p with queue := p.queue ++ [r] }))

/-- PS_DATAGRAM: a UDP datagram for port 43110 arrives on a station port. -/
def execPsDatagram (door : Door) (rct : Option (Nat × Nat)) (src sport : Nat) (data : List Nat) (s : State) : Out :=
  let (keep, s) := s.ingress door.port rct .ps 1
  .next (if !keep || s.fenced 4 5 || !(s.datagramOk data) then s
    else if !(s.tagOk data) then s.warn 0x5130 []
    else if numAt data 0 1 != 1 then s.reject (s.requestOf door.port src sport door.addr data) stVersion
    else
      let s := if numAt data 8 4 = 0 then s.touchClient src sport else s
      s.takeRequest (s.requestOf door.port src sport door.addr data))

/-- CLIENT_STATE_EXPIRY (R52). -/
def execClientStateExpiry (src sport : Nat) (s : State) : Out :=
  .next (s.mapPs (fun p => { p with clients := p.clients.filter (fun c =>
    !(c.src == src && c.sport == sport && c.last + secs s.sec.sessionIdle ≤ s.now)) }))

/-! ### Request payloads (R42) -/

/-- n entries of INDEX, SUB, a reserved byte, LEN and value, and nothing after them: bytes left over are answered FRAME (DESIGN
CHOICE, log entry 117). -/
def parseEntries : Nat → List Nat → Option (List (Nat × Nat × List Nat))
  | 0, [] => some []
  | 0, _ => none
  | n + 1, i0 :: i1 :: sub :: _ :: l0 :: l1 :: rest =>
    let len := l0 + 256 * l1
    if rest.length < len then none
    else (parseEntries n (rest.drop len)).map (fun t => (i0 + 256 * i1, sub, rest.take len) :: t)
  | _, _ => none

/-- An entry list of 1 to 64 entries. -/
def entryList (b : List Nat) : Option (List (Nat × Nat × List Nat)) :=
  match b with
  | c0 :: c1 :: _ :: _ :: rest =>
    let n := c0 + 256 * c1
    if 1 ≤ n && n ≤ 64 then parseEntries n rest else none
  | _ => none

/-- A block entry: index, first subindex, count, values. -/
def blockEntry (b : List Nat) : Option (Nat × Nat × Nat × List Nat) :=
  match b with
  | i0 :: i1 :: sub :: cnt :: l0 :: l1 :: rest =>
    if cnt = 0 || rest.length != l0 + 256 * l1 then none else some (i0 + 256 * i1, sub, cnt, rest)
  | _ => none

/-- The values of a WRITE_BLOCK, packed in order, cut by the sizes of the objects; an OCTETS object of one admitted length
takes that length, any other the rest. The answer is the entries and the bytes left over. -/
def cutBlock (idx : Nat) : Nat → Nat → List Nat → List (Nat × Nat × List Nat) × List Nat
  | 0, _, b => ([], b)
  | n + 1, sub, b =>
    let len := match findObj idx sub with
      | some r =>
        if r.ty != .octets then r.ty.size
        else match r.rng with | [(lo, hi, _)] => if lo = hi then lo.toNat else b.length | _ => b.length
      | none => b.length
    let (t, left) := cutBlock idx n (sub + 1) (b.drop len)
    ((idx, sub, b.take len) :: t, left)

/-! ### Reading requests -/

/-- One response entry (R43). -/
def entryBytes (st : Nat) (v : List Nat) : List Nat := [st, 0] ++ le 2 v.length ++ v

/-- One entry of a READ: a read, or a write of a select object. -/
def State.readEntry (s : State) (c : Caller) (idx sub : Nat) (b : List Nat) : Nat × List Nat × State :=
  if b.isEmpty then s.readObj c (s.selectsOf c) idx sub
  else if isSelect idx sub then
    let st := selectStatus idx b
    (st, [], if st = stOk then s.putSelect c idx (b.headD 0) else s)
  else (stAccess, [], s)

/-- A response entry as it fits into the 1408 bytes of a response payload behind what stands in it and before `left` entries
without a value: one that does not fit is answered FRAME and leaves nothing behind (R38; DESIGN CHOICE, log entry 118). -/
def State.fitEntry (s : State) (len left : Nat) (x : Nat × List Nat × State) : Nat × List Nat × State :=
  if 4 + len + (4 + x.2.1.length) + 4 * left ≤ 1408 then x else (stFrame, [], s)

/-- The entries of a READ in order: status and position of the first failing one, which the response carries (DESIGN CHOICE,
log entry 119), and the response entries. -/
def State.readList (c : Caller) : List (Nat × Nat × List Nat) → Nat → Nat × Nat → List Nat → State →
    (Nat × Nat) × List Nat × State
  | [], _, f, out, s => (f, out, s)
  | (idx, sub, b) :: rest, pos, f, out, s =>
    let (st, v, t) := s.fitEntry out.length rest.length (s.readEntry c idx sub b)
    State.readList c rest (pos + 1) (if f.1 = stOk && st != stOk then (st, pos) else f) (out ++ entryBytes st v) t

/-- The subindices of a READ_BLOCK on the channel held when it was received (R55). -/
def State.readBlockList (c : Caller) (sel : Selects) (idx : Nat) : Nat → Nat → Nat → Nat × Nat → List Nat → State →
    (Nat × Nat) × List Nat × State
  | 0, _, _, f, out, s => (f, out, s)
  | n + 1, sub, pos, f, out, s =>
    let (st, v, t) := s.fitEntry out.length n (s.readObj c sel idx sub)
    State.readBlockList c sel idx n (sub + 1) (pos + 1) (if f.1 = stOk && st != stOk then (st, pos) else f)
      (out ++ entryBytes st v) t

/-- A malformed request: FRAME (Table 2-8). -/
def frameAnswer : List Nat := answerBytes stFrame 255 0 []

/-- A request begins: the disposable heads before it are gone, and it leaves the waiting list. -/
def State.begin (s : State) (code : Nat) : Option (Request × State) :=
  let s := State.drain 17 s
  (s.head code).map (fun r => (r, s.popHead))

/-- The status and failing position, the count of response entries, the entries. -/
def readAnswer (f : Nat × Nat) (count : Nat) (out : List Nat) : List Nat := answerBytes f.1 f.2 count out

/-- READ takes effect. -/
def State.doRead (s : State) (r : Request) : State :=
  match entryList r.payload with
  | none => s.finish r r.key frameAnswer
  | some es =>
    let (f, out, t) := State.readList r.caller es 0 (stOk, 255) [] s
    t.finish r r.key (readAnswer f es.length out)

/-- READ (R42, R43, R46, R47, R51, R54). -/
def execReadRequest (s : State) : Out :=
  .next (match s.begin 1 with
    | some (r, s) => s.doRead r
    | none => State.drain 17 s)

/-- READ_BLOCK takes effect. -/
def State.doReadBlock (s : State) (r : Request) : State :=
  match blockEntry r.payload with
  | some (idx, sub, cnt, []) =>
    let (f, out, t) := State.readBlockList r.caller r.sel idx cnt sub 0 (stOk, 255) [] s
    t.finish r r.key (readAnswer f cnt out)
  | _ => s.finish r r.key frameAnswer

/-- READ_BLOCK (R55). -/
def execReadBlock (s : State) : Out :=
  .next (match s.begin 3 with
    | some (r, s) => s.doReadBlock r
    | none => State.drain 17 s)

/-- The largest value of a type. -/
def Ty.top : Ty → Int
  | .u8 => 255 | .u16 => 65535 | .u32 => 4294967295 | .u64 => 18446744073709551615
  | .i16 => 32767 | .i32 => 2147483647 | .pu32 => 2147483647 | .turn32 => 4294967295 | _ => 0

/-- The smallest value of a type. -/
def Ty.bottom : Ty → Int
  | .i16 => -32768 | .i32 => -2147483648 | .pu32 => -2147483648 | _ => 0

/-- Minimum, maximum and default of an object, each at its type's size; nothing for OCTETS. -/
def limitBytes (r : ObjRow) (idx sub chan : Nat) : List Nat :=
  match r.ty with
  | .octets => []
  | .time96 => List.replicate 12 0 ++ List.replicate 8 255 ++ le 4 999999999 ++ List.replicate 12 0
  | ty =>
    let lo := if r.rng.isEmpty then ty.bottom else (r.rng.map (fun x : Int × Int × Int => x.1)).foldl (fun a b => if b < a then b else a) ty.top
    let hi := if r.rng.isEmpty then ty.top else (r.rng.map (fun x : Int × Int × Int => x.2.1)).foldl (fun a b => if a < b then b else a) ty.bottom
    encodeVal ty (.num lo) ++ encodeVal ty (.num hi) ++ encodeVal ty (objDefault (objKey idx sub chan))

/-- The value of a DESCRIBE response (R56): the size of an OCTETS object of several lengths is the longest, and the write level
of an RO object is 2 (DESIGN CHOICE, log entry 120). -/
def describeBytes (r : ObjRow) (idx sub chan : Nat) : List Nat :=
  let size := if r.ty == .octets then ((r.rng.map (fun x : Int × Int × Int => x.2.1)).foldl (fun a b => if a < b then b else a) 0).toNat
    else r.ty.size
  [r.ty.code, r.acc.code, r.rl, r.wl, r.fn] ++ le 2 size ++ limitBytes r idx sub chan

/-- The one entry of a DESCRIBE: with or without the count of an entry list before it (notes/assumptions/21.md). -/
def describeEntry (b : List Nat) : Option (Nat × Nat) :=
  match parseEntries 1 b with
  | some [(idx, sub, [])] => some (idx, sub)
  | _ => match entryList b with
    | some [(idx, sub, [])] => some (idx, sub)
    | _ => none

/-- DESCRIBE takes effect. -/
def State.doDescribe (s : State) (r : Request) : State :=
  match describeEntry r.payload with
  | none => s.finish r r.key frameAnswer
  | some (idx, sub) =>
    match findObj idx sub with
    | some o =>
      let chan := (s.selectsOf r.caller).chan idx
      s.finish r r.key (answerBytes stOk 255 1 (entryBytes stOk (describeBytes o idx sub chan)))
    | none =>
      let st := if hasIndex idx then stNoSub else stNoObject
      s.finish r r.key (answerBytes st 0 1 (entryBytes st []))

/-- DESCRIBE (R56). -/
def execDescribeRequest (s : State) : Out :=
  .next (match s.begin 5 with
    | some (r, s) => s.doDescribe r
    | none => State.drain 17 s)

/-! ### Writing requests -/

/-- The request waits before its response is sent. -/
def State.wait (s : State) (r : Request) (w : Waiting) : State := s.mapPs (fun p => { p with exec := some ⟨r, w⟩ })

/-- The device was reset: what it held of the service is gone, and no response is sent. -/
def wasReset (s t : State) : Bool := t.mode.mode == .boot && s.mode.mode != .boot

/-- What the response of a completed write still waits for: the entry into FORMING, the commit, the clear folio (R44). -/
def State.stillOwed (s : State) (ws : List (Nat × Nat)) : Option Waiting :=
  if ws.contains (0x1200, 3) && s.mode.pend.isSome then some .forming
  else if ws.contains (0x1202, 2) && s.commitAt.isSome then some .commit
  else if ws.contains (0x7102, 1) && s.recd.written < s.recd.floor then some (.clear s.recd.floor)
  else none

/-- The owner record that a session replaces ends it too, once its response is sent (R488). -/
def State.endOwner (s : State) (r : Request) (ws : List (Nat × Nat)) : State :=
  if ws.contains (0x9001, 1) then s.sessionEnd r.session 8 else s

/-- The objects that a request names. -/
def namesOf (es : List (Nat × Nat × List Nat)) : List (Nat × Nat) := es.map (fun e => (e.1, e.2.1))

/-- A write of a list of entries: refused whole, waiting for the boundary, or in force before its response (R49, R50). The
response to a write counts 0 entries (DESIGN CHOICE, log entry 121). -/
def State.doWrite (s : State) (r : Request) (block : Option Selects) (es : List (Nat × Nat × List Nat)) : State :=
  let c := r.caller
  let (st, pos, t, ws) := s.writeAll c (s.levelOf c) block es
  if wasReset s t then t
  else if st != stOk then t.finish r r.key (answerBytes st pos 0 [])
  else if !ws.isEmpty then t.wait r (.boundary ws)
  else match t.stillOwed (namesOf es) with
    | some w => t.wait r w
    | none => (t.finish r r.key (answerBytes stOk 255 0 [])).endOwner r (namesOf es)

/-- WRITE (R50). -/
def execWriteRequest (s : State) : Out :=
  .next (match s.begin 2 with
    | some (r, s) => (match entryList r.payload with
      | none => s.finish r r.key frameAnswer
      | some es => s.doWrite r none es)
    | none => State.drain 17 s)

/-- The entries of a WRITE_BLOCK. -/
def blockWrites (b : List Nat) : Option (List (Nat × Nat × List Nat)) :=
  match blockEntry b with
  | some (idx, sub, cnt, vals) => (match cutBlock idx cnt sub vals with
    | (es, []) => some es
    | _ => none)
  | none => none

/-- WRITE_BLOCK (R50, R55). -/
def execWriteBlock (s : State) : Out :=
  .next (match s.begin 4 with
    | some (r, s) => (match blockWrites r.payload with
      | none => s.finish r r.key frameAnswer
      | some es => s.doWrite r (some r.sel) es)
    | none => State.drain 17 s)

/-! ### Completion of the waits -/

/-- The entries of the request in execution. -/
def Request.entries (r : Request) : List (Nat × Nat × List Nat) :=
  ((if r.code = 4 then blockWrites r.payload else entryList r.payload)).getD []

/-- The position of a request's MODE_REQUEST. -/
def Request.modePos (r : Request) : Nat := ((r.entries).findIdx? (fun e => e.1 == 0x1200 && e.2.1 == 3)).getD 255

/-- A request one of whose waits is over waits for the next one it needs, or is answered (R44). -/
def State.settleNext (s : State) (r : Request) : State :=
  match s.stillOwed (namesOf r.entries) with
  | some w => s.wait r w
  | none => (s.finish r r.key (answerBytes stOk 255 0 [])).endOwner r (namesOf r.entries)

/-- A request whose waits are over is answered; an entry into FORMING that was cancelled answers MODE (R44, R80, R92, R464). -/
def State.settle (s : State) : State :=
  match s.ps.exec with
  | none => s
  | some ⟨r, w⟩ =>
    match w with
    | .boundary _ => s
    | .forming =>
      if s.mode.pend.isSome then s
      else if s.mode.mode != .forming then s.finish r r.key (answerBytes stMode r.modePos 0 [])
      else s.settleNext r
    | .commit => if s.commitAt.isSome then s else s.settleNext r
    | .clear q => if q ≤ s.recd.written then s.settleNext r else s

/-- Every station setpoint among the entries has been published (R101). -/
def State.published (s : State) (ws : List WEntry) : Bool :=
  ws.all (fun e => e.index != 0x2002 || !(s.spn.toPub.any (fun p => p.1 == e.sub)))

/-- The waiting write takes effect at the boundary, and its response is sent or waits further (R49, R50). -/
def State.stagedApply (s : State) : State :=
  match s.ps.exec with
  | some ⟨r, .boundary ws⟩ =>
    if s.published ws then
      let c := r.caller
      let (st, pos, t) := s.applyStaged c (s.levelOf c) ws
      if wasReset s t then t
      else if st != stOk then t.finish r r.key (answerBytes st pos 0 [])
      else match t.stillOwed (ws.map (fun e => (e.index, e.sub))) with
        | some w => t.wait r w
        | none => (t.finish r r.key (answerBytes stOk 255 0 [])).endOwner r (ws.map (fun e => (e.index, e.sub)))
    else s
  | _ => s

/-- CONFIG_COMMIT_DONE (R92). -/
def execConfigCommitDone (s : State) : Out := .next s.commitDone.settle

/-! ### Session requests (Table 17-7) -/

/-- HELLO (R483). -/
def execHelloRequest (s : State) : Out :=
  .next (match s.begin 0x10 with
    | some (r, s) =>
      let (st, b, t) := s.hello r.session r.payload
      t.finish r r.key (answerBytes st 255 0 b)
    | none => State.drain 17 s)

/-- OPEN (R484, R485). -/
def execOpenSession (s : State) : Out :=
  .next (match s.begin 0x11 with
    | some (r, s) =>
      let (st, b, t) := s.openNow r.session r.payload
      t.finish r r.key (answerBytes st 255 0 b)
    | none => State.drain 17 s)

/-- CLOSE: the session in which it is sent ends, after its response (R483, R486). -/
def execCloseSession (s : State) : Out :=
  .next (match s.begin 0x12 with
    | some (r, s) =>
      if r.session = 0 || !r.payload.isEmpty then
        s.drawn.finish r r.key (answerBytes s.freeStatus 255 0 [])
      else (s.sessionEnd r.session 1).finish r r.key (answerBytes stOk 255 0 [])
    | none => State.drain 17 s)

/-- CLAIM (R488). -/
def execClaimOwner (s : State) : Out :=
  .next (match s.begin 0x13 with
    | some (r, s) =>
      let (st, t) := s.claim r.session r.payload
      t.finish r r.key (answerBytes st 255 0 [])
    | none => State.drain 17 s)

end Sys2Proof.Machine
end

