-- ==== Sys2Proof/Machine/Fence.lean ====
section
/-! DEFINITION. Errors and fences (18): parity and uncorrectable errors, the fence of a block with the effect of Table 18-5,
escalation, release, handshake timeouts and stalled queues (R506, R510 to R517). -/
namespace Sys2Proof.Machine

/-! ### Table 18-5 -/

/-- The blocks of a region, counted. -/
def blocksOf : Nat → Nat
  | 0 => 6 | 1 => 4 | 2 => 11 | 3 => 3 | 4 => 7 | 5 => 3 | 6 => 2 | 7 => 1 | 8 => 4 | _ => 0

/-- The function that a fence of the block faults. -/
def fenceFn (region b : Nat) : Option Fn :=
  match region, b with
  | 1, 0 => some .form | 1, 1 => some .form | 1, 3 => some .arm
  | 2, 0 => some .select | 2, 1 => some .select
  | 3, 0 => some .sense | 3, 1 => some .sense
  | 5, 2 => some .field
  | _, _ => none

/-- The class of the block's fence. -/
def fenceClass (region b : Nat) : Cls :=
  match region, b with
  | 0, 0 => .safe | 0, 1 => .safe | 5, 0 => .safe | 5, 1 => .safe
  | 0, 4 => .note
  | _, _ => if (fenceFn region b).isSome then .trip else .warn

/-! ### What a fence does -/

/-- The header of a region changed. -/
def State.mapHdr (s : State) (region : Nat) (f : RegionHdr → RegionHdr) : State :=
  { s with hdrs := updAt region f s.hdrs }

/-- ERROR.ECC_U and FIRST of a region with a register space, and the FENCED bit (R511, R512). -/
def State.markFenced (s : State) (region b : Nat) : State :=
  s.mapHdr region (fun h => { h with
    fenced := setBit h.fenced b
    err := if region < 8 then setBit h.err 8 else h.err
    first := if region < 8 && h.first = 255 then b else h.first })

/-- A fault of class TRIP recorded in a region (R19, R60, R61). -/
def State.tripIn (s : State) (code region : Nat) (n : Fn) (payload : List Nat) : State :=
  let s := s.offer code .trip region payload
  let w : ActiveTrip := ⟨region, code, n⟩
  let s := s.mapMode (fun m => { m with trips := w :: m.trips.filter (fun x => x != w) })
  (s.blockSpan).faultFn n

/-- The recorder's memory fails without an answer of the memory die (R459, Table 18-5). -/
def State.recordFails (s : State) : State :=
  if s.recd.memFail then s
  else s.memFailure (s.recd.margin.headD { s.folio 0x8002 .warn 6 [] with seq := s.recd.newest + 1 }) 3

/-- Rotation stops without a converter of its own fault (R283, Table 18-5). -/
def State.rotationEnds (s : State) : State :=
  (s.mapSense (fun v => { v with
    phase := 3, cal := none, refuse := false, ints := v.ints.map (fun i => { i with ok := false }) })).warnOn 0x4054 0 []

/-- A fenced framer ends the quire frame that is in progress after the issue point, if one is (R516). -/
def State.frameCut (s : State) (q : Nat) : State := if s.sending.contains q && !s.edge then s.emit (.cut q) else s

/-- A trunk whose framer is fenced leaves UP with cause 5; one that is being brought up goes to RETRY (Table 18-5). -/
def State.framerEnds (s : State) (q : Nat) : State :=
  let st := (s.trk q).st
  let s := s.frameCut q
  if st = 5 then (s.leaveUp q 5).quireLoss
  else if 1 ≤ st && st ≤ 4 then (s.mapTrk q (fun t => { t with st := 6, at_ := s.now, ticks := 0, req := none })).abandon q
  else s

/-- Open mailbox transactions are abandoned, trunks in VERIFY go to RETRY (R225, Table 18-5). -/
def State.mailboxEnds (s : State) : State :=
  (List.range 8).foldl (fun s q =>
    let s := if (s.trk q).st = 4 then s.mapTrk q (fun t => { t with st := 6, at_ := s.now, ticks := 0, req := none }) else s
    s.abandon q) s

/-- Consumed connections in RUN are LOST; the cause byte is none of R408's, and free (Table 18-5). -/
def State.safetyLayerEnds (s : State) : State :=
  ((List.range 8).filter (fun c => s.consumes c && (s.conn c).st == .run)).foldl (fun s c =>
    s.drawn.slLost c (1 + s.freeNat % 3)) s

/-- The parameter-service engine answers nothing: the requests it held are abandoned (R512). -/
def State.serviceEnds (s : State) : State :=
  (s.mapPs (fun p => { p with queue := [], exec := none, regStaged := [] })).dropSems 6

/-- Sessions end; the cause byte is none of R486's, and free (Table 18-5). -/
def State.securityEnds (s : State) : State :=
  let s := s.mapSec (fun x => { x with signing := none })
  s.drawn.sessionsEnd (fun _ => true) (1 + s.freeNat % 8)

/-- The effect of Table 18-5 beyond the faulted function. -/
def State.fenceEffect (s : State) (region b : Nat) : State :=
  match region, b with
  | 0, 2 => s.recordFails
  | 0, 4 => s.dbgEnd.dropSems 5
  | 0, 5 => s.mapFab (fun f => { f with sems := f.sems.map (fun _ => {}) })
  | 2, 2 => s.mailboxEnds
  | 3, 2 => s.rotationEnds
  | 4, 0 => s.spnStop
  | 4, 1 => s.portLost .a
  | 4, 2 => s.portLost .b
  | 4, 3 => s.servoFree
  | 4, 4 => if s.dpx.link then (s.dpxLinkLost).mapDpx (fun d => { d with mirrorOn := false }) else s
  | 4, 5 => s.serviceEnds
  | 4, 6 => s.safetyLayerEnds
  | 5, 2 => s.barrierDown
  | 6, 1 => if s.recd.memFail then s else s.mapRecd (fun r => { r with memFail := true, writing := false })
  | 7, 0 => s.securityEnds
  | 8, c => (s.mapSec (fun x => { x with coresHeld := setBit x.coresHeld c })).dropSems c
  | 2, _ => if 3 ≤ b then s.framerEnds (b - 3) else s
  | _, _ => s

/-- An accepted write that waits under R49 for the block is discarded whole: status FENCED, with the position of the first
entry for that block (R516). -/
def State.dropStaged (s : State) (region b : Nat) : State :=
  match s.ps.exec with
  | some ⟨r, .boundary ws⟩ =>
    let hits (e : WEntry) : Bool := blockOf e.index e.sub e.chan == (region, b) || (e.index == 0x2002 && region == 4 && b == 0)
    match ws.find? hits with
    | some e =>
      let s := if ws.any (fun e => e.index == 0x2002) then s.mapSpn (fun n => { n with toPub := [] }) else s
      s.finish r r.key (answerBytes stFenced e.pos 0 [])
    | none => s
  | _ => s

/-- Register writes that wait for the block are discarded with it. -/
def State.dropRegs (s : State) (region b : Nat) : State :=
  s.mapPs (fun p => { p with regStaged := p.regStaged.filter (fun w =>
    blockOf (w.1 / 0x100 % 0x10000) (w.1 % 0x100) (w.1 / 0x1000000) != (region, b)) })

/-- Escalation to SAFE with its item of R514. -/
def State.escalate (s : State) (item : Nat) : State :=
  let s := if s.mode.mode == .safe then s else s.mapFab (fun f => { f with escalation := item })
  s.safeFault 0x0303 0 [item]

/-- The block was released less than 1 s ago (R514 item 3). -/
def State.justReleased (s : State) (region b : Nat) : Bool :=
  s.fab.releases.any (fun r => r.1 == ⟨region, b⟩ && s.now < r.2 + secs 1)

/-- How many blocks of a region are fenced. -/
def State.fencedN (s : State) (region : Nat) : Nat := popCount 16 (entry s.hdrs region {}).fenced

/-- The item of R514 that a fence of the block meets, 0 for none; s is the state with the block fenced. -/
def State.escalation (s : State) (region b : Nat) : Nat :=
  if fenceClass region b == .safe then 1
  else if 5 ≤ s.fencedN region then 2
  else if s.justReleased region b then 3
  else 0

/-- The event of a fence, with the fault of its class (R512, Table 18-5). -/
def State.fenceEvent (s : State) (region b cause : Nat) : State :=
  let p := [region] ++ le 2 b ++ [cause]
  match fenceFn region b with
  | some n => s.tripIn 0x0300 region n p
  | none =>
    let s := s.offer 0x0300 (fenceClass region b) region p
    if fenceClass region b == .warn then s.mapMode (fun m => { m with warns := ⟨region, 0x0300, b⟩ :: m.warns }) else s

/-- A block is fenced for a cause of Table 16-10: the event, the FENCED bit, the effect, the writes that waited for it, and
the escalation. A block already fenced stays so; an error during its self-test fails the test (R513). -/
def State.fenceBlock (s : State) (region b cause : Nat) : State :=
  if blocksOf region ≤ b then s
  else if s.fenced region b then
    if s.fab.tests.contains ⟨region, b⟩ then
      (s.mapFab (fun f => { f with tests := f.tests.filter (fun t => t != ⟨region, b⟩) })).offer 0x0302 .warn region
        ([region] ++ le 2 b)
    else s
  else
    let s := (s.fenceEvent region b cause).markFenced region b
    let s := ((s.fenceEffect region b).dropStaged region b).dropRegs region b
    let item := s.escalation region b
    if item = 0 then s else s.escalate item

/-! ### Errors -/

/-- UNCORRECTABLE_ERROR: a double-bit error (kind 0), an error passed up by a slice (1) or a firing of the block's own checks
(2) in a block of a region that is powered; or an error in the routing or credit state of a boundary port (R511, R512,
R514). -/
def execUncorrectableError (region : Fin 9) (b : Fin 16) (kind : Fin 3) (boundary : Bool) (s : State) : Out :=
  .next (if boundary then s.escalate 4
    else if s.powered (blockDomain region b) then s.fenceBlock region b (kind.val + 1) else s)

/-- PARITY_ERROR: the nth error in a row on one access (0 the first). The first three are retried, the fourth is passed to
the block as uncorrectable; a fence of the block wins (R510, R516). -/
def execParityError (region : Fin 9) (b : Fin 16) (nth : Fin 4) (s : State) : Out :=
  .next (if s.fenced region b || !(s.powered (blockDomain region b)) || blocksOf region ≤ b.val then s
    else if nth.val < 3 then
      let s := s.mapFab (fun f => { f with parRetries := incSat 32 f.parRetries })
      if region.val < 8 then s.errBit region 6 else s
    else s.fenceBlock region b 2)

/-- HANDSHAKE_TIMEOUT: at the Application island for a core, or at another island (R515). -/
def execHandshakeTimeout (core : Option Nat) (s : State) : Out :=
  .next (match core with
    | some c => s.fenceBlock 8 c 4
    | none => s.escalate 5)

/-- QUEUE_STALL: the oldest entry of a queue has waited QUEUE_STALL: its entries are discarded and the consumer core is
fenced (R506). -/
def execQueueStall (q : Fin 16) (s : State) : Out :=
  let x := entry s.fab.queues q {}
  .next (match x.entries with
    | e :: _ =>
      if e.2 + us s.QUEUE_STALL ≤ s.now then
        let s := s.mapFab (fun f => { f with queues := putAt q { x with entries := [] } f.queues })
        s.fenceBlock 8 x.consumer 5
      else s
    | [] => s)

/-! ### Release (R513) -/

/-- The conditions of a release. -/
def State.releasable (s : State) (region b : Nat) : Bool :=
  s.mode.mode != .safe && fenceClass region b != .safe && s.fenced region b &&
    (match fenceFn region b with | some n => s.isDown n | none => true) &&
    !(region == 2 && 3 ≤ b && (s.trk (b - 3)).st == 5)

/-- A release request by a master: at P3; what fails the conditions is ignored with ERROR.RUNST (R513). -/
def State.unfence (s : State) (m region b : Nat) : State :=
  let home := if region = 8 then 0 else region
  if s.mlevel m < 3 then s.errBit home 0
  else if s.releasable region b then
    s.mapFab (fun f => { f with tests := ⟨region, b⟩ :: f.tests.filter (fun t => t != ⟨region, b⟩) })
  else s.errBit home 2

/-- UNFENCE: a write of 1 to FENCE.UNFENCE bit 16 + b of a region, or for a core to APP_UNFENCE. -/
def execUnfence (m : Fin 7) (region : Fin 9) (b : Fin 16) (s : State) : Out := .next (s.unfence m region b)

/-- The live values of the objects that a block holds go back to their defaults. -/
def State.objsReset (s : State) (region b : Nat) : State :=
  { s with objs := s.objs.filter (fun kv =>
      blockOf (kv.1 / 0x100 % 0x10000) (kv.1 % 0x100) (kv.1 / 0x1000000) != (region, b)) }

/-- The working state of a block restarts from its reset values; a framer's trunk restarts at TRAIN (R513, R214). -/
def State.workReset (s : State) (region b : Nat) : State :=
  match region, b with
  | 0, 3 => s.mapPwr (fun p => { p with regs := [] })
  | 0, 5 => s.mapFab (fun f => { f with sems := List.replicate 16 {}, queues := List.replicate 16 {} })
  | 1, 1 => s.mapForm (fun _ => {})
  | 1, 2 => s.mapB (fun b => { b with exOut := [0, 0, 0, 0], exN := 0, exSt := 0, exRun := 0 })
  | 1, 3 => s.mapArm (fun _ => {})
  | 2, 1 => s.mapCellS (fun c => { c with cells := c.cells.map (fun x => { fail := x.fail, failNv := x.failNv }) })
  | 3, 1 => s.mapSense (fun v => { v with ins := List.replicate 16 {} })
  | 4, 1 => s.mapFab (fun f => { f with policers := putAt 0 {} f.policers })
  | 4, 2 => s.mapFab (fun f => { f with policers := putAt 1 {} f.policers })
  | 4, 4 => s.mapDpx (fun d => { d with buf0 := {}, buf1 := {}, rx := none })
  | 4, 5 => s.mapPs (fun p => { p with clients := [] })
  | 6, 0 => { s with masters := s.masters.map (fun m => { m with win := {} }) }
  | 6, 1 => s.mapRecd (fun r => { r with margin := [] })
  | 8, c => if s.sec.appSlot = 255 then s else s.mapSec (fun x => { x with coresHeld := clrBit x.coresHeld c })
  | 2, _ =>
    if 3 ≤ b && s.isRun .trunk && s.trkOn (b - 3) then
      s.mapTrk (b - 3) (fun t => { (t.offNow s.now) with st := 1, causes := [] })
    else s
  | _, _ => s

/-- A released block passes its self-test. -/
def State.released (s : State) (region b : Nat) : State :=
  let s := (s.mapHdr region (fun h => { h with fenced := clrBit h.fenced b })).mapFab (fun f => { f with
    releases := (⟨region, b⟩, s.now) :: f.releases.filter (fun r => s.now < r.2 + secs 1) })
  let s := s.mapMode (fun m => { m with warns := m.warns.filter (fun w => w != ⟨region, 0x0300, b⟩) })
  ((s.objsReset region b).workReset region b).offer 0x0301 .note region ([region] ++ le 2 b)

/-- FENCE_SELFTEST_DONE: the block is released, or stays fenced with event 0x0302 (R513). -/
def execFenceSelftestDone (region : Fin 9) (b : Fin 16) (ok : Bool) (s : State) : Out :=
  .next (if s.fab.tests.contains ⟨region, b⟩ then
      let s := s.mapFab (fun f => { f with tests := f.tests.filter (fun t => t != ⟨region, b⟩) })
      if ok then s.released region b else s.offer 0x0302 .warn region ([region.val] ++ le 2 b.val)
    else s)

/-- ERROR_CLEAR: a write of 1 to bits of a region's ERROR by a master; the register is mapped by no object and needs P2, in
the Security region P3 (R64, R69, R513). -/
def execErrorClear (m : Fin 7) (region : Fin 8) (mask : BitVec 32) (s : State) : Out :=
  .next (if s.mlevel m < (if region.val = 7 then 3 else 2) then s.errBit region 0 else s.clearError region mask.toNat)

end Sys2Proof.Machine
end

