-- ==== Sys2Proof/Machine/Flags.lean ====
section
/-! DEFINITION. The flag words of the registers: the header of a region (Tables 2-13 to 2-17) and the status registers of
chapters 03, 05 to 09, 11, 12 and 14 to 18, each bit as its table states it. -/
namespace Sys2Proof.Machine

/-! ### Region header -/

/-- The power domains of a region (Table 1-6). -/
def regionDomains : Nat → List Domain
  | 1 => [.ctl] | 2 => [.ctl, .trk] | 3 => [.sna, .snd] | 4 => [.net, .spn] | 5 => [.safe, .fld]
  | _ => [.hk]

/-- LOCAL: in Housekeeping, bit 16 + p is the COAST flag of PLL p (R325). -/
def State.localFlags (s : State) (region : Nat) : Nat :=
  if region = 0 then flagBits ((List.range 5).map (fun i => (s.clk.pll i).st == .coast)) else 0

/-- STATUS (Table 2-14). -/
def State.statusWord (s : State) (region : Nat) : Nat :=
  flagBits [(regionDomains region).all (fun d => s.powered d), s.mode.warns.any (fun w => w.region == region),
    s.mode.trips.any (fun t => t.region == region) || (region == 3 && s.cmpActive), (entry s.hdrs region {}).fenced != 0] + 65536 * s.localFlags region

/-- ERROR (Table 2-15). -/
def State.errorWord (s : State) (region : Nat) : Nat :=
  let h := entry s.hdrs region {}
  h.err + 65536 * h.first

/-- The functions of the RUNSTATE slots of a region (Table 2-10). -/
def slotFn : Nat → Option Fn × Option Fn
  | 0 => (some .clock, none) | 1 => (some .form, some .arm) | 2 => (some .select, some .trunk)
  | 3 => (some .sense, none) | 4 => (some .time, none) | 5 => (some .field, some .safety)
  | 6 => (some .record, none) | _ => (none, none)

/-- State and check code of a slot; 7 where the region has none (Table 2-17). -/
def State.slotView (s : State) : Option Fn → Nat × Nat
  | some f => ((s.run f).code, (s.fns.get f).check)
  | none => (7, 0)

/-- RUNSTATE (Table 2-17). -/
def State.runWord (s : State) (region : Nat) : Nat :=
  let a := s.slotView (slotFn region).1
  let b := s.slotView (slotFn region).2
  a.1 + 16 * b.1 + 65536 * a.2 + 16777216 * b.2

/-- The five header registers by their offset. -/
def State.headerWord (s : State) (region off : Nat) : Nat :=
  match off with
  | 0x000 => 0x925600B0 + 256 * region
  | 0x004 => s.statusWord region
  | 0x008 => s.errorWord region
  | 0x00C => (entry s.hdrs region {}).fenced
  | _ => s.runWord region

/-! ### Status registers -/

/-- MODE (Table 3-4). -/
def State.modeWord (s : State) : Nat := s.mode.mode.code + 16 * s.mode.sub + 256 * s.mode.check

/-- EXT_STATUS (Table 5-9). -/
def State.extWord (s : State) : Nat :=
  s.law.exSt + 16 * s.law.exN + 256 * s.form.aborted + 65536 * satU 16 s.form.exTotal

/-- ARM_STATUS (Table 6-7). -/
def State.armWord (s : State) : Nat :=
  let a := s.arm
  flagBits [s.ARM_LEAD == 1 && s.isRun .arm, a.refs.isSome, a.extended, a.clamp, a.cLimit, a.iLost, a.iFrozen,
    a.partnerBlk] + 256 * min 15 a.missRun + 65536 * satU 16 a.misses

/-- ARM_COUNT (Table 6-8). -/
def State.armCountWord (s : State) : Nat :=
  s.arm.count % 1024 + 65536 * wrap 8 s.arm.nc + 16777216 * wrap 8 s.arm.step

/-- CELL_STATUS (Table 7-8). -/
def State.cellWord (s : State) (c : Nat) : Nat :=
  let x := s.cellAt c
  let dwell := min 255 (s.dwellLeft x s.cell.snapTick)
  x.shot.applied.code + 4 * x.word + 16 * x.rule +
    256 * flagBits [x.refresh.isSome, x.bsGood, x.trickle, s.TEL_STALE < s.staleness c s.tick, s.available c s.tick] +
    65536 * (x.credit % 256) + 16777216 * dwell

/-- SEL_STATUS (Table 7-9). RESERVE_EMPTY stays 0 in a span without a populated cell, as its reset value says (DEDUCED, log entry
133). -/
def State.selWord (s : State) : Nat :=
  let c := s.cell
  let empty := s.reserveN == 0 && (List.range 256).any s.populated
  flagBits [c.charging, c.short, c.bsShort, c.noIval, empty, c.avLow] + 65536 * satU 16 c.shortfalls

/-- TRUNK_STATUS (Table 8-19). -/
def State.trunkWord (s : State) : Nat :=
  flagBits ((List.range 8).map (fun q => s.linkUp q)) + 256 * s.TRUNK_ENABLE + 65536 * s.downN +
    1048576 * flagBits [s.cell.superseded, s.cell.confNow] + 16777216 * s.APPLY_DELAY

/-- The registers of trunk q, by word (Table 8-20). -/
def State.trkWord (s : State) (q i : Nat) : Nat :=
  let t := s.trk q
  match i with
  | 0 => t.st + 8 * flagBits [t.bound, t.dlMiss, t.conflict] + 256 * min 255 t.missRun + 65536 * satU 16 t.downs
  | 1 => t.tTrk + 65536 * t.tCell
  | 2 => satU 16 t.rejected + 65536 * satU 16 t.bad
  | _ => t.epoch + 65536 * t.alarm

/-- SPN_STATUS (Table 9-12). LEADER_DEV stays 0 until the first election, as its reset value says (DEDUCED, log entry 133). -/
def State.spnWord (s : State) : Nat :=
  let n := s.spn
  s.spineState + 4 * flagBits [n.isMaster, n.leader == some s.device, n.east.lock, n.west.lock, n.budget, n.quorum,
    n.candRun || n.candNew] + 65536 * (if n.voted then n.leader.getD 65535 % 512 else 0) + 33554432 * b2n n.leader.isNone

/-- PLL_STATUS (Table 11-7). -/
def State.pllWord (s : State) (i : Nat) : Nat :=
  let p := s.clk.pll i
  let f := clampI (-32768) 32767 (divNearAway p.ferr 10)
  p.st.code + 8 * flagBits [p.backup, p.drift] + 256 * (p.bandIx.getD 31) + 65536 * wrap 16 f

/-- CLK_STATUS (Table 11-8). -/
def State.clkWord (s : State) : Nat :=
  (s.clk.pll 4).st.code + 8 * b2n (s.clk.pll 4).backup + 16 * s.clk.ref.code + 64 * b2n s.clk.commit

/-- TIME_STATUS (Table 12-7). -/
def State.timeWord (s : State) : Nat :=
  let t := s.time
  t.servo.code + 4 * (match t.slave with | some p => p.code | none => 3) + 16 * flagBits [s.atLimit, t.stepped] +
    65536 * satU 16 t.steps

/-- SAFETY_STATUS (Table 14-14). -/
def State.safetyWord (s : State) : Nat :=
  let lost (c : Nat) : Bool := s.consumes c && (s.conn c).st != .run
  s.sfState + 16 * flagBits [s.safe.confirmed, s.safe.prot.run] +
    256 * (if s.isRun .safety then s.siDemandMask else 255) +
    65536 * flagBits ((List.range 8).map (fun i => (s.si i).fault)) + 16777216 * flagBits ((List.range 8).map lost)

/-- PWR_STATUS (Table 15-13). -/
def State.pwrWord (s : State) : Nat :=
  let p := s.pwr
  p.domains % 4096 + 4096 * p.feedA.level.code + 16384 * p.feedB.level.code +
    65536 * flagBits [p.conduct == .b, p.vdd33Bad, p.pmbFault]

/-- DPX_STATUS (Table 15-14). -/
def State.dpxWord (s : State) : Nat :=
  let d := s.dpx
  s.dpxState + 8 * flagBits [d.link, s.holdsLease, d.buf0.valid || d.buf1.valid, d.frozen, d.mirrorOn] + 65536 * d.delay

/-- REC_STATUS (Table 16-7). -/
def State.recWord (s : State) : Nat := s.recState + 16 * b2n s.recd.lDropped + 256 * s.recd.count

/-- SEC_STATUS (Table 17-13). -/
def State.secWord (s : State) : Nat :=
  let x := s.sec
  flagBits [x.bootImage == 1, x.appSlot != 255, x.owner.isSome, x.debugLock, x.dbg.isSome, s.lmsLow, s.lmsOut,
    x.signing.isSome] + 256 * s.ps.sessions.length

/-- FABRIC_STATUS (Table 18-7). -/
def State.fabricWord (s : State) : Nat :=
  (entry s.hdrs 8 {}).fenced % 16 + 256 * flagBits ((List.range 8).map (fun r => (entry s.hdrs r {}).fenced != 0)) +
    65536 * s.fab.escalation

end Sys2Proof.Machine
end

