-- ==== Sys2Proof/Machine/Registers.lean ====
section
/-! DEFINITION. Registers as bus masters see them (Tables 2-12 to 2-17 and the register tables of 03 to 18): reads, writes,
select registers, and access through the debug port (R53, R64 to R69, R491). -/
namespace Sys2Proof.Machine

/-! ### Fields that map an object -/

/-- A field of a register that maps an object: place, object, and the step from field to value. -/
structure MapField where
  /-- lowest bit -/
  lo : Nat
  /-- bits -/
  width : Nat
  /-- index of the object -/
  idx : Nat
  /-- subindex of the object -/
  sub : Nat
  /-- value of a field of 0 -/
  off : Nat := 0
  /-- value of one step of the field -/
  step : Nat := 1
deriving DecidableEq, Repr

/-- The fields of the registers that map settings (Tables 5-5, 7-8, 10-11, 11-7, 11-8, 13-8, 14-13). -/
def mapFields (region off : Nat) : List MapField :=
  match region, off with
  | 0, 0x104 => [⟨0, 8, 0x8001, 1, 0, 1⟩, ⟨8, 6, 0x8001, 2, 0, 1⟩, ⟨14, 2, 0x8001, 4, 0, 1⟩, ⟨16, 6, 0x8001, 3, 0, 1⟩]
  | 0, 0x110 => [⟨0, 10, 0x8001, 5, 0, 1⟩]
  | 0, 0x200 => [⟨0, 2, 0x8010, 1, 0, 1⟩, ⟨2, 6, 0x8010, 4, 1, 1⟩, ⟨8, 10, 0x8010, 2, 0, 1⟩]
  | 0, 0x204 => [⟨0, 16, 0x8010, 3, 0, 1⟩]
  | 2, 0x104 => [⟨0, 2, 0x3002, 1, 0, 1⟩, ⟨2, 1, 0x3002, 2, 0, 1⟩, ⟨8, 3, 0x3002, 3, 0, 1⟩]
  | 3, 0x104 => [⟨0, 1, 0x4001, 1, 0, 1⟩, ⟨4, 4, 0x4001, 2, 0, 1⟩, ⟨8, 2, 0x4001, 3, 0, 1⟩, ⟨10, 3, 0x4001, 7, 1, 1⟩,
      ⟨13, 2, 0x4001, 0x0E, 0, 1⟩, ⟨15, 2, 0x4001, 0x0F, 0, 1⟩, ⟨17, 2, 0x4001, 0x0D, 0, 1⟩]
  | 3, 0x108 => [⟨0, 16, 0x4001, 4, 0, 1⟩, ⟨16, 16, 0x4001, 5, 0, 1⟩]
  | 3, 0x10C => [⟨0, 16, 0x4001, 8, 0, 1⟩, ⟨16, 8, 0x4001, 9, 0, 1⟩, ⟨24, 4, 0x4001, 0x0C, 0, 1⟩]
  | 3, 0x110 => [⟨0, 15, 0x4001, 0x0B, 0, 1⟩, ⟨16, 12, 0x4001, 6, 0, 1⟩]
  | 3, 0x114 => [⟨0, 32, 0x4001, 0x0A, 0, 1⟩]
  | 5, 0x104 => [⟨0, 2, 0x5001, 1, 0, 1⟩, ⟨2, 1, 0x5001, 3, 0, 1⟩, ⟨4, 4, 0x5001, 4, 0, 1⟩, ⟨8, 1, 0x5001, 6, 0, 1⟩,
      ⟨10, 2, 0x5001, 9, 0, 1⟩]
  | 5, 0x108 => [⟨0, 16, 0x5001, 2, 0, 1⟩, ⟨16, 10, 0x5001, 8, 0, 100⟩]
  | 5, 0x10C => [⟨0, 14, 0x5001, 7, 0, 1⟩, ⟨16, 9, 0x5001, 5, 0, 1⟩]
  | 5, 0x204 => [⟨0, 3, 0x6001, 1, 0, 1⟩, ⟨3, 1, 0x6001, 4, 0, 1⟩, ⟨4, 9, 0x6001, 3, 0, 1⟩, ⟨16, 10, 0x6001, 2, 0, 1⟩]
  | 1, _ =>
    let r := (off - 0x400) / 0x80
    let sub := (off - 0x400) % 0x80 / 4 + 1
    if 0x400 ≤ off && r < 8 && (findObj (0x2020 + r) sub).isSome then [⟨0, 32, 0x2020 + r, sub, 0, 1⟩] else []
  | _, _ => []

/-- The registers that map one word of a table object: index, subindex, word (R333). -/
def mapWord (region off : Nat) : Option (Nat × Nat × Nat) :=
  if region != 0 then none
  else if 0x180 ≤ off && off < 0x200 then some (0x8001, 6, (off - 0x180) / 4)
  else if 0x280 ≤ off && off < 0x300 then some (0x8010, 6, (off - 0x280) / 4)
  else if 0x300 ≤ off && off < 0x400 then some (0x8010, 5, (off - 0x300) / 4)
  else none

/-- The value that a master's write would find: one that waits for its boundary, or the live one. -/
def State.regCurrent (s : State) (m idx sub chan : Nat) : Val :=
  match s.ps.regStaged.find? (fun w => w.1 == objKey idx sub chan) with
  | some w => w.2
  | none => s.objView (.master m) idx sub chan

/-- The field's code of a value. -/
def MapField.code (f : MapField) (v : Val) : Nat := wrap f.width ((v.int - (f.off : Int)) / (f.step : Int))

/-- The value of a field's code, signed where its object is. -/
def MapField.value (f : MapField) (w : Nat) : Int :=
  let x := bits w f.lo f.width
  let neg := match findObj f.idx f.sub with | some r => r.ty.isSigned | none => false
  (if neg then signed f.width x else (x : Int)) * (f.step : Int) + (f.off : Int)

/-- The value of an object in the bytes of its type. -/
def objBytes (idx sub : Nat) (v : Val) : List Nat :=
  match findObj idx sub with
  | some r => (match v with | .num n => leI r.ty.size n | .oct b => b)
  | none => []

/-- The ERROR bit that a status sets (R65, R68, Table 2-15); BUSY sets none. -/
def errorBit (st : Nat) : Option Nat :=
  if st = stPrivilege then some 0
  else if st = stAccess then some 1
  else if st = stRunstate || st = stMode || st = stDependent then some 2
  else if st = stChannel then some 3
  else if st = stRange || st = stType then some 4
  else if st = stFenced then some 5
  else none

/-- A refused access of a region. -/
def State.refuseReg (s : State) (region st : Nat) : State :=
  match errorBit st with
  | some i => s.errBit region i
  | none => s

/-- A write of an object through a register, with its status; what waits for a boundary under R49 waits (R64, R66). -/
def State.regObj (s : State) (m idx sub chan : Nat) (v : Val) : Nat × State :=
  let b := objBytes idx sub v
  if (match findObj idx sub with | some r => r.staged | none => false) then
    let st := s.writeStatus (.master m) (s.mlevel m) idx sub chan b
    (st, if st = stOk then s.mapPs (fun p => { p with
        regStaged := p.regStaged.filter (fun w => w.1 != objKey idx sub chan) ++ [(objKey idx sub chan, v)] })
      else s)
  else s.writeObj (.master m) (s.mlevel m) idx sub chan b

/-- A command given through a register: the write of its object, with ERROR where it is refused. -/
def State.regCmd (s : State) (m region idx sub v : Nat) : State :=
  let (st, t) := s.regObj m idx sub (((entry s.masters m {}).sel).chan idx) (.num v)
  t.refuseReg region st

/-- The level that a write of the field's object needs on a channel (R47, R64). -/
def State.fieldLevel (s : State) (f : MapField) (chan : Nat) : Nat :=
  if s.inSafetySet f.idx f.sub chan then 3 else match findObj f.idx f.sub with | some r => r.wl | none => 2

/-- A master without the level of any of a register's fields is refused whatever it writes (R64, R65); else the changed fields of
the register are written in order, each judged against the state that the ones before it leave; one refusal ignores the whole
write. -/
def State.writeFields (s : State) (m region w : Nat) (fs : List MapField) : State :=
  let sel := (entry s.masters m {}).sel
  if fs.all (fun f => s.mlevel m < s.fieldLevel f (sel.chan f.idx)) then s.errBit region 0
  else
  let (st, t) := fs.foldl (fun (st, t) f =>
    let chan := sel.chan f.idx
    if st != stOk || f.code (t.regCurrent m f.idx f.sub chan) = bits w f.lo f.width then (st, t)
    else t.regObj m f.idx f.sub chan (.num (f.value w))) (stOk, s)
  if st = stOk then t else s.refuseReg region st

/-- A word of a table object is written. -/
def State.writeWord (s : State) (m region idx sub i w : Nat) : State :=
  let chan := ((entry s.masters m {}).sel).chan idx
  let b := (s.val idx sub chan).bytes
  let (st, t) := s.regObj m idx sub chan (.oct (b.take (4 * i) ++ le 4 w ++ b.drop (4 * i + 4)))
  if st = stOk then t else s.refuseReg region st

/-! ### Blocks, levels -/

/-- The block that holds a register, none for the region headers and the select registers (Table 18-4; notes/assumptions/20.md). -/
def State.regBlock (s : State) (m region off : Nat) : Option (Nat × Nat) :=
  let sel := (entry s.masters m {}).sel
  if off ≤ 0x10 || off = 0x100 || (region = 5 && off = 0x200) then none
  else match region with
    | 0 => if 0x100 ≤ off && off ≤ 0x400 then some (0, 1) else if 0x600 ≤ off && off < 0x800 then some (0, 5) else some (0, 0)
    | 1 => if off < 0x310 then some (1, 2) else if off < 0x400 then some (1, 3) else some (1, 0)
    | 2 =>
      if off = 0x110 || off = 0x114 then some (2, 3 + sel.cell / 32)
      else if off < 0x300 then some (2, 1)
      else if off < 0x400 then some (2, 1)
      else if off < 0x500 then some (2, 0)
      else some (2, 3 + (off - 0x500) / 0x20)
    | 3 => if off < 0x300 then some (3, 0) else some (3, 2)
    | 4 => if off < 0x400 then some (4, 0) else if off < 0x500 then some (4, 3) else some (4, 4)
    | 5 => if off < 0x200 || (0x300 ≤ off && off < 0x400) then some (5, 1) else some (5, 0)
    | 6 => if (0x40 ≤ off && off < 0x58) || 0x100 ≤ off then some (6, 0) else some (6, 1)
    | _ => some (7, 0)

/-- The register is in a block that answers no access (R68). -/
def State.regDead (s : State) (m region off : Nat) : Bool :=
  match s.regBlock m region off with
  | some (r, b) => s.blockDead r b
  | none => false

/-- The level that reading a register needs: P3 in the Security region but for ID and STATUS, P1 for a recorder window
(R69, R461, Table 17-11). -/
def readLevel (region off : Nat) : Nat :=
  if region = 7 && 8 ≤ off then 3
  else if region = 6 && ((0x4C ≤ off && off ≤ 0x54) || 0x100 ≤ off) then 1
  else 0

/-- The group of a select register (Table 2-5). -/
def selectGroup (region off : Nat) : Option Nat :=
  match region, off with
  | 0, 0x100 => some 4 | 2, 0x100 => some 0 | 3, 0x100 => some 1 | 5, 0x100 => some 2 | 5, 0x200 => some 3
  | _, _ => none

/-- A select register written by a master: its own channel, or ERROR.SEL where out of range; no object maps it, so it needs P2
(R53, R64, Table 2-15). -/
def State.writeSelect (s : State) (m region g v : Nat) : State :=
  if s.mlevel m < 2 then s.errBit region 0
  else if v ≤ selMax g then { s with masters := updAt m (fun x => { x with sel := x.sel.put g v }) s.masters }
  else s.errBit region 3

/-! ### Registers with behaviour of their own -/

/-- A register that takes no write (R65). -/
def State.readOnly (s : State) (region : Nat) : State := s.errBit region 1

/-- A clear by a write of 1: level, and the change. -/
def State.w1c (s : State) (m region level : Nat) (on : Bool) (f : State → State) : State :=
  if s.mlevel m < level then s.errBit region 0 else if on then f s else s

/-- UNFENCE for every block named in a mask (R513). -/
def State.unfenceMask (s : State) (m region mask : Nat) : State :=
  (List.range 16).foldl (fun s b => if bit mask b then s.unfence m region b else s) s

/-- The five header registers (Tables 2-13 to 2-17); in the Security region those that take a write need P3 (R69). CMD_A is judged
before CMD_B, and a refusal of one does not stop the other (DEDUCED, log entry 124). -/
def State.writeHeader (s : State) (m region off w : Nat) : State :=
  if region = 7 && 8 ≤ off && s.mlevel m < 3 then s.errBit 7 0
  else match off with
  | 0x008 => if s.mlevel m < 2 then s.errBit region 0 else s.clearError region w
  | 0x00C => s.unfenceMask m region (w / 65536)
  | 0x010 =>
    let (a, b) := slotFn region
    let run (s : State) (f : Option Fn) (v : Nat) : State :=
      match f with
      | some n => if v = 1 || v = 2 then s.regCmd m region 0x1101 n.sub v else s
      | none => s
    run (run s a (bits w 8 2)) b (bits w 10 2)
  | _ => s.readOnly region

/-- QUEUE_OWNER of queue i (R504, Table 18-7): its owners at P3, FULL cleared by a write of 1; a master code 7 is
reserved. -/
def State.writeOwner (s : State) (m i w : Nat) : State :=
  let x := entry s.fab.queues i {}
  let y : MsgQ := { x with producer := bits w 0 3, consumer := bits w 4 3, enable := bit w 7 }
  let put (z : MsgQ) : State := s.mapFab (fun f => { f with queues := putAt i z f.queues })
  if y.producer = 7 || y.consumer = 7 then s.errBit 0 4
  else if y != x && s.mlevel m < 3 then s.errBit 0 0
  else if bit w 14 then put { y with full := false }
  else put y

/-- Registers of Housekeeping that are no plain setting. -/
def State.writeHk (s : State) (m off w : Nat) : State :=
  if off = 0x44 then (if bits w 16 2 = 0 then s else s.regCmd m 0 0x1200 3 (bits w 16 2))
  else if off = 0x10C then
    let i := (entry s.masters m {}).sel.pll
    s.w1c m 0 3 (bit w 4) (fun s => s.putPll i { s.clk.pll i with drift := false })
  else if off = 0x208 then (if bit w 8 then s.regCmd m 0 0x8011 1 1 else s)
  else if off = 0x400 then s.w1c m 0 2 (bit w 18) (fun s => s.mapPwr (fun p => { p with pmbFault := false }))
  else if off = 0x584 then (List.range 4).foldl (fun s c => if bit w c then s.unfence m 8 c else s) s
  else if 0x600 ≤ off && off < 0x640 then
    if !(bit w 8) && !(bit w 9) then s
    else if s.mlevel m < 2 then s.errBit 0 0
    else if bit w 8 then s.semRelease m ((off - 0x600) / 4)
    else s.semRenew m ((off - 0x600) / 4)
  else if 0x700 ≤ off && off < 0x780 then
    let i := (off - 0x700) / 8
    if s.mlevel m < 2 then s.errBit 0 0
    else if off % 8 = 0 then s.writeOwner m i w
    else s.queuePost m i w
  else if [0x40, 0x48, 0x108, 0x20C, 0x580].contains off then s.readOnly 0
  else s

/-- Registers of Sense that are no plain setting. -/
def State.writeSense (s : State) (m off w : Nat) : State :=
  let c := (entry s.masters m {}).sel.ain
  if off = 0x11C then
    if 15 < c then (if bits w 8 4 = 0 then s else s.errBit 3 3)
    else s.w1c m 3 2 (bits w 8 4 != 0) (fun s => s.mapAin c (fun a => { a with
      lLost := a.lLost && !(bit w 8), lFrozen := a.lFrozen && !(bit w 9), lCmp := a.lCmp && !(bit w 10)
      lInj := a.lInj && !(bit w 11) }))
  else if off = 0x124 then (if bit w 24 then s.regCmd m 3 0x4002 6 1 else s)
  else if [0x118, 0x120, 0x128, 0x12C, 0x300, 0x304].contains off then s.readOnly 3
  else s

/-- Registers of Safety/field that are no plain setting. -/
def State.writeField (s : State) (m off w : Nat) : State :=
  if off = 0x114 then (if bit w 0 then s.regCmd m 5 0x5002 8 1 else s)
  else if off = 0x300 then s.regCmd m 5 0x5010 1 w
  else if off = 0x304 then s.regCmd m 5 0x5010 2 w
  else if off = 0x408 then
    let s := if bit w 0 then s.regCmd m 5 0x6101 3 1 else s
    if bit w 1 then s.regCmd m 5 0x6201 2 1 else s
  else if [0x110, 0x208, 0x308, 0x30C, 0x310, 0x314, 0x318, 0x31C, 0x400, 0x404].contains off then s.readOnly 5
  else s

/-- The cursor of a master with 32 of its bits replaced (R469). -/
def State.cursorHalf (s : State) (m : Nat) (high : Bool) (w : Nat) : State :=
  if s.mlevel m < 1 then s.errBit 6 0
  else { s with masters := updAt m (fun x => { x with
      cursor := if high then w * 4294967296 + x.cursor % 4294967296 else x.cursor / 4294967296 * 4294967296 + w }) s.masters }

/-- Registers of the Recorder (Table 16-7). -/
def State.writeRec (s : State) (m off w : Nat) : State :=
  if off = 0x20 then s.w1c m 6 2 (bit w 4) (fun s => s.mapRecd (fun r => { r with lDropped := false }))
  else if off = 0x40 then s.cursorHalf m false w
  else if off = 0x44 then s.cursorHalf m true w
  else if off = 0x48 then
    if s.mlevel m < 1 then s.errBit 6 0
    else
      let s := { s with masters := updAt m (fun x => { x with advance := bit w 1 }) s.masters }
      if bit w 0 then s.loadWindow m else s
  else if off = 0x58 then s.regCmd m 6 0x7102 1 w
  else if off = 0x60 then (if s.mlevel m < 2 then s.errBit 6 0 else s.recOffer m (w % 65536) (bit w 16))
  else if 0x64 ≤ off && off ≤ 0x70 then
    if s.mlevel m < 2 then s.errBit 6 0
    else { s with masters := updAt m (fun x => { x with offerData := putAt ((off - 0x64) / 4) w x.offerData }) s.masters }
  else if (0x24 ≤ off && off ≤ 0x34) || (0x4C ≤ off && off ≤ 0x54) || (0x100 ≤ off && off < 0x200) then s.readOnly 6
  else s

/-- Registers of Control, Cell, Network and Security: status only (R69, R173, R197, R234, R276, R354, R449, R495). -/
def readOnlyReg (region off : Nat) : Bool :=
  match region with
  | 1 => [0x300, 0x310, 0x314].contains off
  | 2 => [0x108, 0x10C, 0x110, 0x114, 0x300, 0x304, 0x400, 0x404].contains off || (0x500 ≤ off && off < 0x600 && off % 0x20 < 0x10)
  | 4 => [0x300, 0x304, 0x400, 0x404, 0x408, 0x40C, 0x410, 0x414, 0x500, 0x504, 0x508].contains off
  | 7 => [0x20, 0x24, 0x28].contains off
  | _ => false

/-! ### A write -/

/-- A register write by a master (R64 to R69). An address that no table names takes no write (notes/assumptions/22.md). -/
def State.regWrite (s : State) (m addr w : Nat) : State :=
  let region := addr / 0x1000000 - 0x40
  let off := addr % 0x1000000
  if addr < 0x40000000 || 0x48000000 ≤ addr || addr % 4 != 0 then s
  else if m = 5 && s.dbgReadOnly then s.errBit region 0
  else if s.regDead m region off then s.errBit region 5
  else if off ≤ 0x10 then s.writeHeader m region off w
  else match selectGroup region off with
    | some g => s.writeSelect m region g w
    | none =>
      if !(mapFields region off).isEmpty then s.writeFields m region w (mapFields region off)
      else match mapWord region off with
        | some (idx, sub, i) => s.writeWord m region idx sub i w
        | none =>
          match region with
          | 0 => s.writeHk m off w
          | 3 => s.writeSense m off w
          | 5 => s.writeField m off w
          | 6 => s.writeRec m off w
          | _ => if region = 7 && s.mlevel m < 3 then s.errBit 7 0
                 else if readOnlyReg region off then s.readOnly region else s

/-- REGISTER_WRITE. -/
def execRegisterWrite (m : Fin 7) (addr : BitVec 32) (w : BitVec 32) (s : State) : Out :=
  .next (s.regWrite m.val addr.toNat w.toNat)

/-- The region of a group's select register. -/
def groupRegion : Nat → Nat
  | 0 => 2 | 1 => 3 | 2 => 5 | 3 => 5 | _ => 0

/-- SELECT_REGISTER_WRITE: the select register of a group (0 cell, 1 analog channel, 2 field pin, 3 safety output, 4 PLL)
written by a master (R53). -/
def execSelectRegisterWrite (m : Fin 7) (group : Fin 5) (v : BitVec 32) (s : State) : Out :=
  .next (if m.val = 5 && s.dbgReadOnly then s.errBit (groupRegion group) 0
    else s.writeSelect m.val (groupRegion group) group v.toNat)

/-! ### A read -/

/-- The word of the mapped fields. -/
def State.fieldsWord (s : State) (m : Nat) (fs : List MapField) : Nat :=
  let sel := (entry s.masters m {}).sel
  fs.foldl (fun a f => a + f.code (s.objView (.master m) f.idx f.sub (sel.chan f.idx)) * 2 ^ f.lo) 0

/-- FIO_CFG shows the pin's owner beside its settings (Table 13-8). -/
def State.extraBits (s : State) (m region off : Nat) : Nat :=
  if region = 5 && off = 0x104 then s.owner ((entry s.masters m {}).sel.fio) % 4 * 4096 else 0

/-- Housekeeping, status registers (Tables 3-4 to 3-6, 11-7, 11-8, 15-13, 18-7). -/
def State.readHk (s : State) (m off : Nat) : Option Nat :=
  let p := (entry s.masters m {}).sel.pll
  match off with
  | 0x40 => some s.mode.cause
  | 0x44 => some s.modeWord
  | 0x48 => some s.mode.straps
  | 0x108 => some (s.clk.pll p).act.word
  | 0x10C => some (s.pllWord p)
  | 0x208 => some s.clkWord
  | 0x20C => some (wrap 32 s.clk.trim)
  | 0x400 => some s.pwrWord
  | 0x580 => some s.fabricWord
  | _ =>
    if 0x700 ≤ off && off < 0x780 && off % 8 = 0 then
      let x := entry s.fab.queues ((off - 0x700) / 8) {}
      some (x.producer + 16 * x.consumer + 128 * b2n x.enable + 256 * x.entries.length + 16384 * b2n x.full)
    else none

/-- Cell, status registers (Tables 7-8 to 7-10, 8-18 to 8-20). -/
def State.readCell (s : State) (m off : Nat) : Option Nat :=
  let c := (entry s.masters m {}).sel.cell
  let x := s.cellAt c
  let told := !x.tel.isEmpty
  match off with
  | 0x108 => some (s.cellWord c)
  | 0x10C => some x.shot.age
  | 0x110 => some ((if told then x.vcap + 65536 * wrap 8 x.temp else 0) + 16777216 * min 255 (s.staleness c s.tick))
  | 0x114 => some ((if told then x.flags else 0) + 65536 * x.gd)
  | 0x300 => some s.selWord
  | 0x304 => some (s.cell.target + 65536 * s.cell.delivered)
  | 0x400 => some s.trunkWord
  | 0x404 => some (s.dpx.epoch + 65536 * s.cell.highest)
  | _ =>
    if 0x500 ≤ off && off < 0x600 && off % 0x20 < 0x10 then some (s.trkWord ((off - 0x500) / 0x20) (off % 0x20 / 4))
    else none

/-- Control and Network, status registers (Tables 5-9, 6-7, 6-8, 9-12, 9-13, 12-7, 15-14 to 15-16). -/
def State.readNet (s : State) (m region off : Nat) : Option Nat :=
  let t := (entry s.masters m {}).time
  match region, off with
  | 1, 0x300 => some s.extWord
  | 1, 0x310 => some s.armWord
  | 1, 0x314 => some s.armCountWord
  | 4, 0x300 => some s.spnWord
  | 4, 0x304 => some (wrap 16 s.spn.phase + 65536 * s.spn.pathMax)
  | 4, 0x404 => some (t.sec / 4294967296)
  | 4, 0x408 => some t.ns
  | 4, 0x40C => some (t.frac + 65536 * t.tag)
  | 4, 0x410 => some s.timeWord
  | 4, 0x414 => some (wrap 32 s.rate)
  | 4, 0x500 => some s.dpxWord
  | 4, 0x504 => some (s.dpx.epoch + 65536 * (match s.dpx.holder with | some h => h.2 | none => 0))
  | 4, 0x508 => some s.ckptSeqShown
  | _, _ => none

/-- Sense, status registers (Tables 10-11, 10-12), with the object whose channels each addresses. -/
def State.readSense (s : State) (m off : Nat) : Option (Nat × Nat × Nat) :=
  let c := (entry s.masters m {}).sel.ain
  let a := s.ain c
  let k := s.conv c
  let v := s.sense
  match off with
  | 0x118 => some (0x4002, 1, wrap 32 (if c ≤ 15 then a.value else (entry v.ints (c - 17) {}).value))
  | 0x11C => some (0x4002, 3, if c ≤ 15 then
      s.ainFlags c % 64 + 256 * flagBits [a.lLost, a.lFrozen, a.lCmp, a.lInj] + 65536 * a.conv.getD 31
    else b2n (entry v.ints (c - 17) {}).ok + 65536 * 31)
  | 0x120 => some (0x4002, 4, if c ≤ 15 then groupDelay (s.RESPONSE c) s.tickNs else 0)
  | 0x124 => some (0x4002, 7, wrap 16 a.res + 65536 * b2n a.resOk + 131072 * a.resMode)
  | 0x128 => some (0x4002, 7, a.resEdge + 65536 * (a.resTick % 65536))
  | 0x12C => some (0x4003, 1, k.st + 256 * k.input.getD (if k.st = 0 then 0 else 31) + 65536 * k.fails)
  | 0x300 => some (0, 0, (if v.phase = 3 then 31 else v.spare) + 32 * v.phase + 128 * v.source + 65536 * satU 16 v.steps)
  | 0x304 => some (0, 0, v.retired)
  | _ => none

/-- Safety/field, status registers (Tables 13-8, 13-9, 14-13, 14-14). -/
def State.readField (s : State) (m off : Nat) : Option Nat :=
  let sel := (entry s.masters m {}).sel
  let o := s.so sel.so
  match off with
  | 0x110 => some (s.pinState sel.fio + 16 * (s.pinDiag sel.fio % 1024) + 65536 * (s.pin sel.fio).amps)
  | 0x208 => some (o.state + 256 * o.diag + 65536 * satU 16 o.tests)
  | 0x308 => some s.outState
  | 0x30C => some (pickVal s.pinsView 3 4).int.toNat
  | 0x310 => some (pickVal s.pinsView 3 5).int.toNat
  | 0x314 => some (pickVal s.pinsView 3 6).int.toNat
  | 0x318 => some (s.lpVolt + 65536 * s.field.lpState + 524288 * b2n s.field.up)
  | 0x31C => some (satU 32 s.field.errors)
  | 0x400 => some s.safetyWord
  | 0x404 => some s.safetyCrc
  | _ => none

/-- Recorder and Security (Tables 16-7, 17-13). -/
def State.readRec (s : State) (m region off : Nat) : Option Nat :=
  let x := entry s.masters m {}
  let half (v : Nat) (high : Bool) : Nat := if high then v / 4294967296 else v % 4294967296
  match region, off with
  | 6, 0x20 => some s.recWord
  | 6, 0x28 => some s.recd.newestHi
  | 6, 0x30 => some s.recd.oldestHi
  | 6, 0x34 => some s.recd.dropped
  | 6, 0x40 => some (half x.cursor false)
  | 6, 0x44 => some (half x.cursor true)
  | 6, 0x48 => some (2 * b2n x.advance)
  | 6, 0x4C => some (half x.win.first false)
  | 6, 0x50 => some (half x.win.first true)
  | 6, 0x54 => some ((x.win.status.foldr (fun e a => e + 4 * a) 0) + 256 * satU 24 x.win.skipped)
  | 7, 0x20 => some s.secWord
  | 7, 0x24 => some (s.lmsNext % 2097152 + 134217728 * s.sec.tokens)
  | 7, 0x28 => some (s.sec.secSvn + 256 * s.sec.fusedSvn + 65536 * s.sec.appMinSvn)
  | _, _ =>
    if region = 6 && 0x64 ≤ off && off ≤ 0x70 then some (entry x.offerData ((off - 0x64) / 4) 0)
    else if region = 6 && 0x100 ≤ off && off < 0x200 then
      let i := (off - 0x100) / 4
      some (ofLe (sliceOf (padTo 64 (entry x.win.folios (i / 16) [])) (4 * (i % 16)) 4))
    else none

/-- Registers whose fields are all written only. -/
def writeOnlyReg (region off : Nat) : Bool :=
  match region with
  | 0 => off = 0x584
  | 5 => [0x114, 0x300, 0x304, 0x408].contains off
  | 6 => off = 0x58 || off = 0x60
  | _ => false

/-- A read that gives a value, or where no table names the address a free value (notes/assumptions/22.md). -/
def State.readValue (s : State) (m : Nat) (v : Option Nat) : State :=
  match v with
  | some x => s.answer m x
  | none => (s.drawn).answer m (s.freeNat % 4294967296)

/-- A read of one channel's register: 0 and ERROR.SEL where the selected channel is none of the object's (R307). -/
def State.readChan (s : State) (m region idx sub v : Nat) : State :=
  if s.channelStatus idx sub (((entry s.masters m {}).sel).chan idx) != stOk then (s.answer m 0).errBit region 3
  else s.answer m v

/-- The reads that take or latch something: semaphores, queues, the first word of a latched pair; none for any other
register. -/
def State.readTake (s : State) (m region off : Nat) : Option State :=
  if region = 0 && 0x600 ≤ off && off < 0x640 then some (s.semAcquire m ((off - 0x600) / 4))
  else if region = 0 && 0x700 ≤ off && off < 0x780 && off % 8 = 4 then some (s.queueTake m ((off - 0x700) / 8))
  else if region = 4 && off = 0x400 then some (s.readTime m)
  else if region = 6 && off = 0x24 then some (s.readNewest m)
  else if region = 6 && off = 0x2C then some (s.readOldest m)
  else none

/-- The reads of the status registers. -/
def State.readStatusReg (s : State) (m region off : Nat) : State :=
  match region with
  | 0 => s.readValue m (s.readHk m off)
  | 2 =>
    if off < 0x300 then (match s.readCell m off with
      | some v => s.readChan m 2 0x3001 1 v
      | none => s.readValue m none)
    else s.readValue m (s.readCell m off)
  | 3 => (match s.readSense m off with
    | some (idx, sub, v) => s.readChan m 3 idx sub v
    | none => s.readValue m none)
  | 5 => s.readValue m (s.readField m off)
  | 6 => s.readValue m (s.readRec m 6 off)
  | 7 => s.readValue m (s.readRec m 7 off)
  | _ => s.readValue m (s.readNet m region off)

/-- A register read by a master: its answer in the master's read port, and what the read does (R53, R65, R68). -/
def State.regRead (s : State) (m addr : Nat) : State :=
  let region := addr / 0x1000000 - 0x40
  let off := addr % 0x1000000
  let sel := (entry s.masters m {}).sel
  if addr < 0x40000000 || 0x48000000 ≤ addr || addr % 4 != 0 then s.readValue m none
  else if s.regDead m region off then s.readFenced m region
  else if s.mlevel m < readLevel region off then (s.answer m 0).errBit region 0
  else if off ≤ 0x10 then s.answer m (s.headerWord region off)
  else match selectGroup region off, mapFields region off, mapWord region off with
    | some g, _, _ => s.answer m (sel.get g)
    | none, f :: fs, _ =>
      if f.idx / 0x1000 == 2 then s.answer m (s.fieldsWord m (f :: fs))
      else s.readChan m region f.idx f.sub (s.fieldsWord m (f :: fs) + s.extraBits m region off)
    | none, [], some (idx, sub, i) => s.answer m (ofLe (sliceOf (s.val idx sub (sel.chan idx)).bytes (4 * i) 4))
    | none, [], none =>
      match s.readTake m region off with
      | some t => t
      | none => if writeOnlyReg region off then (s.answer m 0).errBit region 1 else s.readStatusReg m region off

/-! ### The debug port (R489 to R491) -/

/-- DBG_ACCESS: in a debug session, at its level, a read of a register, a write of one, or the halt of an application core;
the lockstep cores are never halted. In FORMING and STANDBY the session only reads (R491). -/
def execDbgAccess (write : Bool) (addr : BitVec 32) (w : BitVec 32) (halt : Option (Fin 4)) (s : State) : Out :=
  .next (if s.sec.debugLock || s.sec.dbg.isNone then s
    else
      let s := s.mapSec (fun x => { x with jtag := .access, dbg := x.dbg.map (fun d => { d with last := s.now }) })
      let s := match halt with
        | some c =>
          if s.dbgReadOnly then s.errBit 0 0 else s.mapSec (fun x => { x with coresHeld := setBit x.coresHeld c.val })
        | none => if write then s.regWrite 5 addr.toNat w.toNat else s.regRead 5 addr.toNat
      s.mapSec (fun x => { x with tdo := if write || halt.isSome then [] else le 4 (entry s.masters 5 {}).readData }))

end Sys2Proof.Machine
end

