-- ==== Sys2Proof/Machine/Period.lean ====
section
/-! DEFINITION. The tick and the forming period: the points of Table 1-3 and the schedule of Table 1-4, over the operations of
the chapters that own the work (R29, R32, R256; notes/assumptions/22.md says in which order the model does what the tables
leave open). -/
namespace Sys2Proof.Machine

/-! ### The end of a period -/

/-- The control logic is powered. -/
def State.ctlUp (s : State) : Bool := s.powered .ctl

/-- Tick F − 2 does not end without the references of the period (R111). -/
def State.refsDue (s : State) : State :=
  if s.ctlUp && s.k + 2 = s.fp && !s.refsDone then s.slotsFinish.refsSend else s

/-- The snapshots of the law show the values of the period that ends, where its law ran to the end (R123, R146, R275). -/
def State.lawShot (s : State) : State :=
  if s.forming && s.form.refs.isSome then
    let b := s.form.boundary
    s.mapForm (fun f => { f with
      shot := (snapshot b formTys s.formView).bytes, limShot := (snapshot b limTys s.limView).bytes
      balShot := (snapshot b [.octets, .pu32, .octets] s.balView).bytes })
  else s

/-- The work of tick F − 1: publications, setpoints, roll call, shadow check, checkpoint, hand-back (R99, R101, R113, R157,
R256, R267, R426, R444). -/
def State.lastWork (s : State) : State :=
  { s.publishAll.shadowCheck.lawShot.ckptSend.handSend with lastDone := true }

/-- Tick k of the tick that follows: a forming period begins at every multiple of F (R32, R249). -/
def State.nextK (s : State) : Nat := (s.tick + 1) % s.fp

/-- Tick F − 1 does not end without its work. -/
def State.lastDue (s : State) : State := if s.ctlUp && s.nextK = 0 && !s.lastDone then s.lastWork else s

/-- PERIOD_LAST_TICK: the work of tick F − 1, once per period. -/
def execPeriodLastTick (s : State) : Out :=
  .next (if s.ctlUp && s.k + 1 = s.fp && !s.lastDone && !s.edge then s.lastWork else s)

/-! ### The tick edge -/

/-- The time of one tick passes (R93, R329, R336). -/
def State.tickTime (s : State) : State :=
  ({ s with now := s.now + s.tickNs, field := { s.field with slots := 0 } }.slewPlls).runClock (s.tickNs / 8)

/-- The next tick edge: the work left of the tick that ends, the tick number, k, the time, TICK_TAI (R29, R32, R352); at the
end of tick F − 3 the extension slots are judged (R148). -/
def State.advance (s : State) : State :=
  let s := s.refsDue.lastDue.subApply
  let k := s.nextK
  let s := { s with tick := s.tick + 1, k := k }.tickTime.latchTai
  if k = 0 then { s with extDone := false, refsDone := false, lastDone := false }
  else if s.ctlUp && k + 2 = s.fp then s.slotsFinish
  else s

/-! ### The boundary -/

/-- The register writes that waited for the boundary take effect (R49, R66). -/
def State.regApply (s : State) : State :=
  let s := s.ps.regStaged.foldl (fun s w => { s with objs := tput objDefault s.objs w.1 w.2 }) s
  s.mapPs (fun p => { p with regStaged := [] })

/-- A pending entry into FORMING takes effect: the block latch is released, the starting values are set, the law runs its first
period, and a leader chosen from CAND_NEW begins with a valid state (R78, R81, R95, R260). -/
def State.enterForming (s : State) : State :=
  let s := s.mapMode (fun m => { m with pend := none, blockCmp := false, blockCol := false })
  let s := s.armFresh.selectFresh
  (s.lawPeriod true).mapForm (fun f => { f with valid := newLeader s.spn.roster })

/-- The law units of a boundary, after the first boundary of a takeover has restored the checkpoint (R35, R107, R438), or as
the first of FORMING. -/
def State.boundaryLaw (s : State) : State :=
  match s.takeNow with
  | .ready prep => (s.takeRestore prep).lawPeriod false
  | _ => if s.mode.mode == .blocked && s.mode.ripe then s.enterForming else s.lawPeriod false

/-- An entry into FORMING accepted before this boundary is due at it (R75); one accepted at it waits for the next (R50). -/
def State.ripen (s : State) : State := s.mapMode (fun m => { m with pend := m.pend.map (fun _ => { ripe := true }) })

/-- A write of this boundary goes to a field of the gain set of the region in force (R141). -/
def State.gainWritten (s : State) : State :=
  let keys := (List.range 14).map (fun i => objKey (0x2020 + s.law.region) (6 + i) 0)
  let ws := match s.ps.exec with | some ⟨_, .boundary ws⟩ => ws | _ => []
  s.mapForm (fun f => { f with
    gainNew := (s.ps.regStaged.map (·.1) ++ ws.map (fun e => objKey e.index e.sub e.chan)).any keys.contains })

/-- The first work at tick k = 0: the roster and the leader, what the period latches, then the register writes that waited for
the boundary (Table 1-4, R49, R66, R157, R179, R259). -/
def State.boundaryRegs (s : State) : State :=
  (s.takeRoster.elect.activeOnly.periodValues.selectPeriod.promotions).ripen.loadGains.gainWritten.regApply

/-- That work, and after it the object write that waited for the boundary, which reaches the region now (R49, R66). -/
def State.boundaryOpen (s : State) : State := s.boundaryRegs.stagedApply

/-- The rest of the work at tick k = 0 (Table 1-4, R93, R101, R111, R369). -/
def State.boundaryRest (s : State) : State :=
  let s := s.leadCount.applySetpoints.tickLenApply.refsBoundary.closePass
  (s.boundaryLaw.spineClear.settle).mapPs (fun p => { p with opened := false })

/-- The tick edge that begins a forming period, and the first work at it. -/
def State.openPeriod (s : State) : State :=
  let s := s.advance
  if s.ctlUp then s.boundaryOpen else s

/-- Whether the device is in FORMING at the tick edge (R271). -/
def State.edgeMark (s : State) : State := s.mapArm (fun a => { a with edgeForm := s.mode.mode == .forming })

/-- The rest of the boundary. -/
def State.closePeriod (s : State) : State :=
  (if s.ctlUp then s.boundaryRest else s.mapPs (fun p => { p with opened := false })).edgeMark

/-- The tick edge that begins a forming period, with its work. -/
def State.beginPeriod (s : State) : State := s.openPeriod.closePeriod

/-- The next tick edge is that of a boundary and is still to come. -/
def State.atEnd (s : State) : Bool := s.ctlUp && s.nextK = 0 && !s.edge

/-- STAGED_WRITE_APPLY: the boundary at which a waiting write takes effect, up to its response; the rest of the boundary's work
follows with FORMING_PERIOD_BOUNDARY or TICK (R49, R50). -/
def execStagedWriteApply (s : State) : Out :=
  .next (match s.ps.exec with
    | some ⟨_, .boundary _⟩ =>
      if s.atEnd then { s.openPeriod.mapPs (fun p => { p with opened := true }) with edge := true } else s
    | _ => s)

/-- FORMING_PERIOD_BOUNDARY: the tick edge of k = 0 with its work; the points of that tick follow with TICK. -/
def execFormingPeriodBoundary (s : State) : Out :=
  .next (if s.ps.opened then s.closePeriod
    else if s.atEnd then { s.beginPeriod with edge := true } else s)

/-! ### The points of a tick -/

/-- The arm-current channel's frozen window restarts in the first tick whose words the cells apply (R167). -/
def State.windowRestart (s : State) : State :=
  if s.arm.liveAt == some s.tick && s.ARM_I_CH != 255 then s.frozenRestart s.ARM_I_CH else s

/-- AIN_SNAPSHOT of every channel shows the values latched in the tick (0x4002:0A). -/
def State.ainShots (s : State) : State :=
  let shot (c : Nat) : List Nat := (snapshot s.tick ainTys (s.ainView c)).bytes
  s.mapSense (fun v => { v with
    ins := v.ins.zipIdx.map (fun p => { p.1 with shot := shot p.2 })
    ints := v.ints.zipIdx.map (fun p => { p.1 with shot := shot (17 + p.2) }) })

/-- FIO_SNAPSHOT of every pin shows the tick copy and what stands with it (R367, 0x5002:09). -/
def State.pinShots (s : State) : State :=
  { s with field := { s.field with pins := s.field.pins.zipIdx.map (fun p =>
      { p.1 with shot := (snapshot s.tick pinTys (s.pinView p.2)).bytes }) } }

/-- The latch point (Table 1-3): decimators, telemetry, field copies, and where a hand-back is under way the mirrored count. -/
def State.latchPoint (s : State) (codes : List (List Int)) : State :=
  ((s.senseLatch s.tick codes).windowRestart.ainShots.cellLatch s.tick).tickCopy.pinShots.handCount

/-- The 256 words as the frames of the tick carry them (R28, R442). -/
def State.sentWords (s : State) (words : List Nat) (block : Bool) : List Nat :=
  (List.range 8).flatMap (fun q => s.quireWords q words (block || s.cell.final.contains q))

/-- ARM_SNAPSHOT shows the values of the tick whose count has been set (R172). -/
def State.armShot (s : State) : State :=
  s.mapArm (fun a => { a with shot := (snapshot a.snapTick armTys s.armView).bytes })

/-- The count, share, selection and issue points of a device that commands its cells, and what it sends after them
(R29, R155 to R162, R190, R204, R271, R442). -/
def State.commandPoints (s : State) (codes : List (List Int)) : State :=
  let (x, s) := s.armTick
  let s := s.armShot.issueEdges s.tick codes
  let block := s.blockLine
  let x := { x with block := x.block || block, armBlock := x.armBlock || block }
  let (s, words) := s.selectTick s.tick x.t x.block x.hold
  let sent := s.sentWords words block
  (((s.issue s.tick words block).armAfter x).mirrorSend x.t sent).handJudge

/-- A returning device in the window of a hand-back runs its arm law and commands nothing; its cells follow the mirror
(R444). -/
def State.shadowPoints (s : State) : State :=
  let (_, t) := s.armTick
  t.armShot.mapCellS (fun c => { c with ims := s.cell.ims })

/-- The points after the latch. In STANDBY and while a takeover goes on no cell is commanded (Table 3-2, R436). -/
def State.points (s : State) (codes : List (List Int)) : State :=
  if s.mode.mode == .standby || s.takingOver then s.issueEdges s.tick codes
  else if s.dpx.hbIn then (if s.mode.mode == .forming then s.shadowPoints else s).issueEdges s.tick codes
  else s.commandPoints codes

/-- The points of the present tick (Table 1-3): marker, latch, count, share, selection, issue, and what waited on them. -/
def State.tickPoints (s : State) (codes : List (List Int)) : State :=
  ((s.markerTick.latchPoint codes).pubLatch.points codes).settle

/-- TICK: the next tick edge, where FORMING_PERIOD_BOUNDARY has not taken it, and the points of the tick. codes are the
codes of each input's converter on the edges of the tick that ends, and after them on the edges of the tick that begins, of
which those that the issue point still meets are taken (notes/assumptions/135.md). -/
def State.tickStep (s : State) (codes : List (List Int)) : State :=
  let s := if s.ps.opened then s.closePeriod else if s.edge then s else if s.nextK = 0 then s.beginPeriod
    else s.advance.edgeMark
  let s := { s with edge := false }
  if s.ctlUp then s.tickPoints codes else s

/-- TICK (R29). -/
def execTick (codes : List (List Int)) (s : State) : Out := .next (s.tickStep codes)

end Sys2Proof.Machine
end

