-- ==== Sys2Proof/Machine/Dispatch.lean ====
section
/-! DEFINITION. The meaning of every command: one arm per constructor of Instr. -/
namespace Sys2Proof.Machine

def exec (i : Instr) (s : State) : Host.Outcome State Fault Refusal :=
  match i with
  | .psDatagram door rct src sport data => Sys2Proof.Machine.execPsDatagram door rct src sport data s
  | .readRequest => Sys2Proof.Machine.execReadRequest s
  | .writeRequest => Sys2Proof.Machine.execWriteRequest s
  | .readBlock => Sys2Proof.Machine.execReadBlock s
  | .writeBlock => Sys2Proof.Machine.execWriteBlock s
  | .describeRequest => Sys2Proof.Machine.execDescribeRequest s
  | .helloRequest => Sys2Proof.Machine.execHelloRequest s
  | .openSession => Sys2Proof.Machine.execOpenSession s
  | .closeSession => Sys2Proof.Machine.execCloseSession s
  | .claimOwner => Sys2Proof.Machine.execClaimOwner s
  | .stagedWriteApply => Sys2Proof.Machine.execStagedWriteApply s
  | .clientStateExpiry src sport => Sys2Proof.Machine.execClientStateExpiry src sport s
  | .runStart level n => Sys2Proof.Machine.execRunStart level n s
  | .runStop level n => Sys2Proof.Machine.execRunStop level n s
  | .startCheckDone n memOk => Sys2Proof.Machine.execStartCheckDone n memOk s
  | .stopComplete n => Sys2Proof.Machine.execStopComplete n s
  | .modeRequestCommission level => Sys2Proof.Machine.execModeRequestCommission level s
  | .modeRequestBlocked level => Sys2Proof.Machine.execModeRequestBlocked level s
  | .modeRequestForming level => Sys2Proof.Machine.execModeRequestForming level s
  | .applicationResetCommand level => Sys2Proof.Machine.execApplicationResetCommand level s
  | .systemResetCommand level => Sys2Proof.Machine.execSystemResetCommand level s
  | .configCommit level => Sys2Proof.Machine.execConfigCommit level s
  | .configCommitDone => Sys2Proof.Machine.execConfigCommitDone s
  | .tickLengthWrite level v => Sys2Proof.Machine.execTickLengthWrite level v s
  | .stationSetpointWrite level sub value => Sys2Proof.Machine.execStationSetpointWrite level sub value s
  | .failNow level c => Sys2Proof.Machine.execFailNow level c s
  | .failReasonWrite level c v => Sys2Proof.Machine.execFailReasonWrite level c v s
  | .gdVerify level => Sys2Proof.Machine.execGdVerify level s
  | .injCommand level c => Sys2Proof.Machine.execInjCommand level c s
  | .clkCommit level => Sys2Proof.Machine.execClkCommit level s
  | .timeSet level sec ns => Sys2Proof.Machine.execTimeSet level sec ns s
  | .outSet level mask => Sys2Proof.Machine.execOutSet level mask s
  | .outClear level mask => Sys2Proof.Machine.execOutClear level mask s
  | .pinClear level p => Sys2Proof.Machine.execPinClear level p s
  | .forceWrite level p v => Sys2Proof.Machine.execForceWrite level p v s
  | .safeReset level => Sys2Proof.Machine.execSafeReset level s
  | .safetyConfirm level v => Sys2Proof.Machine.execSafetyConfirm level v s
  | .safetySetWrite session level idx sub chan value => Sys2Proof.Machine.execSafetySetWrite session level idx sub chan value s
  | .protSetWrite session level sub value => Sys2Proof.Machine.execProtSetWrite session level sub value s
  | .protStart level => Sys2Proof.Machine.execProtStart level s
  | .attestRequest session level nonce okA okB => Sys2Proof.Machine.execAttestRequest session level nonce okA okB s
  | .attestSigned => Sys2Proof.Machine.execAttestSigned s
  | .ownerKeysWrite session level data => Sys2Proof.Machine.execOwnerKeysWrite session level data s
  | .credMinGenWrite session level v => Sys2Proof.Machine.execCredMinGenWrite session level v s
  | .fuseSvn level v => Sys2Proof.Machine.execFuseSvn level v s
  | .appMinSvnWrite session level v => Sys2Proof.Machine.execAppMinSvnWrite session level v s
  | .debugLockSet level v => Sys2Proof.Machine.execDebugLockSet level v s
  | .sessionClose level id => Sys2Proof.Machine.execSessionClose level id s
  | .switchover level => Sys2Proof.Machine.execSwitchover level s
  | .recorderClear session level value => Sys2Proof.Machine.execRecorderClear session level value s
  | .windowSnapshot m => Sys2Proof.Machine.execWindowSnapshot m s
  | .registerWrite m addr w => Sys2Proof.Machine.execRegisterWrite m addr w s
  | .selectRegisterWrite m group v => Sys2Proof.Machine.execSelectRegisterWrite m group v s
  | .errorClear m region mask => Sys2Proof.Machine.execErrorClear m region mask s
  | .unfence m region b => Sys2Proof.Machine.execUnfence m region b s
  | .fenceSelftestDone region b ok => Sys2Proof.Machine.execFenceSelftestDone region b ok s
  | .semAcquire m sem => Sys2Proof.Machine.execSemAcquire m sem s
  | .semRelease m sem => Sys2Proof.Machine.execSemRelease m sem s
  | .semRenew m sem => Sys2Proof.Machine.execSemRenew m sem s
  | .queuePost m q w => Sys2Proof.Machine.execQueuePost m q w s
  | .queueTake m q => Sys2Proof.Machine.execQueueTake m q s
  | .recOffer core code warn => Sys2Proof.Machine.execRecOffer core code warn s
  | .timeSecLoRead m => Sys2Proof.Machine.execTimeSecLoRead m s
  | .recNewestLoRead m => Sys2Proof.Machine.execRecNewestLoRead m s
  | .recOldestLoRead m => Sys2Proof.Machine.execRecOldestLoRead m s
  | .dbgChallenge => Sys2Proof.Machine.execDbgChallenge s
  | .dbgResponse cred sig => Sys2Proof.Machine.execDbgResponse cred sig s
  | .dbgAccess write addr w halt => Sys2Proof.Machine.execDbgAccess write addr w halt s
  | .dbgReset => Sys2Proof.Machine.execDbgReset s
  | .dbgEnd => Sys2Proof.Machine.execDbgEnd s
  | .extest pins tdi => Sys2Proof.Machine.execExtest pins tdi s
  | .idcode => Sys2Proof.Machine.execIdcode s
  | .bypass tdi => Sys2Proof.Machine.execBypass tdi s
  | .samplePreload pins tdi => Sys2Proof.Machine.execSamplePreload pins tdi s
  | .dbgLockoutEnd => Sys2Proof.Machine.execDbgLockoutEnd s
  | .dbgIdleTimeout => Sys2Proof.Machine.execDbgIdleTimeout s
  | .powerOnReset va vb => Sys2Proof.Machine.execPowerOnReset va vb s
  | .sysResetN low => Sys2Proof.Machine.execSysResetN low s
  | .hkWatchdogExpiry => Sys2Proof.Machine.execHkWatchdogExpiry s
  | .appWatchdogExpiry core => Sys2Proof.Machine.execAppWatchdogExpiry core s
  | .bootSequence x => Sys2Proof.Machine.execBootSequence x s
  | .dpxListenWindowEnd => Sys2Proof.Machine.execDpxListenWindowEnd s
  | .firmwareVerify => Sys2Proof.Machine.execFirmwareVerify s
  | .feedStateChange p mv => Sys2Proof.Machine.execFeedStateChange p mv s
  | .vdd3v3Check mv => Sys2Proof.Machine.execVdd3v3Check mv s
  | .pmbusPoll ans => Sys2Proof.Machine.execPmbusPoll ans s
  | .pmbAlert => Sys2Proof.Machine.execPmbAlert s
  | .tick codes => Sys2Proof.Machine.execTick codes s
  | .formingPeriodBoundary => Sys2Proof.Machine.execFormingPeriodBoundary s
  | .extSlotsRun => Sys2Proof.Machine.execExtSlotsRun s
  | .extSlotOverrun => Sys2Proof.Machine.execExtSlotOverrun s
  | .extRestoreReached => Sys2Proof.Machine.execExtRestoreReached s
  | .refsSend => Sys2Proof.Machine.execRefsSend s
  | .periodLastTick => Sys2Proof.Machine.execPeriodLastTick s
  | .markerMsg p header data arrival => Sys2Proof.Machine.execMarkerMsg p header data arrival s
  | .shareMsg p header data late => Sys2Proof.Machine.execShareMsg p header data late s
  | .spanReport p header data late => Sys2Proof.Machine.execSpanReport p header data late s
  | .armState p header data late => Sys2Proof.Machine.execArmState p header data late s
  | .rollCall p header data late => Sys2Proof.Machine.execRollCall p header data late s
  | .spanPub p header data late => Sys2Proof.Machine.execSpanPub p header data late s
  | .measMsg p header data late => Sys2Proof.Machine.execMeasMsg p header data late s
  | .setpointMsg p header data late => Sys2Proof.Machine.execSetpointMsg p header data late s
  | .refsMsg p header data late => Sys2Proof.Machine.execRefsMsg p header data late s
  | .stateMsg p header data late => Sys2Proof.Machine.execStateMsg p header data late s
  | .spineEcho p header data hold => Sys2Proof.Machine.execSpineEcho p header data hold s
  | .spineEchoReply p header data rx => Sys2Proof.Machine.execSpineEchoReply p header data rx s
  | .segmentMeasure p => Sys2Proof.Machine.execSegmentMeasure p s
  | .spinePortLockLost p => Sys2Proof.Machine.execSpinePortLockLost p s
  | .spinePortRestored p => Sys2Proof.Machine.execSpinePortRestored p s
  | .markerWaitExpiry => Sys2Proof.Machine.execMarkerWaitExpiry s
  | .markerMissing => Sys2Proof.Machine.execMarkerMissing s
  | .markerLossTrip => Sys2Proof.Machine.execMarkerLossTrip s
  | .tickLockAcquired => Sys2Proof.Machine.execTickLockAcquired s
  | .shareMissing => Sys2Proof.Machine.execShareMissing s
  | .shareMissTrip => Sys2Proof.Machine.execShareMissTrip s
  | .reportMissingTrip => Sys2Proof.Machine.execReportMissingTrip s
  | .armStateMissing => Sys2Proof.Machine.execArmStateMissing s
  | .leadWaitExpiry => Sys2Proof.Machine.execLeadWaitExpiry s
  | .refsLostTrip => Sys2Proof.Machine.execRefsLostTrip s
  | .substituteLimitExpiry => Sys2Proof.Machine.execSubstituteLimitExpiry s
  | .primaryRestore => Sys2Proof.Machine.execPrimaryRestore s
  | .shadowMismatchLimit => Sys2Proof.Machine.execShadowMismatchLimit s
  | .shadowMatchRestore => Sys2Proof.Machine.execShadowMatchRestore s
  | .syncTimeout => Sys2Proof.Machine.execSyncTimeout s
  | .syncFbTimeout => Sys2Proof.Machine.execSyncFbTimeout s
  | .syncDwellElapsed => Sys2Proof.Machine.execSyncDwellElapsed s
  | .syncPulseEnd => Sys2Proof.Machine.execSyncPulseEnd s
  | .settleDwellElapsed => Sys2Proof.Machine.execSettleDwellElapsed s
  | .bsRampComplete => Sys2Proof.Machine.execBsRampComplete s
  | .bsStallExpiry => Sys2Proof.Machine.execBsStallExpiry s
  | .rideEntry => Sys2Proof.Machine.execRideEntry s
  | .rideTClearElapsed => Sys2Proof.Machine.execRideTClearElapsed s
  | .recoverComplete => Sys2Proof.Machine.execRecoverComplete s
  | .rideTMaxExpiry => Sys2Proof.Machine.execRideTMaxExpiry s
  | .regionDwellExpiry => Sys2Proof.Machine.execRegionDwellExpiry s
  | .refreshDue c => Sys2Proof.Machine.execRefreshDue c s
  | .bsRecoverTimeout c => Sys2Proof.Machine.execBsRecoverTimeout c s
  | .dwellExpiry c => Sys2Proof.Machine.execDwellExpiry c s
  | .swPeriodEnd => Sys2Proof.Machine.execSwPeriodEnd s
  | .telStaleExceeded c => Sys2Proof.Machine.execTelStaleExceeded c s
  | .telLost c => Sys2Proof.Machine.execTelLost c s
  | .appliedMismatchLimit c => Sys2Proof.Machine.execAppliedMismatchLimit c s
  | .uplinkFrame q head words => Sys2Proof.Machine.execUplinkFrame q head words s
  | .trunkEchoReply q sent hold rt => Sys2Proof.Machine.execTrunkEchoReply q sent hold rt s
  | .delayAck q aligned => Sys2Proof.Machine.execDelayAck q aligned s
  | .cellDelays q ds => Sys2Proof.Machine.execCellDelays q ds s
  | .hubInfo q data => Sys2Proof.Machine.execHubInfo q data s
  | .hubAlarm q code detail => Sys2Proof.Machine.execHubAlarm q code detail s
  | .mgmtRequestTimeout q => Sys2Proof.Machine.execMgmtRequestTimeout q s
  | .trunkTrainComplete q locked => Sys2Proof.Machine.execTrunkTrainComplete q locked s
  | .trunkMeasureComplete q => Sys2Proof.Machine.execTrunkMeasureComplete q s
  | .trunkAlignComplete q => Sys2Proof.Machine.execTrunkAlignComplete q s
  | .trunkVerifyComplete q => Sys2Proof.Machine.execTrunkVerifyComplete q s
  | .trunkRetryExpiry q => Sys2Proof.Machine.execTrunkRetryExpiry q s
  | .trunkBlockLockLost q down => Sys2Proof.Machine.execTrunkBlockLockLost q down s
  | .trunkLeavesUp q => Sys2Proof.Machine.execTrunkLeavesUp q s
  | .mailboxReadTimeout c => Sys2Proof.Machine.execMailboxReadTimeout c s
  | .periodicReadback q => Sys2Proof.Machine.execPeriodicReadback q s
  | .senseCalibrationDone temp cal => Sys2Proof.Machine.execSenseCalibrationDone temp cal s
  | .historyFilled c codes => Sys2Proof.Machine.execHistoryFilled c codes s
  | .rotationHandover => Sys2Proof.Machine.execRotationHandover s
  | .switchEdge sumX sumS => Sys2Proof.Machine.execSwitchEdge sumX sumS s
  | .handoverDeferralLimit => Sys2Proof.Machine.execHandoverDeferralLimit s
  | .calibrateComplete offset gain converged => Sys2Proof.Machine.execCalibrateComplete offset gain converged s
  | .internalChannelConverted ch v => Sys2Proof.Machine.execInternalChannelConverted ch v s
  | .comparatorCrossing c codes => Sys2Proof.Machine.execComparatorCrossing c codes s
  | .comparatorRelease c => Sys2Proof.Machine.execComparatorRelease c s
  | .frozenWindowEnd c => Sys2Proof.Machine.execFrozenWindowEnd c s
  | .saturationLost c codes => Sys2Proof.Machine.execSaturationLost c codes s
  | .saturationClear c => Sys2Proof.Machine.execSaturationClear c s
  | .testInjection c => Sys2Proof.Machine.execTestInjection c s
  | .ainTrigEdge rising => Sys2Proof.Machine.execAinTrigEdge rising s
  | .injectedSampleDone c codes code => Sys2Proof.Machine.execInjectedSampleDone c codes code s
  | .referenceLost => Sys2Proof.Machine.execReferenceLost s
  | .referencePresent => Sys2Proof.Machine.execReferencePresent s
  | .pllLock p => Sys2Proof.Machine.execPllLock p s
  | .pllLockLost p => Sys2Proof.Machine.execPllLockLost p s
  | .acquisitionTimeout p => Sys2Proof.Machine.execAcquisitionTimeout p s
  | .freqMonitorWindow p err => Sys2Proof.Machine.execFreqMonitorWindow p err s
  | .referenceLoss10s => Sys2Proof.Machine.execReferenceLoss10s s
  | .backupSwitchDone p => Sys2Proof.Machine.execBackupSwitchDone p s
  | .backupTrim p => Sys2Proof.Machine.execBackupTrim p s
  | .monitorRatioMeasure ppm => Sys2Proof.Machine.execMonitorRatioMeasure ppm s
  | .relockFDone e => Sys2Proof.Machine.execRelockFDone e s
  | .relockPDone p => Sys2Proof.Machine.execRelockPDone p s
  | .backupReturn p => Sys2Proof.Machine.execBackupReturn p s
  | .heldCommitApply => Sys2Proof.Machine.execHeldCommitApply s
  | .ptpSync p domain seq twoStep t1 capture corr => Sys2Proof.Machine.execPtpSync p domain seq twoStep t1 capture corr s
  | .ptpFollowUp p domain seq t1 corr => Sys2Proof.Machine.execPtpFollowUp p domain seq t1 corr s
  | .ptpAnnounce p domain f => Sys2Proof.Machine.execPtpAnnounce p domain f s
  | .ptpPdelay p domain msg => Sys2Proof.Machine.execPtpPdelay p domain msg s
  | .pdelayReqSend p capture => Sys2Proof.Machine.execPdelayReqSend p capture s
  | .ptpMasterSend ca cb => Sys2Proof.Machine.execPtpMasterSend ca cb s
  | .announceTimeout p => Sys2Proof.Machine.execAnnounceTimeout p s
  | .syncLoss => Sys2Proof.Machine.execSyncLoss s
  | .holdoverExpiry => Sys2Proof.Machine.execHoldoverExpiry s
  | .secondRollover => Sys2Proof.Machine.execSecondRollover s
  | .mdioLinkPoll p up => Sys2Proof.Machine.execMdioLinkPoll p up s
  | .prpSupervisionSend => Sys2Proof.Machine.execPrpSupervisionSend s
  | .prpSupervisionReceived src => Sys2Proof.Machine.execPrpSupervisionReceived src s
  | .barrierFrame levels volts amps so crc => Sys2Proof.Machine.execBarrierFrame levels volts amps so crc s
  | .barrierLinkDown => Sys2Proof.Machine.execBarrierLinkDown s
  | .barrierLinkRestored => Sys2Proof.Machine.execBarrierLinkRestored s
  | .inputDebounceChange p => Sys2Proof.Machine.execInputDebounceChange p s
  | .outputOverload p => Sys2Proof.Machine.execOutputOverload p s
  | .outputThermal p => Sys2Proof.Machine.execOutputThermal p s
  | .outputRetry p => Sys2Proof.Machine.execOutputRetry p s
  | .overloadFlagClear p => Sys2Proof.Machine.execOverloadFlagClear p s
  | .wireBreak p broken => Sys2Proof.Machine.execWireBreak p broken s
  | .outputDiagTimer p d present => Sys2Proof.Machine.execOutputDiagTimer p d present s
  | .pinReversed p low => Sys2Proof.Machine.execPinReversed p low s
  | .lpSample mv => Sys2Proof.Machine.execLpSample mv s
  | .lpRestore => Sys2Proof.Machine.execLpRestore s
  | .safetyCycle => Sys2Proof.Machine.execSafetyCycle s
  | .protItemLatch item => Sys2Proof.Machine.execProtItemLatch item s
  | .discrepancyTimeout inp => Sys2Proof.Machine.execDiscrepancyTimeout inp s
  | .intlkDwellElapsed => Sys2Proof.Machine.execIntlkDwellElapsed s
  | .lockstepMismatch => Sys2Proof.Machine.execLockstepMismatch s
  | .lockstepSelftestFail => Sys2Proof.Machine.execLockstepSelftestFail s
  | .soSwitchOnStep n => Sys2Proof.Machine.execSoSwitchOnStep n s
  | .soTestPulseDue n => Sys2Proof.Machine.execSoTestPulseDue n s
  | .soPulseEnd n => Sys2Proof.Machine.execSoPulseEnd n s
  | .soDiagTimer n which present => Sys2Proof.Machine.execSoDiagTimer n which present s
  | .safetyFrame p rct src bytes => Sys2Proof.Machine.execSafetyFrame p rct src bytes s
  | .slProduce c => Sys2Proof.Machine.execSlProduce c s
  | .slWatchdogExpiry c => Sys2Proof.Machine.execSlWatchdogExpiry c s
  | .beatSend => Sys2Proof.Machine.execBeatSend s
  | .beatMsg seq tick epoch dev mode flags crc => Sys2Proof.Machine.execBeatMsg seq tick epoch dev mode flags crc s
  | .ckpt f seq idx data => Sys2Proof.Machine.execCkpt f seq idx data s
  | .mirror f tick target count nc im out words => Sys2Proof.Machine.execMirror f tick target count nc im out words s
  | .handback f b epoch => Sys2Proof.Machine.execHandback f b epoch s
  | .statusSend => Sys2Proof.Machine.execStatusSend s
  | .statusMsg f state flags beat hold ckpt run cfg dev => Sys2Proof.Machine.execStatusMsg f state flags beat hold ckpt run cfg dev s
  | .hbAck f b result => Sys2Proof.Machine.execHbAck f b result s
  | .dpxLinkDown => Sys2Proof.Machine.execDpxLinkDown s
  | .holderLeaseExpiry beat => Sys2Proof.Machine.execHolderLeaseExpiry beat s
  | .yieldReset => Sys2Proof.Machine.execYieldReset s
  | .storeLeaseExpiry x => Sys2Proof.Machine.execStoreLeaseExpiry x s
  | .livenessCheck => Sys2Proof.Machine.execLivenessCheck s
  | .takeoverBringupDone => Sys2Proof.Machine.execTakeoverBringupDone s
  | .coldAcquisition => Sys2Proof.Machine.execColdAcquisition s
  | .preparedEntry x => Sys2Proof.Machine.execPreparedEntry x s
  | .warmReached => Sys2Proof.Machine.execWarmReached s
  | .handbackModeEntry => Sys2Proof.Machine.execHandbackModeEntry s
  | .handbackEpochRaise => Sys2Proof.Machine.execHandbackEpochRaise s
  | .handbackTransfer => Sys2Proof.Machine.execHandbackTransfer s
  | .holderOutputRelease => Sys2Proof.Machine.execHolderOutputRelease s
  | .powerDownColdComplete => Sys2Proof.Machine.execPowerDownColdComplete s
  | .eventOffer evs => Sys2Proof.Machine.execEventOffer evs s
  | .folioWrite a => Sys2Proof.Machine.execFolioWrite a s
  | .lmsTokenRefill => Sys2Proof.Machine.execLmsTokenRefill s
  | .helloExpiry => Sys2Proof.Machine.execHelloExpiry s
  | .sessionTimeout id => Sys2Proof.Machine.execSessionTimeout id s
  | .syncTimeStore => Sys2Proof.Machine.execSyncTimeStore s
  | .uncorrectableError region b kind boundary => Sys2Proof.Machine.execUncorrectableError region b kind boundary s
  | .parityError region b nth => Sys2Proof.Machine.execParityError region b nth s
  | .eccCorrected region => Sys2Proof.Machine.execEccCorrected region s
  | .handshakeTimeout core => Sys2Proof.Machine.execHandshakeTimeout core s
  | .semLeaseExpiry sem => Sys2Proof.Machine.execSemLeaseExpiry sem s
  | .queueStall q => Sys2Proof.Machine.execQueueStall q s
  | .referenceQualifying => Sys2Proof.Machine.execReferenceQualifying s
  | .conductingFeedChange va vb => Sys2Proof.Machine.execConductingFeedChange va vb s
  | .outputCooled p => Sys2Proof.Machine.execOutputCooled p s
  | .applicationFrame p rct nbits => Sys2Proof.Machine.execApplicationFrame p rct nbits s

end Sys2Proof.Machine
end

