-- ==== Sys2Proof/Safety.lean ====
section
/-! DEFINITION. What holds of every state that a run from reset can reach, in the terms that the statements use. -/
namespace Sys2Proof.Machine

/-- A sparse table is in canonical form: keys strictly rising, and no entry equal to what an unlisted key reads as. -/
def tcanon {α : Type} [DecidableEq α] (dflt : Nat → α) (t : List (Nat × α)) : Prop :=
  tsorted t = true ∧ ∀ e ∈ t, e.2 ≠ dflt e.1

/-- The stored configuration record, where there is one, is in canonical form. -/
def storedCanon : Option Stored → Prop
  | some r => tcanon objDefault r.objs
  | none => True

/-- The sparse stores are in canonical form: the live objects, the stored record, the slots of the memory die. -/
def State.Canon (s : State) : Prop :=
  tcanon objDefault s.objs ∧ storedCanon s.stored ∧ tcanon (fun _ => Slot.empty) s.recd.ring

/-- How many entries each register file has. -/
def State.shape (s : State) : List Nat :=
  [s.hdrs.length, s.masters.length, s.cell.cells.length, s.cell.trunks.length, s.field.pins.length, s.sense.ins.length,
   s.sense.convs.length, s.sense.ints.length, s.safe.ins.length, s.safe.outs.length, s.safe.conns.length, s.fab.sems.length,
   s.fab.queues.length, s.fab.policers.length]

/-- Every register file has its entries: 9 region headers (Table 2-12), 7 bus masters (R53), 256 cells (R176), 8 trunks (R200),
32 pins (R357), 16 inputs, 17 converters and 8 internal channels (R278, Table 10-4), 8 safety inputs, 4 safety outputs and 8
connections (R384, R394, R405), 16 semaphores and 16 queues (R504, R517), 2 policers (R503). -/
def State.Shape (s : State) : Prop := s.shape = [9, 7, 256, 8, 32, 16, 17, 8, 8, 4, 8, 16, 16, 2]

/-- The device is in SAFE or in BOOT, the modes that only a reset and the boot sequence lead out of (R87, Table 3-7). -/
def State.Shut (s : State) : Prop := s.mode.mode = .safe ∨ s.mode.mode = .boot

/-- A command runs to a next state, and the next state is as said. -/
def Completes (c : Instr) (s : State) (P : State → Prop) : Prop := ∃ t, exec c s = .next t ∧ P t

/-- A request without a session, or of a live session with a counter above the last one executed (R40). -/
def State.newIn (s : State) (r : Request) : Prop :=
  r.session = 0 ∨ ∃ x, s.session r.session = some x ∧ x.counter < r.counter

/-- The service is idle but for one new waiting request with a code, on a port whose line is up. -/
def State.sole (s : State) (r : Request) (code : Nat) : Prop :=
  s.ps.exec = none ∧ s.ps.queue = [r] ∧ s.newIn r ∧ r.code = code ∧ s.netUp r.port = true

/-- The request has left the queue and its response with a payload (R38, R43) is the newest thing sent. -/
def answered (s t : State) (r : Request) (payload : List Nat) : Prop :=
  t.ps.queue = [] ∧ t.ps.exec = none ∧
    t.tx = .service r.port r.dst r.src r.sport (responseBytes s.device r r.key payload) :: s.tx

/-- A fault of class TRIP that faults a function has had its effect: the function is FAULTED, the fault collector holds the
block, and FORMING is left (R19, R27, R60, R79). -/
def State.tripped (t : State) (n : Fn) : Prop := t.run n = .faulted ∧ t.mode.blockCol = true ∧ t.mode.mode ≠ .forming

/-- A spine message of a type received on a port is the first copy of its item from another device of the station, whole, and
in its time (R241 to R245, R261); late messages are not. -/
def State.hears (s : State) (type item : Nat) (header : BitVec 64) (data : List Nat) (inTime : Nat → Bool) : Prop :=
  s.spineUsable type header.toNat data = true ∧ s.firstCopy (spineParse header.toNat) item = true ∧
    inTime (spineParse header.toNat).tick = true

/-- The parts of the machine, one per field of State, in their order. -/
inductive Part where
  /-- the waiting commands -/
  | pending
  /-- the time -/
  | now
  /-- the tick number (R29) -/
  | tick
  /-- the tick of the period (R30) -/
  | k
  /-- the tick edge taken -/
  | edge
  /-- extension slots run -/
  | extDone
  /-- references sent -/
  | refsDone
  /-- work of tick F − 1 done -/
  | lastDone
  /-- free values drawn -/
  | freeCount
  /-- the device number (R5) -/
  | device
  /-- the station number (R5) -/
  | station
  /-- live values of the objects (R45) -/
  | objs
  /-- the stored configuration (R92) -/
  | stored
  /-- a commit in progress (R92) -/
  | commitAt
  /-- run states (R57) -/
  | fns
  /-- region headers (R62) -/
  | hdrs
  /-- bus masters (R53) -/
  | masters
  /-- parameter service (R37) -/
  | ps
  /-- modes, resets, boot, active warnings (R69) -/
  | mode
  /-- the recorder (R447) -/
  | recd
  /-- security (R470) -/
  | sec
  /-- the fabric (R494) -/
  | fab
  /-- feeds and domains (R418) -/
  | pwr
  /-- duplex operation (R424) -/
  | dpx
  /-- forming law (R97) -/
  | form
  /-- arm law (R153) -/
  | arm
  /-- the spine (R237) -/
  | spn
  /-- cells, selector, trunks (R176, R200) -/
  | cell
  /-- the Sense region (R278) -/
  | sense
  /-- clocks (R310) -/
  | clk
  /-- network time (R336) -/
  | time
  /-- the field group (R357) -/
  | field
  /-- safety functions (R384) -/
  | safe
  /-- what has left the device -/
  | tx
deriving DecidableEq, Repr

/-- The number of a part. -/
def Part.ix : Part → Nat
  | .pending => 0
  | .now => 1
  | .tick => 2
  | .k => 3
  | .edge => 4
  | .extDone => 5
  | .refsDone => 6
  | .lastDone => 7
  | .freeCount => 8
  | .device => 9
  | .station => 10
  | .objs => 11
  | .stored => 12
  | .commitAt => 13
  | .fns => 14
  | .hdrs => 15
  | .masters => 16
  | .ps => 17
  | .mode => 18
  | .recd => 19
  | .sec => 20
  | .fab => 21
  | .pwr => 22
  | .dpx => 23
  | .form => 24
  | .arm => 25
  | .spn => 26
  | .cell => 27
  | .sense => 28
  | .clk => 29
  | .time => 30
  | .field => 31
  | .safe => 32
  | .tx => 33

/-- Two states agree in a part. -/
def Part.same : Part → State → State → Prop
  | .pending, s, t => t.pending = s.pending
  | .now, s, t => t.now = s.now
  | .tick, s, t => t.tick = s.tick
  | .k, s, t => t.k = s.k
  | .edge, s, t => t.edge = s.edge
  | .extDone, s, t => t.extDone = s.extDone
  | .refsDone, s, t => t.refsDone = s.refsDone
  | .lastDone, s, t => t.lastDone = s.lastDone
  | .freeCount, s, t => t.freeCount = s.freeCount
  | .device, s, t => t.device = s.device
  | .station, s, t => t.station = s.station
  | .objs, s, t => t.objs = s.objs
  | .stored, s, t => t.stored = s.stored
  | .commitAt, s, t => t.commitAt = s.commitAt
  | .fns, s, t => t.fns = s.fns
  | .hdrs, s, t => t.hdrs = s.hdrs
  | .masters, s, t => t.masters = s.masters
  | .ps, s, t => t.ps = s.ps
  | .mode, s, t => t.mode = s.mode
  | .recd, s, t => t.recd = s.recd
  | .sec, s, t => t.sec = s.sec
  | .fab, s, t => t.fab = s.fab
  | .pwr, s, t => t.pwr = s.pwr
  | .dpx, s, t => t.dpx = s.dpx
  | .form, s, t => t.form = s.form
  | .arm, s, t => t.arm = s.arm
  | .spn, s, t => t.spn = s.spn
  | .cell, s, t => t.cell = s.cell
  | .sense, s, t => t.sense = s.sense
  | .clk, s, t => t.clk = s.clk
  | .time, s, t => t.time = s.time
  | .field, s, t => t.field = s.field
  | .safe, s, t => t.safe = s.safe
  | .tx, s, t => t.tx = s.tx

/-- The parts that every command listed under a row of the table may change and no other: its own registers, and what its
consequences change (an event goes to the recorder; a warning or a trip also to the mode part; a trip ends FORMING; a fault of a
function stops its dependents, R61; a reset sets every domain, R84). -/
def footprint : Instr → List Part
  | .psDatagram _ _ _ _ _ | .describeRequest | .closeSession =>
    [.freeCount, .ps, .recd, .fab, .tx]
  | .readRequest | .readBlock =>
    [.freeCount, .masters, .ps, .recd, .fab, .tx]
  | .writeRequest | .writeBlock =>
    [.tick, .k, .edge, .extDone, .refsDone, .lastDone, .freeCount, .objs, .commitAt, .fns, .hdrs, .masters, .ps, .mode,
     .recd, .sec, .fab, .pwr, .dpx, .form, .arm, .spn, .cell, .sense, .clk, .time, .field, .safe, .tx]
  | .helloRequest | .openSession | .claimOwner =>
    [.freeCount, .ps, .recd, .sec, .fab, .tx]
  | .stagedWriteApply | .tick _ | .formingPeriodBoundary =>
    [.now, .tick, .k, .edge, .extDone, .refsDone, .lastDone, .freeCount, .objs, .commitAt, .fns, .hdrs, .masters, .ps,
     .mode, .recd, .sec, .fab, .pwr, .dpx, .form, .arm, .spn, .cell, .sense, .clk, .time, .field, .safe, .tx]
  | .clientStateExpiry _ _ | .helloExpiry =>
    [.ps]
  | .runStart _ _ | .runStop _ _ =>
    [.fns, .mode, .recd]
  | .startCheckDone _ _ =>
    [.fns, .mode, .recd, .form, .arm, .cell, .sense, .clk, .time, .field, .safe]
  | .stopComplete _ | .extSlotOverrun | .markerLossTrip | .shareMissTrip | .reportMissingTrip | .armStateMissing
  | .leadWaitExpiry | .refsLostTrip | .substituteLimitExpiry | .syncTimeout | .syncFbTimeout | .bsStallExpiry
  | .rideTMaxExpiry | .trunkVerifyComplete _ | .trunkBlockLockLost _ _ | .trunkLeavesUp _ | .internalChannelConverted _ _
  | .barrierLinkDown | .folioWrite _ =>
    [.objs, .fns, .mode, .recd, .form, .arm, .cell, .sense, .time, .field, .safe]
  | .modeRequestCommission _ | .modeRequestBlocked _ | .modeRequestForming _ =>
    [.objs, .mode, .recd, .form, .arm]
  | .applicationResetCommand _ | .systemResetCommand _ | .safetySetWrite _ _ _ _ _ _ | .protSetWrite _ _ _ _
  | .registerWrite _ _ _ | .dbgReset | .powerOnReset _ _ | .hkWatchdogExpiry | .yieldReset | .powerDownColdComplete =>
    [.tick, .k, .edge, .extDone, .refsDone, .lastDone, .objs, .commitAt, .fns, .hdrs, .masters, .ps, .mode, .recd, .sec,
     .fab, .pwr, .dpx, .form, .arm, .spn, .cell, .sense, .clk, .time, .field, .safe]
  | .configCommit _ =>
    [.commitAt]
  | .configCommitDone =>
    [.freeCount, .stored, .commitAt, .ps, .mode, .recd, .fab, .tx]
  | .tickLengthWrite _ _ =>
    [.mode]
  | .stationSetpointWrite _ _ _ =>
    [.spn]
  | .failNow _ _ | .gdVerify _ | .refreshDue _ | .dwellExpiry _ | .swPeriodEnd | .uplinkFrame _ _ _
  | .trunkEchoReply _ _ _ _ | .delayAck _ _ | .cellDelays _ _ | .hubInfo _ _ | .trunkRetryExpiry _
  | .periodicReadback _ =>
    [.cell]
  | .failReasonWrite _ _ _ | .bsRecoverTimeout _ | .telLost _ | .appliedMismatchLimit _ | .hubAlarm _ _ _
  | .trunkTrainComplete _ _ | .trunkMeasureComplete _ | .trunkAlignComplete _ | .mailboxReadTimeout _ =>
    [.mode, .recd, .cell]
  | .injCommand _ _ | .rotationHandover | .comparatorRelease _ =>
    [.sense]
  | .clkCommit _ | .referenceLost | .referencePresent | .pllLockLost _ =>
    [.mode, .recd, .clk]
  | .timeSet _ _ _ | .secondRollover =>
    [.time]
  | .outSet _ _ | .outClear _ _ | .barrierLinkRestored | .inputDebounceChange _ =>
    [.field]
  | .pinClear _ _ | .overloadFlagClear _ =>
    [.mode, .field]
  | .forceWrite _ _ _ =>
    [.objs, .recd]
  | .safeReset _ | .protStart _ | .soTestPulseDue _ =>
    [.safe]
  | .safetyConfirm _ _ | .soSwitchOnStep _ | .soPulseEnd _ | .soDiagTimer _ _ _ | .slWatchdogExpiry _ =>
    [.mode, .recd, .safe]
  | .attestRequest _ _ _ _ _ =>
    [.ps, .mode, .recd, .sec]
  | .attestSigned | .ownerKeysWrite _ _ _ | .credMinGenWrite _ _ _ =>
    [.ps, .recd, .sec]
  | .fuseSvn _ _ | .appMinSvnWrite _ _ _ | .debugLockSet _ _ | .dbgEnd | .dbgIdleTimeout =>
    [.recd, .sec]
  | .sessionClose _ _ | .sessionTimeout _ =>
    [.ps, .recd]
  | .switchover _ | .takeoverBringupDone | .handbackEpochRaise =>
    [.dpx]
  | .recorderClear _ _ _ | .eventOffer _ =>
    [.recd]
  | .windowSnapshot _ | .timeSecLoRead _ =>
    [.masters]
  | .selectRegisterWrite _ _ _ =>
    [.hdrs, .masters]
  | .errorClear _ _ _ =>
    [.hdrs]
  | .unfence _ _ _ | .semRelease _ _ | .semRenew _ _ | .queuePost _ _ _ | .eccCorrected _ =>
    [.hdrs, .fab]
  | .fenceSelftestDone _ _ _ =>
    [.objs, .hdrs, .masters, .ps, .mode, .recd, .sec, .fab, .pwr, .dpx, .form, .arm, .cell, .sense]
  | .semAcquire _ _ | .queueTake _ _ =>
    [.hdrs, .masters, .fab]
  | .recOffer _ _ _ =>
    [.hdrs, .recd]
  | .recNewestLoRead _ | .recOldestLoRead _ =>
    [.masters, .recd]
  | .dbgChallenge | .extest _ _ | .idcode | .bypass _ | .samplePreload _ _ | .lmsTokenRefill | .syncTimeStore =>
    [.sec]
  | .dbgResponse _ _ =>
    [.mode, .recd, .sec]
  | .dbgAccess _ _ _ _ | .sysResetN _ =>
    [.tick, .k, .edge, .extDone, .refsDone, .lastDone, .freeCount, .objs, .commitAt, .fns, .hdrs, .masters, .ps, .mode,
     .recd, .sec, .fab, .pwr, .dpx, .form, .arm, .spn, .cell, .sense, .clk, .time, .field, .safe]
  | .dbgLockoutEnd =>
    [.mode, .sec]
  | .appWatchdogExpiry _ =>
    [.mode, .recd, .fab]
  | .bootSequence _ =>
    [.objs, .fns, .masters, .mode, .recd, .sec, .pwr, .dpx, .form, .arm, .spn, .cell, .sense, .clk, .time, .field, .safe]
  | .dpxListenWindowEnd | .livenessCheck | .coldAcquisition =>
    [.objs, .mode, .recd, .dpx, .form, .arm]
  | .firmwareVerify =>
    [.mode, .recd, .sec, .pwr]
  | .feedStateChange _ _ | .vdd3v3Check _ =>
    [.mode, .recd, .pwr]
  | .pmbusPoll _ =>
    [.mode, .recd, .pwr, .tx]
  | .pmbAlert | .conductingFeedChange _ _ =>
    [.pwr]
  | .extSlotsRun =>
    [.extDone, .mode, .form]
  | .extRestoreReached | .primaryRestore | .shadowMismatchLimit | .syncDwellElapsed | .regionDwellExpiry =>
    [.mode, .recd, .form]
  | .refsSend =>
    [.extDone, .refsDone, .objs, .fns, .mode, .recd, .form, .arm, .cell, .sense, .time, .field, .safe, .tx]
  | .periodLastTick =>
    [.lastDone, .mode, .recd, .dpx, .form, .spn, .tx]
  | .markerMsg _ _ _ _ | .spineEchoReply _ _ _ _ =>
    [.mode, .recd, .spn, .tx]
  | .shareMsg _ _ _ _ | .refsMsg _ _ _ _ =>
    [.recd, .arm, .spn, .tx]
  | .spanReport _ _ _ _ | .armState _ _ _ _ =>
    [.objs, .fns, .mode, .recd, .form, .arm, .spn, .cell, .sense, .time, .field, .safe, .tx]
  | .rollCall _ _ _ _ =>
    [.tick, .k, .recd, .spn, .tx]
  | .spanPub _ _ _ _ | .measMsg _ _ _ _ | .setpointMsg _ _ _ _ | .stateMsg _ _ _ _ =>
    [.recd, .spn, .tx]
  | .spineEcho _ _ _ _ | .segmentMeasure _ | .spinePortRestored _ =>
    [.spn, .tx]
  | .spinePortLockLost _ | .markerWaitExpiry | .tickLockAcquired =>
    [.mode, .recd, .spn]
  | .markerMissing =>
    [.mode, .recd, .pwr, .spn]
  | .shareMissing =>
    [.recd, .arm]
  | .shadowMatchRestore | .settleDwellElapsed | .bsRampComplete | .rideEntry | .rideTClearElapsed | .recoverComplete =>
    [.mode, .form]
  | .syncPulseEnd =>
    [.form]
  | .telStaleExceeded _ =>
    [.recd, .cell]
  | .mgmtRequestTimeout _ =>
    [.cell, .tx]
  | .senseCalibrationDone _ _ =>
    [.fns, .mode, .recd, .sense]
  | .historyFilled _ _ | .comparatorCrossing _ _ | .saturationLost _ _ | .injectedSampleDone _ _ _ =>
    [.objs, .mode, .recd, .form, .arm, .sense]
  | .switchEdge _ _ | .calibrateComplete _ _ _ | .frozenWindowEnd _ | .saturationClear _ =>
    [.mode, .recd, .sense]
  | .handoverDeferralLimit | .testInjection _ | .ainTrigEdge _ =>
    [.recd, .sense]
  | .pllLock _ | .acquisitionTimeout _ | .relockPDone _ | .heldCommitApply =>
    [.fns, .mode, .recd, .clk]
  | .freqMonitorWindow _ _ | .referenceLoss10s | .backupTrim _ | .monitorRatioMeasure _ | .relockFDone _
  | .referenceQualifying =>
    [.clk]
  | .backupSwitchDone _ =>
    [.objs, .fns, .mode, .recd, .dpx, .form, .arm, .cell, .sense, .clk, .time, .field, .safe]
  | .backupReturn _ =>
    [.mode, .recd, .clk, .time]
  | .ptpSync _ _ _ _ _ _ _ | .ptpFollowUp _ _ _ _ _ =>
    [.freeCount, .mode, .recd, .fab, .time]
  | .ptpAnnounce _ _ _ | .mdioLinkPoll _ _ =>
    [.mode, .recd, .fab, .time]
  | .ptpPdelay _ _ _ | .pdelayReqSend _ _ | .ptpMasterSend _ _ =>
    [.fab, .time, .tx]
  | .announceTimeout _ | .syncLoss | .holdoverExpiry =>
    [.mode, .recd, .time]
  | .prpSupervisionSend =>
    [.fab, .tx]
  | .prpSupervisionReceived _ | .applicationFrame _ _ _ =>
    [.fab]
  | .barrierFrame _ _ _ _ _ =>
    [.field, .safe, .tx]
  | .outputOverload _ | .outputThermal _ | .wireBreak _ _ | .outputDiagTimer _ _ _ | .pinReversed _ _ =>
    [.mode, .recd, .field]
  | .outputRetry _ | .outputCooled _ =>
    [.recd, .field]
  | .lpSample _ | .lpRestore =>
    [.mode, .recd, .field, .safe]
  | .safetyCycle | .protItemLatch _ | .discrepancyTimeout _ | .intlkDwellElapsed =>
    [.objs, .mode, .recd, .form, .arm, .safe]
  | .lockstepMismatch | .lockstepSelftestFail =>
    [.objs, .fns, .mode, .recd, .pwr, .form, .arm, .spn, .cell, .sense, .time, .field, .safe]
  | .safetyFrame _ _ _ _ =>
    [.mode, .recd, .fab, .safe]
  | .slProduce _ =>
    [.safe, .tx]
  | .beatSend | .statusSend =>
    [.dpx, .tx]
  | .beatMsg _ _ _ _ _ _ _ | .statusMsg _ _ _ _ _ _ _ _ _ | .holderLeaseExpiry _ =>
    [.mode, .recd, .dpx, .safe]
  | .ckpt _ _ _ _ | .hbAck _ _ _ | .dpxLinkDown =>
    [.mode, .recd, .dpx]
  | .mirror _ _ _ _ _ _ _ _ =>
    [.mode, .recd, .dpx, .cell, .safe]
  | .handback _ _ _ =>
    [.mode, .recd, .dpx, .safe, .tx]
  | .storeLeaseExpiry _ =>
    [.objs, .fns, .mode, .recd, .pwr, .dpx, .form, .arm, .spn, .cell, .sense, .clk, .time, .field, .safe]
  | .preparedEntry _ =>
    [.objs, .fns, .mode, .recd, .pwr, .form, .arm, .spn, .cell, .sense, .clk, .time, .field, .safe]
  | .warmReached | .holderOutputRelease =>
    [.recd, .dpx]
  | .handbackModeEntry =>
    [.freeCount, .objs, .fns, .mode, .recd, .dpx, .form, .arm, .spn, .cell, .sense, .time, .field, .safe]
  | .handbackTransfer =>
    [.objs, .fns, .mode, .recd, .dpx, .form, .arm, .cell, .sense, .time, .field, .safe]
  | .uncorrectableError _ _ _ _ | .parityError _ _ _ | .handshakeTimeout _ | .queueStall _ =>
    [.freeCount, .objs, .fns, .hdrs, .ps, .mode, .recd, .sec, .fab, .pwr, .dpx, .form, .arm, .spn, .cell, .sense, .time,
     .field, .safe, .tx]
  | .semLeaseExpiry _ =>
    [.recd, .fab]

end Sys2Proof.Machine
end

