-- ==== Sys2Proof/Certificates/Slice0/Obligations.lean ====
section
/-! DEFINITION. The statements of this model. Those named after what completes say of each command, in the order of its
subject, that it answers a next state and what that state holds. -/
section
open Sys2Proof Sys2Proof.Machine

/-- A step runs the command at the front of the queue. That an empty queue idles is the model's choice (notes/assumptions/1.md);
the table's rows give no bits, so no word spells a command. -/
def Obligations.StepRunsFront : Prop :=
  (∀ (c : Instr) (rest : List Instr) (s : State), step { s with pending := c :: rest } = exec c { s with pending := rest }) ∧
  (∀ s : State, s.pending = [] → step s = .next s) ∧
  (∀ (nbits w : Nat) (s : State), decodeTableWord nbits w = none ∧ s.withFetchWord nbits w = s)

/-- Every command completes: none ends in a fault or a refusal. -/
def Obligations.StepNeverStops : Prop :=
  (∀ (c : Instr) (s : State), ∃ t, exec c s = .next t) ∧ ∀ s : State, ∃ t, step s = .next t

/-- What the reset leaves: BOOT, every function stopped, every object at its default, nothing fenced, held or driven. -/
def Obligations.ResetValues : Prop :=
  State.reset.pending = [] ∧ State.reset.mode.mode = .boot ∧ (∀ n : Fn, State.reset.run n = .stopped) ∧
  (∀ idx sub chan : Nat, State.reset.val idx sub chan = objDefault (objKey idx sub chan)) ∧
  (∀ r : Fin 9, (entry State.reset.hdrs r.val {}).fenced = 0) ∧
  (∀ x : Fin 16, (entry State.reset.fab.sems x.val {}).holder = none) ∧ State.reset.ps.sessions = [] ∧
  State.reset.dpx.lease = false ∧ State.reset.spn.locked = false ∧
  (∀ p : Fin 5, (State.reset.clk.pll p.val).st = .off) ∧ (∀ q : Fin 8, (State.reset.trk q.val).st = 0) ∧
  (∀ p : Fin 32, (State.reset.pin p.val).cmd = false) ∧ State.reset.tx = []

/-- The invariant of StepKeepsForm holds at reset. -/
def Obligations.ResetInForm : Prop :=
  State.reset.Canon ∧ State.reset.Shape

/-- Every step keeps the canonical form of the stores and the size of every register file. -/
def Obligations.StepKeepsForm : Prop :=
  ∀ s t : State, s.Canon → s.Shape → step s = .next t → t.Canon ∧ t.Shape

/-- R87: SAFE is left only by a reset, which begins in BOOT (Table 3-7). The rule's words on RESET_CAUSE and the recorder are not
part of this statement. -/
def Obligations.SafeIsShut : Prop :=
  ∀ s t : State, s.mode.mode = .safe → step s = .next t → t.mode.mode = .safe ∨ t.mode.mode = .boot

/-- A command changes only the parts of the state in its footprint. -/
def Obligations.StepFootprint : Prop :=
  ∀ (c : Instr) (rest : List Instr) (s t : State), s.pending = c :: rest → step s = .next t →
    t.pending = rest ∧ ∀ p : Part, p ∉ footprint c → p ≠ .pending → p.same s t

/-- Only the completion of a commit writes the stored record; no command changes the device or station number. -/
def Obligations.StoredConfigKept : Prop :=
  ∀ s t : State, step s = .next t → t.device = s.device ∧ t.station = s.station ∧
    ((∀ rest, s.pending ≠ .configCommitDone :: rest) → t.stored = s.stored)

/-- The commands of one cell or trunk leave the others as they are. -/
def Obligations.CellAndTrunkFrames : Prop :=
  (∀ (s t : State) (c : Fin 256) (d : Nat) (i : Instr), d ≠ c.val →
    ((∃ level, i = .failNow level c) ∨ (∃ level v, i = .failReasonWrite level c v) ∨ i ∈ [.refreshDue c, .bsRecoverTimeout c, .dwellExpiry c,
      .telStaleExceeded c, .telLost c, .appliedMismatchLimit c, .mailboxReadTimeout c]) →
    exec i s = .next t → t.cellAt d = s.cellAt d ∧ t.field = s.field ∧ t.sense = s.sense ∧ t.mode.mode = s.mode.mode ∧ t.fns = s.fns) ∧
(∀ (s t : State) (q : Fin 8) (j : Nat) (i : Instr), j ≠ q.val →
    ((∃ head words, i = .uplinkFrame q head words) ∨ (∃ a b c, i = .trunkEchoReply q a b c) ∨ (∃ b, i = .delayAck q b) ∨ (∃ ds, i = .cellDelays q ds) ∨
      (∃ d, i = .hubInfo q d) ∨ (∃ a b, i = .hubAlarm q a b) ∨ (∃ b, i = .trunkTrainComplete q b) ∨
      i ∈ [.mgmtRequestTimeout q, .trunkMeasureComplete q, .trunkAlignComplete q, .trunkRetryExpiry q]) →
    exec i s = .next t → t.trk j = s.trk j ∧ t.mode.mode = s.mode.mode ∧ t.fns = s.fns)

/-- The commands of one pin or safety output leave the others as they are. -/
def Obligations.PinAndOutputFrames : Prop :=
  (∀ (s t : State) (p : Fin 32) (q : Nat) (i : Instr), q ≠ p.val →
    ((∃ level, i = .pinClear level p) ∨ (∃ b, i = .wireBreak p b) ∨ (∃ d b, i = .outputDiagTimer p d b) ∨ (∃ b, i = .pinReversed p b) ∨
      i ∈ [.inputDebounceChange p, .outputOverload p, .outputThermal p, .outputRetry p, .overloadFlagClear p, .outputCooled p]) →
    exec i s = .next t → t.pin q = s.pin q ∧ t.cell = s.cell ∧ t.safe = s.safe ∧ t.mode.mode = s.mode.mode ∧ t.fns = s.fns) ∧
(∀ (s t : State) (n : Fin 4) (m : Nat) (i : Instr), m ≠ n.val →
    ((∃ w b, i = .soDiagTimer n w b) ∨ i ∈ [.soSwitchOnStep n, .soTestPulseDue n, .soPulseEnd n]) → exec i s = .next t →
    t.so m = s.so m ∧ t.safe.sf1 = s.safe.sf1 ∧ t.safe.sf2 = s.safe.sf2 ∧ t.safe.conns = s.safe.conns ∧ t.field = s.field ∧ t.fns = s.fns)

/-- The commands of one input or PLL leave the others as they are. -/
def Obligations.InputAndPllFrames : Prop :=
  (∀ (s t : State) (c : Fin 16) (d : Nat) (i : Instr), d ≠ c.val →
    ((∃ level k, k.val = c.val ∧ i = .injCommand level k) ∨ (∃ codes, i = .historyFilled c codes) ∨ (∃ codes, i = .comparatorCrossing c codes) ∨
      (∃ codes, i = .saturationLost c codes) ∨ (∃ codes code, i = .injectedSampleDone c codes code) ∨
      i ∈ [.comparatorRelease c, .frozenWindowEnd c, .saturationClear c, .testInjection c]) →
    exec i s = .next t → t.ain d = s.ain d) ∧
(∀ (s t : State) (p : Fin 5) (j : Nat) (i : Instr), j < 5 → j ≠ p.val →
    ((∃ err, i = .freqMonitorWindow p err) ∨ (∃ err, i = .relockFDone ⟨p, err⟩) ∨ i ∈ [.pllLock p, .pllLockLost p, .acquisitionTimeout p, .backupTrim p, .relockPDone p, .backupReturn p]) →
    exec i s = .next t → t.clk.pll j = s.clk.pll j ∧ t.clk.ref = s.clk.ref ∧ t.clk.lostAt = s.clk.lostAt)

/-- The commands of one semaphore, queue or bus master leave the others as they are. -/
def Obligations.FabricAndMasterFrames : Prop :=
  (∀ (s t : State) (m : Fin 7) (x : Fin 16) (y : Nat), y ≠ x.val →
    (∀ i ∈ [Instr.semAcquire m x, .semRelease m x, .semRenew m x], exec i s = .next t →
      entry t.fab.sems y {} = entry s.fab.sems y {} ∧ t.fab.queues = s.fab.queues ∧ t.mode = s.mode ∧ t.recd = s.recd) ∧
    (∀ i, (∃ w, i = Instr.queuePost m x w) ∨ i = .queueTake m x → exec i s = .next t →
      entry t.fab.queues y {} = entry s.fab.queues y {} ∧ t.fab.sems = s.fab.sems ∧ t.mode = s.mode ∧ t.recd = s.recd)) ∧
(∀ (s t : State) (m : Fin 7) (j : Nat) (i : Instr), j ≠ m.val →
    ((∃ g v, i = .selectRegisterWrite m g v) ∨ i ∈ [.windowSnapshot m, .timeSecLoRead m, .recNewestLoRead m, .recOldestLoRead m]) →
    exec i s = .next t → entry t.masters j {} = entry s.masters j {} ∧ t.ps = s.ps ∧ t.objs = s.objs)

/-- A write of one object leaves every other object. -/
def Obligations.ObjectFrames : Prop :=
  ∀ (s t : State) (j k d : Nat),
    (∀ (level : Nat) (p : Fin 32) (v : Nat), objKey j k d ≠ objKey 0x5001 9 p.val → exec (.forceWrite level p v) s = .next t → t.val j k d = s.val j k d) ∧
    (∀ (session level idx sub chan : Nat) (value : List Nat), objKey j k d ≠ objKey idx sub chan →
      s.writeStatus (.sess session) level idx sub chan value = stOk → exec (.safetySetWrite session level idx sub chan value) s = .next t →
      t.val j k d = s.val j k d) ∧
    (∀ (session level sub : Nat) (value : List Nat), objKey j k d ≠ objKey 0x6200 sub 0 →
      s.writeStatus (.sess session) level 0x6200 sub 0 value = stOk → exec (.protSetWrite session level sub value) s = .next t →
      t.val j k d = s.val j k d)

/-- A group selects the lowest candidate, the lower number on a tie. -/
def Obligations.LowestCandidate : Prop :=
  ∀ (y1 : Int) (ys : List Int), ∃ p q, y1 :: ys = p ++ (lowest y1 ys).1 :: q ∧ (lowest y1 ys).2 = p.length + 1 ∧
      (∀ y ∈ p, (lowest y1 ys).1 < y) ∧ (∀ y ∈ q, (lowest y1 ys).1 ≤ y)

/-- The arm lead's split of the count. -/
def Obligations.SpanShare : Prop :=
  ∀ (n aO a : Nat), 0 < a → aO ≤ a → n ≤ a → shareOf n aO a = (2 * n * aO + a) / (2 * a) ∧ shareOf n aO a ≤ aO ∧ n - shareOf n aO a ≤ a - aO ∧ shareOf n aO a ≤ n

/-- REC_OFFER records codes from 0xF000 and answers any other with RSVD. -/
def Obligations.ApplicationEvents : Prop :=
  ∀ (s : State) (core : Fin 4) (code : BitVec 16) (warn : Bool),
    (0xF000 ≤ code.toNat → exec (.recOffer core code warn) s = .next (s.offer code.toNat (if warn then .warn else .note) 8
      ((entry s.masters core.val {}).offerData.flatMap (le 4)))) ∧
    (code.toNat < 0xF000 → ∃ t, exec (.recOffer core code warn) s = .next t ∧ t = { s with hdrs := t.hdrs } ∧
      (s.Shape → t.hdrs.length = 9 ∧ ∀ i, i < 9 → entry t.hdrs i {} =
        if i = 6 then { entry s.hdrs 6 {} with err := setBit (entry s.hdrs 6 {}).err 4 } else entry s.hdrs i {}))

/-- A parity error is retried three times and then handled as an uncorrectable error. -/
def Obligations.ParityRetries : Prop :=
  ∀ (s : State) (region : Fin 9) (b : Fin 16) (nth : Fin 4), s.Shape → s.fenced region.val b.val = false → s.powered (blockDomain region.val b.val) = true →
    b.val < blocksOf region.val →
    (nth.val < 3 → Completes (.parityError region b nth) s (fun t => t.fab.parRetries = incSat 32 s.fab.parRetries ∧
      (region.val < 8 → bit (entry t.hdrs region.val {}).err 6 = true) ∧ t.fenced region.val b.val = false)) ∧
    (nth.val = 3 → exec (.parityError region b nth) s = exec (.uncorrectableError region b 1 false) s)

/-- R263, for the expiry itself; the count is kept at the boundary. -/
def Obligations.LeadWaitTrip : Prop :=
  ∀ s : State, s.mode.mode = .forming → s.isRun .form = true →
    (s.LEAD_WAIT ≤ s.form.leadWait → exec .leadWaitExpiry s = .next (s.trip 0x5223 .form []) ∧ (s.trip 0x5223 .form []).tripped .form) ∧
    (s.form.leadWait < s.LEAD_WAIT → exec .leadWaitExpiry s = .next s)

/-- R180, for the check that the publication of tick F − 1 runs. -/
def Obligations.AvailableCountTrip : Prop :=
  ∀ (s : State) (av : Nat),
    (s.isRun .select = true → av < s.AV_MIN →
      s.avCheck av = ({ s with cell := { s.cell with avail := av, avLow := true } }).trip 0x2110 .select [] ∧ (s.avCheck av).tripped .select) ∧
    (s.AV_MIN = 0 ∨ s.AV_MIN ≤ av → s.avCheck av = { s with cell := { s.cell with avail := av } })

/-- R190: the order of the free cells, the words and the delivered number. -/
def Obligations.SelectionOrder : Prop :=
  (∀ (s : State) (rules : List Nat), (s.freeOrder rules).Nodup ∧ (∀ c, c ∈ s.freeOrder rules ↔ c < 256 ∧ entry rules c 0 = 10) ∧
    ((∀ c < 256, -2147483648 ≤ (s.cellAt c).bkey ∧ (s.cellAt c).bkey ≤ 2147483647) →
      (s.freeOrder rules).Pairwise (fun a b => (if s.charging then (s.cellAt a).bkey < (s.cellAt b).bkey else (s.cellAt b).bkey < (s.cellAt a).bkey) ∨
        ((s.cellAt a).bkey = (s.cellAt b).bkey ∧ a < b)))) ∧
  (∀ (s : State) (rules order : List Nat) (ins c : Nat), c < 256 → entry rules c 0 = 10 →
    (entry (s.wordsOf rules order ins) c 0 = 1 ↔ c ∈ order.take ins)) ∧
  (∀ (s : State) (n t : Nat), let u := s.estimates n; let lock := u.countRules (u.rules n) [8, 9] true
    (s.selectRun n t).1.cell.delivered = clampN t lock (lock + (u.freeOrder (u.rules n)).length))

/-- PS_DATAGRAM, READ_REQUEST, READ_BLOCK, DESCRIBE_REQUEST, STAGED_WRITE_APPLY and CLIENT_STATE_EXPIRY complete. One
clause for each of PS_DATAGRAM (R39), READ (R42), READ_BLOCK (R55), DESCRIBE (R56), STAGED_WRITE_APPLY (R50),
CLIENT_STATE_EXPIRY (R52). -/
def Obligations.ServiceRequestsComplete : Prop :=
  -- PS_DATAGRAM (R39)
  (∀ (s : State) (port : Side) (rct : Option (Nat × Nat)) (src sport dst : Nat) (data : List Nat),
    (s.ingress port rct .ps 1).1 = true → s.fenced 4 5 = false → s.datagramOk data = true → s.tagOk data = true → numAt data 0 1 = 1 →
    knownCode (numAt data 1 1) = true → s.ps.exec = none → s.ps.queue = [] →
    (numAt data 8 4 = 0 ∨ ∃ x, s.session (numAt data 8 4) = some x ∧ x.counter < numAt data 12 4) →
    Completes (.psDatagram ⟨port, dst⟩ rct src sport data) s (fun t => ∃ r, t.ps.queue = [r] ∧ r.code = numAt data 1 1 ∧ r.trans = numAt data 2 2 ∧
      r.session = numAt data 8 4 ∧ r.counter = numAt data 12 4 ∧ r.src = src ∧ r.sport = sport ∧ r.dst = dst ∧ r.port = port ∧
      r.payload = sliceOf data 16 (numAt data 6 2))) ∧
  -- READ (R42)
  (∀ (s : State) (r : Request) (es : List (Nat × Nat × List Nat)), s.sole r 1 → entryList r.payload = some es →
    Completes .readRequest s (fun t => answered s t r (readAnswer
      (State.readList r.caller es 0 (stOk, 255) [] s.popHead).1 es.length
      (State.readList r.caller es 0 (stOk, 255) [] s.popHead).2.1))) ∧
  -- READ_BLOCK (R55)
  (∀ (s : State) (r : Request) (idx sub cnt : Nat), s.sole r 3 → blockEntry r.payload = some (idx, sub, cnt, []) →
    Completes .readBlock s (fun t => answered s t r (readAnswer
      (State.readBlockList r.caller r.sel idx cnt sub 0 (stOk, 255) [] s.popHead).1 cnt
      (State.readBlockList r.caller r.sel idx cnt sub 0 (stOk, 255) [] s.popHead).2.1))) ∧
  -- DESCRIBE (R56)
  (∀ (s : State) (r : Request) (idx sub : Nat) (o : ObjRow), s.sole r 5 → describeEntry r.payload = some (idx, sub) →
    findObj idx sub = some o →
    Completes .describeRequest s (fun t => answered s t r (answerBytes stOk 255 1
      (entryBytes stOk (describeBytes o idx sub ((s.selectsOf r.caller).chan idx)))))) ∧
  -- STAGED_WRITE_APPLY (R50)
  ((∀ (s : State) (r : Request) (ws : List WEntry), s.ps.exec = some ⟨r, .boundary ws⟩ → s.atEnd = true →
    Completes .stagedWriteApply s (fun t => t.edge = true ∧ t.ps.opened = true)) ∧
  (∀ (s u v : State) (r : Request) (ws : List WEntry), s.ps.exec = some ⟨r, .boundary ws⟩ → s.atEnd = true → s.advance.ctlUp = true →
    v = s.advance.boundaryRegs → v.ps.exec = some ⟨r, .boundary ws⟩ → v.published ws = true →
    v.applyStaged r.caller (v.levelOf r.caller) ws = (stOk, 255, u) → u.ps.queue = [] → u.netUp r.port = true → u.mode.mode ≠ .boot →
    u.stillOwed (ws.map (fun e => (e.index, e.sub))) = none → (ws.map (fun e => (e.index, e.sub))).contains (0x9001, 1) = false →
    Completes .stagedWriteApply s (fun t => answered u t r (answerBytes stOk 255 0 []) ∧ t.objs = u.objs))) ∧
  -- CLIENT_STATE_EXPIRY (R52)
  (∀ (s : State) (src sport : Nat),
    Completes (.clientStateExpiry src sport) s (fun t => ∀ c, c ∈ t.ps.clients ↔ c ∈ s.ps.clients ∧
      ¬(c.src = src ∧ c.sport = sport ∧ c.last + secs s.sec.sessionIdle ≤ s.now)))

/-- An accepted WRITE or WRITE_BLOCK of a session leaves its values and is answered OK. One clause for each of WRITE
(R50), WRITE_BLOCK (R55). -/
def Obligations.ServiceWritesComplete : Prop :=
  -- WRITE (R50)
  (∀ (s u : State) (r : Request) (x : Session) (es : List (Nat × Nat × List Nat)), s.ps.exec = none → s.ps.queue = [r] → r.code = 2 →
    r.session ≠ 0 → s.session r.session = some x → x.counter < r.counter → entryList r.payload = some es →
    s.popHead.writeAll r.caller (s.popHead.levelOf r.caller) none es = (stOk, 255, u, []) → u.ps = s.popHead.ps → u.netUp r.port = true →
    u.mode.mode ≠ .boot → u.stillOwed (namesOf es) = none → (namesOf es).contains (0x9001, 1) = false →
    Completes .writeRequest s (fun t => t.objs = u.objs ∧ t.ps.queue = [] ∧
      t.tx = .service r.port r.dst r.src r.sport (responseBytes u.device r r.key (answerBytes stOk 255 0 [])) :: u.tx)) ∧
  -- WRITE_BLOCK (R55)
  (∀ (s u : State) (r : Request) (x : Session) (es : List (Nat × Nat × List Nat)), s.ps.exec = none → s.ps.queue = [r] → r.code = 4 →
    r.session ≠ 0 → s.session r.session = some x → x.counter < r.counter → blockWrites r.payload = some es →
    s.popHead.writeAll r.caller (s.popHead.levelOf r.caller) (some r.sel) es = (stOk, 255, u, []) → u.ps = s.popHead.ps → u.netUp r.port = true →
    u.mode.mode ≠ .boot → u.stillOwed (namesOf es) = none → (namesOf es).contains (0x9001, 1) = false →
    Completes .writeBlock s (fun t => t.objs = u.objs ∧ t.ps.queue = [] ∧
      t.tx = .service r.port r.dst r.src r.sport (responseBytes u.device r r.key (answerBytes stOk 255 0 [])) :: u.tx))

/-- Sessions open, close, time out, and the owner is claimed. One clause for each of HELLO (R483), OPEN (R484), CLAIM
(R488), CLOSE (R486), SESSION_CLOSE (R486), SESSION_TIMEOUT (R486), HELLO_EXPIRY (R484). -/
def Obligations.SessionsComplete : Prop :=
  -- HELLO (R483)
  (∀ (s : State) (r : Request), s.sole r 0x10 → r.session = 0 → s.sessionStatus = stOk → r.payload.length = 128 →
    Completes .helloRequest s (fun t => (∃ p, answered s t r (answerBytes stOk 255 0 p)) ∧ ∃ h ∈ t.ps.hellos,
      h.clientNonce = r.payload.take 32 ∧ h.clientKey = r.payload.drop 32 ∧ h.at_ = s.now)) ∧
  -- OPEN (R484)
  (∀ (s : State) (r : Request), s.sole r 0x11 → r.session = 0 → s.sessionStatus = stOk → r.payload.length = 368 → s.ps.sessions.length < 8 →
    Completes .openSession s (fun t => ∀ h, s.openCheck r.payload = (0, some h) →
      (∃ p, answered s t r (answerBytes stOk 255 0 p)) ∧ ∃ x, t.ps.sessions = s.ps.sessions ++ [x] ∧
        x.level = numAt (sliceOf r.payload 32 240) 1 1 ∧ x.opened = s.now ∧
        x.expiry = min (numAt (sliceOf r.payload 32 240) 0x20 8) (s.time.sec + 86400))) ∧
  -- CLAIM (R488)
  (∀ (s : State) (r : Request), s.sole r 0x13 → r.session = 0 → s.secUp = true → s.nvOk = true → s.mode.mode = .commission → s.sec.owner = none →
    r.payload.length = 256 → ownerOk r.payload = true →
    Completes .claimOwner s (fun t => answered s t r (answerBytes stOk 255 0 []) ∧ t.sec.owner = some r.payload)) ∧
  -- CLOSE (R486)
  (∀ (s : State) (r : Request) (x : Session), s.ps.exec = none → s.ps.queue = [r] → r.code = 0x12 → r.session ≠ 0 →
    s.session r.session = some x → x.counter < r.counter → r.payload = [] → s.netUp r.port = true →
    Completes .closeSession s (fun t => t.session r.session = none ∧ t.ps.queue = [] ∧
      t.tx = .service r.port r.dst r.src r.sport (responseBytes s.device r r.key (answerBytes stOk 255 0 [])) :: s.tx)) ∧
  -- SESSION_CLOSE (R486)
  (∀ (s : State) (level : Nat) (id : BitVec 32), 3 ≤ level → s.mode.mode ≠ .boot → s.mode.mode ≠ .standby → s.mode.mode ≠ .safe →
    s.secUp = true → Completes (.sessionClose level id) s (fun t => t.session id.toNat = none ∧
      ∀ x ∈ s.ps.sessions, x.id ≠ id.toNat → x ∈ t.ps.sessions)) ∧
  -- SESSION_TIMEOUT (R486)
  (∀ (s : State) (id : BitVec 32) (x : Session), s.session id.toNat = some x →
    (x.last + secs s.sec.sessionIdle ≤ s.now ∨ s.pastEnd x.notAfter = true ∨ x.opened + secs 86400 ≤ s.now) →
    Completes (.sessionTimeout id) s (fun t => t.session id.toNat = none)) ∧
  -- HELLO_EXPIRY (R484)
  (∀ (s : State), Completes .helloExpiry s (fun t => ∀ h, h ∈ t.ps.hellos ↔ h ∈ s.ps.hellos ∧ s.now < h.at_ + secs 2))

/-- Run commands and the ends of their checks change the run state. One clause for each of RUN_START (R58), RUN_STOP
(R58), START_CHECK_DONE (R59), STOP_COMPLETE (R58). -/
def Obligations.RunStatesComplete : Prop :=
  -- RUN_START (R58)
  (∀ (s : State) (level : Nat) (n : Fn), n.level ≤ level → s.runAllowed n 1 = true → s.isDown n = true →
    (n.needs.all (fun m => s.isRun m)) = true →
    Completes (.runStart level n) s (fun t => t.run n = .starting ∧ (t.fns.get n).due = true)) ∧
  -- RUN_STOP (R58)
  (∀ (s : State) (level : Nat) (n : Fn), n.level ≤ level → s.runAllowed n 2 = true → (s.run n = .starting ∨ s.run n = .running) →
    (n.users.all (fun m => s.isDown m)) = true →
    Completes (.runStop level n) s (fun t => t.run n = .stopping ∧ (t.fns.get n).due = false)) ∧
  -- START_CHECK_DONE (R59)
  (∀ (s : State) (n : Fn) (memOk : Bool), s.run n = .starting → (s.fns.get n).due = true →
    (s.checkOf memOk n ≠ 0 → Completes (.startCheckDone n memOk) s (fun t =>
      t.run n = .stopped ∧ (t.fns.get n).check = s.checkOf memOk n)) ∧
    (s.checkOf memOk n = 0 → n ≠ .sense → n ≠ .clock → Completes (.startCheckDone n memOk) s (fun t =>
      t.run n = .running ∧ (t.fns.get n).check = 0))) ∧
  -- STOP_COMPLETE (R58)
  (∀ (s : State) (n : Fn), s.run n = .stopping → (n = .record → s.recd.margin = []) →
    Completes (.stopComplete n) s (fun t => t.run n = .stopped))

/-- Mode requests, the commit, TICK_LENGTH and the station setpoints take effect. One clause for each of
MODE_REQUEST_COMMISSION (R75), MODE_REQUEST_BLOCKED (R75), MODE_REQUEST_FORMING (R77), CONFIG_COMMIT (R92),
CONFIG_COMMIT_DONE (R92), TICK_LENGTH_WRITE (R93), STATION_SETPOINT_WRITE (R101). -/
def Obligations.ModeCommandsComplete : Prop :=
  -- MODE_REQUEST_COMMISSION (R75)
  (∀ (s : State) (level : Nat), 3 ≤ level → s.mode.mode = .blocked → s.mode.pend = none → s.isDown .form = true → s.isDown .arm = true →
    Completes (.modeRequestCommission level) s (fun t => t.mode.mode = .commission ∧ t.mode.sub = 0 ∧ t.mode.check = 0)) ∧
  -- MODE_REQUEST_BLOCKED (R75)
  (∀ (s : State) (level : Nat), 1 ≤ level →
    (s.mode.mode = .forming ∨ (s.mode.mode = .commission ∧ s.mode.config ≠ 0) →
      Completes (.modeRequestBlocked level) s (fun t => t.mode.mode = .blocked ∧ t.mode.sub = 0 ∧ t.mode.check = 0)) ∧
    (s.mode.mode = .blocked → Completes (.modeRequestBlocked level) s (fun t => t.mode.mode = .blocked ∧ t.mode.pend = none))) ∧
  -- MODE_REQUEST_FORMING (R77)
  (∀ (s : State) (level : Nat), 2 ≤ level → s.mode.mode = .blocked → s.mode.pend = none →
    (s.formingFails = 0 → Completes (.modeRequestForming level) s (fun t => t.mode.mode = .blocked ∧ t.mode.pend = some ⟨false⟩ ∧
      t.mode.check = 0)) ∧
    (s.formingFails ≠ 0 → Completes (.modeRequestForming level) s (fun t => t.mode.mode = .blocked ∧ t.mode.pend = none ∧
      t.mode.check = s.formingFails ∧ t.recd = ((s.setModeCheck s.formingFails).note 0x0111 [3, s.formingFails]).recd))) ∧
  -- CONFIG_COMMIT (R92)
  (∀ (s : State) (level : Nat), 3 ≤ level → (s.mode.mode = .commission ∨ s.mode.mode = .blocked) → bit (entry s.hdrs 0 {}).fenced 2 = false →
    exec (.configCommit level) s = .next { s with commitAt := some s.now }) ∧
  -- CONFIG_COMMIT_DONE (R92)
  (∀ (s : State), s.commitAt.isSome = true → bit (entry s.hdrs 0 {}).fenced 2 = false →
    Completes .configCommitDone s (fun t => t.commitAt = none ∧ t.stored = some ⟨storedObjs s.objs, true⟩ ∧
      t.mode.config = (if s.safe.confirmed = true then 2 else 1))) ∧
  -- TICK_LENGTH_WRITE (R93)
  (∀ (s : State) (level : Nat) (v : BitVec 8), 2 ≤ level → (v = 1 ∨ v = 2 ∨ v = 4) → s.mode.mode = .blocked →
    ([Fn.arm, .select, .trunk, .sense].all (fun n => s.run n == .stopped)) = true →
    exec (.tickLengthWrite level v) s = .next { s with mode := { s.mode with tickPend := some v.toNat } }) ∧
  -- STATION_SETPOINT_WRITE (R101)
  (∀ (s : State) (level : Nat) (sub : Fin 4) (value : BitVec 32) (o : ObjRow), findObj 0x2002 (sub.val + 1) = some o → o.wl ≤ level →
    o.admits (signed 32 value.toNat) = true → s.fenced 4 0 = false → s.spnActive = true →
    Completes (.stationSetpointWrite level sub value) s (fun t =>
      t.spn.toPub = s.spn.toPub.filter (fun p => p.1 != sub.val + 1) ++ [(sub.val + 1, signed 32 value.toNat)] ∧ t.objs = s.objs))

/-- The reset commands and events end in BOOT or set the cause of an application reset. One clause for each of
APPLICATION_RESET_COMMAND (R85), SYSTEM_RESET_COMMAND (R84), POWER_ON_RESET (R527), SYS_RESET_N (R84),
HK_WATCHDOG_EXPIRY (R84), APP_WATCHDOG_EXPIRY (R84), YIELD_RESET (R433), DBG_RESET (R489). -/
def Obligations.ResetsComplete : Prop :=
  -- APPLICATION_RESET_COMMAND (R85)
  (∀ (s : State) (level : Nat), 2 ≤ level → s.mode.mode ≠ .boot → s.mode.mode ≠ .standby → s.mode.mode ≠ .safe →
    Completes (.applicationResetCommand level) s (fun t => t.mode.cause = setBit s.mode.cause 6 ∧ t.mode.mode = s.mode.mode ∧ t.fns = s.fns ∧
      t.objs = s.objs)) ∧
  -- SYSTEM_RESET_COMMAND (R84)
  (∀ (s : State) (level : Nat), 3 ≤ level → s.mode.mode ≠ .boot → s.mode.mode ≠ .standby →
    Completes (.systemResetCommand level) s (fun t => t.mode.mode = .boot ∧ t.mode.cause = s.sysCause 4 ∧ t.objs = [] ∧
      t.fns = {} ∧ t.stored = s.stored ∧ t.dpx.takeovers = s.dpx.takeovers ∧ t.pwr.feedA = s.pwr.feedA)) ∧
  -- POWER_ON_RESET (R527)
  (∀ (s : State) (va vb : Nat), va < 2500 → vb < 2500 → Completes (.powerOnReset va vb) s (fun t => t.mode.mode = .boot ∧
    t.mode.cause = 1 ∧ t.objs = [] ∧ t.fns = {} ∧ t.pwr = State.reset.pwr ∧ t.stored = s.stored)) ∧
  -- SYS_RESET_N (R84)
  (∀ (s : State) (low : Nat), (10000 ≤ low → Completes (.sysResetN low) s (fun t => t.mode.mode = .boot ∧ t.mode.cause = s.sysCause 2 ∧
      t.dpx.takeovers = s.dpx.takeovers)) ∧
    (low < 1000 → exec (.sysResetN low) s = .next s)) ∧
  -- HK_WATCHDOG_EXPIRY (R84)
  (∀ (s : State), s.powered .hk = true → Completes .hkWatchdogExpiry s (fun t => t.mode.mode = .boot ∧ t.mode.cause = s.sysCause 8 ∧
    t.mode.bootEvent = 0x0013)) ∧
  -- APP_WATCHDOG_EXPIRY (R84)
  (∀ (s : State) (core : Fin 4), s.powered .app = true → bit s.sec.coresHeld core.val = false →
    Completes (.appWatchdogExpiry core) s (fun t => t.mode.cause = setBit s.mode.cause (8 + core.val) ∧ t.mode.mode = s.mode.mode)) ∧
  -- YIELD_RESET (R433)
  (∀ (s : State) (t0 : Nat), s.dpx.yielded = some t0 → t0 + ms 1 ≤ s.now → Completes .yieldReset s (fun t => t.mode.mode = .boot ∧
    t.mode.cause = s.sysCause 0 ∧ t.dpx.yielded = none ∧ t.dpx.lease = false)) ∧
  -- DBG_RESET (R489)
  (∀ (s : State), 2 ≤ s.dbgLevel →
    (s.dbgReadOnly = false → Completes .dbgReset s (fun t => t.mode.mode = .boot ∧ t.mode.cause = s.sysCause 0x10 ∧ t.fns = {})) ∧
    (s.dbgReadOnly = true → exec .dbgReset s = .next (s.errBit 0 0)))

/-- The boot sequence, the listen window and firmware verification run. One clause for each of BOOT_SEQUENCE (R89),
DPX_LISTEN_WINDOW_END (R91), FIRMWARE_VERIFY (R477). -/
def Obligations.BootComplete : Prop :=
  -- BOOT_SEQUENCE (R89)
  (∀ (s : State) (x : BootIn), s.mode.mode = .boot → s.mode.bootStep = 0 → s.mode.halted = false →
    Completes (.bootSequence x) s (fun t =>
      (((s.boot12 x).boot3 x).1 = false → t.mode.halted = true ∧ t.pwr.domains = 7) ∧
      (∀ a b c d, (s.boot12 x).boot3 x = (true, a) → a.bootImages = (true, b) → (b.stepDone 4).boot5 x = (true, c) →
        c.boot6 x = (true, d) → t.mode.bootStep = 8 ∧ t.mode.listenAt = t.now ∧ t.mode.streamSeen = false ∧
          t.fns = (d.boot7 x).fns))) ∧
  -- DPX_LISTEN_WINDOW_END (R91)
  (∀ (s : State), s.mode.mode = .boot → s.mode.bootStep = 8 → s.mode.listenAt + s.listenWindow ≤ s.now →
    Completes .dpxListenWindowEnd s (fun t => t.mode.mode = s.bootMode.1 ∧ t.mode.sub = s.bootMode.2)) ∧
  -- FIRMWARE_VERIFY (R477)
  (∀ (s : State), s.sec.fwRun = false → s.secUp = true → (s.mode.mode = .blocked ∨ s.mode.mode = .forming) →
    Completes .firmwareVerify s (fun t => (s.bootImages.1 = true → t.sec.fwRun = true ∧ t.pwr.domains = setBit s.pwr.domains 3) ∧
      (s.bootImages.1 = false → t.pwr = s.pwr ∧ t.fns = s.fns ∧ t.mode.mode = s.mode.mode)))

/-- FAIL_NOW, FAIL_REASON, GD_VERIFY, INJ_COMMAND, CLK_COMMIT and TIME_SET take effect. One clause for each of FAIL_NOW
(R195), FAIL_REASON_WRITE (R178), GD_VERIFY (R224), INJ_COMMAND (R287), CLK_COMMIT (R317), TIME_SET (R353). -/
def Obligations.CommissioningComplete : Prop :=
  -- FAIL_NOW (R195)
  (∀ (s : State) (level : Nat) (c : Fin 256), s.Shape → 2 ≤ level → s.populated c.val = true →
    Completes (.failNow level c) s (fun t => t.cellAt c.val = { s.cellAt c.val with failNow := true })) ∧
  -- FAIL_REASON_WRITE (R178)
  (∀ (s : State) (level : Nat) (c : Fin 256) (v : BitVec 8), s.Shape → 2 ≤ level → s.isDown .select = true →
    (v = 0 → s.CELL_CLASS c.val ≠ 0 → Completes (.failReasonWrite level c v) s (fun t =>
      (t.cellAt c.val).fail = 0 ∧ (t.cellAt c.val).refresh = none)) ∧
    (v = 7 → s.populated c.val = true → (s.cellAt c.val).fail = 0 → Completes (.failReasonWrite level c v) s (fun t =>
      (t.cellAt c.val).fail = 7 ∧ (t.cellAt c.val).refresh = none))) ∧
  -- GD_VERIFY (R224)
  (∀ (s : State) (level : Nat) (c : Fin 256), s.Shape → 2 ≤ level →
    Completes (.gdVerify level) s (fun t => t.cellAt c.val = if s.populated c.val && s.linkUp (c.val / 32) then
      { s.cellAt c.val with due := some .pass } else s.cellAt c.val)) ∧
  -- INJ_COMMAND (R287)
  (∀ (s : State) (level : Nat) (c : Fin 25), s.Shape → 2 ≤ level → c.val < 16 → s.AIN_ENABLE c.val ≠ 0 → s.isRun .sense = true →
    s.injBusy c.val = false →
    Completes (.injCommand level c) s (fun t => (t.ain c.val).inj = some { mode := s.INJ_MODE c.val, test := false, due :=
      (if (s.ain c.val).preempt = true ∧ ((s.ain c.val).fed : Int) + 3 ≤ s.edges then (s.edges : Int) + 3 else ((s.ain c.val).fed : Int) + 3) } ∧ (t.ain c.val).resOk = false)) ∧
  -- CLK_COMMIT (R317)
  (∀ (s : State) (level : Nat), 3 ≤ level → s.isDown .clock = true →
    (s.clk.ref ≠ .present → Completes (.clkCommit level) s (fun t => t.clk.commit = true ∧ t.clk.a = s.clk.a ∧ t.clk.b = s.clk.b ∧
      t.clk.c = s.clk.c ∧ t.clk.d = s.clk.d)) ∧
    (s.clk.ref = .present → Completes (.clkCommit level) s (fun t => t.clk.commit = false ∧
      ∀ i < 4, (t.clk.pll i).act = s.shadow i))) ∧
  -- TIME_SET (R353)
  (∀ (s : State) (level : Nat) (sec : BitVec 64) (ns : BitVec 32), 2 ≤ level → ns.toNat ≤ 999999999 → s.isDown .time = true →
    Completes (.timeSet level sec ns) s (fun t => t.time.sec = sec.toNat ∧ t.clockNs = ns.toNat))

/-- OUT_SET, OUT_CLEAR, PIN_CLEAR and FORCE take effect. One clause for each of OUT_SET (R368), OUT_CLEAR (R368),
PIN_CLEAR (R371), FORCE_WRITE (R364). -/
def Obligations.OutputCommandsComplete : Prop :=
  -- OUT_SET (R368)
  (∀ (s : State) (level : Nat) (mask : BitVec 32), 1 ≤ level → (s.mode.mode = .commission ∨ s.mode.mode = .blocked ∨ s.mode.mode = .forming) →
    s.maskOk mask.toNat = true →
    Completes (.outSet level mask) s (fun t => ∀ p : Fin 32, t.pin p.val =
      if bit mask.toNat p.val then (s.pin p.val).turnOn s.now s.tick else s.pin p.val)) ∧
  -- OUT_CLEAR (R368)
  (∀ (s : State) (level : Nat) (mask : BitVec 32), 1 ≤ level → (s.mode.mode = .commission ∨ s.mode.mode = .blocked ∨ s.mode.mode = .forming) →
    s.maskOk mask.toNat = true →
    Completes (.outClear level mask) s (fun t => ∀ p : Fin 32, t.pin p.val =
      if bit mask.toNat p.val then (s.pin p.val).turnOff s.now s.tick else s.pin p.val)) ∧
  -- PIN_CLEAR (R371)
  (∀ (s : State) (level : Nat) (p : Fin 32), s.Shape → 2 ≤ level →
    (s.mode.mode = .commission ∨ s.mode.mode = .blocked ∨ s.mode.mode = .forming) →
    Completes (.pinClear level p) s (fun t => t.pin p.val = { s.pin p.val with latched := false, overload := false, thermal := false })) ∧
  -- FORCE_WRITE (R364)
  (∀ (s : State) (level : Nat) (p : Fin 32) (v : Nat), s.Canon → 2 ≤ level → v ≤ 2 → s.mode.mode = .commission → s.FIO_MODE p = 3 →
    s.owner p.val = 0 → s.FORCE p.val ≠ v →
    Completes (.forceWrite level p v) s (fun t => t.val 0x5001 9 p.val = .num v))

/-- The safety reset, the confirmation, writes of the safety and protection sets, and PROT_START take effect. One clause
for each of SAFE_RESET (R392), SAFETY_CONFIRM (R402), SAFETY_SET_WRITE (R400), PROT_SET_WRITE (R412), PROT_START
(R412). -/
def Obligations.SafetyCommandsComplete : Prop :=
  -- SAFE_RESET (R392)
  (∀ (s : State) (level : Nat), 1 ≤ level → (s.mode.mode = .commission ∨ s.mode.mode = .blocked ∨ s.mode.mode = .forming) →
    exec (.safeReset level) s = .next { s with safe := { s.safe with reset := true } }) ∧
  -- SAFETY_CONFIRM (R402)
  (∀ (s : State) (level : Nat) (v : BitVec 32), 3 ≤ level → (s.mode.mode = .commission ∨ s.mode.mode = .blocked) → s.mode.config = 1 →
    s.storedImage = some s.safetyImage → v.toNat = s.safetyCrc →
    Completes (.safetyConfirm level v) s (fun t => t.safe.confirmed = true ∧ t.safe.conf = some v.toNat ∧ t.mode.config = 2)) ∧
  -- SAFETY_SET_WRITE (R400)
  (∀ (s : State) (session level idx sub chan : Nat) (value : List Nat) (o : ObjRow), s.Canon → s.inSafetySet idx sub chan = true →
    findObj idx sub = some o → s.writeStatus (.sess session) level idx sub chan value = stOk →
    Completes (.safetySetWrite session level idx sub chan value) s (fun t => t.val idx sub chan = decodeVal o.ty value ∧
      t.safe.confirmed = false ∧ t.mode.config = (if s.mode.config = 2 then 1 else s.mode.config))) ∧
  -- PROT_SET_WRITE (R412)
  (∀ (s : State) (session level sub : Nat) (value : List Nat) (o : ObjRow), s.Canon → findObj 0x6200 sub = some o →
    s.writeStatus (.sess session) level 0x6200 sub 0 value = stOk →
    Completes (.protSetWrite session level sub value) s (fun t => t.val 0x6200 sub 0 = decodeVal o.ty value ∧
      t.safe.prot.run = false ∧ t.safe.prot.starting = false ∧ t.safe.prot.crc = crc32c (protBytes t.safe.prot.stored))) ∧
  -- PROT_START (R412)
  (∀ (s : State) (level : Nat), 2 ≤ level → (s.mode.mode = .commission ∨ s.mode.mode = .blocked ∨ s.mode.mode = .forming) →
    Completes (.protStart level) s (fun t => t.safe.prot.check = s.protCheck ∧
      t.safe.prot.starting = (s.protCheck == 0 && !s.safe.prot.run)))

/-- Attestation, the owner record, the minimum versions and the debug lock take effect. One clause for each of
ATTEST_REQUEST (R482), ATTEST_SIGNED (R482), OWNER_KEYS_WRITE (R488), CRED_MIN_GEN_WRITE (R486), FUSE_SVN (R478),
APP_MIN_SVN_WRITE (R478), DEBUG_LOCK_SET (R492). -/
def Obligations.SecurityCommandsComplete : Prop :=
  -- ATTEST_REQUEST (R482)
  (∀ (s : State) (session level : Nat) (nonce : List Nat), 1 ≤ level → nonce.length = 32 →
    (s.mode.mode = .commission ∨ s.mode.mode = .blocked ∨ s.mode.mode = .forming) → s.secUp = true → s.sec.signing = none →
    (s.sec.tokens ≠ 0 → s.lmsOut = false → s.fenced 0 2 = false →
      Completes (.attestRequest session level nonce true true) s (fun t => t.sec.signing = some ⟨session, nonce, s.lmsNext⟩ ∧
        t.sec.tokens = s.sec.tokens - 1 ∧ t.lmsNext = s.lmsNext + 1 ∧ t.sec.lmsB = (s.lmsNext + 1, true))) ∧
    (s.sec.tokens = 0 → ∀ x, s.session session = some x →
      Completes (.attestRequest session level nonce true true) s (fun t => t.sec = s.sec ∧
        ∀ y, t.session session = some y → y.attState = 4))) ∧
  -- ATTEST_SIGNED (R482)
  (∀ (s : State) (g : Signing), s.sec.signing = some g → s.secUp = true →
    Completes .attestSigned s (fun t => t.sec.signing = none ∧ ∀ x, t.session g.session = some x → x.attState = 2 ∧
      x.attAnswer = s.attestRecord g ++ Config.identityEcdsa (s.attestRecord g) ++ Config.identityLms g.leaf (s.attestRecord g))) ∧
  -- OWNER_KEYS_WRITE (R488)
  (∀ (s : State) (session level : Nat) (data : List Nat), 3 ≤ level → (s.mode.mode = .commission ∨ s.mode.mode = .blocked) →
    s.secUp = true → s.nvOk = true → ownerOk data = true →
    Completes (.ownerKeysWrite session level data) s (fun t => t.sec.owner = some data ∧ t.ps.sessions = [])) ∧
  -- CRED_MIN_GEN_WRITE (R486)
  (∀ (s : State) (session level : Nat) (v : BitVec 32), 3 ≤ level →
    (s.mode.mode = .commission ∨ s.mode.mode = .blocked ∨ s.mode.mode = .forming) → s.secUp = true → s.nvOk = true →
    s.sec.credMinGen ≤ v.toNat →
    Completes (.credMinGenWrite session level v) s (fun t => t.sec.credMinGen = v.toNat ∧
      (s.sec.credMinGen < v.toNat → ∀ x ∈ t.ps.sessions, v.toNat ≤ x.gen))) ∧
  -- FUSE_SVN (R478)
  (∀ (s : State) (level : Nat) (v : BitVec 16), 3 ≤ level → (s.mode.mode = .commission ∨ s.mode.mode = .blocked ∨ s.mode.mode = .forming) →
    s.secUp = true → v.toNat ≤ 63 → s.sec.fusedSvn ≤ v.toNat → v.toNat ≤ s.sec.secSvn →
    Completes (.fuseSvn level v) s (fun t => s.slotCheck 1 = 0 → v.toNat ≤ ((s.slotImage 1).map Image.svn).getD 0 → t.sec.fusedSvn = v.toNat)) ∧
  -- APP_MIN_SVN_WRITE (R478)
  (∀ (s : State) (session level : Nat) (v : BitVec 16), 3 ≤ level →
    s.secUp = true → s.nvOk = true → (s.mode.mode = .commission ∨ s.mode.mode = .blocked ∨ s.mode.mode = .forming) → v.toNat ≤ 63 → s.sec.appMinSvn ≤ v.toNat →
    v.toNat ≤ s.sec.appSvn →
    Completes (.appMinSvnWrite session level v) s (fun t => t.sec.appMinSvn = v.toNat)) ∧
  -- DEBUG_LOCK_SET (R492)
  (∀ (s : State) (level : Nat), 3 ≤ level → s.mode.mode = .commission →
    Completes (.debugLockSet level 0x4C4F434B) s (fun t => t.sec.debugLock = true ∧ t.sec.dbg = none ∧ t.sec.dbgNonce = none))

/-- The recorder, its window and the register map answer their commands. One clause for each of RECORDER_CLEAR (R464),
WINDOW_SNAPSHOT (R462), REGISTER_WRITE (R65), SELECT_REGISTER_WRITE (R53), TIME_SEC_LO_READ (R338), REC_NEWEST_LO_READ
(R469), REC_OLDEST_LO_READ (R469), REC_OFFER (R466), EVENT_OFFER (R455), FOLIO_WRITE (R457). -/
def Obligations.RecorderComplete : Prop :=
  -- RECORDER_CLEAR (R464)
  (∀ (s : State) (session level : Nat), 3 ≤ level → s.isRun .record = true → s.recd.memFail = false →
    Completes (.recorderClear session level (s.recd.newest % 4294967296)) s (fun t => t.recd.newest = s.recd.newest + 1 ∧
      t.recd.floor = s.recd.newest + 1 ∧ ∃ f, t.recd.margin = [f] ∧ f.seq = s.recd.newest + 1 ∧ f.code = 0x8001)) ∧
  -- WINDOW_SNAPSHOT (R462)
  (∀ (s : State) (m : Fin 7), s.Shape →
    Completes (.windowSnapshot m) s (fun t => let x := entry s.masters m.val {}
      entry t.masters m.val {} = { x with win := (s.recd.window x.cursor x.advance).1, cursor := (s.recd.window x.cursor x.advance).2 })) ∧
  -- REGISTER_WRITE (R65)
  ((∀ (s : State) (m : Fin 7) (w : BitVec 32) (c : Nat), s.Canon → 2 ≤ s.mlevel m.val → m.val ≠ 5 → (entry s.masters m.val {}).sel.ain = c →
    s.regDead m.val 3 0x114 = false →
    s.writeStatus (.master m.val) (s.mlevel m.val) 0x4001 0x0A c (objBytes 0x4001 0x0A (.num w.toNat)) = stOk →
    wrap 32 (s.regCurrent m.val 0x4001 0x0A c).int ≠ w.toNat →
    Completes (.registerWrite m 0x43000114 w) s (fun t => t.val 0x4001 0x0A c = decodeVal .u32 (objBytes 0x4001 0x0A (.num w.toNat)))) ∧
  (∀ (s : State) (m : Fin 7) (w : BitVec 32), s.Shape → m.val ≠ 5 → s.regDead m.val 1 0 = false →
    Completes (.registerWrite m 0x41000000 w) s (fun t => (entry t.hdrs 1 {}).err = setBit (entry s.hdrs 1 {}).err 1 ∧ t.objs = s.objs))) ∧
  -- SELECT_REGISTER_WRITE (R53)
  (∀ (s : State) (m : Fin 7) (g : Fin 5) (v : BitVec 32), s.Shape → (m.val = 5 → s.dbgReadOnly = false) →
    (2 ≤ s.mlevel m.val → v.toNat ≤ selMax g.val → Completes (.selectRegisterWrite m g v) s (fun t =>
      (entry t.masters m.val {}).sel = (entry s.masters m.val {}).sel.put g.val v.toNat ∧ t.hdrs = s.hdrs)) ∧
    (2 ≤ s.mlevel m.val → selMax g.val < v.toNat → Completes (.selectRegisterWrite m g v) s (fun t => t.masters = s.masters ∧
      (entry t.hdrs (groupRegion g.val) {}).err = setBit (entry s.hdrs (groupRegion g.val) {}).err 3)) ∧
    (s.mlevel m.val < 2 → Completes (.selectRegisterWrite m g v) s (fun t => t.masters = s.masters ∧
      (entry t.hdrs (groupRegion g.val) {}).err = setBit (entry s.hdrs (groupRegion g.val) {}).err 0))) ∧
  -- TIME_SEC_LO_READ (R338)
  (∀ (s : State) (m : Fin 7), s.Shape → Completes (.timeSecLoRead m) s (fun t =>
    (entry t.masters m.val {}).readData = s.time.sec % 4294967296 ∧
    (entry t.masters m.val {}).time = { sec := s.time.sec, ns := s.clockNs, frac := s.time.nsf % 4294967296 / 65536, tag := s.timeTag })) ∧
  -- REC_NEWEST_LO_READ (R469)
  (∀ (s : State) (m : Fin 7), s.Shape → Completes (.recNewestLoRead m) s (fun t =>
    (entry t.masters m.val {}).readData = s.recd.newest % 4294967296 ∧ t.recd.newestHi = s.recd.newest / 4294967296)) ∧
  -- REC_OLDEST_LO_READ (R469)
  (∀ (s : State) (m : Fin 7), s.Shape → Completes (.recOldestLoRead m) s (fun t =>
    (entry t.masters m.val {}).readData = s.recd.oldest % 4294967296 ∧ t.recd.oldestHi = s.recd.oldest / 4294967296)) ∧
  -- REC_OFFER (R466)
  (∀ (s : State) (core : Fin 4) (code : BitVec 16) (warn : Bool), 0xF000 ≤ code.toNat →
    exec (.recOffer core code warn) s = .next (s.offer code.toNat (if warn then .warn else .note) 8
      ((entry s.masters core.val {}).offerData.flatMap (le 4)))) ∧
  -- EVENT_OFFER (R455)
  (∀ (s : State) (e : Offer), (assigned e.code = true → exec (.eventOffer [e]) s = .next (s.offer e.code e.cls e.region e.payload)) ∧
    (assigned e.code = false → exec (.eventOffer [e]) s = .next s) ∧
    (∀ f : Offer, assigned e.code = true → assigned f.code = true → f.region < e.region → exec (.eventOffer [e, f]) s =
      .next ((s.offer f.code f.cls f.region f.payload).offer e.code e.cls e.region e.payload)) ∧
    (assigned e.code = true → e.cls = .safe → s.recd.count < 28 → s.recd.scanned = true → (entry s.hdrs 6 {}).fenced = 0 → bypasses e.code e.cls = true →
      Completes (.eventOffer [e]) s (fun t => ∃ f, t.recd.margin = s.recd.margin ++ [f] ∧ f.code = e.code ∧ f.cls = e.cls ∧ f.seq = s.recd.newest + 1 ∧
        t.recd.newest = s.recd.newest + 1))) ∧
  -- FOLIO_WRITE (R457)
  (∀ (s : State) (f : Folio) (rest : List Folio), s.ringOn = true → s.recd.margin = f :: rest →
    (s.run .record ≠ .stopping ∨ rest ≠ [] → s.recd.restoring = none → s.recd.dropEpisode = 0 → Completes (.folioWrite .good) s (fun t =>
      t.recd = { s.recd with ring := tput (fun _ => Slot.empty) s.recd.ring (f.seq % 65536) (.valid f), margin := rest, written := max s.recd.written f.seq })) ∧
    (∀ a : MemAnswer, a ≠ .good → s.run .record ≠ .stopping → Completes (.folioWrite a) s (fun t => t.recd.memFail = true ∧ t.recd.writing = false ∧
      t.recd.failSeq = s.recd.newest + 1 ∧ t.recd.ring = s.recd.ring)) ∧
    (s.run .record = .stopping → rest = [] → s.recd.restoring = none → s.recd.dropEpisode = 0 → Completes (.folioWrite .good) s (fun t =>
      t.run .record = .stopped)))

/-- Errors, fences and their release leave what the fabric rules say. One clause for each of ERROR_CLEAR (R513), UNFENCE
(R513), FENCE_SELFTEST_DONE (R513), UNCORRECTABLE_ERROR (R512), PARITY_ERROR (R510), ECC_CORRECTED (R511),
HANDSHAKE_TIMEOUT (R515). -/
def Obligations.FencingComplete : Prop :=
  -- ERROR_CLEAR (R513)
  (∀ (s : State) (m : Fin 7) (region : Fin 8) (mask : BitVec 32), s.Shape → (if region.val = 7 then 3 else 2) ≤ s.mlevel m.val →
    Completes (.errorClear m region mask) s (fun t =>
      (entry t.hdrs region.val {}).err = (List.range 9).foldl (fun e i => if bit mask.toNat i then clrBit e i else e) (entry s.hdrs region.val {}).err ∧
      (entry t.hdrs region.val {}).first = (if bit mask.toNat 8 then 255 else (entry s.hdrs region.val {}).first) ∧
      (entry t.hdrs region.val {}).fenced = (entry s.hdrs region.val {}).fenced)) ∧
  -- UNFENCE (R513)
  (∀ (s : State) (m : Fin 7) (region : Fin 9) (b : Fin 16), 3 ≤ s.mlevel m.val → s.releasable region.val b.val = true →
    Completes (.unfence m region b) s (fun t => ⟨region.val, b.val⟩ ∈ t.fab.tests ∧ t.hdrs = s.hdrs)) ∧
  -- FENCE_SELFTEST_DONE (R513)
  (∀ (s : State) (region : Fin 9) (b : Fin 16), s.Shape → s.fab.tests.contains ⟨region.val, b.val⟩ = true →
    Completes (.fenceSelftestDone region b true) s (fun t => (entry t.hdrs region.val {}).fenced = clrBit (entry s.hdrs region.val {}).fenced b.val) ∧
    Completes (.fenceSelftestDone region b false) s (fun t => t.hdrs = s.hdrs ∧ ∀ x, x ∈ t.fab.tests ↔ x ∈ s.fab.tests ∧ x ≠ ⟨region.val, b.val⟩)) ∧
  -- UNCORRECTABLE_ERROR (R512)
  (∀ (s : State) (region : Fin 9) (b : Fin 16) (kind : Fin 3), s.Shape →
    (s.powered (blockDomain region.val b.val) = true → b.val < blocksOf region.val → s.fenced region.val b.val = false →
      Completes (.uncorrectableError region b kind false) s (fun t => t.fenced region.val b.val = true)) ∧
    (s.mode.mode ≠ .safe → Completes (.uncorrectableError region b kind true) s (fun t => t.mode.mode = .safe ∧ t.fab.escalation = 4))) ∧
  -- PARITY_ERROR (R510)
  (∀ (s : State) (region : Fin 9) (b : Fin 16) (nth : Fin 4), s.Shape → s.fenced region.val b.val = false → s.powered (blockDomain region.val b.val) = true →
    b.val < blocksOf region.val →
    (nth.val < 3 → Completes (.parityError region b nth) s (fun t => t.fab.parRetries = incSat 32 s.fab.parRetries ∧
      (region.val < 8 → bit (entry t.hdrs region.val {}).err 6 = true) ∧ t.fenced region.val b.val = false)) ∧
    (nth.val = 3 → Completes (.parityError region b nth) s (fun t => t.fenced region.val b.val = true))) ∧
  -- ECC_CORRECTED (R511)
  (∀ (s : State) (region : Fin 9), s.Shape → region.val < 8 → Completes (.eccCorrected region) s (fun t => t.fab.eccCorrected = incSat 32 s.fab.eccCorrected ∧
    bit (entry t.hdrs region.val {}).err 7 = true)) ∧
  -- HANDSHAKE_TIMEOUT (R515)
  (∀ (s : State), s.Shape → (∀ c, c < 4 → s.fenced 8 c = false → Completes (.handshakeTimeout (some c)) s (fun t => t.fenced 8 c = true)) ∧
    (s.mode.mode ≠ .safe → Completes (.handshakeTimeout none) s (fun t => t.mode.mode = .safe ∧ t.fab.escalation = 5)))

/-- Semaphores, queues and application frames behave as the fabric rules say. One clause for each of SEM_ACQUIRE (R517),
SEM_RELEASE (R517), SEM_RENEW (R517), QUEUE_POST (R504), QUEUE_TAKE (R504), SEM_LEASE_EXPIRY (R517), QUEUE_STALL
(R506), APPLICATION_FRAME (R503). -/
def Obligations.SemaphoresAndQueuesComplete : Prop :=
  -- SEM_ACQUIRE (R517)
  (∀ (s : State) (m : Fin 7) (sem : Fin 16), s.Shape → s.fenced 0 5 = false →
    ((entry s.fab.sems sem.val {}).holder = none → Completes (.semAcquire m sem) s (fun t =>
      (entry t.fab.sems sem.val {}).holder = some m.val ∧ (entry t.masters m.val {}).readData = semWord (some m.val) m.val)) ∧
    (∀ h, (entry s.fab.sems sem.val {}).holder = some h → Completes (.semAcquire m sem) s (fun t => t.fab = s.fab ∧
      (entry t.masters m.val {}).readData = semWord (some h) m.val))) ∧
  -- SEM_RELEASE (R517)
  (∀ (s : State) (m : Fin 7) (sem : Fin 16), s.Shape → s.fenced 0 5 = false → (entry s.fab.sems sem.val {}).holder = some m.val →
    Completes (.semRelease m sem) s (fun t => (entry t.fab.sems sem.val {}).holder = none)) ∧
  -- SEM_RENEW (R517)
  (∀ (s : State) (m : Fin 7) (sem : Fin 16), s.Shape → s.fenced 0 5 = false → (entry s.fab.sems sem.val {}).holder = some m.val →
    Completes (.semRenew m sem) s (fun t => entry t.fab.sems sem.val {} = ⟨some m.val, s.now⟩)) ∧
  -- QUEUE_POST (R504)
  (∀ (s : State) (m : Fin 7) (q : Fin 16) (w : BitVec 32) (x : MsgQ), s.Shape → s.fenced 0 5 = false → entry s.fab.queues q.val {} = x →
    x.enable = true → x.producer = m.val →
    (x.entries.length < 32 → Completes (.queuePost m q w) s (fun t => entry t.fab.queues q.val {} =
      { x with entries := x.entries ++ [(w.toNat, s.now)] })) ∧
    (32 ≤ x.entries.length → Completes (.queuePost m q w) s (fun t => entry t.fab.queues q.val {} = { x with full := true }))) ∧
  -- QUEUE_TAKE (R504)
  (∀ (s : State) (m : Fin 7) (q : Fin 16) (x : MsgQ) (e : Nat × Nat) (l : List (Nat × Nat)), s.Shape → s.fenced 0 5 = false →
    entry s.fab.queues q.val {} = x → x.consumer = m.val → x.entries = e :: l →
    Completes (.queueTake m q) s (fun t => entry t.fab.queues q.val {} = { x with entries := l } ∧
      (entry t.masters m.val {}).readData = e.1)) ∧
  -- SEM_LEASE_EXPIRY (R517)
  (∀ (s : State) (sem : Fin 16) (h : Nat), s.Shape → (entry s.fab.sems sem.val {}).holder = some h → (entry s.fab.sems sem.val {}).renewed + us s.SEM_LEASE ≤ s.now →
    Completes (.semLeaseExpiry sem) s (fun t => (entry t.fab.sems sem.val {}).holder = none)) ∧
  -- QUEUE_STALL (R506)
  (∀ (s : State) (q : Fin 16) (x : MsgQ) (e : Nat × Nat) (rest : List (Nat × Nat)), s.Shape → entry s.fab.queues q.val {} = x → x.entries = e :: rest →
    e.2 + us s.QUEUE_STALL ≤ s.now → x.consumer < 4 → s.fenced 8 x.consumer = false →
    Completes (.queueStall q) s (fun t => t.fenced 8 x.consumer = true)) ∧
  -- APPLICATION_FRAME (R503)
  (∀ (s : State) (p : Side) (rct : Option (Nat × Nat)) (nbits : Nat), Completes (.applicationFrame p rct nbits) s (fun t =>
    ∃ f, t = { s with fab := f } ∧ f.netUp = s.fab.netUp))

/-- The debug port commands run. One clause for each of DBG_CHALLENGE (R490), DBG_RESPONSE (R490), DBG_ACCESS (R491),
DBG_END (R490), EXTEST (R489), IDCODE (R489), BYPASS (R489), SAMPLE_PRELOAD (R489), DBG_LOCKOUT_END (R490),
DBG_IDLE_TIMEOUT (R490). -/
def Obligations.DebugComplete : Prop :=
  -- DBG_CHALLENGE (R490)
  (∀ (s : State), s.sec.debugLock = false → s.secUp = true → Completes .dbgChallenge s (fun t =>
    ∃ n, t.sec.dbgNonce = some n ∧ n = Config.randomBytes 32 s.sec.draws ∧ t.sec.tdo = n ++ s.serial ++ le 2 s.device)) ∧
  -- DBG_RESPONSE (R490)
  (∀ (s : State) (cred sig n : List Nat), s.sec.debugLock = false → s.secUp = true → s.sec.dbg = none →
    (∀ e, s.sec.dbgLockout = some e → e ≤ s.now) → s.sec.dbgNonce = some n →
    Completes (.dbgResponse cred sig) s (fun t => bit (numAt cred 2 1) 0 = true ∧ s.credCheck cred sig (s.challenge n) = 0 →
      t.sec.dbg = some ⟨numAt cred 1 1, sliceOf cred 8 16, numAt cred 0x20 8, s.now⟩ ∧ t.sec.dbgNonce = none) ∧
    ((bit (numAt cred 2 1) 0 = false ∨ s.credCheck cred sig (s.challenge n) ≠ 0) → Completes (.dbgResponse cred sig) s (fun t =>
      t.sec.dbg = none ∧ t.sec.dbgNonce = none ∧ (2 ≤ (s.sec.dbgFails.filter (fun a => s.now < a + secs 60)).length →
        t.sec.dbgLockout = some (s.now + secs 60))))) ∧
  -- DBG_ACCESS (R491)
  (∀ (s : State) (d : DebugSession), s.sec.debugLock = false → s.sec.dbg = some d →
    (∀ (addr w : BitVec 32), Completes (.dbgAccess false addr w none) s (fun t => t.sec.dbg = some { d with last := s.now } ∧
      t.sec.tdo = le 4 (entry t.masters 5 {}).readData ∧
      t.masters = ((s.mapSec (fun x => { x with jtag := .access, dbg := x.dbg.map (fun d => { d with last := s.now }) })).regRead 5 addr.toNat).masters)) ∧
    (∀ (addr w : BitVec 32) (c : Fin 4), s.dbgReadOnly = false → Completes (.dbgAccess false addr w (some c)) s (fun t =>
      t.sec.coresHeld = setBit s.sec.coresHeld c.val)) ∧
    (∀ (addr w : BitVec 32) (c : Fin 4), s.dbgReadOnly = true → Completes (.dbgAccess false addr w (some c)) s (fun t =>
      t.sec.coresHeld = s.sec.coresHeld ∧ t.hdrs = (s.errBit 0 0).hdrs))) ∧
  -- DBG_END (R490)
  (∀ (s : State), s.sec.dbg.isSome = true → Completes .dbgEnd s (fun t => t.sec.dbg = none)) ∧
  -- EXTEST (R489)
  (∀ (s : State) (pins tdi : List Bool), s.extestOk = true → Completes (.extest pins tdi) s (fun t => t.sec.tdo = bitsOut pins ∧
    t.sec.boundary = (if tdi.isEmpty then pins else tdi))) ∧
  -- IDCODE (R489)
  (∀ (s : State), exec .idcode s = .next { s with sec := { s.sec with jtag := .idcode, tdo := [0x6B, 0x6A, 0x25, 0x29] } }) ∧
  -- BYPASS (R489)
  (∀ (s : State) (tdi : List Bool), Completes (.bypass tdi) s (fun t => t.sec.tdo = bitsOut ((false :: tdi).take tdi.length) ∧
    t.sec.bypassReg = tdi.getLast?.getD false)) ∧
  -- SAMPLE_PRELOAD (R489)
  (∀ (s : State) (pins tdi : List Bool), Completes (.samplePreload pins tdi) s (fun t => t.sec.tdo = bitsOut pins ∧
    t.sec.boundary = (if tdi.isEmpty then pins else tdi))) ∧
  -- DBG_LOCKOUT_END (R490)
  (∀ (s : State) (e : Nat), s.sec.dbgLockout = some e → e ≤ s.now → Completes .dbgLockoutEnd s (fun t => t.sec.dbgLockout = none)) ∧
  -- DBG_IDLE_TIMEOUT (R490)
  (∀ (s : State) (d : DebugSession), s.sec.dbg = some d → (d.last + secs 600 ≤ s.now ∨ s.pastEnd d.notAfter = true) →
    Completes .dbgIdleTimeout s (fun t => t.sec.dbg = none))

/-- Feed changes, supply checks and the cold power-down run. One clause for each of FEED_STATE_CHANGE (R419),
VDD_3V3_CHECK (R420), PMBUS_POLL (R420), PMB_ALERT (R537), CONDUCTING_FEED_CHANGE (R418), POWER_DOWN_COLD_COMPLETE
(R422). -/
def Obligations.SupplyComplete : Prop :=
  -- FEED_STATE_CHANGE (R419)
  (∀ (s : State) (p : Side) (mv : BitVec 16), Completes (.feedStateChange p mv) s (fun t =>
    t.feedOf p = { level := s.feedEnters (s.feedOf p) mv.toNat, volt := mv.toNat })) ∧
  -- VDD_3V3_CHECK (R420)
  (∀ (s : State) (mv : BitVec 16), s.powered .hk = true → s.pwr.vddAt + ms 1 ≤ s.now →
    Completes (.vdd3v3Check mv) s (fun t => t.pwr.vdd33 = mv.toNat ∧
      t.pwr.vdd33Bad = (decide (mv.toNat < 3000) || decide (3600 < mv.toNat)) ∧ t.pwr.vddAt = s.now)) ∧
  -- PMBUS_POLL (R420)
  (∀ (s : State) (ans : List (Option Nat)), s.powered .hk = true → (s.pwr.pollDue = true ∨ s.pwr.pollAt + ms 10 ≤ s.now) →
    Completes (.pmbusPoll ans) s (fun t => t.pwr.pollAt = s.now ∧ t.pwr.pollDue = false) ∧
    (∀ a w, s.PMBUS_DEV = [a] → ans = [some w] → s.fenced 0 3 = false → Completes (.pmbusPoll ans) s (fun t =>
      { addr := a, status := w % 65536, misses := 0 } ∈ t.pwr.regs))) ∧
  -- PMB_ALERT (R537)
  (∀ (s : State), s.powered .hk = true → exec .pmbAlert s = .next { s with pwr := { s.pwr with pollDue := true } }) ∧
  -- CONDUCTING_FEED_CHANGE (R418)
  (∀ (s : State) (va vb : BitVec 16), Completes (.conductingFeedChange va vb) s (fun t => t.pwr.feedA.volt = va.toNat ∧ t.pwr.feedB.volt = vb.toNat ∧
    (s.pwr.conduct = .a → va.toNat + 30 ≤ vb.toNat → t.pwr.conduct = .b) ∧ (s.pwr.conduct = .b → vb.toNat + 30 ≤ va.toNat → t.pwr.conduct = .a) ∧
    (s.pwr.conduct = .a → vb.toNat < va.toNat + 30 → t.pwr.conduct = .a) ∧ (s.pwr.conduct = .b → va.toNat < vb.toNat + 30 → t.pwr.conduct = .b))) ∧
  -- POWER_DOWN_COLD_COMPLETE (R422)
  (∀ (s : State), s.dpx.downAt ≠ none → s.mode.mode = .standby → s.mode.sub = 1 → Completes .powerDownColdComplete s (fun t =>
    t.pwr.domains = 3 ∧ t.dpx = { s.dpx with downAt := none } ∧ t.mode = s.mode ∧ t.objs = s.objs ∧ t.pwr.wake = some s.wakeRecord))

/-- TICK, the period boundary and the work tied to them run. One clause for each of TICK (R29), FORMING_PERIOD_BOUNDARY
(R32), EXT_SLOTS_RUN (R148), EXT_SLOT_OVERRUN (R149), EXT_RESTORE_REACHED (R149), REFS_SEND (R111), PERIOD_LAST_TICK
(R256). -/
def Obligations.TimeBaseComplete : Prop :=
  -- TICK (R29)
  ((∀ (s : State) (codes : List (List Int)), s.edge = false → s.ps.opened = false → (s.tick + 1) % s.fp ≠ 0 → s.k + 2 ≠ s.fp →
    Completes (.tick codes) s (fun t =>
      t.tick = s.tick + 1 ∧ t.k = (s.tick + 1) % s.fp ∧ t.now = s.now + s.tickNs ∧ t.edge = false)) ∧
  (∀ (s : State) (codes : List (List Int)), s.edge = true → s.ps.opened = false → Completes (.tick codes) s (fun t =>
    t.tick = s.tick ∧ t.k = s.k ∧ t.now = s.now ∧ t.edge = false))) ∧
  -- FORMING_PERIOD_BOUNDARY (R32)
  ((∀ (s : State), s.ps.opened = false → s.atEnd = true → s.advance.ctlUp = true → s.advance.boundaryOpen.ctlUp = true →
    exec .formingPeriodBoundary s = .next { s.advance.boundaryOpen.boundaryRest.edgeMark with edge := true }) ∧
  (∀ (s : State), s.ps.opened = true → s.ctlUp = true → exec .formingPeriodBoundary s = .next s.boundaryRest.edgeMark)) ∧
  -- EXT_SLOTS_RUN (R148)
  (∀ (s : State), s.forming = true → s.extDone = false → 2 ≤ s.k → s.k + 3 ≤ s.fp →
    Completes .extSlotsRun s (fun t => t.extDone = true) ∧
    (∀ i, s.slotsNow = [i] → s.fenced 1 2 = false →
      Completes .extSlotsRun s (fun t => (Config.microcode (s.IMAGE i) s.form.extIn).2 ≤ s.BUDGET i → t.form.overran = false ∧
        t.law.exOut = putAt i (signed 32 (wrap 32 (Config.microcode (s.IMAGE i) s.form.extIn).1)) s.law.exOut))) ∧
  -- EXT_SLOT_OVERRUN (R149)
  (∀ (s : State), s.forming = true → s.form.overran = true →
    (s.law.exN = 0 → Completes .extSlotOverrun s (fun t => t.law.exN = 1 ∧ t.form.overran = false ∧
      t.law.exSt = (if s.law.exSt = 2 then 2 else 1))) ∧
    (s.law.exN = 1 → Completes .extSlotOverrun s (fun t => t.law.exSt = 2 ∧ t.law.exN = 2 ∧ t.form.overran = false)) ∧
    (2 ≤ s.law.exN → s.isDown .form = false → Completes .extSlotOverrun s (fun t => t.tripped .form ∧ t.law.rpend = 255))) ∧
  -- EXT_RESTORE_REACHED (R149)
  (∀ (s : State), s.restoreDue = true → Completes .extRestoreReached s (fun t => t.law.exSt = 0 ∧ t.law.exRun = 0)) ∧
  -- REFS_SEND (R111)
  (∀ (s : State) (r : RefSet), s.k + 2 = s.fp → s.refsDone = false → s.edge = false → s.slotsFinish.form.refs = some r →
    s.slotsFinish.forming = true → s.slotsFinish.spn.leader = some s.slotsFinish.device → s.slotsFinish.holdsLease = true →
    Completes .refsSend s (fun t => t.refsDone = true ∧ t.arm.next = some r ∧
      (s.slotsFinish.spnActive = true → t.tx = .spine 3 (spineBytes 0x31 s.device s.station s.slotsFinish.tick s.slotsFinish.law.payload) ::
        .spine 3 (spineBytes 0x30 s.device s.station s.slotsFinish.tick r.payload) :: s.slotsFinish.tx))) ∧
  -- PERIOD_LAST_TICK (R256)
  (∀ (s : State), s.ctlUp = true → s.k + 1 = s.fp → s.lastDone = false → s.edge = false →
    Completes .periodLastTick s (fun t => t.lastDone = true ∧ (s.spnActive = true →
      (s.spn.pub.getD s.publication).call ∈ t.spn.calls)))

/-- A received spine message in its time is held or used. One clause for each of MARKER (R246), SHARE (R160), REPORT
(R162), ARM_STATE (R271), ROLL_CALL (R256), SPAN_PUB (R157), MEAS (R100), SETPOINT (R101), REFS (R261), STATE (R266). -/
def Obligations.SpineMessagesComplete : Prop :=
  -- MARKER (R246)
  (∀ (s : State) (p : Side) (header : BitVec 64) (data : List Nat) (arrival : Int), s.spnActive = true →
    (spineParse header.toNat).type = 0x01 → spineGood header.toNat data = true → (spineParse header.toNat).src ≠ s.device →
    s.firstCopy (spineParse header.toNat) p.code = true →
    ((spineParse header.toNat).station ≠ s.station ∨ entry data 0 0 ≠ s.tickCode → Completes (.markerMsg p header data arrival) s (fun t =>
      t.spn.foreign = true ∧ t.spn.member = false)) ∧
    ((spineParse header.toNat).station = s.station → entry data 0 0 = s.tickCode → s.spn.isMaster = false →
      s.spn.master = some (spineParse header.toNat).src →
      Completes (.markerMsg p header data arrival) s (fun t => t.spn.foreign = false ∧ t.spn.master = s.spn.master))) ∧
  -- SHARE (R160)
  (∀ (s : State) (p : Side) (header : BitVec 64) (data : List Nat), s.hears 0x10 0 header data s.forThis → s.ARM_LEAD = 0 →
    s.activeOf s.ARM_PARTNER_POS = some (spineParse header.toNat).src →
    Completes (.shareMsg p header data false) s (fun t => t.arm.held = some { tick := s.nextTick, no := ofLe (data.take 2), im := ofLeI ((data.drop 2).take 4), imOk := bit (entry data 6 0) 0, block := bit (entry data 6 0) 1 })) ∧
  -- REPORT (R162)
  (∀ (s : State) (p : Side) (header : BitVec 64) (data : List Nat), s.hears 0x11 0 header data s.forLast → s.leads2 = true →
    s.activeOf s.ARM_PARTNER_POS = some (spineParse header.toNat).src →
    (bit (entry data 0 0) 0 = false → Completes (.spanReport p header data false) s (fun t =>
      t.arm.report = some { tick := s.nextTick - 1, block := false, lo := ofLe ((data.drop 2).take 2), hi := ofLe ((data.drop 4).take 2) })) ∧
    (bit (entry data 0 0) 0 = true → s.flagOf (s.nextTick - 1) = some false → s.mode.mode = .forming → s.isRun .arm = true →
      Completes (.spanReport p header data false) s (fun t => t.tripped .arm))) ∧
  -- ARM_STATE (R271)
  (∀ (s : State) (p : Side) (header : BitVec 64) (data : List Nat), s.hears 0x12 0 header data s.forLast →
    (Completes (.armState p header data false) s (fun t => entry data 0 0 % 8 < s.spn.arms.length →
      entry t.spn.arms (entry data 0 0 % 8) {} = { seen := (entry s.spn.arms (entry data 0 0 % 8) {}).seen || bit (entry data 1 0) 1, tick := s.nextTick - 1 })) ∧
    (s.ARM_LEAD = 1 → s.mode.mode = .forming → s.isRun .arm = true → entry data 0 0 % 8 ≠ s.ownArm → bit (entry data 1 0) 0 = true →
      bit (entry data 1 0) 1 = true → Completes (.armState p header data false) s (fun t => t.tripped .arm))) ∧
  -- ROLL_CALL (R256)
  (∀ (s : State) (p : Side) (header : BitVec 64) (data : List Nat), s.hears 0x20 0 header data s.forPeriod →
    (s.spn.master ≠ some (spineParse header.toNat).src ∨ s.spn.numbered = true) →
    Completes (.rollCall p header data false) s (fun t => RollCall.ofBytes p (spineParse header.toNat) data ∈ t.spn.calls ∧ t.tick = s.tick)) ∧
  -- SPAN_PUB (R157)
  (∀ (s : State) (p : Side) (header : BitVec 64) (data : List Nat), s.hears 0x21 0 header data s.forPeriod →
    Completes (.spanPub p header data false) s (fun t => t.spn.pubs = s.spn.pubs ++ [{ src := (spineParse header.toNat).src, av := ofLe (data.take 2), arm := entry data 2 0, sum := ofLe ((data.drop 4).take 8), sq := ofLe ((data.drop 12).take 8) }])) ∧
  -- MEAS (R100)
  (∀ (s : State) (p : Side) (header : BitVec 64) (data : List Nat) (m : MeasItem),
    s.hears 0x22 (entry data 0 0 + 16 * (if entry data 0 0 = 4 then ofLe ((data.drop 2).take 2) else 0)) header data s.forPeriod →
    MeasItem.ofBytes data = some m →
    Completes (.measMsg p header data false) s (fun t => t.spn.meas = s.spn.meas ++ [((spineParse header.toNat).src, m)])) ∧
  -- SETPOINT (R101)
  (∀ (s : State) (p : Side) (header : BitVec 64) (data : List Nat), s.hears 0x23 (entry data 2 0) header data s.forPeriod →
    ofLe (data.take 2) = 0x2002 →
    Completes (.setpointMsg p header data false) s (fun t => t.objs = s.objs ∧
      t.spn.sets = s.spn.sets ++ [((spineParse header.toNat).src, entry data 2 0, ofLeI ((data.drop 4).take 4))])) ∧
  -- REFS (R261)
  (∀ (s : State) (p : Side) (header : BitVec 64) (data : List Nat), s.hears 0x30 0 header data s.forRefs →
    (s.spn.leader = some (spineParse header.toNat).src → Completes (.refsMsg p header data false) s (fun t =>
      t.spn.refsMsg = some (RefSet.ofBytes data) ∧ (s.mode.mode = .forming → t.arm.next = some (RefSet.ofBytes data)))) ∧
    (s.spn.leader ≠ some (spineParse header.toNat).src → Completes (.refsMsg p header data false) s (fun t =>
      t.spn.refsMsg = s.spn.refsMsg ∧ t.arm = s.arm))) ∧
  -- STATE (R266)
  (∀ (s : State) (p : Side) (header : BitVec 64) (data : List Nat), s.hears 0x31 0 header data s.forRefs →
    s.spn.leader = some (spineParse header.toNat).src →
    Completes (.stateMsg p header data false) s (fun t => t.spn.stateMsg = some (LawBlock.ofBytes data) ∧ t.form = s.form))

/-- The spine ports, the marker timers and the tick lock behave as stated. One clause for each of SPINE_ECHO (R239),
SPINE_ECHO_REPLY (R239), SEGMENT_MEASURE (R239), SPINE_PORT_LOCK_LOST (R273), SPINE_PORT_RESTORED (R273),
MARKER_WAIT_EXPIRY (R251), MARKER_MISSING (R252), MARKER_LOSS_TRIP (R253), TICK_LOCK_ACQUIRED (R247). -/
def Obligations.SpineLinkComplete : Prop :=
  -- SPINE_ECHO (R239)
  (∀ (s : State) (p : Side) (header : BitVec 64) (data : List Nat) (hold : BitVec 16), s.spineUsable 0x40 header.toNat data = true →
    s.firstCopy (spineParse header.toNat) (echoItem p data) = true →
    Completes (.spineEcho p header data hold) s (fun t => t.tx = .spine 3
      (spineBytes 0x41 s.device s.station s.tick (data.take 4 ++ le 2 hold.toNat ++ List.replicate 6 0)) :: s.tx)) ∧
  -- SPINE_ECHO_REPLY (R239)
  (∀ (s : State) (p : Side) (header : BitVec 64) (data : List Nat) (rx : BitVec 32), s.spineUsable 0x41 header.toNat data = true →
    (s.port p).lock = true → s.firstCopy (spineParse header.toNat) (echoItem p data) = true →
    (s.port p).sentAt = some (ofLe (data.take 4)) → (s.port p).echoes.length < 15 →
    Completes (.spineEchoReply p header data rx) s (fun t => (t.port p).echoes =
      ((rx.toNat + 4294967296 - ofLe (data.take 4)) % 4294967296 - ofLe ((data.drop 4).take 2)) :: (s.port p).echoes)) ∧
  -- SEGMENT_MEASURE (R239)
  (∀ (s : State) (p : Side), s.spnActive = true → (s.port p).lock = true → Completes (.segmentMeasure p) s (fun t =>
    (t.port p).echoes = [] ∧ (t.port p).sentAt = some (s.now % 4294967296) ∧
    t.tx = .spine 3 (spineBytes 0x40 s.device s.station s.tick (le 4 s.now)) :: s.tx)) ∧
  -- SPINE_PORT_LOCK_LOST (R273)
  (∀ (s : State) (p : Side), (s.port p).lock = true → Completes (.spinePortLockLost p) s (fun t =>
    (t.port p).lock = false ∧ (t.port p).measured = false)) ∧
  -- SPINE_PORT_RESTORED (R273)
  (∀ (s : State) (p : Side), (s.port p).lock = false → Completes (.spinePortRestored p) s (fun t => (t.port p).lock = true)) ∧
  -- MARKER_WAIT_EXPIRY (R251)
  (∀ (s : State), s.spnActive = true → s.TICK_MASTER_EN = 1 → s.spn.heard = false → s.spn.isMaster = false → s.MARKER_WAIT ≤ s.spn.markWait →
    Completes .markerWaitExpiry s (fun t => t.spn.isMaster = true ∧ t.spn.master = some s.device ∧ t.spn.locked = true)) ∧
  -- MARKER_MISSING (R252)
  (∀ (s : State), s.spnActive = true → s.spn.isMaster = false → s.spn.master.isSome = true → s.MARKER_MISS_MAX ≤ s.spn.markMiss →
    (s.nextMaster = none → Completes .markerMissing s (fun t => t.spn.locked = false ∧ t.spn.master = s.spn.master)) ∧
    (s.nextMaster = some s.device → Completes .markerMissing s (fun t => t.spn.isMaster = true ∧ t.spn.master = some s.device)) ∧
    (∀ d, s.nextMaster = some d → d ≠ s.device → Completes .markerMissing s (fun t => t.spn.locked = false ∧ t.spn.master = some d))) ∧
  -- MARKER_LOSS_TRIP (R253)
  (∀ (s : State), s.mode.mode = .forming → s.spn.isMaster = false → s.MARKER_LOSS_TRIP ≤ s.spn.lossRun → s.isRun .trunk = true →
    Completes .markerLossTrip s (fun t => t.tripped .trunk)) ∧
  -- TICK_LOCK_ACQUIRED (R247)
  (∀ (s : State), s.spnActive = true → s.lockTicks ≤ s.spn.lockRun → Completes .tickLockAcquired s (fun t => t.spn.locked = true))

/-- Missing shares, reports, arm states and references have their effect. One clause for each of SHARE_MISSING (R161),
SHARE_MISS_TRIP (R161), REPORT_MISSING_TRIP (R162), ARM_STATE_MISSING (R272), LEAD_WAIT_EXPIRY (R263), REFS_LOST_TRIP
(R164), SUBSTITUTE_LIMIT_EXPIRY (R168), PRIMARY_RESTORE (R100), SHADOW_MISMATCH_LIMIT (R113), SHADOW_MATCH_RESTORE
(R113). -/
def Obligations.SpineTimersComplete : Prop :=
  -- SHARE_MISSING (R161)
  (∀ (s : State), s.ARM_LEAD = 0 → s.mode.mode = .forming → s.isRun .arm = true → s.shareFor s.nextTick = none → s.arm.holdNow = false →
    Completes .shareMissing s (fun t => t.arm.holdNow = true ∧ t.arm.misses = incSat 32 s.arm.misses ∧ t.arm.missRun = satU 8 (s.arm.missRun + 1))) ∧
  -- SHARE_MISS_TRIP (R161)
  (∀ (s : State), s.ARM_LEAD = 0 → s.mode.mode = .forming → s.isRun .arm = true → s.SHARE_MISS_MAX ≤ s.arm.missRun →
    Completes .shareMissTrip s (fun t => t.tripped .arm)) ∧
  -- REPORT_MISSING_TRIP (R162)
  (∀ (s : State), s.leads2 = true → s.mode.mode = .forming → s.isRun .arm = true → s.SHARE_MISS_MAX ≤ s.arm.repMiss →
    Completes .reportMissingTrip s (fun t => t.tripped .arm)) ∧
  -- ARM_STATE_MISSING (R272)
  (∀ (s : State), s.armSilent = true → Completes .armStateMissing s (fun t => t.tripped .arm)) ∧
  -- LEAD_WAIT_EXPIRY (R263)
  (∀ (s : State), s.mode.mode = .forming → s.isRun .form = true → s.LEAD_WAIT ≤ s.form.leadWait →
    Completes .leadWaitExpiry s (fun t => t.tripped .form)) ∧
  -- REFS_LOST_TRIP (R164)
  (∀ (s : State), s.arm.extended = true → s.arm.refs.isSome = true → s.arm.next = none → s.k + 1 = s.fp → s.edge = false →
    (s.ARM_LEAD = 0 → Completes .refsLostTrip s (fun t => t.arm.refs = none ∧ t.arm.extended = false ∧ t.fns = s.fns)) ∧
    (s.ARM_LEAD = 1 → s.mode.mode = .forming → s.isRun .arm = true → Completes .refsLostTrip s (fun t => t.tripped .arm))) ∧
  -- SUBSTITUTE_LIMIT_EXPIRY (R168)
  (∀ (s : State) (i : Nat), i < 4 → s.mode.mode = .forming → s.isRun .form = true → s.subExpired i = true →
    Completes .substituteLimitExpiry s (fun t => t.tripped .form)) ∧
  -- PRIMARY_RESTORE (R100)
  (∀ (s : State), s.mode.mode = .forming → s.isRun .form = true → s.form.srcPcc.use = 1 → 16 ≤ s.form.srcPcc.primRun →
    Completes .primaryRestore s (fun t => t.form.srcPcc = { s.form.srcPcc with use := 0 })) ∧
  -- SHADOW_MISMATCH_LIMIT (R113)
  (∀ (s : State), 3 ≤ s.form.mism → s.form.barred = false → Completes .shadowMismatchLimit s (fun t => t.form.barred = true ∧ t.form.matchRun = 0)) ∧
  -- SHADOW_MATCH_RESTORE (R113)
  (∀ (s : State), s.form.barred = true → 16 ≤ s.form.matchRun → Completes .shadowMatchRestore s (fun t => t.form.barred = false ∧ t.form.valid = true))

/-- The phases of ramp, match, close and settle end as stated. One clause for each of SYNC_TIMEOUT (R116), SYNC_FB_TIMEOUT
(R116), SYNC_DWELL_ELAPSED (R116), SYNC_PULSE_END (R116), SETTLE_DWELL_ELAPSED (R115), BS_RAMP_COMPLETE (R115),
BS_STALL_EXPIRY (R115). -/
def Obligations.FormingEntryComplete : Prop :=
  -- SYNC_TIMEOUT (R116)
  (∀ (s : State), s.syncTimeoutDue = true → s.isDown .form = false → Completes .syncTimeout s (fun t => t.tripped .form)) ∧
  -- SYNC_FB_TIMEOUT (R116)
  (∀ (s : State), (s.bsCloseDue = true → Completes .syncFbTimeout s (fun t => t.tripped .form)) ∧
    (s.closeFailed = true → s.SYNC_RETRY < s.law.fails + 1 → Completes .syncFbTimeout s (fun t => t.tripped .form ∧ t.form.close = false)) ∧
    (s.closeFailed = true → s.law.fails + 1 ≤ s.SYNC_RETRY → Completes .syncFbTimeout s (fun t => t.law.sub = 2 ∧ t.law.phase = 2 ∧
      t.law.fails = s.law.fails + 1 ∧ t.form.close = false))) ∧
  -- SYNC_DWELL_ELAPSED (R116)
  (∀ (s : State), s.matchDue = true → Completes .syncDwellElapsed s (fun t => t.law.sub = 2 ∧ t.law.phase = 3 ∧ t.law.phT = 0 ∧
    t.form.close = s.toClosing.closeNow)) ∧
  -- SYNC_PULSE_END (R116)
  (∀ (s : State), s.inPhase 2 3 = true → s.SYNC_PULSE ≤ s.law.phT → Completes .syncPulseEnd s (fun t => t.form.close = false ∧ t.form.b = s.form.b)) ∧
  -- SETTLE_DWELL_ELAPSED (R115)
  (∀ (s : State), s.settleDue = true →
    (s.brkClosed = true → Completes .settleDwellElapsed s (fun t => t.law.sub = 3 ∧ t.law.phase = 0 ∧ t.mode.mode = .forming ∧
      (s.mode.sub ≠ 3 → t.mode.subDue = some 3))) ∧
    (s.brkClosed = false → Completes .settleDwellElapsed s (fun t => t.law.sub = 2 ∧ t.law.phase = 1 ∧ t.mode.mode = .forming ∧
      (s.mode.sub ≠ 2 → t.mode.subDue = some 2)))) ∧
  -- BS_RAMP_COMPLETE (R115)
  (∀ (s : State), s.rampDue = true → Completes .bsRampComplete s (fun t => t.law = { s.law with sub := 1, phase := 3, phT := 0 })) ∧
  -- BS_STALL_EXPIRY (R115)
  (∀ (s : State), s.bsStallDue = true → Completes .bsStallExpiry s (fun t => t.tripped .form))

/-- Ride-through is entered, cleared, recovered from and bounded; regions change after their dwell. One clause for each of
RIDE_ENTRY (R119), RIDE_T_CLEAR_ELAPSED (R120), RECOVER_COMPLETE (R108), RIDE_T_MAX_EXPIRY (R120), REGION_DWELL_EXPIRY
(R138). -/
def Obligations.RideThroughComplete : Prop :=
  -- RIDE_ENTRY (R119)
  (∀ (s : State), s.rideDue = true → Completes .rideEntry s (fun t => t.law.sub = 4 ∧ t.law.phase = 1 ∧ t.law.rideN = 0 ∧
    t.law.riT = (if s.law.sub = 4 then s.law.riT else 0) ∧ t.mode.mode = .forming)) ∧
  -- RIDE_T_CLEAR_ELAPSED (R120)
  (∀ (s : State), s.clearDue = true →
    (s.T_REC = 0 → Completes .rideTClearElapsed s (fun t => t.law.sub = 3 ∧ t.law.phase = 0 ∧ t.law.riT = 0)) ∧
    (s.T_REC ≠ 0 → Completes .rideTClearElapsed s (fun t => t.law = { s.law with sub := 4, phase := 2, phT := 0 }))) ∧
  -- RECOVER_COMPLETE (R108)
  (∀ (s : State), s.recoverDue = true → Completes .recoverComplete s (fun t => t.law.sub = 3 ∧ t.law.phase = 0 ∧ t.law.riT = 0 ∧
    (s.mode.sub ≠ 3 → t.mode.subDue = some 3))) ∧
  -- RIDE_T_MAX_EXPIRY (R120)
  (∀ (s : State), s.rideMaxDue = true → Completes .rideTMaxExpiry s (fun t => t.tripped .form)) ∧
  -- REGION_DWELL_EXPIRY (R138)
  (∀ (s : State) (c : Nat), s.forming = true → s.law.sub ≠ 4 → s.law.rpend = 255 → s.regionDue = true → s.regionFor = some c →
    (c = s.law.region → Completes .regionDwellExpiry s (fun t => t.law = { s.law with dwell := 0 })) ∧
    (c ≠ s.law.region → Completes .regionDwellExpiry s (fun t => t.law = { s.law with rpend := c })))

/-- The timers and counters of a cell have their effect on that cell. One clause for each of REFRESH_DUE (R184),
BS_RECOVER_TIMEOUT (R185), DWELL_EXPIRY (R186), SW_PERIOD_END (R187), TEL_STALE_EXCEEDED (R181), TEL_LOST (R229),
APPLIED_MISMATCH_LIMIT (R228). -/
def Obligations.CellTimersComplete : Prop :=
  -- REFRESH_DUE (R184)
  (∀ (s : State) (c : Fin 256), s.Shape → s.isRun .select = true → (s.cellAt c.val).refresh = none →
    s.ruleOf s.tick c.val (s.stale c.val s.tick) (s.staleness c.val s.tick == 0) = 7 →
    s.refreshDue (s.cellAt c.val) (s.staleness c.val s.tick == 0) = true →
    Completes (.refreshDue c) s (fun t => (t.cellAt c.val).refresh = some (s.tick + 1 + s.APPLY_DELAY) ∧
      t.cell.refreshes = incSat 32 s.cell.refreshes)) ∧
  -- BS_RECOVER_TIMEOUT (R185)
  (∀ (s : State) (c : Fin 256) (ar : Nat), s.Shape → (s.cellAt c.val).refresh = some ar → s.populated c.val = true → (s.cellAt c.val).fail = 0 →
    ar + s.T_BS_RECOVER + 2 ≤ s.tick → ((s.cellAt c.val).bsGood = false ∨ (s.cellAt c.val).latched ≠ some s.tick) →
    Completes (.bsRecoverTimeout c) s (fun t => (t.cellAt c.val).fail = 6 ∧ (t.cellAt c.val).refresh = none)) ∧
  -- DWELL_EXPIRY (R186)
  (∀ (s : State) (c : Fin 256) (b : Nat), s.Shape → (s.cellAt c.val).change = some b → b + s.T_DWELL_MIN ≤ s.tick + 1 + s.APPLY_DELAY →
    Completes (.dwellExpiry c) s (fun t => (t.cellAt c.val).change = none)) ∧
  -- SW_PERIOD_END (R187)
  (∀ (s : State) (c : Fin 256), s.Shape → s.SW_PERIOD ≤ s.cell.swCount →
    Completes .swPeriodEnd s (fun t => t.cell.swCount = 0 ∧ (t.cellAt c.val).credit = (s.cellAt c.val).credit - 1)) ∧
  -- TEL_STALE_EXCEEDED (R181)
  (∀ (s : State) (c : Fin 256), s.Shape → s.populated c.val = true →
    Completes (.telStaleExceeded c) s (fun t => (t.cellAt c.val).staleEp = s.stale c.val s.tick)) ∧
  -- TEL_LOST (R229)
  (∀ (s : State) (c : Fin 256), s.Shape → s.populated c.val = true → (s.cellAt c.val).fail = 0 → s.TEL_LOST ≤ (s.cellAt c.val).lostRun →
    Completes (.telLost c) s (fun t => (t.cellAt c.val).fail = 4)) ∧
  -- APPLIED_MISMATCH_LIMIT (R228)
  (∀ (s : State) (c : Fin 256), s.Shape → s.populated c.val = true → (s.cellAt c.val).fail = 0 → 16 ≤ (s.cellAt c.val).misRun →
    Completes (.appliedMismatchLimit c) s (fun t => (t.cellAt c.val).fail = 3))

/-- Frames and management answers of a trunk are held or used. One clause for each of UPLINK_FRAME (R208),
TRUNK_ECHO_REPLY (R214), DELAY_ACK (R214), CELL_DELAYS (R214), INFO (R214), ALARM (R228), MGMT_REQUEST_TIMEOUT (R209),
MAILBOX_READ_TIMEOUT (R221), PERIODIC_READBACK (R224). -/
def Obligations.TrunkFramesComplete : Prop :=
  -- UPLINK_FRAME (R208)
  (∀ (s : State) (q : Fin 8) (head : List Nat) (words : List (List Nat)), s.Shape → 2 ≤ (s.trk q.val).st → head.length = 8 →
    crc8 (head.take 7) = entry head 7 0 → ofLe head % 16777216 = s.tick % 16777216 →
    Completes (.uplinkFrame q head words) s (fun t => ⟨head, words⟩ ∈ (t.trk q.val).held)) ∧
  -- TRUNK_ECHO_REPLY (R214)
  (∀ (s : State) (q : Fin 8) (sent : BitVec 32) (hold : BitVec 16) (rt x : Nat), s.Shape → (s.trk q.val).st = 2 →
    (s.trk q.val).req = some (1, le 4 sent.toNat, x) →
    Completes (.trunkEchoReply q sent hold rt) s (fun t => (t.trk q.val).req = none ∧
      (t.trk q.val).echoes = (s.trk q.val).echoes ++ [rt - hold.toNat])) ∧
  -- DELAY_ACK (R214)
  (∀ (s : State) (q : Fin 8) (aligned : Bool), s.Shape → (s.trk q.val).st = 3 →
    Completes (.delayAck q aligned) s (fun t => (t.trk q.val).aligned = aligned ∧
      ∀ p a, (s.trk q.val).req = some (2, p, a) → (t.trk q.val).req = none)) ∧
  -- CELL_DELAYS (R214)
  (∀ (s : State) (q : Fin 8) (ds : List Nat), s.Shape → (s.trk q.val).st ≠ 0 →
    Completes (.cellDelays q ds) s (fun t => (t.trk q.val).gotDelays = true ∧
      (t.trk q.val).tCell = maxN 0 ((padTo 32 ds).filter (fun d => d < 255)))) ∧
  -- INFO (R214)
  (∀ (s : State) (q : Fin 8) (data : List Nat), s.Shape → (s.trk q.val).st ≠ 0 →
    Completes (.hubInfo q data) s (fun t => (t.trk q.val).gotInfo = true ∧ (t.trk q.val).info = padTo 12 data)) ∧
  -- ALARM (R228)
  (∀ (s : State) (q : Fin 8) (code : BitVec 8) (detail : BitVec 32), s.Shape → (s.trk q.val).st ≠ 0 →
    Completes (.hubAlarm q code detail) s (fun t => (t.trk q.val).almEv = code.toNat)) ∧
  -- MGMT_REQUEST_TIMEOUT (R209)
  (∀ (s : State) (q : Fin 8) (ty sent : Nat) (p : List Nat), s.Shape → (s.trk q.val).req = some (ty, p, sent) → sent + 8 ≤ s.tick →
    Completes (.mgmtRequestTimeout q) s (fun t => (t.trk q.val).req = some (ty, p, s.tick) ∧ t.tx.length = s.tx.length + 1)) ∧
  -- MAILBOX_READ_TIMEOUT (R221)
  (∀ (s : State) (c : Fin 256) (m : MailTx), s.Shape → (s.cellAt c.val).mail = some m → m.again = true → m.sent + 16 ≤ s.tick →
    s.populated c.val = true → (s.cellAt c.val).fail = 0 →
    Completes (.mailboxReadTimeout c) s (fun t => (t.cellAt c.val).fail = 5 ∧ (t.cellAt c.val).refresh = none)) ∧
  -- PERIODIC_READBACK (R224)
  (∀ (s : State) (q : Fin 8) (w : Nat), s.Shape → (s.trk q.val).st = 5 → s.VERIFY_T ≠ 0 → s.VERIFY_T ≤ (s.trk q.val).vCount →
    ((List.range 32).map (fun i => ((s.trk q.val).pos + i) % 32)).find? (fun w => s.populated (32 * q.val + w)) = some w →
    Completes (.periodicReadback q) s (fun t => (t.trk q.val).vCount = 0 ∧ (t.trk q.val).pos = (w + 1) % 32 ∧
      (t.cellAt (32 * q.val + w)).due = some ((s.cellAt (32 * q.val + w)).due.getD .periodic)))

/-- A trunk passes through TRAIN, MEASURE, ALIGN and VERIFY to UP, or to RETRY. One clause for each of
TRUNK_TRAIN_COMPLETE (R214), TRUNK_MEASURE_COMPLETE (R214), TRUNK_ALIGN_COMPLETE (R214), TRUNK_VERIFY_COMPLETE (R223),
TRUNK_RETRY_EXPIRY (R214), TRUNK_BLOCK_LOCK_LOST (R215), TRUNK_LEAVES_UP (R215). -/
def Obligations.TrunkBringUpComplete : Prop :=
  -- TRUNK_TRAIN_COMPLETE (R214)
  (∀ (s : State) (q : Fin 8), s.Shape → (s.trk q.val).st = 1 →
    Completes (.trunkTrainComplete q true) s (fun t => (t.trk q.val).st = (if s.wokenHeld then 3 else 2) ∧ (t.trk q.val).lockDn = true ∧
      (t.trk q.val).lockUp = true) ∧
    ((s.trk q.val).at_ + ms 2 ≤ s.now → Completes (.trunkTrainComplete q false) s (fun t => (t.trk q.val).st = 6))) ∧
  -- TRUNK_MEASURE_COMPLETE (R214)
  (∀ (s : State) (q : Fin 8) (lo hi mean : Nat), s.Shape → (s.trk q.val).st = 2 → 64 ≤ (s.trk q.val).echoes.length →
    (s.trk q.val).echoes.foldl Nat.min ((s.trk q.val).echoes.headD 0) = lo → maxN 0 (s.trk q.val).echoes = hi →
    (divNearUp (sumN (s.trk q.val).echoes) 128).toNat = mean →
    (hi ≤ lo + 8 → mean ≤ 760 → Completes (.trunkMeasureComplete q) s (fun t => (t.trk q.val).st = 3 ∧ (t.trk q.val).tTrk = mean)) ∧
    (lo + 8 < hi ∨ 760 < mean → Completes (.trunkMeasureComplete q) s (fun t => (t.trk q.val).st = 6))) ∧
  -- TRUNK_ALIGN_COMPLETE (R214)
  (∀ (s : State) (q : Fin 8), s.Shape → (s.trk q.val).st = 3 → (s.trk q.val).aligned = true → (s.trk q.val).gotInfo = true →
    (s.trk q.val).gotDelays = true →
    ((s.trk q.val).tCell ≤ 155 → 1278 + (s.trk q.val).tTrk + (s.trk q.val).tCell ≤ s.APPLY_DELAY * s.tickNs → s.holdsLease = true →
      s.mode.mode ≠ .standby → Completes (.trunkAlignComplete q) s (fun t => (t.trk q.val).st = 4 ∧
        (t.trk q.val).dMin = max 2 ((1278 + (s.trk q.val).tTrk + (s.trk q.val).tCell + s.tickNs - 1) / s.tickNs))) ∧
    (155 < (s.trk q.val).tCell ∨ s.APPLY_DELAY * s.tickNs < 1278 + (s.trk q.val).tTrk + (s.trk q.val).tCell →
      Completes (.trunkAlignComplete q) s (fun t => (t.trk q.val).st = 6))) ∧
  -- TRUNK_VERIFY_COMPLETE (R223)
  (∀ (s : State) (q : Fin 8), s.Shape → s.verifyOver q.val = true →
    Completes (.trunkVerifyComplete q) s (fun t => (t.trk q.val).everUp = true ∧ (t.trk q.val).upTick = some s.tick ∧
      (s.mode.mode ≠ .forming → (t.trk q.val).st = 5 ∧ (t.trk q.val).verified = (s.trk q.val).verified))) ∧
  -- TRUNK_RETRY_EXPIRY (R214)
  (∀ (s : State) (q : Fin 8), s.Shape → (s.trk q.val).st = 6 → (s.trk q.val).at_ + ms 100 ≤ s.now →
    Completes (.trunkRetryExpiry q) s (fun t => t.trk q.val = { s.trk q.val with st := 1, at_ := s.now, ticks := 0, lockDn := false, lockUp := false })) ∧
  -- TRUNK_BLOCK_LOCK_LOST (R215)
  (∀ (s : State) (q : Fin 8) (down : Bool), s.Shape →
    ((s.trk q.val).st = 5 → Completes (.trunkBlockLockLost q down) s (fun t => (t.trk q.val).downs = incSat 32 (s.trk q.val).downs ∧
      (s.mode.mode ≠ .forming → (t.trk q.val).st = 6 ∧ (if down then (t.trk q.val).lockDn else (t.trk q.val).lockUp) = false))) ∧
    ((s.trk q.val).st = 2 ∨ (s.trk q.val).st = 3 ∨ (s.trk q.val).st = 4 →
      Completes (.trunkBlockLockLost q down) s (fun t => (t.trk q.val).st = 6)) ∧
    ((s.trk q.val).st ≤ 1 ∨ 6 ≤ (s.trk q.val).st → Completes (.trunkBlockLockLost q down) s (fun t => t.trk q.val =
      if down then { s.trk q.val with lockDn := false } else { s.trk q.val with lockUp := false }))) ∧
  -- TRUNK_LEAVES_UP (R215)
  (∀ (s : State) (q : Fin 8), s.Shape → (s.trk q.val).st = 5 → s.LINK_MISS_MAX ≤ (s.trk q.val).missRun ∨
    s.LINK_MISS_MAX ≤ (s.trk q.val).dlRun ∨ s.LINK_MISS_MAX ≤ (s.trk q.val).unbound →
    Completes (.trunkLeavesUp q) s (fun t => (t.trk q.val).downs = incSat 32 (s.trk q.val).downs ∧ (s.mode.mode ≠ .forming → (t.trk q.val).st = 6)))

/-- Calibration, rotation and the internal channels behave as stated. One clause for each of SENSE_CALIBRATION_DONE
(R281), ROTATION_HANDOVER (R282), SWITCH_EDGE (R290), HANDOVER_DEFERRAL_LIMIT (R290), CALIBRATE_COMPLETE (R282),
INTERNAL_CHANNEL_CONVERTED (R285), HISTORY_FILLED (R94). -/
def Obligations.CalibrationComplete : Prop :=
  -- SENSE_CALIBRATION_DONE (R281)
  (∀ (s : State) (temp : Int) (cal : List (Option (Int × Int))) (t0 : Nat), s.sense.calSince = some t0 → s.run .sense = .starting →
    (s.storedUsable temp = true → Completes (.senseCalibrationDone temp cal) s (fun t => t.run .sense = .running ∧ t.sense.source = 1 ∧
      t.sense.calSince = none)) ∧
    (s.storedUsable temp = false → s.sense.calFg = true → t0 + 1310720 ≤ s.now → Completes (.senseCalibrationDone temp cal) s (fun t =>
      t.run .sense = .running ∧ t.sense.source = 0 ∧ t.sense.calSince = none)) ∧
    (s.storedUsable temp = false → s.sense.calFg = true → s.now < t0 + 1310720 → Completes (.senseCalibrationDone temp cal) s (fun t =>
      t.run .sense = .starting ∧ t.sense.calSince = some t0)) ∧
    (s.storedUsable temp = false → s.sense.calFg = false → Completes (.senseCalibrationDone temp cal) s (fun t =>
      t.run .sense = .starting ∧ t.sense.calFg = true ∧ t.sense.calSince = some s.now))) ∧
  -- ROTATION_HANDOVER (R282)
  (∀ (s : State), s.Shape → s.isRun .sense = true → s.sense.phase = 0 → s.ROT_STEP ≠ 0 → s.tick % s.ROT_STEP = 0 → s.sense.spare < 17 →
    Completes .rotationHandover s (fun t => t.sense.phase = 1 ∧ t.sense.x = (s.sense.spare + 1) % 17 ∧ t.sense.at_ = s.now ∧
      t.sense.excess = 0 ∧ (t.conv s.sense.spare).st = 3)) ∧
  -- SWITCH_EDGE (R290)
  (∀ (s : State) (sumX sumS : Int), s.Shape → s.switchNow = true → s.sense.spare < 17 → s.sense.x < 17 → s.sense.x ≠ s.sense.spare →
    (absI (sumS - sumX) ≤ 256 * s.CAL_MATCH → s.rotInput < 16 → Completes (.switchEdge sumX sumS) s (fun t => (t.ain s.rotInput).conv = some s.sense.spare ∧
      (t.conv s.sense.spare).st = 0 ∧ (t.conv s.sense.spare).input = some s.rotInput ∧ (t.conv s.sense.x).st = 2 ∧ t.sense.cal = some s.sense.x ∧
      t.sense.phase = 2)) ∧
    (256 * s.CAL_MATCH < absI (sumS - sumX) → (s.conv s.sense.spare).fails < 2 → Completes (.switchEdge sumX sumS) s (fun t =>
      (t.conv s.sense.spare).st = 2 ∧ t.sense.cal = some s.sense.spare ∧ t.sense.phase = 2)) ∧
    (256 * s.CAL_MATCH < absI (sumS - sumX) → 2 ≤ (s.conv s.sense.spare).fails → Completes (.switchEdge sumX sumS) s (fun t =>
      (t.conv s.sense.spare).st = 4 ∧ t.sense.phase = 3))) ∧
  -- HANDOVER_DEFERRAL_LIMIT (R290)
  (∀ (s : State), s.sense.phase = 1 → s.sense.refuse = false → 1024 < s.sense.excess →
    Completes .handoverDeferralLimit s (fun t => t.sense = { s.sense with refuse := true })) ∧
  -- CALIBRATE_COMPLETE (R282)
  (∀ (s : State) (offset gain : Int) (k : Nat), s.Shape → s.sense.cal = some k → k < 17 → s.sense.phase = 2 → s.sense.at_ + 1310720 ≤ s.now →
    Completes (.calibrateComplete offset gain true) s (fun t => (t.conv k).offset = offset ∧ (t.conv k).gain = gain ∧ (t.conv k).st = 1 ∧
      t.sense.spare = k ∧ t.sense.phase = 0 ∧ t.sense.cal = none) ∧
    Completes (.calibrateComplete offset gain false) s (fun t => (t.conv k).st = 4 ∧ t.sense.phase = 3 ∧ t.sense.cal = none)) ∧
  -- INTERNAL_CHANNEL_CONVERTED (R285)
  (∀ (s : State) (ch : Fin 8) (v : Int), s.Shape → s.isRun .sense = true → s.sense.phase = 0 → s.sense.pass = ch.val → s.sense.passAt + 3200 ≤ s.now →
    (ch.val < 5 → Completes (.internalChannelConverted ch v) s (fun t => (entry t.sense.ints ch.val {}).value = v ∧
      (entry t.sense.ints ch.val {}).ok = true ∧ t.sense.pass = ch.val + 1 ∧ t.sense.passAt = s.sense.passAt + 3200)) ∧
    (5 ≤ ch.val → v ≤ s.TJ_TRIP * 16 → Completes (.internalChannelConverted ch v) s (fun t => (entry t.sense.ints ch.val {}).value = v ∧
      (entry t.sense.ints ch.val {}).ok = true ∧ (entry t.sense.ints ch.val {}).trips = 0)) ∧
    (5 ≤ ch.val → s.TJ_TRIP * 16 < v → (entry s.sense.ints ch.val {}).trips = 1 →
      Completes (.internalChannelConverted ch v) s (fun t => t.run .sense = .faulted))) ∧
  -- HISTORY_FILLED (R94)
  (∀ (s : State) (c : Fin 16) (x : Int), s.Shape → s.converts c.val = true → (s.ain c.val).fed < s.edges → -32768 ≤ x → x ≤ 32767 →
    (s.ain c.val).inj = none → (s.ain c.val).arriving = [] →
    Completes (.historyFilled c [x]) s (fun t => (t.ain c.val).fed = (s.ain c.val).fed + 1 ∧
      (t.ain c.val).fill = min (fillOf (s.RESPONSE c.val)) ((s.ain c.val).fill + 1) ∧
      (t.ain c.val).hist = (x :: (s.ain c.val).hist).take (max 4 (fillOf (s.RESPONSE c.val)))))

/-- The comparator, the frozen and saturation checks and injected samples of an input behave as stated. One clause for
each of COMPARATOR_CROSSING (R295), COMPARATOR_RELEASE (R297), FROZEN_WINDOW_END (R298), SATURATION_LOST (R299),
SATURATION_CLEAR (R299), TEST_INJECTION (R300), AIN_TRIG_EDGE (R287), INJECTED_SAMPLE_DONE (R288). -/
def Obligations.InputChecksComplete : Prop :=
  -- COMPARATOR_CROSSING (R295)
  (∀ (s : State) (c : Fin 16) (x y z w : Int) (l : List Int), s.Shape → s.converts c.val = true → (s.ain c.val).fed < s.edges →
    -32768 ≤ x → x ≤ 32767 → (s.ain c.val).inj = none → (s.ain c.val).arriving = [] →
    (s.ain c.val).hist = y :: z :: w :: l → 4 * s.CMP_HI c.val < x + y + z + w →
    s.CMP_CONFIRM c.val ≤ (s.ain c.val).hiRun + 1 → (s.ain c.val).hiX = false →
    (s.CMP_ACTION c.val ≠ 0 → Completes (.comparatorCrossing c [x]) s (fun t => (t.ain c.val).lCmp = true ∧ (t.ain c.val).fed = (s.ain c.val).fed + 1)) ∧
    (s.CMP_ACTION c.val = 2 → Completes (.comparatorCrossing c [x]) s (fun t => (t.ain c.val).lCmp = true ∧ (t.ain c.val).cmpOn = true ∧
      t.mode.blockCmp = true ∧ (t.ain c.val).fed = (s.ain c.val).fed + 1))) ∧
  -- COMPARATOR_RELEASE (R297)
  (∀ (s : State) (c : Fin 16), s.Shape → s.edges ≤ (s.ain c.val).fed → (s.ain c.val).cmpOn = true → (s.ain c.val).within = true →
    Completes (.comparatorRelease c) s (fun t => t.ain c.val = { s.ain c.val with cmpOn := false })) ∧
  -- FROZEN_WINDOW_END (R298)
  (∀ (s : State) (c : Fin 16), s.Shape → s.edges ≤ (s.ain c.val).fed → (s.ain c.val).ended = false → s.FROZEN_WIN c.val ≠ 0 →
    s.FROZEN_WIN c.val ≤ (s.ain c.val).winT + 1 → 2 ≤ (s.ain c.val).winN →
    Completes (.frozenWindowEnd c) s (fun t => (t.ain c.val).winT = 0 ∧ (t.ain c.val).winN = 0 ∧ (t.ain c.val).ended = true ∧
      (t.ain c.val).frozen = decide ((s.ain c.val).winHi - (s.ain c.val).winLo ≤ 2))) ∧
  -- SATURATION_LOST (R299)
  (∀ (s : State) (c : Fin 16) (x : Int), s.Shape → s.converts c.val = true → (s.ain c.val).fed < s.edges → x = 32767 ∨ x = -32768 →
    (s.ain c.val).inj = none → (s.ain c.val).arriving = [] →
    Completes (.saturationLost c [x]) s (fun t => (t.ain c.val).satRun = (s.ain c.val).satRun + 1 ∧
      (s.SAT_COUNT c.val ≠ 0 → s.SAT_COUNT c.val ≤ (s.ain c.val).satRun + 1 → (t.ain c.val).lostSat = true))) ∧
  -- SATURATION_CLEAR (R299)
  (∀ (s : State) (c : Fin 16), s.Shape → s.edges ≤ (s.ain c.val).fed → (s.ain c.val).lostSat = true → (s.ain c.val).satTick = false →
    Completes (.saturationClear c) s (fun t => t.ain c.val = { s.ain c.val with lostSat := false })) ∧
  -- TEST_INJECTION (R300)
  (∀ (s : State) (c : Fin 16), s.Shape → s.TEST_T c.val ≠ 0 → s.sampleTick % s.TEST_T c.val = 0 → s.converts c.val = true →
    ((s.ain c.val).fed < 50 → Completes (.testInjection c) s (fun t =>
      (t.ain c.val).arriving = (s.ain c.val).arriving ++ [⟨50, 1, true⟩] ∧ (t.ain c.val).inj = (s.ain c.val).inj)) ∧
    (50 ≤ (s.ain c.val).fed → s.injBusy c.val = false → Completes (.testInjection c) s (fun t =>
      (t.ain c.val).resOk = false ∧ ∃ due, (t.ain c.val).inj = some { mode := 1, test := true, due := due } ∧
      ((s.ain c.val).preempt = false → due = (s.ain c.val).fed + 3))) ∧
    (50 ≤ (s.ain c.val).fed → s.injBusy c.val = true → Completes (.testInjection c) s (fun t => (t.ain c.val).inj = (s.ain c.val).inj ∧
      (t.ain c.val).overruns = incSat 32 (s.ain c.val).overruns ∧ (t.ain c.val).lInj = true))) ∧
  -- AIN_TRIG_EDGE (R287)
  (∀ (s : State) (rising : Bool) (c : Nat), s.Shape → c < 16 → s.converts c = true →
    (s.INJ_SOURCE c = 3 ∨ s.INJ_SOURCE c = (if rising then 1 else 2) → Completes (.ainTrigEdge rising) s (fun t =>
      (t.ain c).arriving = (s.ain c).arriving ++ [⟨(s.ain c).fed + 2, s.INJ_MODE c, false⟩] ∧ (t.ain c).inj = (s.ain c).inj)) ∧
    (s.INJ_SOURCE c ≠ 3 → s.INJ_SOURCE c ≠ (if rising then 1 else 2) → Completes (.ainTrigEdge rising) s (fun t => t.ain c = s.ain c))) ∧
  -- INJECTED_SAMPLE_DONE (R288)
  (∀ (s : State) (c : Fin 16) (x : Int) (r : InjReq), s.Shape → s.converts c.val = true → (s.ain c.val).fed < s.edges →
    (s.ain c.val).arriving = [] → (s.ain c.val).inj = some r → -32768 ≤ x → x ≤ 32767 →
    (r.taken = false → r.due ≤ ((s.ain c.val).fed : Int) + 1 → Completes (.injectedSampleDone c [] x) s (fun t =>
      (t.ain c.val).preempt = true ∧ (t.ain c.val).fed = (s.ain c.val).fed + 1 ∧ ∃ q, (t.ain c.val).inj = some q ∧ q.mode = r.mode ∧ q.test = r.test ∧
      q.taken = true ∧ q.code = x ∧ q.leaves = ((s.ain c.val).fed : Int) + 1 + 12)) ∧
    (r.taken = true → r.leaves ≤ ((s.ain c.val).fed : Int) + 1 → Completes (.injectedSampleDone c [] x) s (fun t =>
      (t.ain c.val).inj = none ∧ (t.ain c.val).res = r.code ∧ (t.ain c.val).resMode = r.mode ∧ (t.ain c.val).resEdge = r.edge ∧
      (t.ain c.val).resTick = r.tick ∧ (t.ain c.val).resOk = true ∧ (t.ain c.val).fed = (s.ain c.val).fed + 1)))

/-- The reference and the PLLs change state as stated. One clause for each of REFERENCE_LOST (R324), REFERENCE_PRESENT
(R324), REFERENCE_QUALIFYING (R324), PLL_LOCK (R315), PLL_LOCK_LOST (R325), ACQUISITION_TIMEOUT (R315),
FREQ_MONITOR_WINDOW (R326). -/
def Obligations.ReferenceAndLockComplete : Prop :=
  -- REFERENCE_LOST (R324)
  (∀ (s : State), s.clk.ref ≠ .lost → Completes .referenceLost s (fun t => t.clk.ref = .lost ∧ t.clk.lostAt = some s.now ∧
    t.clk.losses = incSat 32 s.clk.losses ∧ ∀ p, p < 5 → (s.clk.pll p).st = .locked → (t.clk.pll p).st = .coast ∧ (t.clk.pll p).frozen = true ∧
      (t.clk.pll p).coasts = incSat 32 (s.clk.pll p).coasts)) ∧
  -- REFERENCE_PRESENT (R324)
  (∀ (s : State), s.clk.ref = .qualifying → Completes .referencePresent s (fun t => t.clk.ref = .present ∧ t.clk.lostAt = none ∧
    ∀ p, p < 5 → (s.clk.pll p).st = .coast → (t.clk.pll p).st = (if (s.clk.pll p).out then .relockF else .acquire) ∧ (t.clk.pll p).at_ = s.now)) ∧
  -- REFERENCE_QUALIFYING (R324)
  (∀ (s : State), s.clk.ref = .lost → Completes .referenceQualifying s (fun t => t.clk = { s.clk with ref := .qualifying })) ∧
  -- PLL_LOCK (R315)
  (∀ (s : State) (p : Fin 5), (s.clk.pll p.val).st = .acquire →
    Completes (.pllLock p) s (fun t => (t.clk.pll p.val).st = .locked ∧ (t.clk.pll p.val).out = true ∧ (t.clk.pll p.val).tries = [])) ∧
  -- PLL_LOCK_LOST (R325)
  (∀ (s : State) (p : Fin 5), (s.clk.pll p.val).st = .locked → s.clk.ref = .present →
    Completes (.pllLockLost p) s (fun t => (t.clk.pll p.val).st = (if (s.clk.pll p.val).out then .relockF else .acquire) ∧
      (t.clk.pll p.val).at_ = s.now ∧ (t.clk.pll p.val).coasts = incSat 32 (s.clk.pll p.val).coasts ∧ (t.clk.pll p.val).frozen = true)) ∧
  -- ACQUISITION_TIMEOUT (R315)
  (∀ (s : State) (p : Fin 5), (s.clk.pll p.val).st = .acquire → (s.clk.pll p.val).at_ + us 200 ≤ s.now →
    (∀ e rest, (s.clk.pll p.val).tries = e :: rest → Completes (.acquisitionTimeout p) s (fun t => t.clk.pll p.val =
      { s.clk.pll p.val with bandIx := some e, tries := rest, at_ := s.now })) ∧
    ((s.clk.pll p.val).tries = [] → Completes (.acquisitionTimeout p) s (fun t => t.clk.pll p.val = { s.clk.pll p.val with st := .unlocked, bandIx := none }))) ∧
  -- FREQ_MONITOR_WINDOW (R326)
  (∀ (s : State) (p : Fin 5) (err : Int), (absI err ≤ 50000 → Completes (.freqMonitorWindow p err) s (fun t => t.clk.pll p.val =
      { s.clk.pll p.val with ferr := sat32 err })) ∧
    (50000 < absI err → (s.clk.pll p.val).st = .coast → Completes (.freqMonitorWindow p err) s (fun t => t.clk.pll p.val =
      { s.clk.pll p.val with ferr := sat32 err, drift := true, pending := (s.clk.pll p.val).pending || !(s.clk.pll p.val).backup })))

/-- The backup oscillators, the relock stages and a held commit behave as stated. One clause for each of
REFERENCE_LOSS_10S (R326), BACKUP_SWITCH_DONE (R327), BACKUP_TRIM (R327), MONITOR_RATIO_MEASURE (R326), RELOCK_F_DONE
(R329), RELOCK_P_DONE (R329), BACKUP_RETURN (R330), HELD_COMMIT_APPLY (R319). -/
def Obligations.ClockBackupComplete : Prop :=
  -- REFERENCE_LOSS_10S (R326)
  (∀ (s : State) (t0 : Nat), s.clk.lostAt = some t0 → t0 + secs 10 ≤ s.now → Completes .referenceLoss10s s (fun t =>
    ∀ p, p < 5 → (s.clk.pll p).st = .coast → (t.clk.pll p).drift = true ∧ ((s.clk.pll p).backup = false → (t.clk.pll p).pending = true))) ∧
  -- BACKUP_SWITCH_DONE (R327)
  (∀ (s : State) (p : Fin 5), (s.clk.pll p.val).pending = true → Completes (.backupSwitchDone p) s (fun t =>
    t.clk.pll p.val = { s.clk.pll p.val with pending := false, backup := true } ∧
    (p.val < 2 → s.mode.mode = .forming → s.isRun .clock = true → t.tripped .clock))) ∧
  -- BACKUP_TRIM (R327)
  (∀ (s : State) (p : Fin 5), s.clk.ref = .present → (s.clk.pll p.val).trimmed + ms 1 ≤ s.now →
    Completes (.backupTrim p) s (fun t => t.clk.pll p.val = { s.clk.pll p.val with trimmed := s.now })) ∧
  -- MONITOR_RATIO_MEASURE (R326)
  (∀ (s : State) (ppm : Int), s.clk.ref = .present → s.clk.ratioAt + ms 1 ≤ s.now →
    Completes (.monitorRatioMeasure ppm) s (fun t => t.clk = { s.clk with ratio := ppm, ratioAt := s.now })) ∧
  -- RELOCK_F_DONE (R329)
  (∀ (s : State) (p : Fin 5) (err : Int), (s.clk.pll p.val).st = .relockF →
    Completes (.relockFDone ⟨p, err⟩) s (fun t => t.clk.pll p.val =
      { s.clk.pll p.val with st := .relockP, at_ := s.now, frozen := false, offset := shortPhase err })) ∧
  -- RELOCK_P_DONE (R329)
  (∀ (s : State) (p : Fin 5), (s.clk.pll p.val).st = .relockP → (s.clk.pll p.val).offset = 0 →
    Completes (.relockPDone p) s (fun t => t.clk.pll p.val = { s.clk.pll p.val with st := .locked, out := true })) ∧
  -- BACKUP_RETURN (R330)
  (∀ (s : State) (p : Fin 5), (s.clk.pll p.val).backup = true → (s.clk.pll p.val).st = .locked →
    Completes (.backupReturn p) s (fun t => t.clk.pll p.val = { s.clk.pll p.val with backup := false } ∧ (p.val = 2 → t.time.onBackup = false))) ∧
  -- HELD_COMMIT_APPLY (R319)
  (∀ (s : State), s.clk.commit = true → s.clk.ref = .present → (∀ i < 4, (s.clk.pll i).pending = false) →
    Completes .heldCommitApply s (fun t => t.clk.commit = false ∧ ∀ i < 4, (t.clk.pll i).act = s.shadow i))

/-- The time protocol and its timers behave as stated. One clause for each of PTP_SYNC (R344), PTP_FOLLOW_UP (R344),
PTP_ANNOUNCE (R341), PTP_PDELAY (R339), PDELAY_REQ_SEND (R339), PTP_MASTER_SEND (R342), ANNOUNCE_TIMEOUT (R342),
SYNC_LOSS (R345), HOLDOVER_EXPIRY (R345), SECOND_ROLLOVER (R352). -/
def Obligations.TimeComplete : Prop :=
  -- PTP_SYNC (R344)
  (∀ (s : State) (p : Side) (domain seq : Nat) (two : Bool) (t1 capture corr : Int), (s.ptpIn p domain).1 = true → s.qualified p ≠ none →
    s.fenced 4 3 = false →
    (two = true → Completes (.ptpSync p domain seq two t1 capture corr) s (fun t => (t.time.port p).wait =
      some ⟨seq, s.ingressTime p capture, corr⟩)) ∧
    (two = false → s.time.slaveLost = none → s.time.slave ≠ some p → Completes (.ptpSync p domain seq two t1 capture corr) s (fun t =>
      (t.time.port p).off = sat32 (s.ingressTime p capture - t1 - (s.time.port p).path - corr - divNearAway (s.ASYM p.code) 1000) ∧
      (t.time.port p).wait = none ∧ t.time.syncAt = s.now)) ∧
    (two = false → s.time.slaveLost = none → s.time.slave = some p → s.time.servo = .free → s.time.onBackup = false →
      Completes (.ptpSync p domain seq two t1 capture corr) s (fun t => t.time.servo = .acquire ∧ t.time.okRun = 0))) ∧
  -- PTP_FOLLOW_UP (R344)
  (∀ (s : State) (p : Side) (domain : Nat) (t1 corr : Int) (w : SyncWait), (s.ptpIn p domain).1 = true → (s.time.port p).wait = some w →
    s.fenced 4 3 = false →
    (s.time.slaveLost = none → s.time.slave ≠ some p → Completes (.ptpFollowUp p domain w.seq t1 corr) s (fun t =>
      (t.time.port p).off = sat32 (w.t2 - t1 - (s.time.port p).path - (w.corr + corr) - divNearAway (s.ASYM p.code) 1000) ∧
      (t.time.port p).wait = none ∧ t.time.syncAt = s.now)) ∧
    (s.time.slaveLost = none → s.time.slave = some p → s.time.servo = .free → s.time.onBackup = false →
      Completes (.ptpFollowUp p domain w.seq t1 corr) s (fun t => t.time.servo = .acquire ∧ t.time.okRun = 0))) ∧
  -- PTP_ANNOUNCE (R341)
  (∀ (s : State) (p : Side) (domain : Nat) (f : Foreign), (s.ptpIn p domain).1 = true →
    Completes (.ptpAnnounce p domain f) s (fun t => (f, s.now) ∈ (t.time.port p).fms)) ∧
  -- PTP_PDELAY (R339)
  (∀ (s : State) (p : Side) (domain seq : Nat) (capture : Int), (s.ptpIn p domain).1 = true →
    (∀ egress : Int, Completes (.ptpPdelay p domain (.req seq capture egress)) s (fun t => t.tx =
      .ptp p (if s.VLAN = 0 then none else some (s.VLAN, s.VLAN_PCP)) s.DOMAIN 10 (be 2 seq ++ ptpTime (s.egressTime p egress)) ::
      .ptp p (if s.VLAN = 0 then none else some (s.VLAN, s.VLAN_PCP)) s.DOMAIN 3 (be 2 seq ++ ptpTime (s.ingressTime p capture)) :: s.tx)) ∧
    (∀ turn corr t1 : Int, (s.time.port p).preq = some (seq, t1) →
      Completes (.ptpPdelay p domain (.resp seq capture turn corr)) s (fun t => (t.time.port p).preq = none ∧
        (t.time.port p).pdelays = ((s.ingressTime p capture - t1 - turn - corr) / 2 :: (s.time.port p).pdelays).take 64 ∧
        (t.time.port p).path = s.meanDelay (((s.ingressTime p capture - t1 - turn - corr) / 2 :: (s.time.port p).pdelays).take 64)))) ∧
  -- PDELAY_REQ_SEND (R339)
  (∀ (s : State) (p : Side) (capture : Int), s.ptpOn p = true → (∀ t0, (s.time.port p).pdAt = some t0 → t0 + secs 1 ≤ s.now) →
    Completes (.pdelayReqSend p capture) s (fun t => (t.time.port p).pseq = ((s.time.port p).pseq + 1) % 65536 ∧
      (t.time.port p).preq = some (((s.time.port p).pseq + 1) % 65536, s.egressTime p capture) ∧ (t.time.port p).pdAt = some s.now ∧
      t.tx = .ptp p (if s.VLAN = 0 then none else some (s.VLAN, s.VLAN_PCP)) s.DOMAIN 2 (be 2 (((s.time.port p).pseq + 1) % 65536)) :: s.tx)) ∧
  -- PTP_MASTER_SEND (R342)
  (∀ (s : State) (ca cb : Int) (p : Side), (s.time.port p).st = .master →
    (∀ t0, (s.time.port p).mAt = some t0 → t0 + secs 1 ≤ s.now) → Completes (.ptpMasterSend ca cb) s (fun t =>
    (t.time.port p).mseq = ((s.time.port p).mseq + 1) % 65536 ∧ (t.time.port p).mAt = some s.now ∧
    (s.netUp p = true → .ptp p (if s.VLAN = 0 then none else some (s.VLAN, s.VLAN_PCP)) s.DOMAIN 0 (be 2 (((s.time.port p).mseq + 1) % 65536)) ∈ t.tx ∧
      .ptp p (if s.VLAN = 0 then none else some (s.VLAN, s.VLAN_PCP)) s.DOMAIN 8 (be 2 (((s.time.port p).mseq + 1) % 65536) ++ ptpTime (s.egressTime p (if p = .a then ca else cb))) ∈ t.tx))) ∧
  -- ANNOUNCE_TIMEOUT (R342)
  (∀ (s : State) (p : Side), Completes (.announceTimeout p) s (fun t =>
    (t.time.port p).fms = (s.time.port p).fms.filter (fun e => decide (s.now < e.2 + secs 3)) ∧
    ((s.time.port p).fms ≠ [] → (t.time.port p).fms = [] → (t.time.port p).wait = none))) ∧
  -- SYNC_LOSS (R345)
  (∀ (s : State), s.isRun .time = true → s.time.syncAt + secs 3 ≤ s.now →
    (s.time.servo = .locked → Completes .syncLoss s (fun t => t.time.servo = .holdover ∧ t.time.holdAt = s.now ∧ t.time.okRun = 0 ∧
      (s.time.rates ≠ [] → t.time.r = sumI s.time.rates / (s.time.rates.length : Int)))) ∧
    (s.time.servo = .acquire → Completes .syncLoss s (fun t => t.time.servo = .free ∧ t.time.okRun = 0 ∧ t.time.r = 0))) ∧
  -- HOLDOVER_EXPIRY (R345)
  (∀ (s : State), s.time.servo = .holdover → s.time.holdAt + secs s.TIME_HOLD_T ≤ s.now →
    Completes .holdoverExpiry s (fun t => t.time.servo = .free ∧ t.time.r = s.time.r ∧ t.time.okRun = 0)) ∧
  -- SECOND_ROLLOVER (R352)
  (∀ (s : State), s.time.rolled = true → Completes .secondRollover s (fun t => t.time =
    { s.time with rolled := false, taiTick := s.tick, tai := (s.time.sec, s.clockNs) }))

/-- The station ports, PRP supervision and the field barrier behave as stated. One clause for each of MDIO_LINK_POLL
(R536), PRP_SUPERVISION_SEND (R536), PRP_SUPERVISION_RECEIVED (R536), BARRIER_FRAME (R358), BARRIER_LINK_DOWN (R359),
BARRIER_LINK_RESTORED (R359). -/
def Obligations.NetworkPortsComplete : Prop :=
  -- MDIO_LINK_POLL (R536)
  (∀ (s : State) (p : Side) (up : Bool), Completes (.mdioLinkPoll p up) s (fun t => t.fab.netUp = putAt p.code up s.fab.netUp ∧
    (s.isRun .time = true → up = false → (t.time.port p).fms = []))) ∧
  -- PRP_SUPERVISION_SEND (R536)
  (∀ (s : State), (∀ t0, s.fab.superAt = some t0 → t0 + ms 2000 ≤ s.now) → s.powered .net = true → Completes .prpSupervisionSend s (fun t =>
    t.fab.superAt = some s.now ∧ (s.netUp .a = true → s.netUp .b = true →
    t.tx = .prp .b ([0x01, 0x15, 0x4E, 0x00, 0x01, 0x00] ++ Config.macAddress ++ [0x88, 0xFB, 20]) ::
      .prp .a ([0x01, 0x15, 0x4E, 0x00, 0x01, 0x00] ++ Config.macAddress ++ [0x88, 0xFB, 20]) :: s.tx))) ∧
  -- PRP_SUPERVISION_RECEIVED (R536)
  (∀ (s : State) (src : Nat), Completes (.prpSupervisionReceived src) s (fun t =>
    t.fab.nodes = ((src, s.now) :: s.fab.nodes.filter (fun n => s.now < n.2 + secs 60 && n.1 != src)).take 256)) ∧
  -- BARRIER_FRAME (R358)
  (∀ (s : State) (levels : List Nat) (volts : List Int) (amps : List Nat) (so : List (Int × Int)) (crc : BitVec 32), s.masterRuns = true →
    (crc32 ((s.dieSamples levels).dieFrame volts amps so) = crc.toNat → Completes (.barrierFrame levels volts amps so crc) s (fun t =>
      t.field.missRun = 0 ∧ t.field.lastOk = s.slotTime ∧ t.field.slots = s.field.slots + 1 ∧
      ∀ p : Fin 32, t.pin p.val = ((s.dieSamples levels).pin p.val).take (entry volts p.val 0) (entry amps p.val 0))) ∧
    (crc32 ((s.dieSamples levels).dieFrame volts amps so) ≠ crc.toNat → Completes (.barrierFrame levels volts amps so crc) s (fun t =>
      t.field.errors = incSat 32 s.field.errors ∧ t.field.missRun = s.field.missRun + 1 ∧ t.field.goodSince = none ∧
      t.field.pins = (s.dieSamples levels).field.pins))) ∧
  -- BARRIER_LINK_DOWN (R359)
  (∀ (s : State), 8 ≤ s.field.missRun ∨ s.field.lastOk + us 8 ≤ s.slotTime → s.field.up = true →
    Completes .barrierLinkDown s (fun t => t.field.up = false ∧ t.run .field = .faulted)) ∧
  -- BARRIER_LINK_RESTORED (R359)
  (∀ (s : State) (t0 : Nat), s.field.goodSince = some t0 → t0 + ms 1 ≤ s.slotTime → s.slotTime < s.field.lastOk + us 8 → s.masterRuns = true →
    Completes .barrierLinkRestored s (fun t => t.field = { s.field with up := true }))

/-- The inputs, the outputs and their diagnostics behave as stated. One clause for each of INPUT_DEBOUNCE_CHANGE (R366),
OUTPUT_OVERLOAD (R371), OUTPUT_THERMAL (R371), OUTPUT_RETRY (R371), OVERLOAD_FLAG_CLEAR (R371), WIRE_BREAK (R372),
OUTPUT_DIAG_TIMER (R373), PIN_REVERSED (R374), LP_SAMPLE (R376), LP_RESTORE (R376), OUTPUT_COOLED (R371). -/
def Obligations.FieldPinsComplete : Prop :=
  -- INPUT_DEBOUNCE_CHANGE (R366)
  (∀ (s : State) (p : Fin 32), s.Shape → s.mode.mode ≠ .boot → (s.pin p.val).lvl ≠ (s.pin p.val).dieDeb → 4 * s.DEBOUNCE p.val < (s.pin p.val).run →
    Completes (.inputDebounceChange p) s (fun t => t.pin p.val = { s.pin p.val with dieDeb := (s.pin p.val).lvl })) ∧
  -- OUTPUT_OVERLOAD (R371)
  (∀ (s : State) (p : Fin 32), s.Shape → s.pinOn p.val = true → Completes (.outputOverload p) s (fun t => (t.pin p.val).overload = true ∧
    (s.FAULT_MODE p.val = 1 → (t.pin p.val).retryAt = some (s.now + ms (s.RETRY_T p.val))) ∧
    (s.FAULT_MODE p.val ≠ 1 → (t.pin p.val).latched = true))) ∧
  -- OUTPUT_THERMAL (R371)
  (∀ (s : State) (p : Fin 32), s.Shape → s.pinOn p.val = true → Completes (.outputThermal p) s (fun t => (t.pin p.val).thermal = true ∧
    (t.pin p.val).hot = true ∧ (s.FAULT_MODE p.val = 1 → (t.pin p.val).retryAt = some (s.now + ms (s.RETRY_T p.val))) ∧
    (s.FAULT_MODE p.val ≠ 1 → (t.pin p.val).latched = true))) ∧
  -- OUTPUT_RETRY (R371)
  (∀ (s : State) (p : Fin 32) (t0 : Nat), s.Shape → (s.pin p.val).retryAt = some t0 → t0 ≤ s.now → (s.pin p.val).hot = false →
    s.command p.val = true → s.fieldSeen = true → Completes (.outputRetry p) s (fun t => t.pin p.val = { s.pin p.val with retryAt := none })) ∧
  -- OVERLOAD_FLAG_CLEAR (R371)
  (∀ (s : State) (p : Fin 32), s.Shape → s.pinOn p.val = true → Completes (.overloadFlagClear p) s (fun t => t.pin p.val =
    { s.pin p.val with overload := false, thermal := false })) ∧
  -- WIRE_BREAK (R372)
  (∀ (s : State) (p : Fin 32), s.Shape → s.FIO_MODE p.val = 1 ∨ s.FIO_MODE p.val = 2 → bit (s.DIAG_EN p.val) 0 = true →
    s.monitorMode = false → s.fieldSeen = true →
    (s.readsOn p.val = false → (s.pin p.val).wire = false → Completes (.wireBreak p true) s (fun t => t.pin p.val = { s.pin p.val with wire := true })) ∧
    ((s.pin p.val).wire = true → Completes (.wireBreak p false) s (fun t => t.pin p.val = { s.pin p.val with wire := false }))) ∧
  -- OUTPUT_DIAG_TIMER (R373)
  (∀ (s : State) (p : Fin 32) (d : Fin 4) (b en code : Nat) (on : Bool), s.Shape → diagRow d.val = (b, en, on, code) → s.FIO_MODE p.val = 3 →
    bit (s.DIAG_EN p.val) en = true → s.suppressed p.val = false → s.fieldSeen = true →
    (s.pinOn p.val = on → (s.pin p.val).flag b = false → Completes (.outputDiagTimer p d true) s (fun t => t.pin p.val = (s.pin p.val).setFlag b true)) ∧
    ((s.pin p.val).flag b = true → Completes (.outputDiagTimer p d false) s (fun t => t.pin p.val = (s.pin p.val).setFlag b false))) ∧
  -- PIN_REVERSED (R374)
  (∀ (s : State) (p : Fin 32) (low : Bool), s.Shape → s.FIO_MODE p.val ≠ 0 → s.fieldSeen = true → low ≠ (s.pin p.val).reversed →
    Completes (.pinReversed p low) s (fun t => t.pin p.val = { s.pin p.val with reversed := low })) ∧
  -- LP_SAMPLE (R376)
  (∀ (s : State) (mv : Int), s.fieldSeen = true → Completes (.lpSample mv) s (fun t => t.field.lp = (mv :: s.field.lp).take 4 ∧
    t.field.lpMean = sumI ((mv :: s.field.lp).take 4) / (((mv :: s.field.lp).take 4).length : Int) ∧
    (3 ≤ s.field.lp.length → t.field.lpState = lpOf t.field.rows))) ∧
  -- LP_RESTORE (R376)
  (∀ (s : State), Completes .lpRestore s (fun t => (s.fieldSeen = true → t.field.lpState = lpOf t.field.rows) ∧
    ∀ i r t0, entry s.field.rows i {} = r → i < s.field.rows.length → r.since = some t0 → (entry t.field.rows i {}).on = (r.on && !(t0 + ms s.LP_RESTORE_T ≤ s.now)))) ∧
  -- OUTPUT_COOLED (R371)
  (∀ (s : State) (p : Fin 32), s.Shape → Completes (.outputCooled p) s (fun t => (t.pin p.val).hot = false ∧
    (∀ t0, (s.pin p.val).retryAt = some t0 → t0 ≤ s.now → s.command p.val = true → s.fieldSeen = true → (t.pin p.val).retryAt = none)))

/-- The safety cycle, its protection items and the lockstep checks behave as stated. One clause for each of SAFETY_CYCLE
(R386), PROT_ITEM_LATCH (R411), DISCREPANCY_TIMEOUT (R390), INTLK_DWELL_ELAPSED (R399), LOCKSTEP_MISMATCH (R388),
LOCKSTEP_SELFTEST_FAIL (R388). -/
def Obligations.SafetyLogicComplete : Prop :=
  -- SAFETY_CYCLE (R386)
  (∀ (s : State), s.isRun .safety = true → Completes .safetyCycle s (fun t => t.safe.first = false)) ∧
  -- PROT_ITEM_LATCH (R411)
  (∀ (s : State) (i : Fin 6), s.isRun .safety = true → s.safe.prot.run = true → s.PROT_N ≤ entry s.safe.prot.counts i.val 0 + 1 →
    (s.protItem (i.val + 1)).1 = true → bit s.safe.prot.latched i.val = false →
    Completes (.protItemLatch i) s (fun t => t.safe.prot.latched = setBit s.safe.prot.latched i.val)) ∧
  -- DISCREPANCY_TIMEOUT (R390)
  (∀ (s : State) (i : Fin 8), s.Shape → s.isRun .safety = true → s.safe.first = false → (s.siJudge i.val false false).newFault = true →
    Completes (.discrepancyTimeout i) s (fun t => t.si i.val = (s.siJudge i.val false false).x)) ∧
  -- INTLK_DWELL_ELAPSED (R399)
  (∀ (s : State) (t0 : Nat) (door earth : Bool), s.safe.sf1Since = some t0 → s.isRun .safety = true → s.safe.first = false → t0 + secs s.INTLK_DWELL ≤ s.now →
    door = (s.releaseOk (s.sf1Causes != 0 || s.safe.door || s.safe.earth) && bit s.REL_REQ 0 && (s.DOOR_REQ_SI == 255 || !(s.si s.DOOR_REQ_SI).demand)) →
    earth = (s.releaseOk (s.sf1Causes != 0 || s.safe.door || s.safe.earth) && bit s.REL_REQ 1) →
    Completes .intlkDwellElapsed s (fun t => t.safe.door = door ∧ t.safe.earth = earth ∧
      t.safe.sf1 = (s.sf1Causes + (if door || earth then 2 ^ 12 else 0) != 0))) ∧
  -- LOCKSTEP_MISMATCH (R388)
  (∀ (s : State), s.powered .safe = true → Completes .lockstepMismatch s (fun t => t.safe.stopped = true ∧ t.safe.line = true ∧ t.field.up = false)) ∧
  -- LOCKSTEP_SELFTEST_FAIL (R388)
  (∀ (s : State), s.powered .safe = true → Completes .lockstepSelftestFail s (fun t => t.safe.stopped = true ∧ t.safe.line = true ∧ t.field.up = false))

/-- The safety outputs and the safety layer behave as stated. One clause for each of SO_SWITCH_ON_STEP (R394),
SO_TEST_PULSE_DUE (R395), SO_PULSE_END (R395), SO_DIAG_TIMER (R394), SAFETY_FRAME (R407), SL_PRODUCE (R406),
SL_WATCHDOG_EXPIRY (R408). -/
def Obligations.SafetyOutputsComplete : Prop :=
  -- SO_SWITCH_ON_STEP (R394)
  (∀ (s : State) (n : Fin 4) (t0 : Nat), s.Shape → (s.so n.val).step = some t0 → t0 + us 100 ≤ s.now →
    ((s.so n.val).low = true → Completes (.soSwitchOnStep n) s (fun t => (t.so n.val).h = true ∧ (t.so n.val).step = none ∧ (t.so n.val).onSince = some s.now)) ∧
    ((s.so n.val).low = false → Completes (.soSwitchOnStep n) s (fun t => (t.so n.val).lock = true ∧ (t.so n.val).shortH = true ∧ (t.so n.val).h = false))) ∧
  -- SO_TEST_PULSE_DUE (R395)
  (∀ (s : State) (n : Fin 4) (t0 : Nat), s.Shape → (s.so n.val).onSince = some t0 → t0 + ms (s.SO_TEST_T n.val) ≤ s.now → (s.so n.val).h = true →
    (s.so n.val).l = true → (s.so n.val).pulse = none →
    Completes (.soTestPulseDue n) s (fun t => (t.so n.val).pulse = some (!(s.so n.val).nextL, s.now) ∧
      (t.so n.val).h = (s.so n.val).nextL ∧ (t.so n.val).l = !(s.so n.val).nextL)) ∧
  -- SO_PULSE_END (R395)
  (∀ (s : State) (n : Fin 4) (onH : Bool) (t0 : Nat), s.Shape → (s.so n.val).pulse = some (onH, t0) → t0 + us (s.SO_PULSE n.val) ≤ s.now →
    ((s.so n.val).spoiled = true ∨ (s.so n.val).cmd = false → Completes (.soPulseEnd n) s (fun t => (t.so n.val).pulse = none ∧ (t.so n.val).spoiled = false)) ∧
    ((s.so n.val).spoiled = false → (s.so n.val).cmd = true → s.pulsePasses (s.so n.val) onH = true → Completes (.soPulseEnd n) s (fun t =>
      (t.so n.val).pulse = none ∧ (t.so n.val).h = true ∧ (t.so n.val).l = true ∧ (t.so n.val).nextL = onH ∧ (t.so n.val).tests = incSat 32 (s.so n.val).tests)) ∧
    ((s.so n.val).spoiled = false → (s.so n.val).cmd = true → s.pulsePasses (s.so n.val) onH = false → Completes (.soPulseEnd n) s (fun t =>
      (t.so n.val).lock = true ∧ (t.so n.val).h = false ∧ (t.so n.val).l = false ∧ (t.so n.val).cmd = false ∧ (t.so n.val).tests = incSat 32 (s.so n.val).tests ∧
      (if onH then (t.so n.val).testH else (t.so n.val).testL) = true))) ∧
  -- SO_DIAG_TIMER (R394)
  (∀ (s : State) (n : Fin 4) (pr : Bool), s.Shape → s.fieldSeen = true → s.isRun .safety = true →
    (lasted (s.so n.val).highAt (ms 1) s.now = true → (s.so n.val).shortH = false →
      Completes (.soDiagTimer n 0 pr) s (fun t => (t.so n.val).lock = true ∧ (t.so n.val).shortH = true)) ∧
    (lasted (s.so n.val).devAt (ms 1) s.now = true → (s.so n.val).readback = false →
      Completes (.soDiagTimer n 1 pr) s (fun t => (t.so n.val).lock = true ∧ (t.so n.val).readback = true ∧ (t.so n.val).h = false)) ∧
    ((s.so n.val).h = true ∨ (s.so n.val).l = true →
      Completes (.soDiagTimer n 2 true) s (fun t => (t.so n.val).lock = true ∧ (t.so n.val).overload = true ∧ (t.so n.val).h = false) ∧
      Completes (.soDiagTimer n 3 true) s (fun t => (t.so n.val).lock = true ∧ (t.so n.val).thermal = true ∧ (t.so n.val).h = false)) ∧
    Completes (.soDiagTimer n 3 false) s (fun t => (t.so n.val).thermal = false) ∧
    (lasted (s.so n.val).openAt (ms 10) s.now = true → (s.so n.val).open_ = false →
      Completes (.soDiagTimer n 4 pr) s (fun t => t.so n.val = { s.so n.val with open_ := true })) ∧
    (lasted (s.so n.val).openAt (ms 10) s.now = false → lasted (s.so n.val).loadAt (ms 10) s.now = true → (s.so n.val).open_ = true →
      Completes (.soDiagTimer n 4 pr) s (fun t => t.so n.val = { s.so n.val with open_ := false }))) ∧
  -- SAFETY_FRAME (R407)
  (∀ (s : State) (p : Side) (rct : Option (Nat × Nat)) (src : Nat) (bytes : List Nat), (s.ingress p rct .sl 1).1 = true → s.isRun .safety = true →
    s.fenced 4 6 = false →
    ((List.range 8).filter (fun c => s.consumes c && s.SL_PEER c == be 16 src) = [] → Completes (.safetyFrame p rct src bytes) s (fun t =>
      t.safe.foreign = incSat 32 s.safe.foreign ∧ t.safe.foreignEp = true)) ∧
    (∀ c : Fin 8, s.Shape → (List.range 8).filter (fun c => s.consumes c && s.SL_PEER c == be 16 src) = [c.val] → (s.conn c.val).st = .run →
      s.slFields c.val bytes = true → (s.conn c.val).follows (ofLe ((bytes.drop 4).take 4)) = true →
      Completes (.safetyFrame p rct src bytes) s (fun t => (t.conn c.val).st = .run ∧ (t.conn c.val).seq = some (ofLe ((bytes.drop 4).take 4)) ∧
        (t.conn c.val).at_ = s.now ∧ ((s.conn c.val).latched = false → (t.conn c.val).data = if bit (entry bytes 10 0) 0 then 0 else ofLe ((bytes.drop 12).take 4))))) ∧
  -- SL_PRODUCE (R406)
  (∀ (s : State) (c : Fin 8), s.Shape → s.isRun .safety = true → s.SL_DIR c.val = 2 → (∀ t0, (s.conn c.val).txAt = some t0 → t0 + ms (s.SL_CYCLE c.val) ≤ s.now) →
    Completes (.slProduce c) s (fun t => (t.conn c.val).txSeq = ((s.conn c.val).txSeq + 1) % 4294967296 ∧ (t.conn c.val).txAt = some s.now ∧
      (t.conn c.val).data = (if s.safe.confirmed then s.slProduced else 0) ∧
      (s.fenced 4 6 = false → t.tx = .safety c (s.slFrame c.val (((s.conn c.val).txSeq + 1) % 4294967296)) :: s.tx))) ∧
  -- SL_WATCHDOG_EXPIRY (R408)
  (∀ (s : State) (c : Fin 8), s.Shape → s.consumes c.val = true → (s.conn c.val).st = .run → (s.conn c.val).at_ + ms (s.SL_WATCHDOG c.val) ≤ s.now →
    Completes (.slWatchdogExpiry c) s (fun t => (t.conn c.val).st = .lost ∧ (t.conn c.val).data = 0))

/-- The messages between the duplex partners behave as stated. One clause for each of BEAT_SEND (R424), BEAT (R433), CKPT
(R428), MIRROR (R442), STATUS_SEND (R441), STATUS (R431), HB_ACK (R444), HANDBACK (R444). -/
def Obligations.DuplexMessagesComplete : Prop :=
  -- BEAT_SEND (R424)
  (∀ (s : State), s.beatDue = true → Completes .beatSend s (fun t => t.dpx.beatAt = some s.now ∧
    ∃ n, t.tx = .dpx 0x01 n (dpxFrame 0x01 n (le 8 s.tick ++ le 2 s.dpx.epoch ++ le 2 s.device ++
      [s.modeByte, b2n s.dpx.mirrorOn + 2 * b2n (s.dpx.hbB != 0)] ++ [0, 0])) :: s.tx)) ∧
  -- BEAT (R433)
  (∀ (s : State) (seq : BitVec 16) (tick : BitVec 64) (epoch : BitVec 16) (dev : Fin 512) (mode flags : BitVec 8) (crc : BitVec 32), s.dpxHears = true →
    (dpxGood 0x01 seq.toNat (le 8 tick.toNat ++ le 2 epoch.toNat ++ le 2 dev.val ++ [mode.toNat, flags.toNat, 0, 0]) crc.toNat = false → Completes (.beatMsg seq tick epoch dev mode flags crc) s (fun t => t.dpx = { s.dpx with errors := incSat 32 s.dpx.errors })) ∧
    (dpxGood 0x01 seq.toNat (le 8 tick.toNat ++ le 2 epoch.toNat ++ le 2 dev.val ++ [mode.toNat, flags.toNat, 0, 0]) crc.toNat = true → Completes (.beatMsg seq tick epoch dev mode flags crc) s (fun t => t.dpx.beatRx = some (seq.toNat, s.now) ∧ t.dpx.link = true ∧
      (s.dpx.lease = true → newer epoch.toNat s.dpx.epoch = true → t.dpx.lease = false ∧ t.dpx.yielded = some s.now) ∧
      (s.dpx.holder = some (dev.val, epoch.toNat) → s.dpx.frozen = false → t.dpx.renewed = s.now)))) ∧
  -- CKPT (R428)
  (∀ (s : State) (seq : BitVec 32) (idx : Fin 32) (data : List Nat) (n : BitVec 16) (crc : BitVec 32), s.dpxHears = true →
    (dpxGood 0x02 n.toNat (le 4 seq.toNat ++ [idx.val, 0, 0, 0] ++ data) crc.toNat = false → Completes (.ckpt ⟨n, crc⟩ seq idx data) s (fun t => t.dpx = { s.dpx with errors := incSat 32 s.dpx.errors })) ∧
    (dpxGood 0x02 n.toNat (le 4 seq.toNat ++ [idx.val, 0, 0, 0] ++ data) crc.toNat = true → (s.listens = true → s.dpx.frozen = false →
      (idx.val = 0 → s.dpx.rx = none → Completes (.ckpt ⟨n, crc⟩ seq idx data) s (fun t => t.dpx.rx = some { seq := seq.toNat, segs := [(0, data)] } ∧
        t.dpx.errors = s.dpx.errors)) ∧
      (idx.val = 0 → s.dpx.rx ≠ none → Completes (.ckpt ⟨n, crc⟩ seq idx data) s (fun t => t.dpx.rx = some { seq := seq.toNat, segs := [(0, data)] } ∧
        t.dpx.errors = incSat 32 s.dpx.errors)) ∧
      (∀ r : CkptRx, idx.val ≠ 0 → s.dpx.rx = some r → r.seq = seq.toNat → (r.segs.filter (fun p => p.1 != idx.val)).length < 31 →
        Completes (.ckpt ⟨n, crc⟩ seq idx data) s (fun t => t.dpx.rx = some { r with segs := r.segs.filter (fun p => p.1 != idx.val) ++ [(idx.val, data)] })) ∧
      (∀ r : CkptRx, idx.val ≠ 0 → s.dpx.rx = some r → r.seq ≠ seq.toNat →
        Completes (.ckpt ⟨n, crc⟩ seq idx data) s (fun t => t.dpx.rx = none ∧ t.dpx.errors = incSat 32 s.dpx.errors))))) ∧
  -- MIRROR (R442)
  (∀ (s : State) (n : BitVec 16) (tick : BitVec 64) (target count nc : BitVec 16) (im out : BitVec 32) (words : List Nat) (crc : BitVec 32) (m : MirrorRec) (data : List Nat), s.dpxHears = true →
    m = { tick := tick.toNat, target := target.toNat, count := count.toNat, nc := signed 16 nc.toNat, im := signed 32 im.toNat, out := out.toNat, words := (padTo 256 words).map (fun w => w % 4) } →
    data = le 8 tick.toNat ++ le 2 target.toNat ++ le 2 count.toNat ++ le 2 nc.toNat ++ le 4 im.toNat ++ le 4 out.toNat ++ mirrorBytes words ++ [0, 0] →
    (dpxGood 0x03 n.toNat data crc.toNat = false → Completes (.mirror ⟨n, crc⟩ tick target count nc im out words) s (fun t => t.dpx = { s.dpx with errors := incSat 32 s.dpx.errors })) ∧
    (dpxGood 0x03 n.toNat data crc.toNat = true →
    (s.mode.mode = .standby ∧ s.mode.sub = 2 ∧ s.dpx.take = .idle) ∨ s.dpx.hbIn = true → s.dpx.yielded = none →
    Completes (.mirror ⟨n, crc⟩ tick target count nc im out words) s (fun t => t.dpx.mirror = (m :: (if s.mirrorNext m.tick then s.dpx.mirror else [])).take 200))) ∧
  -- STATUS_SEND (R441)
  (∀ (s : State), (s.mode.mode = .standby ∧ s.mode.sub = 2) ∨ s.dpx.hbIn = true → s.dpxSends = true →
    (∀ t0, s.dpx.statusAt = some t0 → t0 + us 10 ≤ s.now) →
    Completes .statusSend s (fun t => t.dpx.statusAt = some s.now ∧ ∃ n data, t.tx = .dpx 0x81 n data :: s.tx)) ∧
  -- STATUS (R431)
  (∀ (s : State) (state flags : BitVec 8) (beat hold : BitVec 16) (ckpt run cfg : BitVec 32) (dev : Fin 512) (n : BitVec 16) (crc : BitVec 32), s.dpxHears = true →
    (dpxGood 0x81 n.toNat ([state.toNat, flags.toNat] ++ le 2 beat.toNat ++ le 2 hold.toNat ++ le 4 ckpt.toNat ++ le 4 run.toNat ++
      le 4 cfg.toNat ++ le 2 dev.val ++ [0, 0]) crc.toNat = false → Completes (.statusMsg ⟨n, crc⟩ state flags beat hold ckpt run cfg dev) s (fun t => t.dpx = { s.dpx with errors := incSat 32 s.dpx.errors })) ∧
    (dpxGood 0x81 n.toNat ([state.toNat, flags.toNat] ++ le 2 beat.toNat ++ le 2 hold.toNat ++ le 4 ckpt.toNat ++ le 4 run.toNat ++
      le 4 cfg.toNat ++ le 2 dev.val ++ [0, 0]) crc.toNat = true → (s.dpx.lease = true → Completes (.statusMsg ⟨n, crc⟩ state flags beat hold ckpt run cfg dev) s (fun t =>
      t.dpx.partner = some { state := state.toNat, mismatch := bit flags.toNat 0, ckpt := ckpt.toNat, run := run.toNat, cfg := cfg.toNat, dev := dev.val } ∧
      t.dpx.delay = s.dpxDelay beat.toNat hold.toNat ∧ t.dpx.mirrorOn = (s.dpx.mirrorOn || (3 ≤ state.toNat && state.toNat ≤ 5)))))) ∧
  -- HB_ACK (R444)
  (∀ (s : State) (b : BitVec 64) (result : BitVec 8) (n : BitVec 16) (crc : BitVec 32), s.dpxHears = true →
    (dpxGood 0x84 n.toNat (le 8 b.toNat ++ [result.toNat, 0, 0, 0]) crc.toNat = false → Completes (.hbAck ⟨n, crc⟩ b result) s (fun t => t.dpx = { s.dpx with errors := incSat 32 s.dpx.errors })) ∧
    (dpxGood 0x84 n.toNat (le 8 b.toNat ++ [result.toNat, 0, 0, 0]) crc.toNat = true → (s.dpx.lease = true → s.dpx.hbB ≠ 0 → s.dpx.hbB = b.toNat →
      (result.toNat = 1 → Completes (.hbAck ⟨n, crc⟩ b result) s (fun t => t.dpx.hbAck = true ∧ t.dpx.hbB = s.dpx.hbB)) ∧
      (result.toNat ≠ 1 → Completes (.hbAck ⟨n, crc⟩ b result) s (fun t => t.dpx.hbAck = false ∧ t.dpx.hbB = 0))))) ∧
  -- HANDBACK (R444)
  (∀ (s : State) (b : BitVec 64) (epoch : BitVec 16) (n : BitVec 16) (crc : BitVec 32), s.dpxHears = true → dpxGood 0x04 n.toNat (le 8 b.toNat ++ le 2 epoch.toNat ++ [0, 0]) crc.toNat = true →
    (b.toNat = 0 → s.dpx.hbIn = true → Completes (.handback ⟨n, crc⟩ b epoch) s (fun t => t.dpx.hbIn = false ∧ t.dpx.yielded = some s.now ∧
      t.safe.outs = s.safe.outs.map (fun o => o.turnOff))) ∧
    (b.toNat = 0 → s.dpx.hbIn = false → Completes (.handback ⟨n, crc⟩ b epoch) s (fun t => t.dpx.hbB = if s.dpx.lease then s.dpx.hbB else 0)) ∧
    (b.toNat ≠ 0 → s.mode.mode = .standby → s.mode.sub = 2 → s.dpx.take = .idle → Completes (.handback ⟨n, crc⟩ b epoch) s (fun t =>
      t.dpx.hbB = (if s.dpx.warm then b.toNat else 0) ∧ t.dpx.hbEpoch = epoch.toNat)))

/-- The leases, the takeover and the way to PREPARED behave as stated. One clause for each of DPX_LINK_DOWN (R425),
HOLDER_LEASE_EXPIRY (R431), STORE_LEASE_EXPIRY (R436), LIVENESS_CHECK (R437), TAKEOVER_BRINGUP_DONE (R436),
COLD_ACQUISITION (R430), PREPARED_ENTRY (R441), WARM_REACHED (R442), SWITCHOVER (R443). -/
def Obligations.LeasesComplete : Prop :=
  -- DPX_LINK_DOWN (R425)
  (∀ (s : State) (t0 : Nat), s.dpx.lastRx = some t0 → s.dpx.link = true → t0 + us 100 ≤ s.now →
    Completes .dpxLinkDown s (fun t => t.dpx = { s.dpx with link := false, mirrorOn := false })) ∧
  -- HOLDER_LEASE_EXPIRY (R431)
  (∀ (s : State) (beat : BitVec 16), s.DPX_ENABLE ≠ 0 → s.dpx.lease = true → s.ackOld beat.toNat = true →
    Completes (.holderLeaseExpiry beat) s (fun t => t.dpx.lease = false ∧ t.dpx.yielded = some s.now ∧ t.safe.outs = s.safe.outs.map (fun o => o.turnOff))) ∧
  -- STORE_LEASE_EXPIRY (R436)
  (∀ (s : State) (x : BootIn), s.dpx.holder ≠ none → s.dpx.frozen = false → s.dpx.renewed + us 50 ≤ s.now →
    Completes (.storeLeaseExpiry x) s (fun t => t.dpx.frozen = true ∧ t.dpx.rx = none ∧
      (s.newestCkpt ≠ none → s.mode.mode = .standby ∨ s.dpx.hbIn = true → s.dpx.yielded = none → s.mode.mode ≠ .safe →
        t.dpx.take = .begun (s.mode.mode != .standby || s.mode.sub == 2)))) ∧
  -- LIVENESS_CHECK (R437)
  (∀ (s : State) (prep : Bool), s.mode.mode ≠ .safe → s.mode.mode ≠ .boot → s.dpx.take = .begun prep → s.alignedTrunks.any (fun q => (entry s.dpx.live q (0, true)).1 < 4) = false →
    (s.alignedTrunks.any (fun q => (entry s.dpx.live q (0, true)).2) = true → Completes .livenessCheck s (fun t => t.dpx.take = .abandoned ∧
      t.mode.mode = .standby ∧ t.mode.sub = 2 ∧ t.dpx.lease = s.dpx.lease)) ∧
    (s.alignedTrunks.any (fun q => (entry s.dpx.live q (0, true)).2) = false → s.nvOk = true → Completes .livenessCheck s (fun t =>
      t.dpx.take = .live prep ∧ t.dpx.lease = true ∧ t.dpx.epoch = nextEpoch (s.newestEpoch (s.newestCkpt.map CkptBuf.epoch))))) ∧
  -- TAKEOVER_BRINGUP_DONE (R436)
  (∀ (s : State) (prep : Bool), s.mode.mode ≠ .safe → s.dpx.take = .live prep → Completes .takeoverBringupDone s (fun t => t.dpx = { s.dpx with take := .ready prep })) ∧
  -- COLD_ACQUISITION (R430)
  (∀ (s : State), s.waitsCold = true →
    (s.hubsSilent = true → s.nvOk = true → s.mode.mode ≠ .standby → Completes .coldAcquisition s (fun t => t.dpx.lease = true ∧
      t.dpx.epoch = nextEpoch (s.newestEpoch none) ∧ t.mode.mode = s.mode.mode)) ∧
    (s.hubsSilent = true → s.nvOk = true → s.mode.mode = .standby → Completes .coldAcquisition s (fun t => t.dpx.lease = true ∧
      t.dpx.epoch = nextEpoch (s.newestEpoch none) ∧ t.mode.mode = .blocked ∧ t.dpx.take = .idle ∧ t.dpx.takeovers = incSat 32 s.dpx.takeovers)) ∧
    (s.hubsSilent = false → Completes .coldAcquisition s (fun t => t.dpx = s.dpx ∧ t.mode.mode = s.mode.mode))) ∧
  -- PREPARED_ENTRY (R441)
  (∀ (s : State) (x : BootIn) (t0 : Nat), s.dpx.goodSince = some t0 → s.mode.mode = .standby → s.mode.sub = 1 → s.dpx.downAt = none →
    s.dpx.take = .idle → (s.REVERT = 1 ∧ s.dpxRole = 0) ∨ s.STANDBY_PREP = 1 → t0 + ms s.SETTLE_T ≤ s.now →
    settleWindow t0 s.now ≤ settleWindow t0 s.dpx.lastCkpt + 1 →
    Completes (.preparedEntry x) s (fun t => t.mode.mode = .standby ∧ t.mode.sub = 2 ∧ t.dpx = s.dpx)) ∧
  -- WARM_REACHED (R442)
  (∀ (s : State), s.WARM_TICKS ≤ s.dpx.run → s.dpx.warm = false → s.mode.mode = .standby → s.mode.sub = 2 →
    Completes .warmReached s (fun t => t.dpx = { s.dpx with warm := true })) ∧
  -- SWITCHOVER (R443)
  (∀ (s : State) (level : Nat) (p : PartnerStatus), 2 ≤ level → s.dpx.lease = true → s.dpx.partner = some p → p.state = 4 →
    exec (.switchover level) s = .next { s with dpx := { s.dpx with switchover := true } })

/-- A scheduled hand-back proceeds as stated. One clause for each of HANDBACK_MODE_ENTRY (R444), HANDBACK_EPOCH_RAISE
(R444), HANDBACK_TRANSFER (R445), HOLDER_OUTPUT_RELEASE (R445). -/
def Obligations.HandBackComplete : Prop :=
  -- HANDBACK_MODE_ENTRY (R444)
  (∀ (s : State) (b : CkptBuf), s.mode.mode = .standby → s.mode.sub = 2 → s.dpx.hbB ≠ 0 → s.dpx.hbIn = false → s.dpx.hbB ≤ s.nextTick + 3 * s.fp →
    s.newestCkpt = some b → Completes .handbackModeEntry s (fun t => t.dpx = { s.dpx with hbIn := true } ∧
      (s.edge = false → (s.safe.sf1 = false → t.mode.mode = b.mode.1 ∧ t.mode.sub = b.mode.2) ∧ (s.safe.sf1 = true → b.mode.1 = .forming → t.mode.mode = .blocked)))) ∧
  -- HANDBACK_EPOCH_RAISE (R444)
  (∀ (s : State), s.dpx.hbIn = true → s.dpx.hbRaised = false → s.dpx.hbB ≤ s.nextTick + 1 → s.nvOk = true →
    Completes .handbackEpochRaise s (fun t => t.dpx = { s.dpx with epoch := s.dpx.hbEpoch, stored := some s.dpx.hbEpoch, hbRaised := true })) ∧
  -- HANDBACK_TRANSFER (R445)
  (∀ (s : State), s.dpx.hbB ≠ 0 → s.dpx.hbB ≤ s.nextTick →
    (s.dpx.hbIn = true → s.mode.mode ≠ .safe → Completes .handbackTransfer s (fun t => t.dpx.lease = true ∧ t.dpx.hbIn = false ∧ t.dpx.hbB = 0 ∧ t.dpx.tookAt = some s.now ∧
      t.dpx.frozen = true ∧ t.dpx.epoch = (if s.dpx.hbRaised then s.dpx.epoch else s.dpx.hbEpoch))) ∧
    (s.dpx.hbIn = false → s.dpx.lease = true → s.dpx.hbAck = true → s.handFails = 0 → Completes .handbackTransfer s (fun t => t.dpx.lease = false ∧
      t.mode.mode = .standby ∧ t.mode.sub = 1 ∧ t.dpx.gaveAt = some s.now ∧ t.safe.outs = s.safe.outs.map (fun o => o.turnOff)))) ∧
  -- HOLDER_OUTPUT_RELEASE (R445)
  (∀ (s : State) (t0 : Nat), s.dpx.gaveAt = some t0 → t0 + us 100 ≤ s.now → Completes .holderOutputRelease s (fun t =>
    t.dpx = { s.dpx with gaveAt := none, downAt := some s.now }))

/-- The attestation tokens refill and the synchronised time is stored. One clause for each of LMS_TOKEN_REFILL (R481),
SYNC_TIME_STORE (R487). -/
def Obligations.KeepingComplete : Prop :=
  -- LMS_TOKEN_REFILL (R481)
  (∀ (s : State), s.sec.tokenAt + secs 675 ≤ s.now → Completes .lmsTokenRefill s (fun t =>
    t.sec = { s.sec with tokens := min 16 (s.sec.tokens + 1), tokenAt := s.sec.tokenAt + secs 675 })) ∧
  -- SYNC_TIME_STORE (R487)
  (∀ (s : State), s.synced = true → s.nvOk = true → s.sec.lastSyncAt + secs 3600 ≤ s.now → Completes .syncTimeStore s (fun t =>
    t.sec = { s.sec with lastSync := s.time.sec, lastSyncAt := s.now }))

end
end

