-- ==== Sys2Proof/Laws/Good.lean ====
section
/-! SUPPORT. The lemmas behind the invariant and the footprints of Safety.lean: sparse tables stay canonical, register files
keep their sizes, parts outside a mask stay, and the form (Keeps) in which the Keep files say both of every operation. -/
namespace Sys2Proof.Machine

set_option Elab.async false
set_option linter.all false

/-! ### Sparse tables -/

theorem tsorted_tail {α : Type} {e : Nat × α} {t : List (Nat × α)} (h : tsorted (e :: t) = true) : tsorted t = true := by
  cases t with
  | nil => rfl
  | cons x t => simp [tsorted] at h; exact h.2

theorem tsorted_cons {α : Type} {k : Nat} {v : α} {t : List (Nat × α)} (h : tsorted t = true)
    (hk : ∀ e ∈ t, k < e.1) : tsorted ((k, v) :: t) = true := by
  cases t with
  | nil => rfl
  | cons x t => simp [tsorted, h]; exact hk x (by simp)

theorem tsorted_head {α : Type} {k : Nat} {v : α} {t : List (Nat × α)} (h : tsorted ((k, v) :: t) = true) :
    ∀ e ∈ t, k < e.1 := by
  induction t generalizing k v with
  | nil => simp
  | cons x t ih =>
    obtain ⟨k', v'⟩ := x
    simp [tsorted] at h
    intro e he
    rcases List.mem_cons.1 he with rfl | he
    · exact h.1
    · exact Nat.lt_trans h.1 (ih h.2 e he)

theorem mem_tdel {α : Type} {k : Nat} {t : List (Nat × α)} {e : Nat × α} (h : e ∈ tdel t k) : e ∈ t := by
  induction t with
  | nil => simp [tdel] at h
  | cons x t ih =>
    obtain ⟨k', v'⟩ := x
    simp only [tdel] at h
    split at h
    · exact List.mem_cons_of_mem _ h
    · rcases List.mem_cons.1 h with rfl | h
      · simp
      · exact List.mem_cons_of_mem _ (ih h)

theorem tsorted_tdel {α : Type} {k : Nat} {t : List (Nat × α)} (h : tsorted t = true) : tsorted (tdel t k) = true := by
  induction t with
  | nil => rfl
  | cons x t ih =>
    obtain ⟨k', v'⟩ := x
    simp only [tdel]
    split
    · exact tsorted_tail h
    · exact tsorted_cons (ih (tsorted_tail h)) (fun e he => tsorted_head h e (mem_tdel he))

theorem tcanon_tdel {α : Type} [DecidableEq α] {d : Nat → α} {t : List (Nat × α)} (k : Nat) (h : tcanon d t) :
    tcanon d (tdel t k) := ⟨tsorted_tdel h.1, fun e he => h.2 e (mem_tdel he)⟩

theorem mem_tins {α : Type} {k : Nat} {v : α} {t : List (Nat × α)} {e : Nat × α} (h : e ∈ tins t k v) :
    e = (k, v) ∨ e ∈ t := by
  induction t with
  | nil => simp [tins] at h; exact .inl h
  | cons x t ih =>
    obtain ⟨k', v'⟩ := x
    simp only [tins] at h
    split at h
    · rcases List.mem_cons.1 h with rfl | h
      · exact .inl rfl
      · exact .inr h
    · split at h
      · rcases List.mem_cons.1 h with rfl | h
        · exact .inl rfl
        · exact .inr (List.mem_cons_of_mem _ h)
      · rcases List.mem_cons.1 h with rfl | h
        · exact .inr (by simp)
        · rcases ih h with h | h
          · exact .inl h
          · exact .inr (List.mem_cons_of_mem _ h)

theorem tsorted_tins {α : Type} {k : Nat} {v : α} {t : List (Nat × α)} (h : tsorted t = true) :
    tsorted (tins t k v) = true := by
  induction t with
  | nil => rfl
  | cons x t ih =>
    obtain ⟨k', v'⟩ := x
    have hh := tsorted_head h
    simp only [tins]
    split
    · rename_i hlt
      exact tsorted_cons h (fun e he => by
        rcases List.mem_cons.1 he with rfl | he
        · exact hlt
        · exact Nat.lt_trans hlt (hh e he))
    · split
      · rename_i hlt he
        exact tsorted_cons (tsorted_tail h) (fun e hm => by have := hh e hm; omega)
      · rename_i h1 h2
        exact tsorted_cons (ih (tsorted_tail h)) (fun e he => by
          rcases mem_tins he with rfl | he
          · simp; omega
          · exact hh e he)

/-- A write keeps the canonical form. -/
theorem tcanon_tput {α : Type} [DecidableEq α] {d : Nat → α} {t : List (Nat × α)} (k : Nat) (v : α) (h : tcanon d t) :
    tcanon d (tput d t k v) := by
  unfold tput
  split
  · exact tcanon_tdel k h
  · rename_i hv
    refine ⟨tsorted_tins h.1, fun e he => ?_⟩
    rcases mem_tins he with rfl | he
    · exact hv
    · exact h.2 e he

theorem tsorted_filter {α : Type} {p : Nat × α → Bool} {t : List (Nat × α)} (h : tsorted t = true) :
    tsorted (t.filter p) = true := by
  induction t with
  | nil => rfl
  | cons x t ih =>
    obtain ⟨k, v⟩ := x
    simp only [List.filter]
    split
    · exact tsorted_cons (ih (tsorted_tail h)) (fun e he => tsorted_head h e (List.mem_filter.1 he).1)
    · exact ih (tsorted_tail h)

/-- Leaving entries out keeps the canonical form. -/
theorem tcanon_filter {α : Type} [DecidableEq α] {d : Nat → α} {p : Nat × α → Bool} {t : List (Nat × α)} (h : tcanon d t) :
    tcanon d (t.filter p) := ⟨tsorted_filter h.1, fun e he => h.2 e (List.mem_filter.1 he).1⟩

theorem tcanon_nil {α : Type} [DecidableEq α] {d : Nat → α} : tcanon d [] := ⟨rfl, by simp⟩

/-! ### Lists -/

@[simp] theorem length_updAt {α : Type} (i : Nat) (f : α → α) (l : List α) : (updAt i f l).length = l.length := by
  induction l generalizing i with
  | nil => cases i <;> rfl
  | cons x l ih => cases i with
    | zero => rfl
    | succ i => simp [updAt, ih]

@[simp] theorem length_putAt {α : Type} (i : Nat) (x : α) (l : List α) : (putAt i x l).length = l.length := by
  simp [putAt]

/-! ### The invariant -/

/-- Canon and Shape in the parts that a lemma looks at. -/
def State.Good (s : State) : Prop :=
  tcanon objDefault s.objs ∧ storedCanon s.stored ∧ tcanon (fun _ => Slot.empty) s.recd.ring ∧
  s.hdrs.length = 9 ∧ s.masters.length = 7 ∧ s.cell.cells.length = 256 ∧ s.cell.trunks.length = 8 ∧
  s.field.pins.length = 32 ∧ s.sense.ins.length = 16 ∧ s.sense.convs.length = 17 ∧ s.sense.ints.length = 8 ∧
  s.safe.ins.length = 8 ∧ s.safe.outs.length = 4 ∧ s.safe.conns.length = 8 ∧ s.fab.sems.length = 16 ∧
  s.fab.queues.length = 16 ∧ s.fab.policers.length = 2

theorem good_iff (s : State) : s.Good ↔ s.Canon ∧ s.Shape := by
  simp [State.Good, State.Canon, State.Shape, State.shape, and_assoc]

/-- A state that differs from a good one in none of the parts, but for entries of equal count, is good. -/
theorem good_upd {s : State} (h : s.Good) {o : List (Nat × Val)} {st : Option Stored} {r : List (Nat × Slot)}
    {n1 n2 n3 n4 n5 n6 n7 n8 n9 n10 n11 n12 n13 n14 : Nat} (eo : s.objs = o := by rfl) (es : s.stored = st := by rfl)
    (er : s.recd.ring = r := by rfl)
    (e : s.shape = [n1, n2, n3, n4, n5, n6, n7, n8, n9, n10, n11, n12, n13, n14] := by
      first | with_reducible rfl | (simp only [State.shape, List.length_map, List.length_zipIdx, length_updAt, length_putAt, List.length_range, List.length_replicate, and_self]; done) | rfl) :
    tcanon objDefault o ∧ storedCanon st ∧ tcanon (fun _ => Slot.empty) r ∧ n1 = 9 ∧ n2 = 7 ∧ n3 = 256 ∧ n4 = 8 ∧ n5 = 32 ∧
    n6 = 16 ∧ n7 = 17 ∧ n8 = 8 ∧ n9 = 8 ∧ n10 = 4 ∧ n11 = 8 ∧ n12 = 16 ∧ n13 = 16 ∧ n14 = 2 := by
  rw [good_iff, State.Shape, e] at h
  subst eo es er
  exact ⟨h.1.1, h.1.2.1, h.1.2.2, by simpa using h.2⟩

/-- The same, the counts judged from those of s. -/
theorem good_size {s : State} (h : s.Good) {o : List (Nat × Val)} {st : Option Stored} {r : List (Nat × Slot)}
    {n1 n2 n3 n4 n5 n6 n7 n8 n9 n10 n11 n12 n13 n14 : Nat} (eo : s.objs = o := by rfl) (es : s.stored = st := by rfl)
    (er : s.recd.ring = r := by rfl)
    (e : s.hdrs.length = 9 → s.masters.length = 7 → s.cell.cells.length = 256 → s.cell.trunks.length = 8 →
      s.field.pins.length = 32 → s.sense.ins.length = 16 → s.sense.convs.length = 17 → s.sense.ints.length = 8 →
      s.safe.ins.length = 8 → s.safe.outs.length = 4 → s.safe.conns.length = 8 → s.fab.sems.length = 16 → s.fab.queues.length = 16 → s.fab.policers.length = 2 →
      n1 = 9 ∧ n2 = 7 ∧ n3 = 256 ∧ n4 = 8 ∧ n5 = 32 ∧ n6 = 16 ∧ n7 = 17 ∧ n8 = 8 ∧ n9 = 8 ∧ n10 = 4 ∧ n11 = 8 ∧ n12 = 16 ∧ n13 = 16 ∧ n14 = 2 := by
      intros; simp only [List.length_map, List.length_zipIdx, length_updAt, length_putAt, List.length_range, List.length_replicate, and_self, *]) :
    tcanon objDefault o ∧ storedCanon st ∧ tcanon (fun _ => Slot.empty) r ∧ n1 = 9 ∧ n2 = 7 ∧ n3 = 256 ∧ n4 = 8 ∧ n5 = 32 ∧ n6 = 16 ∧ n7 = 17 ∧ n8 = 8 ∧ n9 = 8 ∧ n10 = 4 ∧ n11 = 8 ∧ n12 = 16 ∧ n13 = 16 ∧ n14 = 2 := by
  subst eo es er
  obtain ⟨h1, h2, h3, h4, h5, h6, h7, h8, h9, h10, h11, h12, h13, h14, h15, h16, h17⟩ := h
  exact ⟨h1, h2, h3, e h4 h5 h6 h7 h8 h9 h10 h11 h12 h13 h14 h15 h16 h17⟩

/-- The same with new sparse stores, each in canonical form. -/
theorem good_set {s : State} (h : s.Good) {o : List (Nat × Val)} {st : Option Stored} {r : List (Nat × Slot)}
    {n1 n2 n3 n4 n5 n6 n7 n8 n9 n10 n11 n12 n13 n14 : Nat} (eo : tcanon objDefault o) (es : storedCanon st)
    (er : tcanon (fun _ => Slot.empty) r)
    (e : s.shape = [n1, n2, n3, n4, n5, n6, n7, n8, n9, n10, n11, n12, n13, n14]) :
    tcanon objDefault o ∧ storedCanon st ∧ tcanon (fun _ => Slot.empty) r ∧ n1 = 9 ∧ n2 = 7 ∧ n3 = 256 ∧ n4 = 8 ∧ n5 = 32 ∧
    n6 = 16 ∧ n7 = 17 ∧ n8 = 8 ∧ n9 = 8 ∧ n10 = 4 ∧ n11 = 8 ∧ n12 = 16 ∧ n13 = 16 ∧ n14 = 2 := by
  rw [good_iff, State.Shape, e] at h
  exact ⟨eo, es, er, by simpa using h.2⟩

/-- A folio put into the ring keeps it canonical. -/
theorem RecState.place_ring {r : RecState} (f : Folio) (h : tcanon (fun _ => Slot.empty) r.ring) :
    tcanon (fun _ => Slot.empty) (r.place f).ring := by
  unfold RecState.place; dsimp only; exact tcanon_tput (f.seq % 65536) (Slot.valid f) h

/-! ### Footprints -/

/-- The state with the parts of t whose bit in a mask is set (Part.ix), the others those of s. -/
def State.take (m : Nat) (s t : State) : State where
  pending := if m.testBit 0 then t.pending else s.pending
  now := if m.testBit 1 then t.now else s.now
  tick := if m.testBit 2 then t.tick else s.tick
  k := if m.testBit 3 then t.k else s.k
  edge := if m.testBit 4 then t.edge else s.edge
  extDone := if m.testBit 5 then t.extDone else s.extDone
  refsDone := if m.testBit 6 then t.refsDone else s.refsDone
  lastDone := if m.testBit 7 then t.lastDone else s.lastDone
  freeCount := if m.testBit 8 then t.freeCount else s.freeCount
  device := if m.testBit 9 then t.device else s.device
  station := if m.testBit 10 then t.station else s.station
  objs := if m.testBit 11 then t.objs else s.objs
  stored := if m.testBit 12 then t.stored else s.stored
  commitAt := if m.testBit 13 then t.commitAt else s.commitAt
  fns := if m.testBit 14 then t.fns else s.fns
  hdrs := if m.testBit 15 then t.hdrs else s.hdrs
  masters := if m.testBit 16 then t.masters else s.masters
  ps := if m.testBit 17 then t.ps else s.ps
  mode := if m.testBit 18 then t.mode else s.mode
  recd := if m.testBit 19 then t.recd else s.recd
  sec := if m.testBit 20 then t.sec else s.sec
  fab := if m.testBit 21 then t.fab else s.fab
  pwr := if m.testBit 22 then t.pwr else s.pwr
  dpx := if m.testBit 23 then t.dpx else s.dpx
  form := if m.testBit 24 then t.form else s.form
  arm := if m.testBit 25 then t.arm else s.arm
  spn := if m.testBit 26 then t.spn else s.spn
  cell := if m.testBit 27 then t.cell else s.cell
  sense := if m.testBit 28 then t.sense else s.sense
  clk := if m.testBit 29 then t.clk else s.clk
  time := if m.testBit 30 then t.time else s.time
  field := if m.testBit 31 then t.field else s.field
  safe := if m.testBit 32 then t.safe else s.safe
  tx := if m.testBit 33 then t.tx else s.tx

/-- t differs from s in parts of the mask only, and keeps the invariant; but where the mask has bit 34, SAFE and BOOT are not
left. -/
structure Keeps (m : Nat) (s t : State) : Prop where
  good : s.Good → t.Good
  frame : t = s.take m t
  shut : m.testBit 34 = false → s.Shut → t.Shut

theorem State.take_self (m : Nat) (s : State) : s.take m s = s := by
  unfold State.take
  simp only [ite_self]

theorem State.take_trans {m : Nat} {s t u : State} (h1 : t = s.take m t) (h2 : u = t.take m u) : u = s.take m u := by
  rw [h2, h1]
  simp only [State.take, State.mk.injEq]
  repeat' apply And.intro
  all_goals (split <;> rfl)

/-- One mask lies within another. -/
abbrev within (a b : Nat) : Prop := a &&& b = a

theorem within_trans {a b c : Nat} (h : within a b) (k : within b c) : within a c := by
  unfold within at *
  rw [← h, Nat.and_assoc, k]

theorem within_bit {a b : Nat} (hab : within a b) (i : Nat) (hi : b.testBit i = false) : a.testBit i = false := by
  have := congrArg (fun x => x.testBit i) hab
  simp [hi] at this
  exact this

theorem State.take_mono {a b : Nat} {s t : State} (hab : within a b) (h : t = s.take a t) : t = s.take b t := by
  have hb : ∀ i, b.testBit i = false → a.testBit i = false := by
    intro i hi
    have := congrArg (fun x => x.testBit i) hab
    simp [hi] at this
    exact this
  rw [h]
  simp only [State.take, State.mk.injEq]
  repeat' apply And.intro
  all_goals (split <;> split <;> first | rfl | (rename_i h1 h2; exact absurd (hb _ (Bool.eq_false_iff.2 h2) ▸ h1) (by decide)))

theorem Keeps.refl {m : Nat} {s : State} : Keeps m s s := ⟨id, (State.take_self m s).symm, fun _ => id⟩

/-- An operation of a smaller footprint after others. -/
theorem Keeps.via {a m : Nat} {s t u : State} (h : Keeps a t u) (ha : within a m) (k : Keeps m s t) : Keeps m s u :=
  ⟨fun g => h.good (k.good g), State.take_trans k.frame (State.take_mono ha h.frame),
    fun i g => h.shut (within_bit ha 34 i) (k.shut i g)⟩

theorem Shut.of {t u : State} (e : u.mode.mode = t.mode.mode) (h : t.Shut) : u.Shut := by unfold State.Shut at *; rw [e]; exact h

/-- A state written out as a change of t. -/
theorem Keeps.upd {m : Nat} {s t u : State} (k : Keeps m s t) (f : u = t.take m u) (g : t.Good → u.Good)
    (c : m.testBit 34 = false → t.Shut → u.Shut := by exact fun _ => Shut.of rfl) : Keeps m s u :=
  ⟨fun h => g (k.good h), State.take_trans k.frame f, fun i h => c i (k.shut i h)⟩

theorem keeps_ite {m : Nat} {c : Prop} [Decidable c] {r s t : State} (hs : Keeps m r s) (ht : Keeps m r t) :
    Keeps m r (if c then s else t) := by
  split
  · exact hs
  · exact ht

theorem keeps_snd {m : Nat} {s : State} {α : Type} {x : α × State} {a : α} {t : State} (e : x = (a, t)) (h : Keeps m s x.2) :
    Keeps m s t := by
  subst e; exact h

theorem keeps_fst {m : Nat} {s : State} {α : Type} {x : State × α} {a : α} {t : State} (e : x = (t, a)) (h : Keeps m s x.1) :
    Keeps m s t := by
  subst e; exact h

theorem keeps_mid {m : Nat} {s : State} {α β : Type} {x : α × β × State} {a : α} {b : β} {t : State} (e : x = (a, b, t))
    (h : Keeps m s x.2.2) : Keeps m s t := by
  subst e; exact h

theorem keeps_foldl {m : Nat} {r : State} {α : Type} {f : State → α → State} (l : List α) {s : State} (h : Keeps m r s)
    (hf : ∀ s a, Keeps m r s → Keeps m r (f s a)) : Keeps m r (l.foldl f s) := by
  induction l generalizing s with
  | nil => exact h
  | cons a l ih => exact ih (hf s a h)

theorem keeps_foldl_fst {m : Nat} {r : State} {α β : Type} {f : State × β → α → State × β} (l : List α) {x : State × β}
    (h : Keeps m r x.1) (hf : ∀ x a, Keeps m r x.1 → Keeps m r (f x a).1) : Keeps m r (l.foldl f x).1 := by
  induction l generalizing x with
  | nil => exact h
  | cons a l ih => exact ih (hf x a h)

theorem keeps_foldl_snd {m : Nat} {r : State} {α β : Type} {f : β × State → α → β × State} (l : List α) {x : β × State}
    (h : Keeps m r x.2) (hf : ∀ x a, Keeps m r x.2 → Keeps m r (f x a).2) : Keeps m r (l.foldl f x).2 := by
  induction l generalizing x with
  | nil => exact h
  | cons a l ih => exact ih (hf x a h)

theorem keeps_foldl_mid {m : Nat} {r : State} {α β γ : Type} {f : β × γ × State → α → β × γ × State} (l : List α)
    {x : β × γ × State} (h : Keeps m r x.2.2) (hf : ∀ x a, Keeps m r x.2.2 → Keeps m r (f x a).2.2) :
    Keeps m r (l.foldl f x).2.2 := by
  induction l generalizing x with
  | nil => exact h
  | cons a l ih => exact ih (hf x a h)

/-! ### One part written -/

theorem keeps_pending {m : Nat} {r s : State} {x : List Instr} (k : Keeps m r s) (hm : within 0x1 m) :
    Keeps m r { s with pending := x } := Keeps.via (t := s) (Keeps.upd Keeps.refl rfl id) hm k

theorem keeps_now {m : Nat} {r s : State} {x : Nat} (k : Keeps m r s) (hm : within 0x2 m) :
    Keeps m r { s with now := x } := Keeps.via (t := s) (Keeps.upd Keeps.refl rfl id) hm k

theorem keeps_tick {m : Nat} {r s : State} {x : Nat} (k : Keeps m r s) (hm : within 0x4 m) :
    Keeps m r { s with tick := x } := Keeps.via (t := s) (Keeps.upd Keeps.refl rfl id) hm k

theorem keeps_k {m : Nat} {r s : State} {x : Nat} (k : Keeps m r s) (hm : within 0x8 m) :
    Keeps m r { s with k := x } := Keeps.via (t := s) (Keeps.upd Keeps.refl rfl id) hm k

theorem keeps_edge {m : Nat} {r s : State} {x : Bool} (k : Keeps m r s) (hm : within 0x10 m) :
    Keeps m r { s with edge := x } := Keeps.via (t := s) (Keeps.upd Keeps.refl rfl id) hm k

theorem keeps_extDone {m : Nat} {r s : State} {x : Bool} (k : Keeps m r s) (hm : within 0x20 m) :
    Keeps m r { s with extDone := x } := Keeps.via (t := s) (Keeps.upd Keeps.refl rfl id) hm k

theorem keeps_refsDone {m : Nat} {r s : State} {x : Bool} (k : Keeps m r s) (hm : within 0x40 m) :
    Keeps m r { s with refsDone := x } := Keeps.via (t := s) (Keeps.upd Keeps.refl rfl id) hm k

theorem keeps_lastDone {m : Nat} {r s : State} {x : Bool} (k : Keeps m r s) (hm : within 0x80 m) :
    Keeps m r { s with lastDone := x } := Keeps.via (t := s) (Keeps.upd Keeps.refl rfl id) hm k

theorem keeps_freeCount {m : Nat} {r s : State} {x : Nat} (k : Keeps m r s) (hm : within 0x100 m) :
    Keeps m r { s with freeCount := x } := Keeps.via (t := s) (Keeps.upd Keeps.refl rfl id) hm k

theorem keeps_device {m : Nat} {r s : State} {x : Nat} (k : Keeps m r s) (hm : within 0x200 m) :
    Keeps m r { s with device := x } := Keeps.via (t := s) (Keeps.upd Keeps.refl rfl id) hm k

theorem keeps_station {m : Nat} {r s : State} {x : Nat} (k : Keeps m r s) (hm : within 0x400 m) :
    Keeps m r { s with station := x } := Keeps.via (t := s) (Keeps.upd Keeps.refl rfl id) hm k

theorem keeps_objs {m : Nat} {r s : State} {x : List (Nat × Val)} (k : Keeps m r s) (hm : within 0x800 m)
    (e : tcanon objDefault s.objs → tcanon objDefault x) : Keeps m r { s with objs := x } :=
  Keeps.via (t := s) (Keeps.upd Keeps.refl rfl (fun h : s.Good => ⟨e h.1, h.2.1, h.2.2.1, h.2.2.2⟩)) hm k

theorem keeps_stored {m : Nat} {r s : State} {x : Option Stored} (k : Keeps m r s) (hm : within 0x1000 m)
    (e : storedCanon s.stored → storedCanon x) : Keeps m r { s with stored := x } :=
  Keeps.via (t := s) (Keeps.upd Keeps.refl rfl (fun h : s.Good => ⟨h.1, e h.2.1, h.2.2.1, h.2.2.2⟩)) hm k

theorem keeps_commitAt {m : Nat} {r s : State} {x : Option Nat} (k : Keeps m r s) (hm : within 0x2000 m) :
    Keeps m r { s with commitAt := x } := Keeps.via (t := s) (Keeps.upd Keeps.refl rfl id) hm k

theorem keeps_fns {m : Nat} {r s : State} {x : Fns} (k : Keeps m r s) (hm : within 0x4000 m) :
    Keeps m r { s with fns := x } := Keeps.via (t := s) (Keeps.upd Keeps.refl rfl id) hm k

theorem keeps_hdrs {m : Nat} {r s : State} {x : List RegionHdr} (k : Keeps m r s) (hm : within 0x8000 m)
    (e : s.hdrs.length = 9 →
      x.length = 9) : Keeps m r { s with hdrs := x } :=
  Keeps.via (t := s) (Keeps.upd Keeps.refl rfl (fun h : s.Good => by
    have e1 := e (h.2.2.2.1)
    unfold State.Good; dsimp only
    exact good_size h rfl rfl rfl (by intros; simp only [*, and_self]))) hm k

theorem keeps_masters {m : Nat} {r s : State} {x : List Master} (k : Keeps m r s) (hm : within 0x10000 m)
    (e : s.masters.length = 7 →
      x.length = 7) : Keeps m r { s with masters := x } :=
  Keeps.via (t := s) (Keeps.upd Keeps.refl rfl (fun h : s.Good => by
    have e1 := e (h.2.2.2.2.1)
    unfold State.Good; dsimp only
    exact good_size h rfl rfl rfl (by intros; simp only [*, and_self]))) hm k

theorem keeps_ps {m : Nat} {r s : State} {x : PsState} (k : Keeps m r s) (hm : within 0x20000 m) :
    Keeps m r { s with ps := x } := Keeps.via (t := s) (Keeps.upd Keeps.refl rfl id) hm k

theorem keeps_mode {m : Nat} {r s : State} {x : ModeState} (k : Keeps m r s) (hm : within 0x40000 m)
    (e : s.mode.mode = .safe ∨ s.mode.mode = .boot → x.mode = .safe ∨ x.mode = .boot) :
    Keeps m r { s with mode := x } := Keeps.via (t := s) (Keeps.upd Keeps.refl rfl id (fun _ => e)) hm k

theorem keeps_recd {m : Nat} {r s : State} {x : RecState} (k : Keeps m r s) (hm : within 0x80000 m)
    (e : tcanon (fun _ => Slot.empty) s.recd.ring → tcanon (fun _ => Slot.empty) x.ring) : Keeps m r { s with recd := x } :=
  Keeps.via (t := s) (Keeps.upd Keeps.refl rfl (fun h : s.Good => ⟨h.1, h.2.1, e h.2.2.1, h.2.2.2⟩)) hm k

theorem keeps_sec {m : Nat} {r s : State} {x : SecState} (k : Keeps m r s) (hm : within 0x100000 m) :
    Keeps m r { s with sec := x } := Keeps.via (t := s) (Keeps.upd Keeps.refl rfl id) hm k

theorem keeps_fab {m : Nat} {r s : State} {x : FabState} (k : Keeps m r s) (hm : within 0x200000 m)
    (e : s.fab.sems.length = 16 → s.fab.queues.length = 16 → s.fab.policers.length = 2 →
      x.sems.length = 16 ∧ x.queues.length = 16 ∧ x.policers.length = 2) : Keeps m r { s with fab := x } :=
  Keeps.via (t := s) (Keeps.upd Keeps.refl rfl (fun h : s.Good => by
    have e1 := e (h.2.2.2.2.2.2.2.2.2.2.2.2.2.2.1) (h.2.2.2.2.2.2.2.2.2.2.2.2.2.2.2.1) (h.2.2.2.2.2.2.2.2.2.2.2.2.2.2.2.2)
    unfold State.Good; dsimp only
    exact good_size h rfl rfl rfl (by intros; simp only [*, and_self]))) hm k

theorem keeps_pwr {m : Nat} {r s : State} {x : PwrState} (k : Keeps m r s) (hm : within 0x400000 m) :
    Keeps m r { s with pwr := x } := Keeps.via (t := s) (Keeps.upd Keeps.refl rfl id) hm k

theorem keeps_dpx {m : Nat} {r s : State} {x : DpxState} (k : Keeps m r s) (hm : within 0x800000 m) :
    Keeps m r { s with dpx := x } := Keeps.via (t := s) (Keeps.upd Keeps.refl rfl id) hm k

theorem keeps_form {m : Nat} {r s : State} {x : FormState} (k : Keeps m r s) (hm : within 0x1000000 m) :
    Keeps m r { s with form := x } := Keeps.via (t := s) (Keeps.upd Keeps.refl rfl id) hm k

theorem keeps_arm {m : Nat} {r s : State} {x : ArmState} (k : Keeps m r s) (hm : within 0x2000000 m) :
    Keeps m r { s with arm := x } := Keeps.via (t := s) (Keeps.upd Keeps.refl rfl id) hm k

theorem keeps_spn {m : Nat} {r s : State} {x : SpnState} (k : Keeps m r s) (hm : within 0x4000000 m) :
    Keeps m r { s with spn := x } := Keeps.via (t := s) (Keeps.upd Keeps.refl rfl id) hm k

theorem keeps_cell {m : Nat} {r s : State} {x : CellState} (k : Keeps m r s) (hm : within 0x8000000 m)
    (e : s.cell.cells.length = 256 → s.cell.trunks.length = 8 →
      x.cells.length = 256 ∧ x.trunks.length = 8) : Keeps m r { s with cell := x } :=
  Keeps.via (t := s) (Keeps.upd Keeps.refl rfl (fun h : s.Good => by
    have e1 := e (h.2.2.2.2.2.1) (h.2.2.2.2.2.2.1)
    unfold State.Good; dsimp only
    exact good_size h rfl rfl rfl (by intros; simp only [*, and_self]))) hm k

theorem keeps_sense {m : Nat} {r s : State} {x : SenseState} (k : Keeps m r s) (hm : within 0x10000000 m)
    (e : s.sense.ins.length = 16 → s.sense.convs.length = 17 → s.sense.ints.length = 8 →
      x.ins.length = 16 ∧ x.convs.length = 17 ∧ x.ints.length = 8) : Keeps m r { s with sense := x } :=
  Keeps.via (t := s) (Keeps.upd Keeps.refl rfl (fun h : s.Good => by
    have e1 := e (h.2.2.2.2.2.2.2.2.1) (h.2.2.2.2.2.2.2.2.2.1) (h.2.2.2.2.2.2.2.2.2.2.1)
    unfold State.Good; dsimp only
    exact good_size h rfl rfl rfl (by intros; simp only [*, and_self]))) hm k

theorem keeps_clk {m : Nat} {r s : State} {x : ClkState} (k : Keeps m r s) (hm : within 0x20000000 m) :
    Keeps m r { s with clk := x } := Keeps.via (t := s) (Keeps.upd Keeps.refl rfl id) hm k

theorem keeps_time {m : Nat} {r s : State} {x : TimeState} (k : Keeps m r s) (hm : within 0x40000000 m) :
    Keeps m r { s with time := x } := Keeps.via (t := s) (Keeps.upd Keeps.refl rfl id) hm k

theorem keeps_field {m : Nat} {r s : State} {x : FieldState} (k : Keeps m r s) (hm : within 0x80000000 m)
    (e : s.field.pins.length = 32 →
      x.pins.length = 32) : Keeps m r { s with field := x } :=
  Keeps.via (t := s) (Keeps.upd Keeps.refl rfl (fun h : s.Good => by
    have e1 := e (h.2.2.2.2.2.2.2.1)
    unfold State.Good; dsimp only
    exact good_size h rfl rfl rfl (by intros; simp only [*, and_self]))) hm k

theorem keeps_safe {m : Nat} {r s : State} {x : SafeState} (k : Keeps m r s) (hm : within 0x100000000 m)
    (e : s.safe.ins.length = 8 → s.safe.outs.length = 4 → s.safe.conns.length = 8 →
      x.ins.length = 8 ∧ x.outs.length = 4 ∧ x.conns.length = 8) : Keeps m r { s with safe := x } :=
  Keeps.via (t := s) (Keeps.upd Keeps.refl rfl (fun h : s.Good => by
    have e1 := e (h.2.2.2.2.2.2.2.2.2.2.2.1) (h.2.2.2.2.2.2.2.2.2.2.2.2.1) (h.2.2.2.2.2.2.2.2.2.2.2.2.2.1)
    unfold State.Good; dsimp only
    exact good_size h rfl rfl rfl (by intros; simp only [*, and_self]))) hm k

theorem keeps_tx {m : Nat} {r s : State} {x : List Tx} (k : Keeps m r s) (hm : within 0x200000000 m) :
    Keeps m r { s with tx := x } := Keeps.via (t := s) (Keeps.upd Keeps.refl rfl id) hm k

/-- An outcome whose next state, where it is one, keeps. -/
def OutKeeps (m : Nat) (s : State) : Out → Prop
  | .next t => Keeps m s t
  | _ => True

theorem outKeeps_next {m : Nat} {s t : State} (h : Keeps m s t) : OutKeeps m s (.next t) := h

end Sys2Proof.Machine
end

