-- ==== Sys2Proof/Laws/Footprint.lean ====
section
/-! SUPPORT. From the masks of Keeps to the parts of Safety.lean. -/
namespace Sys2Proof.Machine

set_option Elab.async false
set_option linter.all false

/-- A part outside the mask is as before. -/
theorem Keeps.same {m : Nat} {s t : State} (k : Keeps m s t) (p : Part) (h : m.testBit p.ix = false) : p.same s t := by
  have e := k.frame
  cases p <;> simp only [Part.ix] at h <;> simp only [Part.same] <;> (rw [e]; simp only [State.take, h]; rfl)

/-- Every part. -/
def Part.all : List Part :=
  [.pending, .now, .tick, .k, .edge, .extDone, .refsDone, .lastDone, .freeCount, .device, .station, .objs, .stored,
   .commitAt, .fns, .hdrs, .masters, .ps, .mode, .recd, .sec, .fab, .pwr, .dpx, .form, .arm, .spn, .cell, .sense, .clk,
   .time, .field, .safe, .tx]

/-- The mask lies within a list of parts. -/
def covers (m : Nat) (l : List Part) : Bool := Part.all.all (fun p => l.contains p || !m.testBit p.ix)

theorem covers_spec {m : Nat} {l : List Part} (h : covers m l = true) (p : Part) (hp : p ∉ l) : m.testBit p.ix = false := by
  have := List.all_eq_true.1 h p (by cases p <;> decide)
  simpa [hp] using this

/-- The parts outside a list that the mask lies within are as before. -/
theorem Keeps.parts {m : Nat} {s t : State} {l : List Part} (k : Keeps m s t) (h : covers m l = true) (p : Part) (hp : p ∉ l) :
    p.same s t := k.same p (covers_spec h p hp)

end Sys2Proof.Machine
end

