-- ==== Sys2Proof/Laws/KeepDictionary.lean ====
section
/-! SUPPORT. What every operation of Machine/Dictionary.lean leaves: its parts (the mask of Keeps) and the invariant. -/
namespace Sys2Proof.Machine

set_option Elab.async false
set_option linter.all false

set_option linter.unusedSimpArgs false
set_option linter.unusedVariables false

theorem State.setObj_keeps {s : State} {idx sub chan : Nat} {v : Val} : Keeps 0x800 s (s.setObj idx sub chan v) :=
  Keeps.upd Keeps.refl rfl (fun h => ⟨tcanon_tput _ _ h.1, h.2⟩)

end Sys2Proof.Machine
end

