-- ==== Sys2Proof/Laws/KeepOps.lean ====
section
/-! SUPPORT. What every operation of Machine/Ops.lean leaves: its parts (the mask of Keeps) and the invariant. -/
namespace Sys2Proof.Machine

set_option Elab.async false
set_option linter.all false

set_option linter.unusedSimpArgs false
set_option linter.unusedVariables false

theorem State.mapPs_keeps {s : State} {f : PsState → PsState} :
    Keeps 0x20000 s (State.mapPs s f) := by
  unfold State.mapPs
  try dsimp only
  repeat' first | (with_reducible exact Keeps.refl) | decide
                | (with_reducible apply keeps_ps; with_reducible exact Keeps.refl)

theorem State.mapMode_keeps {s : State} {f : ModeState → ModeState} (e : (f s.mode).mode = s.mode.mode) :
    Keeps 0x40000 s (State.mapMode s f) := by
  unfold State.mapMode
  refine keeps_mode Keeps.refl (by decide) (fun h => ?_)
  rw [e]; exact h

theorem State.mapRecd_keeps {s : State} {f : RecState → RecState} (e : (f s.recd).ring = s.recd.ring) :
    Keeps 0x80000 s (s.mapRecd f) := by
  refine Keeps.upd Keeps.refl rfl (fun h => ?_)
  unfold State.mapRecd State.Good
  dsimp only
  exact good_upd h rfl rfl e.symm rfl

theorem State.mapSec_keeps {s : State} {f : SecState → SecState} :
    Keeps 0x100000 s (State.mapSec s f) := by
  unfold State.mapSec
  try dsimp only
  repeat' first | (with_reducible exact Keeps.refl) | decide
                | (with_reducible apply keeps_sec; with_reducible exact Keeps.refl)

theorem State.mapFab_keeps {s : State} {f : FabState → FabState}
    (e : s.fab.sems.length = 16 → s.fab.queues.length = 16 → s.fab.policers.length = 2 →
      (f s.fab).sems.length = 16 ∧ (f s.fab).queues.length = 16 ∧ (f s.fab).policers.length = 2) :
    Keeps 0x200000 s (s.mapFab f) := by
  refine Keeps.upd Keeps.refl rfl (fun h => ?_)
  have e1 := e (h.2.2.2.2.2.2.2.2.2.2.2.2.2.2.1) (h.2.2.2.2.2.2.2.2.2.2.2.2.2.2.2.1) (h.2.2.2.2.2.2.2.2.2.2.2.2.2.2.2.2)
  unfold State.mapFab State.Good
  dsimp only
  exact good_size h rfl rfl rfl (by intros; simp only [*, and_self])

theorem State.mapPwr_keeps {s : State} {f : PwrState → PwrState} :
    Keeps 0x400000 s (State.mapPwr s f) := by
  unfold State.mapPwr
  try dsimp only
  repeat' first | (with_reducible exact Keeps.refl) | decide
                | (with_reducible apply keeps_pwr; with_reducible exact Keeps.refl)

theorem State.mapDpx_keeps {s : State} {f : DpxState → DpxState} :
    Keeps 0x800000 s (State.mapDpx s f) := by
  unfold State.mapDpx
  try dsimp only
  repeat' first | (with_reducible exact Keeps.refl) | decide
                | (with_reducible apply keeps_dpx; with_reducible exact Keeps.refl)

theorem State.mapForm_keeps {s : State} {f : FormState → FormState} :
    Keeps 0x1000000 s (State.mapForm s f) := by
  unfold State.mapForm
  try dsimp only
  repeat' first | (with_reducible exact Keeps.refl) | decide
                | (with_reducible apply keeps_form; with_reducible exact Keeps.refl)

theorem State.mapArm_keeps {s : State} {f : ArmState → ArmState} :
    Keeps 0x2000000 s (State.mapArm s f) := by
  unfold State.mapArm
  try dsimp only
  repeat' first | (with_reducible exact Keeps.refl) | decide
                | (with_reducible apply keeps_arm; with_reducible exact Keeps.refl)

theorem State.mapSpn_keeps {s : State} {f : SpnState → SpnState} :
    Keeps 0x4000000 s (State.mapSpn s f) := by
  unfold State.mapSpn
  try dsimp only
  repeat' first | (with_reducible exact Keeps.refl) | decide
                | (with_reducible apply keeps_spn; with_reducible exact Keeps.refl)

theorem State.mapCellS_keeps {s : State} {f : CellState → CellState}
    (e : s.cell.cells.length = 256 → s.cell.trunks.length = 8 →
      (f s.cell).cells.length = 256 ∧ (f s.cell).trunks.length = 8) :
    Keeps 0x8000000 s (s.mapCellS f) := by
  refine Keeps.upd Keeps.refl rfl (fun h => ?_)
  have e1 := e (h.2.2.2.2.2.1) (h.2.2.2.2.2.2.1)
  unfold State.mapCellS State.Good
  dsimp only
  exact good_size h rfl rfl rfl (by intros; simp only [*, and_self])

theorem State.mapSense_keeps {s : State} {f : SenseState → SenseState}
    (e : s.sense.ins.length = 16 → s.sense.convs.length = 17 → s.sense.ints.length = 8 →
      (f s.sense).ins.length = 16 ∧ (f s.sense).convs.length = 17 ∧ (f s.sense).ints.length = 8) :
    Keeps 0x10000000 s (s.mapSense f) := by
  refine Keeps.upd Keeps.refl rfl (fun h => ?_)
  have e1 := e (h.2.2.2.2.2.2.2.2.1) (h.2.2.2.2.2.2.2.2.2.1) (h.2.2.2.2.2.2.2.2.2.2.1)
  unfold State.mapSense State.Good
  dsimp only
  exact good_size h rfl rfl rfl (by intros; simp only [*, and_self])

theorem State.mapFieldS_keeps {s : State} {f : FieldState → FieldState}
    (e : s.field.pins.length = 32 →
      (f s.field).pins.length = 32) :
    Keeps 0x80000000 s (s.mapFieldS f) := by
  refine Keeps.upd Keeps.refl rfl (fun h => ?_)
  have e1 := e (h.2.2.2.2.2.2.2.1)
  unfold State.mapFieldS State.Good
  dsimp only
  exact good_size h rfl rfl rfl (by intros; simp only [*, and_self])

theorem State.mapSafe_keeps {s : State} {f : SafeState → SafeState}
    (e : s.safe.ins.length = 8 → s.safe.outs.length = 4 → s.safe.conns.length = 8 →
      (f s.safe).ins.length = 8 ∧ (f s.safe).outs.length = 4 ∧ (f s.safe).conns.length = 8) :
    Keeps 0x100000000 s (s.mapSafe f) := by
  refine Keeps.upd Keeps.refl rfl (fun h => ?_)
  have e1 := e (h.2.2.2.2.2.2.2.2.2.2.2.1) (h.2.2.2.2.2.2.2.2.2.2.2.2.1) (h.2.2.2.2.2.2.2.2.2.2.2.2.2.1)
  unfold State.mapSafe State.Good
  dsimp only
  exact good_size h rfl rfl rfl (by intros; simp only [*, and_self])

theorem State.emit_keeps {s : State} {t : Tx} :
    Keeps 0x200000000 s (State.emit s t) := by
  unfold State.emit
  try dsimp only
  repeat' first | (with_reducible exact Keeps.refl) | decide
                | (with_reducible apply keeps_tx; with_reducible exact Keeps.refl)

theorem State.drawn_keeps {s : State} :
    Keeps 0x100 s (State.drawn s) := by
  unfold State.drawn
  try dsimp only
  repeat' first | (with_reducible exact Keeps.refl) | decide
                | (with_reducible apply keeps_freeCount; with_reducible exact Keeps.refl)

theorem State.accept_keeps {s : State} {code : Nat} {cls : Cls} {region : Nat} {payload : List Nat} :
    Keeps 0x80000 s (State.accept s code cls region payload) := by
  unfold State.accept
  try dsimp only
  repeat' first | (with_reducible first | exact Keeps.refl | apply keeps_ite) | decide
                | (intros; simp only [List.length_map, List.length_zipIdx, length_updAt, length_putAt, List.length_range, List.length_replicate, and_self, *]; done)
                | (with_reducible apply keeps_recd; (with_reducible first | exact Keeps.refl | apply keeps_ite))

theorem State.offer_keeps {s : State} {code : Nat} {cls : Cls} {region : Nat} {payload : List Nat} :
    Keeps 0x80000 s (State.offer s code cls region payload) := by
  unfold State.offer
  try dsimp only
  repeat' first | (with_reducible first | exact Keeps.refl | apply keeps_ite | apply Keeps.via State.accept_keeps) | decide
                | (intros; simp only [List.length_map, List.length_zipIdx, length_updAt, length_putAt, List.length_range, List.length_replicate, and_self, *]; done)
                | (with_reducible apply keeps_recd; (with_reducible first | exact Keeps.refl | apply keeps_ite | apply Keeps.via State.accept_keeps))

theorem State.note_keeps {s : State} {code : Nat} {payload : List Nat} :
    Keeps 0x80000 s (State.note s code payload) := by
  unfold State.note
  try dsimp only
  repeat' first | (with_reducible first | exact Keeps.refl | apply Keeps.via State.offer_keeps) | decide

theorem State.warn_keeps {s : State} {code : Nat} {payload : List Nat} :
    Keeps 0x80000 s (State.warn s code payload) := by
  unfold State.warn
  try dsimp only
  repeat' first | (with_reducible first | exact Keeps.refl | apply Keeps.via State.offer_keeps) | decide

theorem State.warnOn_keeps {s : State} {code key : Nat} {payload : List Nat} :
    Keeps 0xC0000 s (State.warnOn s code key payload) := by
  unfold State.warnOn
  try dsimp only
  repeat' first | (exact fun h => h) | (with_reducible first | exact Keeps.refl | apply keeps_ite | apply Keeps.via State.warn_keeps) | decide
                | (with_reducible apply keeps_mode; (with_reducible first | exact Keeps.refl | apply keeps_ite | apply Keeps.via State.warn_keeps))

theorem State.warnOff_keeps {s : State} {code key : Nat} :
    Keeps 0x40000 s (State.warnOff s code key) := by
  unfold State.warnOff
  try dsimp only
  repeat' first | (exact fun h => h) | (with_reducible exact Keeps.refl) | decide
                | (with_reducible apply keeps_mode; with_reducible exact Keeps.refl)

theorem State.warnHold_keeps {s : State} {code key : Nat} :
    Keeps 0x40000 s (State.warnHold s code key) := by
  unfold State.warnHold
  try dsimp only
  repeat' first | (exact fun h => h) | (exact rfl)
                | (with_reducible first | exact Keeps.refl | apply Keeps.via State.warnOff_keeps)
                | (with_reducible apply keeps_mode; (with_reducible first | exact Keeps.refl | apply Keeps.via State.warnOff_keeps))

theorem State.warnKeep_keeps {s : State} {code key : Nat} {payload : List Nat} :
    Keeps 0xC0000 s (State.warnKeep s code key payload) := by
  unfold State.warnKeep
  try dsimp only
  repeat' first | (exact rfl)
                | (with_reducible first | exact Keeps.refl | apply Keeps.via State.warn_keeps | apply Keeps.via State.warnHold_keeps)

theorem State.setRun_keeps {s : State} {n : Fn} {r : Run} :
    Keeps 0x84000 s (State.setRun s n r) := by
  unfold State.setRun
  try dsimp only
  repeat' first | (with_reducible first | exact Keeps.refl | apply keeps_ite | apply Keeps.via State.offer_keeps) | decide
                | (with_reducible apply keeps_fns; (with_reducible first | exact Keeps.refl | apply keeps_ite | apply Keeps.via State.offer_keeps))

theorem State.setCheck_keeps {s : State} {n : Fn} {c : Nat} :
    Keeps 0x4000 s (State.setCheck s n c) := by
  unfold State.setCheck
  try dsimp only
  repeat' first | (with_reducible exact Keeps.refl) | decide
                | (with_reducible apply keeps_fns; with_reducible exact Keeps.refl)

theorem State.clearForce_keeps {s : State} :
    Keeps 0x80800 s (State.clearForce s) := by
  unfold State.clearForce
  try dsimp only
  repeat' first | intro _ _ _
                | (with_reducible first | assumption | exact Keeps.refl | apply keeps_ite | apply Keeps.via State.setObj_keeps | apply Keeps.via State.note_keeps | apply keeps_foldl)
                | decide

theorem State.leaveMode_keeps {s : State} :
    Keeps 0x30C0800 s (State.leaveMode s) := by
  unfold State.leaveMode
  try dsimp only
  repeat' first | (with_reducible first | exact Keeps.refl | apply Keeps.via State.clearForce_keeps) | decide | split
                | (refine Keeps.upd ?_ rfl (fun h => (by unfold State.Good; dsimp only; exact good_upd h)); (with_reducible first | exact Keeps.refl | apply Keeps.via State.clearForce_keeps))

/-- Leaving a mode only sets down what the mode held: the mode itself is written after it. -/
theorem State.leaveMode_mode (s : State) : s.leaveMode.mode.mode = s.mode.mode := by
  have e : s.clearForce.mode = s.mode := by
    have k : Keeps 0x80800 s s.clearForce := State.clearForce_keeps
    rw [k.frame]; simp only [State.take]; rfl
  unfold State.leaveMode
  split
  · rw [e]
  · rfl
  · rfl

theorem State.enterMode_keeps {s : State} {m : Mode} {sub : Nat} (e : s.Shut → m = .safe ∨ m = .boot) :
    Keeps 0x30C0800 s (State.enterMode s m sub) := by
  unfold State.enterMode
  try dsimp only
  refine keeps_ite Keeps.refl (Keeps.via State.note_keeps (by decide) ?_)
  have hk : Keeps 0x30C0800 s (if (s.mode.mode == m) = true then s else s.leaveMode) :=
    keeps_ite Keeps.refl (Keeps.via State.leaveMode_keeps (by decide) Keeps.refl)
  have hm : (if (s.mode.mode == m) = true then s else s.leaveMode).mode.mode = s.mode.mode := by
    split
    · rfl
    · exact State.leaveMode_mode s
  refine keeps_mode hk (by decide) (fun h => e ?_)
  rw [hm] at h; exact h

/-- The same where the mode need not stay. -/
theorem State.enterMode_opens {s : State} {m : Mode} {sub : Nat} : Keeps 0x4030C0800 s (State.enterMode s m sub) := by
  unfold State.enterMode
  try dsimp only
  refine keeps_ite Keeps.refl (Keeps.via State.note_keeps (by decide) ?_)
  have hk : Keeps 0x4030C0800 s (if (s.mode.mode == m) = true then s else s.leaveMode) :=
    keeps_ite Keeps.refl (Keeps.via State.leaveMode_keeps (by decide) Keeps.refl)
  exact Keeps.upd hk rfl id (fun h => absurd h (by decide))

theorem State.setMode_keeps {s : State} {m : Mode} {sub : Nat} :
    Keeps 0x30C0800 s (State.setMode s m sub) := by
  unfold State.setMode
  split
  · rename_i h
    refine State.enterMode_keeps (fun e => ?_)
    unfold State.modeOpen at h
    rcases e with e | e <;> rw [e] at h
    · cases h
    · exact .inl (by simpa using h)
  · exact Keeps.refl

theorem State.cancelPending_keeps {s : State} :
    Keeps 0xC0000 s (State.cancelPending s) := by
  unfold State.cancelPending
  try dsimp only
  repeat' first | (exact fun h => h) | (with_reducible first | exact Keeps.refl | apply Keeps.via State.note_keeps) | decide | split
                | (with_reducible apply keeps_mode; (with_reducible first | exact Keeps.refl | apply Keeps.via State.note_keeps))

theorem State.sf1Set_keeps {s : State} {cause item : Nat} :
    Keeps 0x1030C0800 s (State.sf1Set s cause item) := by
  unfold State.sf1Set
  try dsimp only
  repeat' first | (intro _ _ _; dsimp only)
                | (with_reducible first | exact Keeps.refl | apply keeps_ite | apply Keeps.via (State.mapSafe_keeps ?_) | apply Keeps.via State.note_keeps | apply Keeps.via State.setMode_keeps | apply Keeps.via State.cancelPending_keeps)
                | decide | (intros; (repeat' apply And.intro) <;> with_reducible assumption)

theorem State.sf1Hold_keeps {s : State} :
    Keeps 0x30C0800 s (State.sf1Hold s) := by
  unfold State.sf1Hold
  try dsimp only
  repeat' first | (exact rfl)
                | (with_reducible first | exact Keeps.refl | apply keeps_ite | apply Keeps.via State.setMode_keeps)

theorem State.sf2Set_keeps {s : State} {cause item : Nat} :
    Keeps 0x100080000 s (State.sf2Set s cause item) := by
  unfold State.sf2Set
  try dsimp only
  repeat' first | (intro _ _ _; dsimp only)
                | (with_reducible first | exact Keeps.refl | apply keeps_ite | apply Keeps.via (State.mapSafe_keeps ?_) | apply Keeps.via State.note_keeps)
                | decide | (intros; (repeat' apply And.intro) <;> with_reducible assumption)

theorem State.releaseSet_keeps {s : State} {door earth : Bool} :
    Keeps 0x100080000 s (State.releaseSet s door earth) := by
  unfold State.releaseSet
  try dsimp only
  repeat' first | (intro _ _ _; dsimp only)
                | (with_reducible first | exact Keeps.refl | apply keeps_ite | apply Keeps.via (State.mapSafe_keeps ?_) | apply Keeps.via State.note_keeps)
                | decide | (intros; (repeat' apply And.intro) <;> with_reducible assumption)

theorem State.safetyDown_keeps {s : State} :
    Keeps 0x1030C0800 s (State.safetyDown s) := by
  unfold State.safetyDown
  try dsimp only
  repeat' first | intro _ _ _
                | (with_reducible first | exact Keeps.refl | apply Keeps.via (State.mapSafe_keeps ?_) | apply Keeps.via State.sf1Set_keeps | apply Keeps.via State.sf2Set_keeps | apply Keeps.via State.releaseSet_keeps)
                | decide
                | (intros; simp only [List.length_map, List.length_zipIdx, length_updAt, length_putAt, List.length_range, List.length_replicate, and_self, SafeState.down, *]; done)

theorem State.fnDown_keeps {s : State} {n : Fn} :
    Keeps 0x1DB0C0800 s (State.fnDown s n) := by
  unfold State.fnDown
  try dsimp only
  repeat' first | (intro _ _ _; dsimp only) | intro _ _ | intro _
                | (with_reducible first | assumption | exact Keeps.refl | apply Keeps.via (State.mapMode_keeps ?_) | apply Keeps.via State.warnOff_keeps | apply Keeps.via State.safetyDown_keeps | rfl)
                | decide
                | (intros; simp only [State.mapMode, List.length_map, List.length_zipIdx, length_updAt, length_putAt, List.length_range, List.length_replicate, and_self, SafeState.down] at *; (repeat' apply And.intro) <;> assumption)
                | split
                | (with_reducible apply keeps_recd; (with_reducible first | assumption | exact Keeps.refl | apply Keeps.via (State.mapMode_keeps ?_) | apply Keeps.via State.warnOff_keeps | apply Keeps.via State.safetyDown_keeps))
                | (with_reducible apply keeps_form; (with_reducible first | assumption | exact Keeps.refl | apply Keeps.via (State.mapMode_keeps ?_) | apply Keeps.via State.warnOff_keeps | apply Keeps.via State.safetyDown_keeps))
                | (with_reducible apply keeps_arm; (with_reducible first | assumption | exact Keeps.refl | apply Keeps.via (State.mapMode_keeps ?_) | apply Keeps.via State.warnOff_keeps | apply Keeps.via State.safetyDown_keeps))
                | (with_reducible apply keeps_cell; (with_reducible first | assumption | exact Keeps.refl | apply Keeps.via (State.mapMode_keeps ?_) | apply Keeps.via State.warnOff_keeps | apply Keeps.via State.safetyDown_keeps))
                | (with_reducible apply keeps_sense; (with_reducible first | assumption | exact Keeps.refl | apply Keeps.via (State.mapMode_keeps ?_) | apply Keeps.via State.warnOff_keeps | apply Keeps.via State.safetyDown_keeps))
                | (with_reducible apply keeps_time; (with_reducible first | assumption | exact Keeps.refl | apply Keeps.via (State.mapMode_keeps ?_) | apply Keeps.via State.warnOff_keeps | apply Keeps.via State.safetyDown_keeps))
                | (with_reducible apply keeps_field; (with_reducible first | assumption | exact Keeps.refl | apply Keeps.via (State.mapMode_keeps ?_) | apply Keeps.via State.warnOff_keeps | apply Keeps.via State.safetyDown_keeps))

theorem State.faultOne_keeps {s : State} {n : Fn} :
    Keeps 0x1DB0C4800 s (State.faultOne s n) := by
  unfold State.faultOne
  try dsimp only
  repeat' first | (with_reducible first | exact Keeps.refl | apply keeps_ite | apply Keeps.via State.setRun_keeps | apply Keeps.via State.fnDown_keeps)
                | decide | (intros; (repeat' apply And.intro) <;> with_reducible assumption)
                | (with_reducible apply keeps_cell; (with_reducible first | exact Keeps.refl | apply keeps_ite | apply Keeps.via State.setRun_keeps | apply Keeps.via State.fnDown_keeps))

theorem State.faultFn_keeps {s : State} {n : Fn} :
    Keeps 0x1DB0C4800 s (State.faultFn s n) := by
  unfold State.faultFn
  try dsimp only
  repeat' first | intro _ _ _
                | (with_reducible first | assumption | exact Keeps.refl | apply Keeps.via State.faultOne_keeps | apply keeps_foldl)
                | decide

theorem State.blockSpan_keeps {s : State} :
    Keeps 0x30C0800 s (State.blockSpan s) := by
  unfold State.blockSpan
  try dsimp only
  repeat' first | (exact fun h => h) | (with_reducible first | exact Keeps.refl | apply keeps_ite | apply Keeps.via State.setMode_keeps | apply Keeps.via State.cancelPending_keeps)
                | decide
                | (with_reducible apply keeps_mode; (with_reducible first | exact Keeps.refl | apply keeps_ite | apply Keeps.via State.setMode_keeps | apply Keeps.via State.cancelPending_keeps))

theorem State.trip_keeps {s : State} {code : Nat} {n : Fn} {payload : List Nat} :
    Keeps 0x1DB0C4800 s (State.trip s code n payload) := by
  unfold State.trip
  try dsimp only
  repeat' first | (exact fun h => h) | (with_reducible first | exact Keeps.refl | apply Keeps.via State.offer_keeps | apply Keeps.via State.faultFn_keeps | apply Keeps.via State.blockSpan_keeps)
                | decide
                | (with_reducible apply keeps_mode; (with_reducible first | exact Keeps.refl | apply Keeps.via State.offer_keeps | apply Keeps.via State.faultFn_keeps | apply Keeps.via State.blockSpan_keeps))

theorem State.spnStop_keeps {s : State} :
    Keeps 0x4040000 s (State.spnStop s) := by
  unfold State.spnStop
  try dsimp only
  repeat' first | (exact rfl)
                | (with_reducible first | exact Keeps.refl | apply Keeps.via State.mapSpn_keeps | apply Keeps.via State.warnOff_keeps)

theorem State.enterSafe_keeps {s : State} : Keeps 0x1DF4C4800 s (State.enterSafe s) := by
  have h : ∀ t : State, Keeps 0x1DF4C4800 s t → Keeps 0x1DF4C4800 s { t with
      pwr := { t.pwr with domains := safeDomains }
      safe := { t.safe with outs := t.safe.outs.map (fun o => o.turnOff) }
      spn := { t.spn with joined := false, east := { t.spn.east with lock := false },
                          west := { t.spn.west with lock := false } } } := fun t k =>
    Keeps.upd k rfl (fun h => by
      unfold State.Good; dsimp only; exact good_upd h rfl rfl rfl (by simp only [State.shape, List.length_map]))
  unfold State.enterSafe
  refine keeps_ite Keeps.refl (h _ (Keeps.via State.spnStop_keeps (by decide) (Keeps.via State.faultFn_keeps (by decide)
    (Keeps.via State.setMode_keeps (by decide) (keeps_mode Keeps.refl (by decide) (fun h => h))))))

theorem State.safeFault_keeps {s : State} {code region : Nat} {payload : List Nat} :
    Keeps 0x1DF4C4800 s (State.safeFault s code region payload) := by
  unfold State.safeFault
  try dsimp only
  repeat' first | (with_reducible first | exact Keeps.refl | apply Keeps.via State.offer_keeps | apply Keeps.via State.enterSafe_keeps)
                | decide

theorem State.leaseLost_keeps {s : State} :
    Keeps 0x1008C0000 s (State.leaseLost s) := by
  unfold State.leaseLost
  try dsimp only
  repeat' first | (with_reducible first | exact Keeps.refl | apply keeps_ite | apply Keeps.via State.warnOn_keeps) | decide
                | (refine Keeps.upd ?_ rfl (fun h => (by unfold State.Good; dsimp only; exact good_upd h)); (with_reducible first | exact Keeps.refl | apply keeps_ite | apply Keeps.via State.warnOn_keeps))

end Sys2Proof.Machine
end

