-- ==== Sys2Proof/Laws/KeepRecorder.lean ====
section
/-! SUPPORT. What every operation of Machine/Recorder.lean leaves: its parts (the mask of Keeps) and the invariant. -/
namespace Sys2Proof.Machine

set_option Elab.async false
set_option linter.all false

set_option linter.unusedSimpArgs false
set_option linter.unusedVariables false

theorem State.bootScan_keeps {s : State} : Keeps 0x90000 s s.bootScan := by
  have hr : ∀ r : RecState, (s.Good → tcanon (fun _ => Slot.empty) r.ring) → ∀ old top held cur bad,
      Keeps 0x90000 s (let t : State := { s with
        recd := { r with newest := top, written := old, margin := held, held := [], scanned := true }
        masters := s.masters.map (fun m => { m with cursor := cur }) }
       if bad = 0 then t else t.warn 0x8006 (le 4 (min bad 4294967295))) := by
    intro r hr old top held cur bad
    have : Keeps 0x90000 s { s with
        recd := { r with newest := top, written := old, margin := held, held := [], scanned := true }
        masters := s.masters.map (fun m => { m with cursor := cur }) } := by
      refine Keeps.upd Keeps.refl rfl (fun h => ?_)
      unfold State.Good; dsimp only; exact good_set h h.1 h.2.1 (hr h) (by simp [State.shape])
    exact keeps_ite this (Keeps.via State.warn_keeps (by decide) this)
  unfold State.bootScan
  apply hr
  intro h
  have h3 := h.2.2.1
  dsimp only
  split
  · split
    · exact h3
    · split
      · exact h3
      · exact RecState.place_ring _ h3
  · exact h3

theorem State.drained_keeps {s : State} :
    Keeps 0x80000 s (State.drained s) := by
  unfold State.drained
  try dsimp only
  repeat' first | (with_reducible first | exact Keeps.refl | apply keeps_ite | apply Keeps.via State.note_keeps | apply Keeps.via State.warn_keeps)
                | decide
                | (intros; simp only [List.length_map, List.length_zipIdx, length_updAt, length_putAt, List.length_range, List.length_replicate, and_self, *]; done)
                | split
                | (with_reducible apply keeps_recd; (with_reducible first | exact Keeps.refl | apply keeps_ite | apply Keeps.via State.note_keeps | apply Keeps.via State.warn_keeps))

theorem State.memFailure_keeps {s : State} {f : Folio} {cause : Nat} :
    Keeps 0x1DB0C4800 s (State.memFailure s f cause) := by
  unfold State.memFailure
  try dsimp only
  repeat' first | (with_reducible first | exact Keeps.refl | apply keeps_ite | apply Keeps.via State.setRun_keeps | apply Keeps.via State.fnDown_keeps)
                | decide | split
                | (refine Keeps.upd ?_ rfl (fun h => (by unfold State.Good; dsimp only; exact good_upd h)); (with_reducible first | exact Keeps.refl | apply keeps_ite | apply Keeps.via State.setRun_keeps | apply Keeps.via State.fnDown_keeps))

theorem State.folioWrite_keeps {s : State} {a : MemAnswer} : Keeps 0x1DB0C4800 s (s.folioWrite a) := by
  unfold State.folioWrite
  have hd : ∀ (f : Folio) l w, Keeps 0x1DB0C4800 s { s with recd := { (s.recd.place f) with margin := l, written := w } } := by
    intro f l w
    refine Keeps.upd Keeps.refl rfl (fun h => ?_)
    unfold State.Good; dsimp only; exact good_set h h.1 h.2.1 (RecState.place_ring f h.2.2.1) (by simp [State.shape])
  repeat' first | (with_reducible first | exact Keeps.refl | apply hd | apply keeps_ite | apply Keeps.via State.drained_keeps | apply Keeps.via State.setRun_keeps | apply Keeps.via State.fnDown_keeps | apply Keeps.via State.memFailure_keeps) | decide | dsimp only | split

theorem execFolioWrite_keeps {a : MemAnswer} {s : State} :
    OutKeeps 0x1DB0C4800 s (execFolioWrite a s) := by
  unfold execFolioWrite
  try dsimp only
  repeat' first | (with_reducible first | exact Keeps.refl | apply outKeeps_next | apply Keeps.via State.folioWrite_keeps)
                | decide

theorem State.loadWindow_keeps {s : State} {m : Nat} :
    Keeps 0x10000 s (State.loadWindow s m) := by
  unfold State.loadWindow
  try dsimp only
  repeat' first | intro _ | (with_reducible exact Keeps.refl) | decide
                | (intros; simp only [List.length_map, List.length_zipIdx, length_updAt, length_putAt, List.length_range, List.length_replicate, and_self, *]; done)
                | (with_reducible apply keeps_masters; with_reducible exact Keeps.refl)

theorem execWindowSnapshot_keeps {m : Fin 7} {s : State} :
    OutKeeps 0x10000 s (execWindowSnapshot m s) := by
  unfold execWindowSnapshot
  try dsimp only
  repeat' first | (with_reducible first | exact Keeps.refl | apply outKeeps_next | apply Keeps.via State.loadWindow_keeps)
                | decide

theorem State.clearNow_keeps {s : State} {session : Nat} :
    Keeps 0x80000 s (State.clearNow s session) := by
  unfold State.clearNow
  try dsimp only
  repeat' first | (with_reducible exact Keeps.refl) | decide
                | (intros; simp only [List.length_map, List.length_zipIdx, length_updAt, length_putAt, List.length_range, List.length_replicate, and_self, *]; done)
                | split | (with_reducible apply keeps_recd; with_reducible exact Keeps.refl)

theorem execRecorderClear_keeps {session level value : Nat} {s : State} :
    OutKeeps 0x80000 s (execRecorderClear session level value s) := by
  unfold execRecorderClear
  try dsimp only
  repeat' first | (with_reducible first | exact Keeps.refl | apply outKeeps_next | apply keeps_ite | apply Keeps.via State.clearNow_keeps)
                | decide

theorem execEventOffer_keeps {evs : List Offer} {s : State} :
    OutKeeps 0x80000 s (execEventOffer evs s) := by
  unfold execEventOffer
  try dsimp only
  repeat' first | intro _ _ _
                | (with_reducible first | assumption | exact Keeps.refl | apply outKeeps_next | apply keeps_ite | apply Keeps.via State.offer_keeps | apply keeps_foldl)
                | decide

theorem State.errBit_keeps {s : State} {region i : Nat} :
    Keeps 0x8000 s (State.errBit s region i) := by
  unfold State.errBit
  try dsimp only
  repeat' first | intro _ | (with_reducible exact Keeps.refl) | decide
                | (intros; simp only [List.length_map, List.length_zipIdx, length_updAt, length_putAt, List.length_range, List.length_replicate, and_self, *]; done)
                | (with_reducible apply keeps_hdrs; with_reducible exact Keeps.refl)

theorem State.recOffer_keeps {s : State} {m code : Nat} {warn : Bool} :
    Keeps 0x88000 s (State.recOffer s m code warn) := by
  unfold State.recOffer
  try dsimp only
  repeat' first | (with_reducible first | exact Keeps.refl | apply keeps_ite | apply Keeps.via State.offer_keeps | apply Keeps.via State.errBit_keeps)
                | decide

theorem execRecOffer_keeps {core : Fin 4} {code : BitVec 16} {warn : Bool} {s : State} :
    OutKeeps 0x88000 s (execRecOffer core code warn s) := by
  unfold execRecOffer
  try dsimp only
  repeat' first | (with_reducible first | exact Keeps.refl | apply outKeeps_next | apply Keeps.via State.recOffer_keeps)
                | decide

theorem State.readNewest_keeps {s : State} {m : Nat} :
    Keeps 0x90000 s (State.readNewest s m) := by
  unfold State.readNewest
  try dsimp only
  repeat' first | (with_reducible exact Keeps.refl)
                | (refine Keeps.upd ?_ rfl (fun h => (by unfold State.Good; dsimp only; exact good_upd h)); with_reducible exact Keeps.refl)

theorem execRecNewestLoRead_keeps {m : Fin 7} {s : State} :
    OutKeeps 0x90000 s (execRecNewestLoRead m s) := by
  unfold execRecNewestLoRead
  try dsimp only
  repeat' first | (with_reducible first | exact Keeps.refl | apply outKeeps_next | apply Keeps.via State.readNewest_keeps)
                | decide

theorem State.readOldest_keeps {s : State} {m : Nat} :
    Keeps 0x90000 s (State.readOldest s m) := by
  unfold State.readOldest
  try dsimp only
  repeat' first | (with_reducible exact Keeps.refl)
                | (refine Keeps.upd ?_ rfl (fun h => (by unfold State.Good; dsimp only; exact good_upd h)); with_reducible exact Keeps.refl)

theorem execRecOldestLoRead_keeps {m : Fin 7} {s : State} :
    OutKeeps 0x90000 s (execRecOldestLoRead m s) := by
  unfold execRecOldestLoRead
  try dsimp only
  repeat' first | (with_reducible first | exact Keeps.refl | apply outKeeps_next | apply Keeps.via State.readOldest_keeps)
                | decide

theorem State.recordUp_keeps {s : State} :
    Keeps 0xC0000 s (State.recordUp s) := by
  unfold State.recordUp
  try dsimp only
  repeat' first | (with_reducible first | exact Keeps.refl | apply Keeps.via State.drained_keeps) | decide | split
                | (refine Keeps.upd ?_ rfl (fun h => (by unfold State.Good; dsimp only; exact good_upd h)); (with_reducible first | exact Keeps.refl | apply Keeps.via State.drained_keeps))

end Sys2Proof.Machine
end

