-- ==== Sys2Proof/Laws/KeepClocks.lean ====
section
/-! SUPPORT. What every operation of Machine/Clocks.lean leaves: its parts (the mask of Keeps) and the invariant. -/
namespace Sys2Proof.Machine

set_option Elab.async false
set_option linter.all false

set_option linter.unusedSimpArgs false
set_option linter.unusedVariables false

theorem State.putPll_keeps {s : State} {i : Nat} {p : Pll} :
    Keeps 0x20000000 s (State.putPll s i p) := by
  unfold State.putPll
  try dsimp only
  repeat' first | (with_reducible exact Keeps.refl) | decide
                | (with_reducible apply keeps_clk; with_reducible exact Keeps.refl)

theorem State.acquire_keeps {s : State} {i : Nat} :
    Keeps 0x200C0000 s (State.acquire s i) := by
  unfold State.acquire
  try dsimp only
  repeat' first | (exact rfl)
                | (with_reducible first | exact Keeps.refl | apply Keeps.via State.warnOff_keeps | apply Keeps.via State.warnKeep_keeps | apply Keeps.via State.putPll_keeps)
                | split

theorem State.sscStart_keeps {s : State} :
    Keeps 0x20000000 s (State.sscStart s) := by
  unfold State.sscStart
  try dsimp only
  repeat' first | (with_reducible exact Keeps.refl) | decide
                | (with_reducible apply keeps_clk; with_reducible exact Keeps.refl)

theorem State.commitNow_keeps {s : State} :
    Keeps 0x200C0000 s (State.commitNow s) := by
  unfold State.commitNow
  try dsimp only
  repeat' first | intro _ _ _
                | (with_reducible first | assumption | exact Keeps.refl | apply keeps_ite | apply Keeps.via State.putPll_keeps | apply Keeps.via State.acquire_keeps | apply Keeps.via State.sscStart_keeps | apply keeps_foldl)
                | decide | split
                | (with_reducible apply keeps_clk; (with_reducible first | assumption | exact Keeps.refl | apply keeps_ite | apply Keeps.via State.putPll_keeps | apply Keeps.via State.acquire_keeps | apply Keeps.via State.sscStart_keeps | apply keeps_foldl))

theorem State.clkCommit_keeps {s : State} {byStart : Bool} :
    Keeps 0x200C0000 s (State.clkCommit s byStart) := by
  unfold State.clkCommit
  try dsimp only
  repeat' first | (with_reducible first | exact Keeps.refl | apply keeps_ite | apply Keeps.via State.commitNow_keeps) | decide
                | (with_reducible apply keeps_clk; (with_reducible first | exact Keeps.refl | apply keeps_ite | apply Keeps.via State.commitNow_keeps))

theorem execClkCommit_keeps {level : Nat} {s : State} :
    OutKeeps 0x200C0000 s (execClkCommit level s) := by
  unfold execClkCommit
  try dsimp only
  repeat' first | (with_reducible first | exact Keeps.refl | apply outKeeps_next | apply keeps_ite | apply Keeps.via State.clkCommit_keeps)
                | decide

theorem State.clockSettle_keeps {s : State} :
    Keeps 0x84000 s (State.clockSettle s) := by
  unfold State.clockSettle
  try dsimp only
  repeat' first | (with_reducible first | exact Keeps.refl | apply keeps_ite | apply Keeps.via State.offer_keeps | apply Keeps.via State.setRun_keeps | apply Keeps.via State.setCheck_keeps)
                | decide

theorem execHeldCommitApply_keeps {s : State} :
    OutKeeps 0x200C4000 s (execHeldCommitApply s) := by
  unfold execHeldCommitApply
  try dsimp only
  repeat' first | (with_reducible first | exact Keeps.refl | apply outKeeps_next | apply keeps_ite | apply Keeps.via State.commitNow_keeps | apply Keeps.via State.clockSettle_keeps)
                | decide

theorem State.pllLock_keeps {s : State} {i : Nat} :
    Keeps 0x200C4000 s (State.pllLock s i) := by
  unfold State.pllLock
  try dsimp only
  repeat' first | (exact rfl)
                | (with_reducible first | exact Keeps.refl | apply keeps_ite | apply Keeps.via State.note_keeps | apply Keeps.via State.warnOff_keeps | apply Keeps.via State.putPll_keeps | apply Keeps.via State.clockSettle_keeps)

theorem execPllLock_keeps {p : Fin 5} {s : State} :
    OutKeeps 0x200C4000 s (execPllLock p s) := by
  unfold execPllLock
  try dsimp only
  repeat' first | (with_reducible first | exact Keeps.refl | apply outKeeps_next | apply Keeps.via State.pllLock_keeps)
                | decide

theorem State.acqNext_keeps {s : State} {i : Nat} :
    Keeps 0x200C4000 s (State.acqNext s i) := by
  unfold State.acqNext
  try dsimp only
  repeat' first | (exact rfl)
                | (with_reducible first | exact Keeps.refl | apply keeps_ite | apply Keeps.via State.warnOff_keeps | apply Keeps.via State.warnKeep_keeps | apply Keeps.via State.putPll_keeps | apply Keeps.via State.clockSettle_keeps)
                | split

theorem State.acqRun_keeps {i n : Nat} {s : State} : Keeps 0x200C4000 s (State.acqRun i n s) := by
  induction n generalizing s with
  | zero => exact State.pllLock_keeps
  | succ n ih => exact Keeps.via ih (by decide) (Keeps.via State.acqNext_keeps (by decide) Keeps.refl)

theorem State.acqTimeout_keeps {s : State} {i : Nat} :
    Keeps 0x200C4000 s (State.acqTimeout s i) := by
  unfold State.acqTimeout
  try dsimp only
  repeat' first | (exact rfl)
                | (with_reducible first | exact Keeps.refl | apply keeps_ite | apply Keeps.via State.acqNext_keeps)

theorem execAcquisitionTimeout_keeps {p : Fin 5} {s : State} :
    OutKeeps 0x200C4000 s (execAcquisitionTimeout p s) := by
  unfold execAcquisitionTimeout
  try dsimp only
  repeat' first | (with_reducible first | exact Keeps.refl | apply outKeeps_next | apply Keeps.via State.acqTimeout_keeps)
                | decide

theorem State.coast_keeps {s : State} {i : Nat} :
    Keeps 0x200C0000 s (State.coast s i) := by
  unfold State.coast
  try dsimp only
  repeat' first | (with_reducible first | exact Keeps.refl | apply keeps_ite | apply Keeps.via State.warnOn_keeps | apply Keeps.via State.putPll_keeps)
                | decide

theorem State.relock_keeps {s : State} {i : Nat} :
    Keeps 0x20000000 s (State.relock s i) := by
  unfold State.relock
  try dsimp only
  repeat' first | (with_reducible first | exact Keeps.refl | apply keeps_ite | apply Keeps.via State.putPll_keeps) | decide

theorem execPllLockLost_keeps {p : Fin 5} {s : State} :
    OutKeeps 0x200C0000 s (execPllLockLost p s) := by
  unfold execPllLockLost
  try dsimp only
  repeat' first | (with_reducible first | exact Keeps.refl | apply outKeeps_next | apply keeps_ite | apply Keeps.via State.coast_keeps | apply Keeps.via State.relock_keeps)
                | decide

theorem State.refLost_keeps {s : State} :
    Keeps 0x200C0000 s (State.refLost s) := by
  unfold State.refLost
  try dsimp only
  repeat' first | intro _ _ _
                | (with_reducible first | assumption | exact Keeps.refl | apply keeps_ite | apply Keeps.via State.warnOn_keeps | apply Keeps.via State.warnOff_keeps | apply Keeps.via State.coast_keeps | apply keeps_foldl)
                | decide
                | (with_reducible apply keeps_clk; (with_reducible first | assumption | exact Keeps.refl | apply keeps_ite | apply Keeps.via State.warnOn_keeps | apply Keeps.via State.warnOff_keeps | apply Keeps.via State.coast_keeps | apply keeps_foldl))

theorem execReferenceLost_keeps {s : State} :
    OutKeeps 0x200C0000 s (execReferenceLost s) := by
  unfold execReferenceLost
  try dsimp only
  repeat' first | (with_reducible first | exact Keeps.refl | apply outKeeps_next | apply Keeps.via State.refLost_keeps)
                | decide

theorem execReferenceQualifying_keeps {s : State} :
    OutKeeps 0x20000000 s (execReferenceQualifying s) := by
  unfold execReferenceQualifying
  try dsimp only
  repeat' first | (with_reducible first | exact Keeps.refl | apply outKeeps_next | apply keeps_ite) | decide
                | (with_reducible apply keeps_clk; (with_reducible first | exact Keeps.refl | apply outKeeps_next | apply keeps_ite))

theorem State.refPresent_keeps {s : State} :
    Keeps 0x200C0000 s (State.refPresent s) := by
  unfold State.refPresent
  try dsimp only
  repeat' first | intro _ _ _
                | (with_reducible first | assumption | exact Keeps.refl | apply keeps_ite | apply Keeps.via State.note_keeps | apply Keeps.via State.warnOff_keeps | apply Keeps.via State.relock_keeps | apply keeps_foldl)
                | decide
                | (with_reducible apply keeps_clk; (with_reducible first | assumption | exact Keeps.refl | apply keeps_ite | apply Keeps.via State.note_keeps | apply Keeps.via State.warnOff_keeps | apply Keeps.via State.relock_keeps | apply keeps_foldl))

theorem execReferencePresent_keeps {s : State} :
    OutKeeps 0x200C0000 s (execReferencePresent s) := by
  unfold execReferencePresent
  try dsimp only
  repeat' first | (with_reducible first | exact Keeps.refl | apply outKeeps_next | apply Keeps.via State.refPresent_keeps)
                | decide

theorem State.drifts_keeps {s : State} {i : Nat} :
    Keeps 0x20000000 s (State.drifts s i) := by
  unfold State.drifts
  try dsimp only
  repeat' first | (with_reducible first | exact Keeps.refl | apply keeps_ite | apply Keeps.via State.putPll_keeps) | decide

theorem execFreqMonitorWindow_keeps {p : Fin 5} {err : Int} {s : State} :
    OutKeeps 0x20000000 s (execFreqMonitorWindow p err s) := by
  unfold execFreqMonitorWindow
  try dsimp only
  repeat' first | (with_reducible first | exact Keeps.refl | apply outKeeps_next | apply keeps_ite | apply Keeps.via State.putPll_keeps | apply Keeps.via State.drifts_keeps)
                | decide

theorem execReferenceLoss10s_keeps {s : State} :
    OutKeeps 0x20000000 s (execReferenceLoss10s s) := by
  unfold execReferenceLoss10s
  try dsimp only
  repeat' first | intro _ _ _
                | (with_reducible first | assumption | exact Keeps.refl | apply outKeeps_next | apply keeps_ite | apply Keeps.via State.drifts_keeps | apply keeps_foldl)
                | decide | split

theorem State.putR_keeps {s : State} {r : Int} :
    Keeps 0x400C0000 s (State.putR s r) := by
  unfold State.putR
  try dsimp only
  repeat' first | (exact rfl)
                | (with_reducible first | exact Keeps.refl | apply keeps_ite | apply Keeps.via State.warnOn_keeps | apply Keeps.via State.warnOff_keeps)
                | (with_reducible apply keeps_time; (with_reducible first | exact Keeps.refl | apply keeps_ite | apply Keeps.via State.warnOn_keeps | apply Keeps.via State.warnOff_keeps))

theorem State.servoFree_keeps {s : State} :
    Keeps 0x400C0000 s (State.servoFree s) := by
  unfold State.servoFree
  try dsimp only
  repeat' first | (exact rfl)
                | (with_reducible first | exact Keeps.refl | apply keeps_ite | apply Keeps.via State.warnOff_keeps | apply Keeps.via State.putR_keeps)
                | (with_reducible apply keeps_time; (with_reducible first | exact Keeps.refl | apply keeps_ite | apply Keeps.via State.warnOff_keeps | apply Keeps.via State.putR_keeps))

theorem State.timeOnBackup_keeps {s : State} :
    Keeps 0x400C0000 s (State.timeOnBackup s) := by
  unfold State.timeOnBackup
  try dsimp only
  repeat' first | (exact rfl)
                | (with_reducible first | exact Keeps.refl | apply keeps_ite | apply Keeps.via State.warnOn_keeps | apply Keeps.via State.servoFree_keeps)
                | (with_reducible apply keeps_time; (with_reducible first | exact Keeps.refl | apply keeps_ite | apply Keeps.via State.warnOn_keeps | apply Keeps.via State.servoFree_keeps))

theorem State.dpxLinkLost_keeps {s : State} :
    Keeps 0x8C0000 s (State.dpxLinkLost s) := by
  unfold State.dpxLinkLost
  try dsimp only
  repeat' first | (exact rfl)
                | (with_reducible first | exact Keeps.refl | apply keeps_ite | apply Keeps.via State.warnOn_keeps)
                | (with_reducible apply keeps_dpx; (with_reducible first | exact Keeps.refl | apply keeps_ite | apply Keeps.via State.warnOn_keeps))

theorem State.onBackup_keeps {s : State} {i : Nat} :
    Keeps 0x1DB8C4800 s (State.onBackup s i) := by
  unfold State.onBackup
  try dsimp only
  repeat' first | (with_reducible first | exact Keeps.refl | apply keeps_ite | apply Keeps.via State.trip_keeps | apply Keeps.via State.timeOnBackup_keeps | apply Keeps.via State.dpxLinkLost_keeps)
                | decide | split

theorem execBackupSwitchDone_keeps {p : Fin 5} {s : State} :
    OutKeeps 0x1FB8C4800 s (execBackupSwitchDone p s) := by
  unfold execBackupSwitchDone
  try dsimp only
  repeat' first | (with_reducible first | exact Keeps.refl | apply outKeeps_next | apply keeps_ite | apply Keeps.via State.warnOn_keeps | apply Keeps.via State.putPll_keeps | apply Keeps.via State.onBackup_keeps)
                | decide

theorem execBackupTrim_keeps {p : Fin 5} {s : State} :
    OutKeeps 0x20000000 s (execBackupTrim p s) := by
  unfold execBackupTrim
  try dsimp only
  repeat' first | (with_reducible first | exact Keeps.refl | apply outKeeps_next | apply keeps_ite | apply Keeps.via State.putPll_keeps)
                | decide

theorem execMonitorRatioMeasure_keeps {ppm : Int} {s : State} :
    OutKeeps 0x20000000 s (execMonitorRatioMeasure ppm s) := by
  unfold execMonitorRatioMeasure
  try dsimp only
  repeat' first | (with_reducible first | exact Keeps.refl | apply outKeeps_next | apply keeps_ite) | decide
                | (with_reducible apply keeps_clk; (with_reducible first | exact Keeps.refl | apply outKeeps_next | apply keeps_ite))

theorem State.slewPlls_keeps {s : State} :
    Keeps 0x20000000 s (State.slewPlls s) := by
  unfold State.slewPlls
  try dsimp only
  repeat' first | intro _ _ _
                | (with_reducible first | assumption | exact Keeps.refl | apply keeps_ite | apply Keeps.via State.putPll_keeps | apply keeps_foldl)
                | decide

theorem execRelockFDone_keeps {e : PllError} {s : State} :
    OutKeeps 0x20000000 s (execRelockFDone e s) := by
  unfold execRelockFDone
  try dsimp only
  repeat' first | (exact rfl)
                | (with_reducible first | exact Keeps.refl | apply outKeeps_next | apply keeps_ite | apply Keeps.via State.putPll_keeps)

theorem execRelockPDone_keeps {p : Fin 5} {s : State} :
    OutKeeps 0x200C4000 s (execRelockPDone p s) := by
  unfold execRelockPDone
  try dsimp only
  repeat' first | (exact rfl)
                | (with_reducible first | exact Keeps.refl | apply outKeeps_next | apply keeps_ite | apply Keeps.via State.note_keeps | apply Keeps.via State.warnOff_keeps | apply Keeps.via State.putPll_keeps | apply Keeps.via State.clockSettle_keeps)

theorem execBackupReturn_keeps {p : Fin 5} {s : State} :
    OutKeeps 0x600C0000 s (execBackupReturn p s) := by
  unfold execBackupReturn
  try dsimp only
  repeat' first | (exact rfl)
                | (with_reducible first | exact Keeps.refl | apply outKeeps_next | apply keeps_ite | apply Keeps.via State.note_keeps | apply Keeps.via State.warnOff_keeps | apply Keeps.via State.putPll_keeps)
                | (with_reducible apply keeps_time; (with_reducible first | exact Keeps.refl | apply outKeeps_next | apply keeps_ite | apply Keeps.via State.note_keeps | apply Keeps.via State.warnOff_keeps | apply Keeps.via State.putPll_keeps))

theorem State.clockUp_keeps {s : State} :
    Keeps 0x200C4000 s (State.clockUp s) := by
  unfold State.clockUp
  try dsimp only
  repeat' first | (with_reducible first | exact Keeps.refl | apply Keeps.via State.clkCommit_keeps | apply Keeps.via State.clockSettle_keeps)
                | decide

end Sys2Proof.Machine
end

