-- ==== Sys2Proof/Laws/KeepFabric.lean ====
section
/-! SUPPORT. What every operation of Machine/Fabric.lean leaves: its parts (the mask of Keeps) and the invariant. -/
namespace Sys2Proof.Machine

set_option Elab.async false
set_option linter.all false

set_option linter.unusedSimpArgs false
set_option linter.unusedVariables false

theorem State.answer_keeps {s : State} {m v : Nat} :
    Keeps 0x10000 s (State.answer s m v) := by
  unfold State.answer
  try dsimp only
  repeat' first | intro _ | (with_reducible exact Keeps.refl) | decide
                | (intros; simp only [List.length_map, List.length_zipIdx, length_updAt, length_putAt, List.length_range, List.length_replicate, and_self, *]; done)
                | (with_reducible apply keeps_masters; with_reducible exact Keeps.refl)

theorem State.readFenced_keeps {s : State} {m region : Nat} :
    Keeps 0x18000 s (State.readFenced s m region) := by
  unfold State.readFenced
  try dsimp only
  repeat' first | (with_reducible first | exact Keeps.refl | apply Keeps.via State.errBit_keeps | apply Keeps.via State.answer_keeps)
                | decide

theorem State.prp_keeps {s : State} {rct : Option (Nat × Nat)} :
    Keeps 0x200000 s (State.prp s rct).2 := by
  unfold State.prp
  try dsimp only
  repeat' first | (intro _ _ _; dsimp only) | (with_reducible exact Keeps.refl) | decide
                | (intros; (repeat' apply And.intro) <;> with_reducible assumption) | split
                | (with_reducible apply keeps_fab; with_reducible exact Keeps.refl)

theorem State.emitNet_keeps {s : State} {p : Side} {t : Tx} :
    Keeps 0x200200000 s (State.emitNet s p t) := by
  unfold State.emitNet
  try dsimp only
  repeat' first | (with_reducible first | exact Keeps.refl | apply keeps_ite | apply Keeps.via State.emit_keeps) | decide
                | (intros; (repeat' apply And.intro) <;> with_reducible assumption)
                | (with_reducible apply keeps_fab; (with_reducible first | exact Keeps.refl | apply keeps_ite | apply Keeps.via State.emit_keeps))

theorem execPrpSupervisionSend_keeps {s : State} :
    OutKeeps 0x200200000 s (execPrpSupervisionSend s) := by
  unfold execPrpSupervisionSend
  try dsimp only
  repeat' first | (exact rfl)
                | (with_reducible first | exact Keeps.refl | apply outKeeps_next | apply keeps_ite | apply Keeps.via State.emitNet_keeps)
                | (intros; (repeat' apply And.intro) <;> with_reducible assumption)
                | (with_reducible apply keeps_fab; (with_reducible first | exact Keeps.refl | apply outKeeps_next | apply keeps_ite | apply Keeps.via State.emitNet_keeps))

theorem execPrpSupervisionReceived_keeps {src : Nat} {s : State} :
    OutKeeps 0x200000 s (execPrpSupervisionReceived src s) := by
  unfold execPrpSupervisionReceived
  try dsimp only
  repeat' first | (intro _ _ _; dsimp only) | (with_reducible first | exact Keeps.refl | apply outKeeps_next) | decide
                | (intros; (repeat' apply And.intro) <;> with_reducible assumption)
                | (with_reducible apply keeps_fab; (with_reducible first | exact Keeps.refl | apply outKeeps_next))

theorem State.policers_keeps {s : State} {p : Policer} {k : Nat} : Keeps 0x200000 s { s with fab := { s.fab with
    policers := putAt k p s.fab.policers } } :=
  Keeps.upd Keeps.refl rfl (fun h => (by unfold State.Good; dsimp only; exact good_upd h rfl rfl rfl (by simp [State.shape])))

theorem State.policed_keeps {s : State} {p : Side} {k : Traffic} {cost : Nat} :
    Keeps 0x200000 s (State.policed s p k cost).2 := by
  unfold State.policed
  have h : ∀ {b : Bool} {c : Prop} [Decidable c] {p q k}, Keeps 0x200000 s (if c then (b, { s with fab := { s.fab with
      policers := putAt k p s.fab.policers } }) else (false, { s with fab := { s.fab with
      policers := putAt k q s.fab.policers } })).2 := by
    intros; split <;> exact State.policers_keeps
  exact h

theorem State.ingress_keeps {s : State} {p : Side} {rct : Option (Nat × Nat)} {k : Traffic} {cost : Nat} :
    Keeps 0x200000 s (State.ingress s p rct k cost).2 := by
  unfold State.ingress
  try dsimp only
  repeat' first | (with_reducible first | exact Keeps.refl | apply Keeps.via State.prp_keeps | apply Keeps.via State.policed_keeps)
                | decide | split

theorem execApplicationFrame_keeps {p : Side} {rct : Option (Nat × Nat)} {nbits : Nat} {s : State} :
    OutKeeps 0x200000 s (execApplicationFrame p rct nbits s) := by
  unfold execApplicationFrame
  try dsimp only
  repeat' first | (with_reducible first | exact Keeps.refl | apply outKeeps_next | apply Keeps.via State.ingress_keeps)
                | decide

theorem State.dropSems_keeps {s : State} {m : Nat} :
    Keeps 0x200000 s (State.dropSems s m) := by
  unfold State.dropSems
  try dsimp only
  repeat' first | (intro _ _ _; dsimp only) | (with_reducible exact Keeps.refl) | decide
                | (intros; simp only [List.length_map, List.length_zipIdx, length_updAt, length_putAt, List.length_range, List.length_replicate, and_self, *]; done)
                | (with_reducible apply keeps_fab; with_reducible exact Keeps.refl)

theorem State.semAcquire_keeps {s : State} {m sem : Nat} :
    Keeps 0x218000 s (State.semAcquire s m sem) := by
  unfold State.semAcquire
  try dsimp only
  repeat' first | (with_reducible first | exact Keeps.refl | apply keeps_ite | apply Keeps.via State.answer_keeps | apply Keeps.via State.readFenced_keeps)
                | decide
                | (intros; simp only [List.length_map, List.length_zipIdx, length_updAt, length_putAt, List.length_range, List.length_replicate, and_self, *]; done)
                | split
                | (with_reducible apply keeps_fab; (with_reducible first | exact Keeps.refl | apply keeps_ite | apply Keeps.via State.answer_keeps | apply Keeps.via State.readFenced_keeps))

theorem execSemAcquire_keeps {m : Fin 7} {sem : Fin 16} {s : State} :
    OutKeeps 0x218000 s (execSemAcquire m sem s) := by
  unfold execSemAcquire
  try dsimp only
  repeat' first | (with_reducible first | exact Keeps.refl | apply outKeeps_next | apply Keeps.via State.semAcquire_keeps)
                | decide

theorem State.semRelease_keeps {s : State} {m sem : Nat} :
    Keeps 0x208000 s (State.semRelease s m sem) := by
  unfold State.semRelease
  try dsimp only
  repeat' first | (with_reducible first | exact Keeps.refl | apply keeps_ite | apply Keeps.via State.errBit_keeps) | decide
                | (intros; simp only [List.length_map, List.length_zipIdx, length_updAt, length_putAt, List.length_range, List.length_replicate, and_self, *]; done)
                | (with_reducible apply keeps_fab; (with_reducible first | exact Keeps.refl | apply keeps_ite | apply Keeps.via State.errBit_keeps))

theorem execSemRelease_keeps {m : Fin 7} {sem : Fin 16} {s : State} :
    OutKeeps 0x208000 s (execSemRelease m sem s) := by
  unfold execSemRelease
  try dsimp only
  repeat' first | (with_reducible first | exact Keeps.refl | apply outKeeps_next | apply Keeps.via State.semRelease_keeps)
                | decide

theorem State.semRenew_keeps {s : State} {m sem : Nat} :
    Keeps 0x208000 s (State.semRenew s m sem) := by
  unfold State.semRenew
  try dsimp only
  repeat' first | (with_reducible first | exact Keeps.refl | apply keeps_ite | apply Keeps.via State.errBit_keeps) | decide
                | (intros; simp only [List.length_map, List.length_zipIdx, length_updAt, length_putAt, List.length_range, List.length_replicate, and_self, *]; done)
                | (with_reducible apply keeps_fab; (with_reducible first | exact Keeps.refl | apply keeps_ite | apply Keeps.via State.errBit_keeps))

theorem execSemRenew_keeps {m : Fin 7} {sem : Fin 16} {s : State} :
    OutKeeps 0x208000 s (execSemRenew m sem s) := by
  unfold execSemRenew
  try dsimp only
  repeat' first | (with_reducible first | exact Keeps.refl | apply outKeeps_next | apply Keeps.via State.semRenew_keeps)
                | decide

theorem execSemLeaseExpiry_keeps {sem : Fin 16} {s : State} :
    OutKeeps 0x280000 s (execSemLeaseExpiry sem s) := by
  unfold execSemLeaseExpiry
  try dsimp only
  repeat' first | (with_reducible first | exact Keeps.refl | apply outKeeps_next | apply keeps_ite | apply Keeps.via State.warn_keeps)
                | decide
                | (intros; simp only [List.length_map, List.length_zipIdx, length_updAt, length_putAt, List.length_range, List.length_replicate, and_self, *]; done)
                | split
                | (with_reducible apply keeps_fab; (with_reducible first | exact Keeps.refl | apply outKeeps_next | apply keeps_ite | apply Keeps.via State.warn_keeps))

theorem State.queuePost_keeps {s : State} {m q w : Nat} :
    Keeps 0x208000 s (State.queuePost s m q w) := by
  unfold State.queuePost
  try dsimp only
  repeat' first | (with_reducible first | exact Keeps.refl | apply keeps_ite | apply Keeps.via State.errBit_keeps) | decide
                | (intros; simp only [List.length_map, List.length_zipIdx, length_updAt, length_putAt, List.length_range, List.length_replicate, and_self, *]; done)
                | (with_reducible apply keeps_fab; (with_reducible first | exact Keeps.refl | apply keeps_ite | apply Keeps.via State.errBit_keeps))

theorem execQueuePost_keeps {m : Fin 7} {q : Fin 16} {w : BitVec 32} {s : State} :
    OutKeeps 0x208000 s (execQueuePost m q w s) := by
  unfold execQueuePost
  try dsimp only
  repeat' first | (with_reducible first | exact Keeps.refl | apply outKeeps_next | apply Keeps.via State.queuePost_keeps)
                | decide

theorem State.queueTake_keeps {s : State} {m q : Nat} :
    Keeps 0x218000 s (State.queueTake s m q) := by
  unfold State.queueTake
  try dsimp only
  repeat' first | (with_reducible first | exact Keeps.refl | apply keeps_ite | apply Keeps.via State.errBit_keeps | apply Keeps.via State.answer_keeps | apply Keeps.via State.readFenced_keeps)
                | decide
                | (intros; simp only [List.length_map, List.length_zipIdx, length_updAt, length_putAt, List.length_range, List.length_replicate, and_self, *]; done)
                | split
                | (with_reducible apply keeps_fab; (with_reducible first | exact Keeps.refl | apply keeps_ite | apply Keeps.via State.errBit_keeps | apply Keeps.via State.answer_keeps | apply Keeps.via State.readFenced_keeps))

theorem execQueueTake_keeps {m : Fin 7} {q : Fin 16} {s : State} :
    OutKeeps 0x218000 s (execQueueTake m q s) := by
  unfold execQueueTake
  try dsimp only
  repeat' first | (with_reducible first | exact Keeps.refl | apply outKeeps_next | apply Keeps.via State.queueTake_keeps)
                | decide

theorem execEccCorrected_keeps {region : Fin 9} {s : State} :
    OutKeeps 0x208000 s (execEccCorrected region s) := by
  unfold execEccCorrected
  try dsimp only
  repeat' first | (exact rfl)
                | (with_reducible first | exact Keeps.refl | apply outKeeps_next | apply keeps_ite | apply Keeps.via State.errBit_keeps)
                | (intros; (repeat' apply And.intro) <;> with_reducible assumption)
                | (with_reducible apply keeps_fab; (with_reducible first | exact Keeps.refl | apply outKeeps_next | apply keeps_ite | apply Keeps.via State.errBit_keeps))

theorem State.clearError_keeps {s : State} {region mask : Nat} :
    Keeps 0x8000 s (State.clearError s region mask) := by
  unfold State.clearError
  try dsimp only
  repeat' first | intro _ | (with_reducible exact Keeps.refl) | decide
                | (intros; simp only [List.length_map, List.length_zipIdx, length_updAt, length_putAt, List.length_range, List.length_replicate, and_self, *]; done)
                | split | (with_reducible apply keeps_hdrs; with_reducible exact Keeps.refl)

end Sys2Proof.Machine
end

