-- ==== Sys2Proof/Laws/KeepTime.lean ====
section
/-! SUPPORT. What every operation of Machine/Time.lean leaves: its parts (the mask of Keeps) and the invariant. -/
namespace Sys2Proof.Machine

set_option Elab.async false
set_option linter.all false

set_option linter.unusedSimpArgs false
set_option linter.unusedVariables false

theorem State.rollSecond_keeps {s : State} :
    Keeps 0x40080000 s (State.rollSecond s) := by
  unfold State.rollSecond
  try dsimp only
  repeat' first | (exact rfl) | (with_reducible first | exact Keeps.refl | apply keeps_ite | apply Keeps.via State.note_keeps)
                | (with_reducible apply keeps_time; (with_reducible first | exact Keeps.refl | apply keeps_ite | apply Keeps.via State.note_keeps))

theorem State.runClock_keeps {s : State} {cycles : Nat} :
    Keeps 0x40080000 s (State.runClock s cycles) := by
  unfold State.runClock
  try dsimp only
  repeat' first | intro _ _ _
                | (with_reducible first | assumption | exact Keeps.refl | apply keeps_ite | apply Keeps.via State.rollSecond_keeps | apply keeps_foldl)
                | decide
                | (with_reducible apply keeps_time; (with_reducible first | assumption | exact Keeps.refl | apply keeps_ite | apply Keeps.via State.rollSecond_keeps | apply keeps_foldl))

theorem State.setClock_keeps {s : State} {t : Int} :
    Keeps 0x40000000 s (State.setClock s t) := by
  unfold State.setClock
  try dsimp only
  repeat' first | (with_reducible exact Keeps.refl) | decide
                | (with_reducible apply keeps_time; with_reducible exact Keeps.refl)

theorem State.stepClock_keeps {s : State} {off : Int} :
    Keeps 0x40000000 s (State.stepClock s off) := by
  unfold State.stepClock
  try dsimp only
  repeat' first | (with_reducible first | exact Keeps.refl | apply Keeps.via State.setClock_keeps) | decide
                | (with_reducible apply keeps_time; (with_reducible first | exact Keeps.refl | apply Keeps.via State.setClock_keeps))

theorem State.latchTai_keeps {s : State} :
    Keeps 0x40000000 s (State.latchTai s) := by
  unfold State.latchTai
  try dsimp only
  repeat' first | (with_reducible first | exact Keeps.refl | apply keeps_ite) | decide
                | (with_reducible apply keeps_time; (with_reducible first | exact Keeps.refl | apply keeps_ite))

theorem execSecondRollover_keeps {s : State} :
    OutKeeps 0x40000000 s (execSecondRollover s) := by
  unfold execSecondRollover
  try dsimp only
  repeat' first | (with_reducible first | exact Keeps.refl | apply outKeeps_next | apply Keeps.via State.latchTai_keeps)
                | decide

theorem execTimeSet_keeps {level : Nat} {sec : BitVec 64} {ns : BitVec 32} {s : State} :
    OutKeeps 0x40000000 s (execTimeSet level sec ns s) := by
  unfold execTimeSet
  try dsimp only
  repeat' first | (with_reducible first | exact Keeps.refl | apply outKeeps_next | apply keeps_ite | apply Keeps.via State.setClock_keeps)
                | decide

theorem State.readTime_keeps {s : State} {m : Nat} :
    Keeps 0x10000 s (State.readTime s m) := by
  unfold State.readTime
  try dsimp only
  repeat' first | intro _ | (with_reducible exact Keeps.refl) | decide
                | (intros; simp only [List.length_map, List.length_zipIdx, length_updAt, length_putAt, List.length_range, List.length_replicate, and_self, *]; done)
                | (with_reducible apply keeps_masters; with_reducible exact Keeps.refl)

theorem execTimeSecLoRead_keeps {m : Fin 7} {s : State} :
    OutKeeps 0x10000 s (execTimeSecLoRead m s) := by
  unfold execTimeSecLoRead
  try dsimp only
  repeat' first | (with_reducible first | exact Keeps.refl | apply outKeeps_next | apply Keeps.via State.readTime_keeps)
                | decide

theorem State.putPort_keeps {s : State} {p : Side} {x : PtpPort} :
    Keeps 0x40000000 s (State.putPort s p x) := by
  unfold State.putPort
  try dsimp only
  repeat' first | (with_reducible exact Keeps.refl) | decide | split
                | (with_reducible apply keeps_time; with_reducible exact Keeps.refl)

theorem State.setGm_keeps {s : State} {id : List Nat} :
    Keeps 0x40080000 s (State.setGm s id) := by
  unfold State.setGm
  try dsimp only
  repeat' first | (with_reducible first | exact Keeps.refl | apply keeps_ite | apply Keeps.via State.note_keeps) | decide
                | (with_reducible apply keeps_time; (with_reducible first | exact Keeps.refl | apply keeps_ite | apply Keeps.via State.note_keeps))

theorem State.showPort_keeps {s : State} {p : Side} {st : PortSt} :
    Keeps 0x40000000 s (State.showPort s p st) := by
  unfold State.showPort
  try dsimp only
  repeat' first | (with_reducible first | exact Keeps.refl | apply Keeps.via State.putPort_keeps) | decide

theorem State.takeUtc_keeps {s : State} {f : Foreign} :
    Keeps 0x40080000 s (State.takeUtc s f) := by
  unfold State.takeUtc
  try dsimp only
  repeat' first | (exact rfl) | (with_reducible first | exact Keeps.refl | apply keeps_ite | apply Keeps.via State.note_keeps)
                | split
                | (with_reducible apply keeps_time; (with_reducible first | exact Keeps.refl | apply keeps_ite | apply Keeps.via State.note_keeps))

theorem State.setSlave_keeps {s : State} {p : Side} :
    Keeps 0x40080000 s (State.setSlave s p) := by
  unfold State.setSlave
  try dsimp only
  repeat' first | (exact rfl)
                | (with_reducible first | exact Keeps.refl | apply keeps_ite | apply Keeps.via State.note_keeps | apply Keeps.via State.showPort_keeps | apply Keeps.via State.takeUtc_keeps)
                | split
                | (with_reducible apply keeps_time; (with_reducible first | exact Keeps.refl | apply keeps_ite | apply Keeps.via State.note_keeps | apply Keeps.via State.showPort_keeps | apply Keeps.via State.takeUtc_keeps))

theorem State.setRoles_keeps {s : State} :
    Keeps 0x400C0000 s (State.setRoles s) := by
  unfold State.setRoles
  try dsimp only
  repeat' first | (exact rfl)
                | (with_reducible first | exact Keeps.refl | apply keeps_ite | apply Keeps.via State.servoFree_keeps | apply Keeps.via State.setGm_keeps | apply Keeps.via State.showPort_keeps | apply Keeps.via State.setSlave_keeps)
                | split
                | (with_reducible apply keeps_time; (with_reducible first | exact Keeps.refl | apply keeps_ite | apply Keeps.via State.servoFree_keeps | apply Keeps.via State.setGm_keeps | apply Keeps.via State.showPort_keeps | apply Keeps.via State.setSlave_keeps))

theorem State.ptpIn_keeps {s : State} {p : Side} {domain : Nat} :
    Keeps 0x200000 s (State.ptpIn s p domain).2 := by
  unfold State.ptpIn
  try dsimp only
  repeat' first | (with_reducible first | exact Keeps.refl | apply Keeps.via State.ingress_keeps) | decide | split

theorem State.takeLeap_keeps {s : State} {p : Side} {f : Foreign} :
    Keeps 0x40000000 s (State.takeLeap s p f) := by
  unfold State.takeLeap
  try dsimp only
  repeat' first | (exact rfl) | (with_reducible first | exact Keeps.refl | apply keeps_ite)
                | (with_reducible apply keeps_time; (with_reducible first | exact Keeps.refl | apply keeps_ite))

theorem execPtpAnnounce_keeps {p : Side} {domain : Nat} {f : Foreign} {s : State} :
    OutKeeps 0x402C0000 s (execPtpAnnounce p domain f s) := by
  unfold execPtpAnnounce
  try dsimp only
  repeat' first | (exact rfl)
                | (with_reducible first | exact Keeps.refl | apply outKeeps_next | apply keeps_ite | apply Keeps.via State.putPort_keeps | apply Keeps.via State.setRoles_keeps | apply Keeps.via State.ptpIn_keeps | apply Keeps.via State.takeLeap_keeps)

theorem State.portLost_keeps {s : State} {p : Side} :
    Keeps 0x400C0000 s (State.portLost s p) := by
  unfold State.portLost
  try dsimp only
  repeat' first | (exact rfl)
                | (with_reducible first | exact Keeps.refl | apply keeps_ite | apply Keeps.via State.putPort_keeps | apply Keeps.via State.setRoles_keeps)
                | split
                | (with_reducible apply keeps_time; (with_reducible first | exact Keeps.refl | apply keeps_ite | apply Keeps.via State.putPort_keeps | apply Keeps.via State.setRoles_keeps))

theorem execAnnounceTimeout_keeps {p : Side} {s : State} :
    OutKeeps 0x400C0000 s (execAnnounceTimeout p s) := by
  unfold execAnnounceTimeout
  try dsimp only
  repeat' first | (with_reducible first | exact Keeps.refl | apply outKeeps_next | apply keeps_ite | apply Keeps.via State.putPort_keeps | apply Keeps.via State.setRoles_keeps | apply Keeps.via State.portLost_keeps)
                | decide

theorem execMdioLinkPoll_keeps {p : Side} {up : Bool} {s : State} :
    OutKeeps 0x402C0000 s (execMdioLinkPoll p up s) := by
  unfold execMdioLinkPoll
  try dsimp only
  repeat' first | (with_reducible first | exact Keeps.refl | apply outKeeps_next | apply keeps_ite | apply Keeps.via State.setRoles_keeps | apply Keeps.via State.portLost_keeps)
                | decide | (intros; (repeat' apply And.intro) <;> with_reducible assumption)
                | (with_reducible apply keeps_fab; (with_reducible first | exact Keeps.refl | apply outKeeps_next | apply keeps_ite | apply Keeps.via State.setRoles_keeps | apply Keeps.via State.portLost_keeps))

theorem State.ptpSend_keeps {s : State} {p : Side} {type : Nat} {data : List Nat} :
    Keeps 0x200200000 s (State.ptpSend s p type data) := by
  unfold State.ptpSend
  try dsimp only
  repeat' first | (exact rfl) | (with_reducible first | exact Keeps.refl | apply Keeps.via State.emitNet_keeps)

theorem execPtpPdelay_keeps {p : Side} {domain : Nat} {msg : Pdelay} {s : State} :
    OutKeeps 0x240200000 s (execPtpPdelay p domain msg s) := by
  unfold execPtpPdelay
  try dsimp only
  repeat' first | (exact rfl)
                | (with_reducible first | exact Keeps.refl | apply outKeeps_next | apply keeps_ite | apply Keeps.via State.putPort_keeps | apply Keeps.via State.ptpIn_keeps | apply Keeps.via State.ptpSend_keeps)
                | split

theorem execPdelayReqSend_keeps {p : Side} {capture : Int} {s : State} :
    OutKeeps 0x240200000 s (execPdelayReqSend p capture s) := by
  unfold execPdelayReqSend
  try dsimp only
  repeat' first | (exact rfl)
                | (with_reducible first | exact Keeps.refl | apply outKeeps_next | apply keeps_ite | apply Keeps.via State.putPort_keeps | apply Keeps.via State.ptpSend_keeps)

theorem State.masterSend_keeps {s : State} {p : Side} {capture : Int} :
    Keeps 0x240200000 s (State.masterSend s p capture) := by
  unfold State.masterSend
  try dsimp only
  repeat' first | (exact rfl)
                | (with_reducible first | exact Keeps.refl | apply keeps_ite | apply Keeps.via State.putPort_keeps | apply Keeps.via State.ptpSend_keeps)

theorem execPtpMasterSend_keeps {ca cb : Int} {s : State} :
    OutKeeps 0x240200000 s (execPtpMasterSend ca cb s) := by
  unfold execPtpMasterSend
  try dsimp only
  repeat' first | (with_reducible first | exact Keeps.refl | apply outKeeps_next | apply Keeps.via State.masterSend_keeps)
                | decide

theorem State.setR_keeps {s : State} {r : Int} :
    Keeps 0x400C0000 s (State.setR s r) := by
  unfold State.setR
  try dsimp only
  repeat' first | (exact rfl) | (with_reducible first | exact Keeps.refl | apply Keeps.via State.putR_keeps)
                | (with_reducible apply keeps_time; (with_reducible first | exact Keeps.refl | apply Keeps.via State.putR_keeps))

theorem State.servoUpdate_keeps {s : State} :
    Keeps 0x400C0100 s (State.servoUpdate s) := by
  unfold State.servoUpdate
  try dsimp only
  repeat' first | (with_reducible first | exact Keeps.refl | apply Keeps.via State.drawn_keeps | apply Keeps.via State.setR_keeps)
                | decide

theorem State.lockCount_keeps {s : State} {off : Int} :
    Keeps 0x400C0000 s (State.lockCount s off) := by
  unfold State.lockCount
  try dsimp only
  repeat' first | (exact rfl)
                | (with_reducible first | exact Keeps.refl | apply keeps_ite | apply Keeps.via State.note_keeps | apply Keeps.via State.warnOff_keeps)
                | split
                | (with_reducible apply keeps_time; (with_reducible first | exact Keeps.refl | apply keeps_ite | apply Keeps.via State.note_keeps | apply Keeps.via State.warnOff_keeps))

theorem State.clockStep_keeps {s : State} {off : Int} :
    Keeps 0x400C0000 s (State.clockStep s off) := by
  unfold State.clockStep
  try dsimp only
  repeat' first | (exact rfl)
                | (with_reducible first | exact Keeps.refl | apply Keeps.via State.warn_keeps | apply Keeps.via State.warnOff_keeps | apply Keeps.via State.stepClock_keeps)
                | (with_reducible apply keeps_time; (with_reducible first | exact Keeps.refl | apply Keeps.via State.warn_keeps | apply Keeps.via State.warnOff_keeps | apply Keeps.via State.stepClock_keeps))

theorem State.servoActive_keeps {s : State} {off : Int} :
    Keeps 0x400C0100 s (State.servoActive s off) := by
  unfold State.servoActive
  try dsimp only
  repeat' first | (exact rfl)
                | (with_reducible first | exact Keeps.refl | apply keeps_ite | apply Keeps.via State.warnOn_keeps | apply Keeps.via State.warnOff_keeps | apply Keeps.via State.setR_keeps | apply Keeps.via State.servoUpdate_keeps | apply Keeps.via State.lockCount_keeps | apply Keeps.via State.clockStep_keeps)
                | (with_reducible apply keeps_time; (with_reducible first | exact Keeps.refl | apply keeps_ite | apply Keeps.via State.warnOn_keeps | apply Keeps.via State.warnOff_keeps | apply Keeps.via State.setR_keeps | apply Keeps.via State.servoUpdate_keeps | apply Keeps.via State.lockCount_keeps | apply Keeps.via State.clockStep_keeps))

theorem State.servoSync_keeps {s : State} {off : Int} :
    Keeps 0x400C0100 s (State.servoSync s off) := by
  unfold State.servoSync
  try dsimp only
  repeat' first | (exact rfl)
                | (with_reducible first | exact Keeps.refl | apply keeps_ite | apply Keeps.via State.note_keeps | apply Keeps.via State.warnOff_keeps | apply Keeps.via State.stepClock_keeps | apply Keeps.via State.servoActive_keeps)
                | split
                | (with_reducible apply keeps_time; (with_reducible first | exact Keeps.refl | apply keeps_ite | apply Keeps.via State.note_keeps | apply Keeps.via State.warnOff_keeps | apply Keeps.via State.stepClock_keeps | apply Keeps.via State.servoActive_keeps))

theorem State.portDiff_keeps {s : State} :
    Keeps 0x400C0000 s (State.portDiff s) := by
  unfold State.portDiff
  try dsimp only
  repeat' first | (exact rfl)
                | (with_reducible first | exact Keeps.refl | apply keeps_ite | apply Keeps.via State.warnOn_keeps | apply Keeps.via State.warnOff_keeps)
                | (with_reducible apply keeps_time; (with_reducible first | exact Keeps.refl | apply keeps_ite | apply Keeps.via State.warnOn_keeps | apply Keeps.via State.warnOff_keeps))

theorem State.syncDone_keeps {s : State} {p : Side} {t2 t1 corr : Int} :
    Keeps 0x400C0100 s (State.syncDone s p t2 t1 corr) := by
  unfold State.syncDone
  try dsimp only
  repeat' first | (exact rfl)
                | (with_reducible first | exact Keeps.refl | apply keeps_ite | apply Keeps.via State.putPort_keeps | apply Keeps.via State.setSlave_keeps | apply Keeps.via State.servoSync_keeps | apply Keeps.via State.portDiff_keeps)
                | split
                | (with_reducible apply keeps_time; (with_reducible first | exact Keeps.refl | apply keeps_ite | apply Keeps.via State.putPort_keeps | apply Keeps.via State.setSlave_keeps | apply Keeps.via State.servoSync_keeps | apply Keeps.via State.portDiff_keeps))

theorem execPtpSync_keeps {p : Side} {domain seq : Nat} {twoStep : Bool} {t1 capture corr : Int} {s : State} :
    OutKeeps 0x402C0100 s (execPtpSync p domain seq twoStep t1 capture corr s) := by
  unfold execPtpSync
  try dsimp only
  repeat' first | (with_reducible first | exact Keeps.refl | apply outKeeps_next | apply keeps_ite | apply Keeps.via State.putPort_keeps | apply Keeps.via State.ptpIn_keeps | apply Keeps.via State.syncDone_keeps)
                | decide

theorem execPtpFollowUp_keeps {p : Side} {domain seq : Nat} {t1 corr : Int} {s : State} :
    OutKeeps 0x402C0100 s (execPtpFollowUp p domain seq t1 corr s) := by
  unfold execPtpFollowUp
  try dsimp only
  repeat' first | (with_reducible first | exact Keeps.refl | apply outKeeps_next | apply keeps_ite | apply Keeps.via State.ptpIn_keeps | apply Keeps.via State.syncDone_keeps)
                | decide | split

theorem execSyncLoss_keeps {s : State} :
    OutKeeps 0x400C0000 s (execSyncLoss s) := by
  unfold execSyncLoss
  try dsimp only
  repeat' first | (exact rfl)
                | (with_reducible first | exact Keeps.refl | apply outKeeps_next | apply keeps_ite | apply Keeps.via State.warnOn_keeps | apply Keeps.via State.putR_keeps | apply Keeps.via State.servoFree_keeps)
                | split
                | (with_reducible apply keeps_time; (with_reducible first | exact Keeps.refl | apply outKeeps_next | apply keeps_ite | apply Keeps.via State.warnOn_keeps | apply Keeps.via State.putR_keeps | apply Keeps.via State.servoFree_keeps))

theorem execHoldoverExpiry_keeps {s : State} :
    OutKeeps 0x400C0000 s (execHoldoverExpiry s) := by
  unfold execHoldoverExpiry
  try dsimp only
  repeat' first | (exact rfl)
                | (with_reducible first | exact Keeps.refl | apply outKeeps_next | apply keeps_ite | apply Keeps.via State.warnOn_keeps | apply Keeps.via State.servoFree_keeps)

theorem State.timeUp_keeps {s : State} :
    Keeps 0x400C4000 s (State.timeUp s) := by
  unfold State.timeUp
  try dsimp only
  repeat' first | (exact rfl)
                | (with_reducible first | exact Keeps.refl | apply keeps_ite | apply Keeps.via State.setRun_keeps | apply Keeps.via State.timeOnBackup_keeps | apply Keeps.via State.setRoles_keeps)
                | (with_reducible apply keeps_time; (with_reducible first | exact Keeps.refl | apply keeps_ite | apply Keeps.via State.setRun_keeps | apply Keeps.via State.timeOnBackup_keeps | apply Keeps.via State.setRoles_keeps))

end Sys2Proof.Machine
end

