-- ==== Sys2Proof/Laws/KeepField.lean ====
section
/-! SUPPORT. What every operation of Machine/Field.lean leaves: its parts (the mask of Keeps) and the invariant. -/
namespace Sys2Proof.Machine

set_option Elab.async false
set_option linter.all false

set_option linter.unusedSimpArgs false
set_option linter.unusedVariables false

theorem State.putPin_keeps {s : State} {p : Nat} {x : Pin} :
    Keeps 0x80000000 s (State.putPin s p x) := by
  unfold State.putPin
  try dsimp only
  repeat' first | (with_reducible exact Keeps.refl) | decide
                | (intros; simp only [List.length_map, List.length_zipIdx, length_updAt, length_putAt, List.length_range, List.length_replicate, and_self, *]; done)
                | (with_reducible apply keeps_field; with_reducible exact Keeps.refl)

theorem State.tickCopy_keeps {s : State} :
    Keeps 0x80000000 s (State.tickCopy s) := by
  unfold State.tickCopy
  try dsimp only
  repeat' first | intro _ | (with_reducible first | assumption | exact Keeps.refl) | decide
                | (with_reducible apply keeps_field; (with_reducible first | assumption | exact Keeps.refl))

theorem State.dieSamples_keeps {s : State} {levels : List Nat} :
    Keeps 0x80000000 s (State.dieSamples s levels) := by
  unfold State.dieSamples
  try dsimp only
  repeat' first | intro _ | (with_reducible exact Keeps.refl) | decide
                | (intros; simp only [List.length_map, List.length_zipIdx, length_updAt, length_putAt, List.length_range, List.length_replicate, and_self, *]; done)
                | (with_reducible apply keeps_field; with_reducible exact Keeps.refl)

theorem State.frameIn_keeps {s : State} {volts : List Int} {amps : List Nat} {so : List (Int × Int)} :
    Keeps 0x180000000 s (State.frameIn s volts amps so) := by
  refine Keeps.upd Keeps.refl rfl (fun h => ?_)
  unfold State.frameIn State.Good
  dsimp only
  refine good_size h rfl rfl rfl ?_
  intros
  simp only [List.length_map, List.length_range, *, and_self]

theorem execBarrierFrame_keeps {levels : List Nat} {volts : List Int} {amps : List Nat} {so : List (Int × Int)} {crc : BitVec 32}
    {s : State} : OutKeeps 0x380000000 s (execBarrierFrame levels volts amps so crc s) := by
  have hd : Keeps 0x380000000 s (s.dieSamples levels) := Keeps.via State.dieSamples_keeps (by decide) Keeps.refl
  have hs : ∀ t : State, Keeps 0x380000000 s t → Keeps 0x380000000 s { t with field := { t.field with slots := t.field.slots + 1 } } :=
    fun t k => keeps_field k (by decide) (fun h => h)
  unfold execBarrierFrame
  refine outKeeps_next (keeps_ite (hs _ (keeps_ite ?_ (keeps_ite ?_ ?_))) Keeps.refl)
  · exact keeps_field hd (by decide) (fun h => h)
  · exact Keeps.via State.emit_keeps (by decide) (Keeps.via State.frameIn_keeps (by decide) hd)
  · exact Keeps.via State.emit_keeps (by decide) (keeps_field hd (by decide) (fun h => h))

theorem State.barrierDown_keeps {s : State} :
    Keeps 0x1DB0C4800 s (State.barrierDown s) := by
  unfold State.barrierDown
  try dsimp only
  repeat' first | (exact fun h => h) | (exact rfl)
                | (with_reducible first | exact Keeps.refl | apply keeps_ite | apply Keeps.via State.setRun_keeps | apply Keeps.via State.trip_keeps)
                | (with_reducible apply keeps_field; (with_reducible first | exact Keeps.refl | apply keeps_ite | apply Keeps.via State.setRun_keeps | apply Keeps.via State.trip_keeps))

theorem execBarrierLinkDown_keeps {s : State} :
    OutKeeps 0x1DB0C4800 s (execBarrierLinkDown s) := by
  unfold execBarrierLinkDown
  try dsimp only
  repeat' first | (exact fun h => h) | (exact rfl)
                | (with_reducible first | exact Keeps.refl | apply outKeeps_next | apply keeps_ite | apply Keeps.via State.barrierDown_keeps)
                | (with_reducible apply keeps_field; (with_reducible first | exact Keeps.refl | apply outKeeps_next | apply keeps_ite | apply Keeps.via State.barrierDown_keeps))

theorem execBarrierLinkRestored_keeps {s : State} :
    OutKeeps 0x80000000 s (execBarrierLinkRestored s) := by
  unfold execBarrierLinkRestored
  try dsimp only
  repeat' first | (exact fun h => h) | (exact rfl)
                | (with_reducible first | exact Keeps.refl | apply outKeeps_next | apply keeps_ite) | split
                | (with_reducible apply keeps_field; (with_reducible first | exact Keeps.refl | apply outKeeps_next | apply keeps_ite))

theorem execInputDebounceChange_keeps {p : Fin 32} {s : State} :
    OutKeeps 0x80000000 s (execInputDebounceChange p s) := by
  unfold execInputDebounceChange
  try dsimp only
  repeat' first | (exact rfl)
                | (with_reducible first | exact Keeps.refl | apply outKeeps_next | apply keeps_ite | apply Keeps.via State.putPin_keeps)

theorem State.outSet_keeps {s : State} {mask : Nat} :
    Keeps 0x80000000 s (State.outSet s mask) := by
  unfold State.outSet
  try dsimp only
  repeat' first | intro _ | (with_reducible exact Keeps.refl) | decide
                | (intros; simp only [List.length_map, List.length_zipIdx, length_updAt, length_putAt, List.length_range, List.length_replicate, and_self, *]; done)
                | (with_reducible apply keeps_field; with_reducible exact Keeps.refl)

theorem State.outClear_keeps {s : State} {mask : Nat} :
    Keeps 0x80000000 s (State.outClear s mask) := by
  unfold State.outClear
  try dsimp only
  repeat' first | intro _ | (with_reducible exact Keeps.refl) | decide
                | (intros; simp only [List.length_map, List.length_zipIdx, length_updAt, length_putAt, List.length_range, List.length_replicate, and_self, *]; done)
                | (with_reducible apply keeps_field; with_reducible exact Keeps.refl)

theorem execOutSet_keeps {level : Nat} {mask : BitVec 32} {s : State} :
    OutKeeps 0x80000000 s (execOutSet level mask s) := by
  unfold execOutSet
  try dsimp only
  repeat' first | (with_reducible first | exact Keeps.refl | apply outKeeps_next | apply keeps_ite | apply Keeps.via State.outSet_keeps)
                | decide

theorem execOutClear_keeps {level : Nat} {mask : BitVec 32} {s : State} :
    OutKeeps 0x80000000 s (execOutClear level mask s) := by
  unfold execOutClear
  try dsimp only
  repeat' first | (with_reducible first | exact Keeps.refl | apply outKeeps_next | apply keeps_ite | apply Keeps.via State.outClear_keeps)
                | decide

theorem State.pinClear_keeps {s : State} {p : Nat} :
    Keeps 0x80040000 s (State.pinClear s p) := by
  unfold State.pinClear
  try dsimp only
  repeat' first | (with_reducible first | exact Keeps.refl | apply Keeps.via State.warnOff_keeps | apply Keeps.via State.putPin_keeps)
                | decide

theorem execPinClear_keeps {level : Nat} {p : Fin 32} {s : State} :
    OutKeeps 0x80040000 s (execPinClear level p s) := by
  unfold execPinClear
  try dsimp only
  repeat' first | (with_reducible first | exact Keeps.refl | apply outKeeps_next | apply keeps_ite | apply Keeps.via State.pinClear_keeps)
                | decide

theorem State.forcePin_keeps {s : State} {p v : Nat} :
    Keeps 0x80800 s (State.forcePin s p v) := by
  unfold State.forcePin
  try dsimp only
  repeat' first | (with_reducible first | exact Keeps.refl | apply keeps_ite | apply Keeps.via State.setObj_keeps | apply Keeps.via State.note_keeps)
                | decide

theorem execForceWrite_keeps {level : Nat} {p : Fin 32} {v : Nat} {s : State} :
    OutKeeps 0x80800 s (execForceWrite level p v s) := by
  unfold execForceWrite
  try dsimp only
  repeat' first | (with_reducible first | exact Keeps.refl | apply outKeeps_next | apply keeps_ite | apply Keeps.via State.forcePin_keeps)
                | decide

theorem State.closePass_keeps {s : State} :
    Keeps 0x80000000 s (State.closePass s) := by
  unfold State.closePass
  try dsimp only
  repeat' first | (with_reducible first | exact Keeps.refl | apply Keeps.via State.putPin_keeps) | decide
                | (intros; (repeat' apply And.intro) <;> with_reducible assumption) | split
                | (with_reducible apply keeps_field; (with_reducible first | exact Keeps.refl | apply Keeps.via State.putPin_keeps))

theorem State.pinTrip_keeps {s : State} {p : Nat} :
    Keeps 0x80000000 s (State.pinTrip s p) := by
  unfold State.pinTrip
  try dsimp only
  repeat' first | (with_reducible first | exact Keeps.refl | apply Keeps.via State.putPin_keeps) | decide

theorem execOutputOverload_keeps {p : Fin 32} {s : State} :
    OutKeeps 0x800C0000 s (execOutputOverload p s) := by
  unfold execOutputOverload
  try dsimp only
  repeat' first | (with_reducible first | exact Keeps.refl | apply outKeeps_next | apply keeps_ite | apply Keeps.via State.warnOn_keeps | apply Keeps.via State.putPin_keeps | apply Keeps.via State.pinTrip_keeps)
                | decide

theorem execOutputThermal_keeps {p : Fin 32} {s : State} :
    OutKeeps 0x800C0000 s (execOutputThermal p s) := by
  unfold execOutputThermal
  try dsimp only
  repeat' first | (with_reducible first | exact Keeps.refl | apply outKeeps_next | apply keeps_ite | apply Keeps.via State.warnOn_keeps | apply Keeps.via State.putPin_keeps | apply Keeps.via State.pinTrip_keeps)
                | decide

theorem State.pinRetry_keeps {s : State} {p : Nat} :
    Keeps 0x80080000 s (State.pinRetry s p) := by
  unfold State.pinRetry
  try dsimp only
  repeat' first | (exact rfl)
                | (with_reducible first | exact Keeps.refl | apply keeps_ite | apply Keeps.via State.note_keeps | apply Keeps.via State.putPin_keeps)
                | split

theorem execOutputRetry_keeps {p : Fin 32} {s : State} :
    OutKeeps 0x80080000 s (execOutputRetry p s) := by
  unfold execOutputRetry
  try dsimp only
  repeat' first | (with_reducible first | exact Keeps.refl | apply outKeeps_next | apply Keeps.via State.pinRetry_keeps)
                | decide

theorem execOutputCooled_keeps {p : Fin 32} {s : State} :
    OutKeeps 0x80080000 s (execOutputCooled p s) := by
  unfold execOutputCooled
  try dsimp only
  repeat' first | (with_reducible first | exact Keeps.refl | apply outKeeps_next | apply Keeps.via State.putPin_keeps | apply Keeps.via State.pinRetry_keeps)
                | decide

theorem execOverloadFlagClear_keeps {p : Fin 32} {s : State} :
    OutKeeps 0x80040000 s (execOverloadFlagClear p s) := by
  unfold execOverloadFlagClear
  try dsimp only
  repeat' first | (with_reducible first | exact Keeps.refl | apply outKeeps_next | apply keeps_ite | apply Keeps.via State.warnOff_keeps | apply Keeps.via State.putPin_keeps)
                | decide

theorem execWireBreak_keeps {p : Fin 32} {broken : Bool} {s : State} :
    OutKeeps 0x800C0000 s (execWireBreak p broken s) := by
  unfold execWireBreak
  try dsimp only
  repeat' first | (exact rfl)
                | (with_reducible first | exact Keeps.refl | apply outKeeps_next | apply keeps_ite | apply Keeps.via State.note_keeps | apply Keeps.via State.warnOn_keeps | apply Keeps.via State.warnOff_keeps | apply Keeps.via State.putPin_keeps)

theorem execOutputDiagTimer_keeps {p : Fin 32} {d : Fin 4} {present : Bool} {s : State} :
    OutKeeps 0x800C0000 s (execOutputDiagTimer p d present s) := by
  unfold execOutputDiagTimer
  try dsimp only
  repeat' first | (exact rfl)
                | (with_reducible first | exact Keeps.refl | apply outKeeps_next | apply keeps_ite | apply Keeps.via State.note_keeps | apply Keeps.via State.warnOn_keeps | apply Keeps.via State.warnOff_keeps | apply Keeps.via State.putPin_keeps)

theorem execPinReversed_keeps {p : Fin 32} {low : Bool} {s : State} :
    OutKeeps 0x800C0000 s (execPinReversed p low s) := by
  unfold execPinReversed
  try dsimp only
  repeat' first | (exact rfl)
                | (with_reducible first | exact Keeps.refl | apply outKeeps_next | apply keeps_ite | apply Keeps.via State.warnOn_keeps | apply Keeps.via State.warnOff_keeps | apply Keeps.via State.putPin_keeps)

theorem State.soSupplyOff_keeps {s : State} :
    Keeps 0x100000000 s (State.soSupplyOff s) := by
  unfold State.soSupplyOff
  try dsimp only
  repeat' first | (intro _ _ _; dsimp only) | (with_reducible exact Keeps.refl) | decide
                | (intros; simp only [List.length_map, List.length_zipIdx, length_updAt, length_putAt, List.length_range, List.length_replicate, and_self, *]; done)
                | (with_reducible apply keeps_safe; with_reducible exact Keeps.refl)

theorem State.lpJudge_keeps {s : State} :
    Keeps 0x1800C0000 s (State.lpJudge s) := by
  unfold State.lpJudge
  try dsimp only
  repeat' first | intro _ _ _ | intro _
                | (with_reducible first | assumption | exact Keeps.refl | apply keeps_ite | apply Keeps.via State.note_keeps | apply Keeps.via State.warnOn_keeps | apply Keeps.via State.warnOff_keeps | apply Keeps.via State.soSupplyOff_keeps | apply keeps_foldl)
                | decide
                | (with_reducible apply keeps_field; (with_reducible first | assumption | exact Keeps.refl | apply keeps_ite | apply Keeps.via State.note_keeps | apply Keeps.via State.warnOn_keeps | apply Keeps.via State.warnOff_keeps | apply Keeps.via State.soSupplyOff_keeps | apply keeps_foldl))

theorem execLpSample_keeps {mv : Int} {s : State} :
    OutKeeps 0x1800C0000 s (execLpSample mv s) := by
  unfold execLpSample
  try dsimp only
  repeat' first | intro _
                | (with_reducible first | assumption | exact Keeps.refl | apply outKeeps_next | apply keeps_ite | apply Keeps.via State.lpJudge_keeps)
                | decide | split
                | (with_reducible apply keeps_field; (with_reducible first | assumption | exact Keeps.refl | apply outKeeps_next | apply keeps_ite | apply Keeps.via State.lpJudge_keeps))

theorem execLpRestore_keeps {s : State} :
    OutKeeps 0x1800C0000 s (execLpRestore s) := by
  unfold execLpRestore
  try dsimp only
  repeat' first | intro _
                | (with_reducible first | assumption | exact Keeps.refl | apply outKeeps_next | apply Keeps.via State.lpJudge_keeps)
                | decide
                | (with_reducible apply keeps_field; (with_reducible first | assumption | exact Keeps.refl | apply outKeeps_next | apply Keeps.via State.lpJudge_keeps))

theorem State.fieldUp_keeps {s : State} :
    Keeps 0x80084000 s (State.fieldUp s) := by
  unfold State.fieldUp
  try dsimp only
  repeat' first | intro _ | (with_reducible first | exact Keeps.refl | apply Keeps.via State.setRun_keeps) | decide
                | (intros; simp only [List.length_map, List.length_zipIdx, length_updAt, length_putAt, List.length_range, List.length_replicate, and_self, *]; done)
                | (with_reducible apply keeps_field; (with_reducible first | exact Keeps.refl | apply Keeps.via State.setRun_keeps))

end Sys2Proof.Machine
end

