-- ==== Sys2Proof/Laws/KeepMeasure.lean ====
section
/-! SUPPORT. What every operation of Machine/Measure.lean leaves: its parts (the mask of Keeps) and the invariant. -/
namespace Sys2Proof.Machine

set_option Elab.async false
set_option linter.all false

set_option linter.unusedSimpArgs false
set_option linter.unusedVariables false

theorem State.pick_keeps {s : State} {x : Source} {item arm : Nat} {p a : Bool} :
    Keeps 0xC0000 s (State.pick s x item arm p a).2 := by
  unfold State.pick
  try dsimp only
  repeat' first | (with_reducible first | exact Keeps.refl | apply keeps_ite | apply Keeps.via State.note_keeps | apply Keeps.via State.warnOn_keeps | apply Keeps.via State.warnOff_keeps)
                | decide

theorem State.setDelay_keeps {s : State} {use : Nat} :
    Keeps 0x100 s (State.setDelay s use).2 := by
  unfold State.setDelay
  try dsimp only
  repeat' first | (with_reducible first | exact Keeps.refl | apply Keeps.via State.drawn_keeps) | decide | split

theorem State.chooseSet_keeps {s : State} :
    Keeps 0x10C0100 s (State.chooseSet s).2 := by
  unfold State.chooseSet
  try dsimp only
  repeat' first | (with_reducible first | exact Keeps.refl | apply Keeps.via State.mapForm_keeps | apply Keeps.via State.pick_keeps | apply Keeps.via State.setDelay_keeps)
                | decide

theorem State.subTrip_keeps {s : State} {i : Nat} :
    Keeps 0x1DB0C4800 s (State.subTrip s i) := by
  unfold State.subTrip
  try dsimp only
  repeat' first | (with_reducible first | exact Keeps.refl | apply Keeps.via State.trip_keeps) | decide

theorem State.setFaults_keeps {s : State} {m : MSet} :
    Keeps 0x1DB0C4800 s (State.setFaults s m) := by
  unfold State.setFaults
  try dsimp only
  repeat' first | intro _ _ _
                | (with_reducible first | assumption | exact Keeps.refl | apply keeps_ite | apply Keeps.via State.trip_keeps | apply Keeps.via State.subTrip_keeps | apply keeps_foldl)
                | decide

theorem State.keepAngles_keeps {s : State} {a : Angles} :
    Keeps 0x1000000 s (State.keepAngles s a) := by
  unfold State.keepAngles
  try dsimp only
  repeat' first | (with_reducible first | exact Keeps.refl | apply Keeps.via State.mapForm_keeps) | decide

end Sys2Proof.Machine
end

