-- ==== Sys2Proof/Laws/KeepLimits.lean ====
section
/-! SUPPORT. What every operation of Machine/Limits.lean leaves: its parts (the mask of Keeps) and the invariant. -/
namespace Sys2Proof.Machine

set_option Elab.async false
set_option linter.all false

set_option linter.unusedSimpArgs false
set_option linter.unusedVariables false

theorem State.hold64_keeps {s : State} {x : Int} :
    Keeps 0x100 s (State.hold64 s x).2 := by
  unfold State.hold64
  try dsimp only
  repeat' first | (with_reducible first | exact Keeps.refl | apply Keeps.via State.drawn_keeps) | decide | split

theorem State.mapB_keeps {s : State} {f : LawBlock → LawBlock} :
    Keeps 0x1000000 s (State.mapB s f) := by
  unfold State.mapB
  try dsimp only
  repeat' first | (with_reducible first | exact Keeps.refl | apply Keeps.via State.mapForm_keeps) | decide

theorem State.forcedEvents_keeps {s : State} {m : MSet} :
    Keeps 0x10C0000 s (State.forcedEvents s m) := by
  unfold State.forcedEvents
  try dsimp only
  repeat' first | (with_reducible first | exact Keeps.refl | apply keeps_ite | apply Keeps.via State.mapForm_keeps | apply Keeps.via State.note_keeps | apply Keeps.via State.warnOn_keeps | apply Keeps.via State.warnOff_keeps)
                | decide

theorem State.groups_keeps {s : State} {m : MSet} {x : Step1} {pDem vSet eDem : Int} {first : Bool} :
    Keeps 0x10C0100 s (State.groups s m x pDem vSet eDem first) := by
  unfold State.groups
  try dsimp only
  repeat' first | (with_reducible first | exact Keeps.refl | apply keeps_ite | apply Keeps.via State.mapForm_keeps | apply Keeps.via State.note_keeps | apply Keeps.via State.warnOn_keeps | apply Keeps.via State.warnOff_keeps | apply Keeps.via State.hold64_keeps | apply Keeps.via State.forcedEvents_keeps)
                | decide

theorem State.firstRegion_keeps {s : State} :
    Keeps 0x1000000 s (State.firstRegion s) := by
  unfold State.firstRegion
  try dsimp only
  repeat' first | (with_reducible first | exact Keeps.refl | apply Keeps.via State.mapB_keeps) | decide

theorem State.regionPick_keeps {s : State} :
    Keeps 0x10C0000 s (State.regionPick s) := by
  unfold State.regionPick
  try dsimp only
  repeat' first | (with_reducible first | exact Keeps.refl | apply keeps_ite | apply Keeps.via State.note_keeps | apply Keeps.via State.warnOff_keeps | apply Keeps.via State.warnKeep_keeps | apply Keeps.via State.mapB_keeps)
                | decide

theorem State.regionEval_keeps {s : State} :
    Keeps 0x10C0000 s (State.regionEval s) := by
  unfold State.regionEval
  try dsimp only
  repeat' first | (with_reducible first | exact Keeps.refl | apply keeps_ite | apply Keeps.via State.mapForm_keeps | apply Keeps.via State.mapB_keeps | apply Keeps.via State.regionPick_keeps)
                | decide

theorem State.rescaleD_keeps {s : State} :
    Keeps 0x1000100 s (State.rescaleD s) := by
  unfold State.rescaleD
  try dsimp only
  repeat' first | (with_reducible first | exact Keeps.refl | apply Keeps.via State.hold64_keeps | apply Keeps.via State.mapB_keeps)
                | decide

theorem State.regionApply_keeps {s : State} :
    Keeps 0x1080100 s (State.regionApply s) := by
  unfold State.regionApply
  try dsimp only
  repeat' first | (with_reducible first | exact Keeps.refl | apply keeps_ite | apply Keeps.via State.mapForm_keeps | apply Keeps.via State.note_keeps | apply Keeps.via State.mapB_keeps | apply Keeps.via State.rescaleD_keeps)
                | decide

theorem State.loadGains_keeps {s : State} :
    Keeps 0x1000000 s (State.loadGains s) := by
  unfold State.loadGains
  try dsimp only
  repeat' first | (with_reducible first | exact Keeps.refl | apply Keeps.via State.mapForm_keeps) | decide | split

theorem State.gainsDone_keeps {s : State} :
    Keeps 0x1000000 s (State.gainsDone s) := by
  unfold State.gainsDone
  try dsimp only
  repeat' first | (with_reducible first | exact Keeps.refl | apply Keeps.via State.mapForm_keeps) | decide

end Sys2Proof.Machine
end

