-- ==== Sys2Proof/Laws/KeepSequencer.lean ====
section
/-! SUPPORT. What every operation of Machine/Sequencer.lean leaves: its parts (the mask of Keeps) and the invariant. -/
namespace Sys2Proof.Machine

set_option Elab.async false
set_option linter.all false

set_option linter.unusedSimpArgs false
set_option linter.unusedVariables false

theorem State.toPhase_keeps {s : State} {sub ph : Nat} :
    Keeps 0x1040000 s (State.toPhase s sub ph) := by
  unfold State.toPhase
  try dsimp only
  repeat' first | (with_reducible first | exact Keeps.refl | apply Keeps.via (State.mapMode_keeps ?_) | apply Keeps.via State.mapForm_keeps | apply Keeps.via State.mapB_keeps | rfl)
                | decide

theorem State.subApply_keeps {s : State} :
    Keeps 0x30C0800 s (State.subApply s) := by
  unfold State.subApply
  try dsimp only
  repeat' first | (with_reducible first | exact Keeps.refl | apply keeps_ite | apply Keeps.via (State.mapMode_keeps ?_) | apply Keeps.via State.setMode_keeps | rfl)
                | decide | split

theorem State.toSync_keeps {s : State} :
    Keeps 0x1040000 s (State.toSync s) := by
  unfold State.toSync
  try dsimp only
  repeat' first | (with_reducible first | exact Keeps.refl | apply Keeps.via State.mapB_keeps | apply Keeps.via State.toPhase_keeps)
                | decide

theorem State.toRun_keeps {s : State} :
    Keeps 0x1040000 s (State.toRun s) := by
  unfold State.toRun
  try dsimp only
  repeat' first | (with_reducible first | exact Keeps.refl | apply Keeps.via State.mapB_keeps | apply Keeps.via State.toPhase_keeps)
                | decide

theorem State.syncCheck_keeps {s : State} :
    Keeps 0x1000000 s (State.syncCheck s) := by
  unfold State.syncCheck
  try dsimp only
  repeat' first | (with_reducible first | exact Keeps.refl | apply Keeps.via State.mapForm_keeps) | decide

theorem State.seqTimers_keeps {s : State} :
    Keeps 0x1000000 s (State.seqTimers s) := by
  unfold State.seqTimers
  try dsimp only
  repeat' first | (with_reducible first | exact Keeps.refl | apply Keeps.via State.mapForm_keeps | apply Keeps.via State.mapB_keeps)
                | decide

theorem State.rideHold_keeps {s : State} :
    Keeps 0x1040000 s (State.rideHold s) := by
  unfold State.rideHold
  try dsimp only
  repeat' first | (with_reducible first | exact Keeps.refl | apply Keeps.via State.mapForm_keeps | apply Keeps.via State.mapB_keeps | apply Keeps.via State.toPhase_keeps)
                | decide

theorem State.closeFail_keeps {s : State} :
    Keeps 0x1DB0C4800 s (State.closeFail s) := by
  unfold State.closeFail
  try dsimp only
  repeat' first | (with_reducible first | exact Keeps.refl | apply keeps_ite | apply Keeps.via State.warn_keeps | apply Keeps.via State.trip_keeps | apply Keeps.via State.mapB_keeps | apply Keeps.via State.toPhase_keeps)
                | decide

theorem State.toClosing_keeps {s : State} :
    Keeps 0x10C0000 s (State.toClosing s) := by
  unfold State.toClosing
  try dsimp only
  repeat' first | (with_reducible first | exact Keeps.refl | apply Keeps.via State.note_keeps | apply Keeps.via State.toPhase_keeps)
                | decide

theorem State.settleExit_keeps {s : State} :
    Keeps 0x1040000 s (State.settleExit s) := by
  unfold State.settleExit
  try dsimp only
  repeat' first | (with_reducible first | exact Keeps.refl | apply keeps_ite | apply Keeps.via State.toSync_keeps | apply Keeps.via State.toRun_keeps)
                | decide

theorem State.holdExit_keeps {s : State} :
    Keeps 0x1040000 s (State.holdExit s) := by
  unfold State.holdExit
  try dsimp only
  repeat' first | (with_reducible first | exact Keeps.refl | apply keeps_ite | apply Keeps.via State.toPhase_keeps | apply Keeps.via State.toRun_keeps)
                | decide

theorem State.closedExit_keeps {s : State} :
    Keeps 0x10C0000 s (State.closedExit s) := by
  unfold State.closedExit
  try dsimp only
  repeat' first | (with_reducible first | exact Keeps.refl | apply keeps_ite | apply Keeps.via State.warn_keeps | apply Keeps.via State.mapB_keeps | apply Keeps.via State.toPhase_keeps | apply Keeps.via State.toRun_keeps)
                | decide

theorem State.otherExit_keeps {s : State} :
    Keeps 0x1DB0C4800 s (State.otherExit s) := by
  unfold State.otherExit
  try dsimp only
  repeat' first | (with_reducible first | exact Keeps.refl | apply keeps_ite | apply Keeps.via State.warn_keeps | apply Keeps.via State.toPhase_keeps | apply Keeps.via State.toRun_keeps | apply Keeps.via State.closeFail_keeps | apply Keeps.via State.toClosing_keeps | apply Keeps.via State.settleExit_keeps | apply Keeps.via State.holdExit_keeps)
                | decide

theorem State.seqExit_keeps {s : State} :
    Keeps 0x1DB0C4800 s (State.seqExit s) := by
  unfold State.seqExit
  try dsimp only
  repeat' first | (with_reducible first | exact Keeps.refl | apply keeps_ite | apply Keeps.via State.note_keeps | apply Keeps.via State.warn_keeps | apply Keeps.via State.trip_keeps | apply Keeps.via State.toPhase_keeps | apply Keeps.via State.toSync_keeps | apply Keeps.via State.rideHold_keeps | apply Keeps.via State.closeFail_keeps | apply Keeps.via State.closedExit_keeps | apply Keeps.via State.otherExit_keeps)
                | decide

theorem State.sequence_keeps {s : State} {first : Bool} :
    Keeps 0x1DB0C4800 s (State.sequence s first) := by
  unfold State.sequence
  try dsimp only
  repeat' first | (with_reducible first | exact Keeps.refl | apply keeps_ite | apply Keeps.via State.mapForm_keeps | apply Keeps.via State.syncCheck_keeps | apply Keeps.via State.seqTimers_keeps | apply Keeps.via State.seqExit_keeps)
                | decide

theorem State.firstPhase_keeps {s : State} :
    Keeps 0x30C0800 s (State.firstPhase s) := by
  unfold State.firstPhase
  try dsimp only
  repeat' first | (with_reducible first | exact Keeps.refl | apply Keeps.via State.mapForm_keeps | apply Keeps.via State.setMode_keeps | apply Keeps.via State.mapB_keeps)
                | decide

theorem execSyncTimeout_keeps {s : State} :
    OutKeeps 0x1DB0C4800 s (execSyncTimeout s) := by
  unfold execSyncTimeout
  try dsimp only
  repeat' first | (with_reducible first | exact Keeps.refl | apply outKeeps_next | apply keeps_ite | apply Keeps.via State.trip_keeps)
                | decide

theorem execSyncFbTimeout_keeps {s : State} :
    OutKeeps 0x1DB0C4800 s (execSyncFbTimeout s) := by
  unfold execSyncFbTimeout
  try dsimp only
  repeat' first | (with_reducible first | exact Keeps.refl | apply outKeeps_next | apply keeps_ite | apply Keeps.via State.mapForm_keeps | apply Keeps.via State.trip_keeps | apply Keeps.via State.closeFail_keeps)
                | decide

theorem execSyncDwellElapsed_keeps {s : State} :
    OutKeeps 0x10C0000 s (execSyncDwellElapsed s) := by
  unfold execSyncDwellElapsed
  try dsimp only
  repeat' first | (with_reducible first | exact Keeps.refl | apply outKeeps_next | apply keeps_ite | apply Keeps.via State.mapForm_keeps | apply Keeps.via State.toClosing_keeps)
                | decide

theorem execSyncPulseEnd_keeps {s : State} :
    OutKeeps 0x1000000 s (execSyncPulseEnd s) := by
  unfold execSyncPulseEnd
  try dsimp only
  repeat' first | (with_reducible first | exact Keeps.refl | apply outKeeps_next | apply keeps_ite | apply Keeps.via State.mapForm_keeps)
                | decide

theorem execSettleDwellElapsed_keeps {s : State} :
    OutKeeps 0x1040000 s (execSettleDwellElapsed s) := by
  unfold execSettleDwellElapsed
  try dsimp only
  repeat' first | (with_reducible first | exact Keeps.refl | apply outKeeps_next | apply keeps_ite | apply Keeps.via State.settleExit_keeps)
                | decide

theorem execBsRampComplete_keeps {s : State} :
    OutKeeps 0x1040000 s (execBsRampComplete s) := by
  unfold execBsRampComplete
  try dsimp only
  repeat' first | (with_reducible first | exact Keeps.refl | apply outKeeps_next | apply keeps_ite | apply Keeps.via State.toPhase_keeps)
                | decide

theorem execBsStallExpiry_keeps {s : State} :
    OutKeeps 0x1DB0C4800 s (execBsStallExpiry s) := by
  unfold execBsStallExpiry
  try dsimp only
  repeat' first | (with_reducible first | exact Keeps.refl | apply outKeeps_next | apply keeps_ite | apply Keeps.via State.trip_keeps)
                | decide

theorem execRideEntry_keeps {s : State} :
    OutKeeps 0x1040000 s (execRideEntry s) := by
  unfold execRideEntry
  try dsimp only
  repeat' first | (with_reducible first | exact Keeps.refl | apply outKeeps_next | apply keeps_ite | apply Keeps.via State.rideHold_keeps)
                | decide

theorem execRideTClearElapsed_keeps {s : State} :
    OutKeeps 0x1040000 s (execRideTClearElapsed s) := by
  unfold execRideTClearElapsed
  try dsimp only
  repeat' first | (with_reducible first | exact Keeps.refl | apply outKeeps_next | apply keeps_ite | apply Keeps.via State.holdExit_keeps)
                | decide

theorem execRecoverComplete_keeps {s : State} :
    OutKeeps 0x1040000 s (execRecoverComplete s) := by
  unfold execRecoverComplete
  try dsimp only
  repeat' first | (with_reducible first | exact Keeps.refl | apply outKeeps_next | apply keeps_ite | apply Keeps.via State.toRun_keeps)
                | decide

theorem execRideTMaxExpiry_keeps {s : State} :
    OutKeeps 0x1DB0C4800 s (execRideTMaxExpiry s) := by
  unfold execRideTMaxExpiry
  try dsimp only
  repeat' first | (with_reducible first | exact Keeps.refl | apply outKeeps_next | apply keeps_ite | apply Keeps.via State.trip_keeps)
                | decide

theorem execRegionDwellExpiry_keeps {s : State} :
    OutKeeps 0x10C0000 s (execRegionDwellExpiry s) := by
  unfold execRegionDwellExpiry
  try dsimp only
  repeat' first | (with_reducible first | exact Keeps.refl | apply outKeeps_next | apply keeps_ite | apply Keeps.via State.regionPick_keeps)
                | decide

theorem execSubstituteLimitExpiry_keeps {s : State} :
    OutKeeps 0x1DB0C4800 s (execSubstituteLimitExpiry s) := by
  unfold execSubstituteLimitExpiry
  try dsimp only
  repeat' first | (with_reducible first | exact Keeps.refl | apply outKeeps_next | apply Keeps.via State.subTrip_keeps)
                | decide | split

end Sys2Proof.Machine
end

