-- ==== Sys2Proof/Laws/KeepLaw.lean ====
section
/-! SUPPORT. What every operation of Machine/Law.lean leaves: its parts (the mask of Keeps) and the invariant. -/
namespace Sys2Proof.Machine

set_option Elab.async false
set_option linter.all false

set_option linter.unusedSimpArgs false
set_option linter.unusedVariables false

theorem State.demand_keeps {s : State} {old new : GainSet} {thm : Nat} {first : Bool} :
    Keeps 0x1000100 s (State.demand s old new thm first).2 := by
  unfold State.demand
  try dsimp only
  repeat' first | (with_reducible first | exact Keeps.refl | apply Keeps.via State.mapForm_keeps | apply Keeps.via State.hold64_keeps)
                | decide

theorem State.rotor_keeps {s : State} :
    Keeps 0x1000100 s (State.rotor s) := by
  unfold State.rotor
  try dsimp only
  repeat' first | (with_reducible first | exact Keeps.refl | apply Keeps.via State.mapForm_keeps | apply Keeps.via State.hold64_keeps)
                | decide

theorem State.impedance_keeps {s : State} {old : GainSet} {id iq : Int} :
    Keeps 0x1000100 s (State.impedance s old id iq).2 := by
  unfold State.impedance
  try dsimp only
  repeat' first | (with_reducible first | exact Keeps.refl | apply Keeps.via State.mapForm_keeps | apply Keeps.via State.hold64_keeps)
                | decide

theorem State.balancer_keeps {s : State} {ws : List Int} {vd vq : Int} :
    Keeps 0x1000000 s (State.balancer s ws vd vq) := by
  unfold State.balancer
  try dsimp only
  repeat' first | (with_reducible first | exact Keeps.refl | apply Keeps.via State.mapForm_keeps) | decide

theorem State.balanceStep_keeps {s : State} {m : MSet} {vd vq : Int} :
    Keeps 0x10C0000 s (State.balanceStep s m vd vq) := by
  unfold State.balanceStep
  try dsimp only
  repeat' first | (with_reducible first | exact Keeps.refl | apply Keeps.via State.warnOn_keeps | apply Keeps.via State.warnOff_keeps | apply Keeps.via State.balancer_keeps)
                | decide | split

theorem State.lawCore_keeps {s : State} {m : MSet} {x : Step1} {first : Bool} :
    Keeps 0x1DB0C4900 s (State.lawCore s m x first) := by
  unfold State.lawCore
  try dsimp only
  repeat' first | (with_reducible first | exact Keeps.refl | apply keeps_ite | apply Keeps.via State.mapForm_keeps | apply Keeps.via State.trip_keeps | apply Keeps.via State.groups_keeps | apply Keeps.via State.regionEval_keeps | apply Keeps.via State.gainsDone_keeps | apply Keeps.via State.demand_keeps | apply Keeps.via State.rotor_keeps | apply Keeps.via State.impedance_keeps | apply Keeps.via State.balanceStep_keeps)
                | decide

theorem State.filters_keeps {s : State} {m : MSet} {a : Angles} {x : Step1} :
    Keeps 0x1000000 s (State.filters s m a x) := by
  unfold State.filters
  try dsimp only
  repeat' first | (with_reducible first | exact Keeps.refl | apply Keeps.via State.mapB_keeps) | decide

theorem State.keepStep1_keeps {s : State} {m : MSet} {a : Angles} {x : Step1} :
    Keeps 0x3000000 s (State.keepStep1 s m a x) := by
  unfold State.keepStep1
  try dsimp only
  repeat' first | (with_reducible first | exact Keeps.refl | apply Keeps.via State.mapForm_keeps | apply Keeps.via State.mapArm_keeps)
                | decide

theorem State.loadBlock_keeps {s : State} :
    Keeps 0x10C0000 s (State.loadBlock s) := by
  unfold State.loadBlock
  try dsimp only
  repeat' first | (with_reducible first | exact Keeps.refl | apply keeps_ite | apply Keeps.via (State.mapMode_keeps ?_) | apply Keeps.via State.mapForm_keeps | apply Keeps.via State.note_keeps | rfl)
                | decide | split

theorem State.lawNext_keeps {s : State} :
    Keeps 0x1DB0C4900 s (State.lawNext s) := by
  unfold State.lawNext
  try dsimp only
  repeat' first | (exact rfl)
                | (with_reducible first | exact Keeps.refl | apply keeps_ite | apply Keeps.via State.chooseSet_keeps | apply Keeps.via State.setFaults_keeps | apply Keeps.via State.keepAngles_keeps | apply Keeps.via State.regionApply_keeps | apply Keeps.via State.sequence_keeps | apply Keeps.via State.lawCore_keeps | apply Keeps.via State.filters_keeps | apply Keeps.via State.keepStep1_keeps | apply Keeps.via State.loadBlock_keeps)

theorem State.lawClear_keeps {s : State} :
    Keeps 0x1000100 s (State.lawClear s) := by
  unfold State.lawClear
  try dsimp only
  repeat' first | (with_reducible exact Keeps.refl)
                | (refine Keeps.upd ?_ rfl (fun h => (by unfold State.Good; dsimp only; exact good_upd h)); with_reducible exact Keeps.refl)

theorem State.lawFirst_keeps {s : State} :
    Keeps 0x1DB0C4900 s (State.lawFirst s) := by
  unfold State.lawFirst
  try dsimp only
  repeat' first | (with_reducible first | exact Keeps.refl | apply keeps_ite | apply Keeps.via State.chooseSet_keeps | apply Keeps.via State.setFaults_keeps | apply Keeps.via State.keepAngles_keeps | apply Keeps.via State.mapB_keeps | apply Keeps.via State.firstRegion_keeps | apply Keeps.via State.gainsDone_keeps | apply Keeps.via State.sequence_keeps | apply Keeps.via State.firstPhase_keeps | apply Keeps.via State.lawCore_keeps | apply Keeps.via State.keepStep1_keeps | apply Keeps.via State.lawClear_keeps)
                | decide

theorem State.satNote_keeps {s : State} :
    Keeps 0x1080000 s (State.satNote s) := by
  unfold State.satNote
  try dsimp only
  repeat' first | (with_reducible first | exact Keeps.refl | apply keeps_ite | apply Keeps.via State.mapForm_keeps | apply Keeps.via State.note_keeps)
                | decide

theorem State.lawIdle_keeps {s : State} :
    Keeps 0x1000000 s (State.lawIdle s) := by
  unfold State.lawIdle
  try dsimp only
  repeat' first | (with_reducible first | exact Keeps.refl | apply Keeps.via State.mapForm_keeps | apply Keeps.via State.keepAngles_keeps)
                | decide

theorem State.lawPeriod_keeps {s : State} {enter : Bool} :
    Keeps 0x1DB0C4900 s (State.lawPeriod s enter) := by
  unfold State.lawPeriod
  try dsimp only
  repeat' first | (with_reducible first | exact Keeps.refl | apply keeps_ite | apply Keeps.via State.lawNext_keeps | apply Keeps.via State.lawFirst_keeps | apply Keeps.via State.satNote_keeps | apply Keeps.via State.lawIdle_keeps)
                | decide

theorem State.restoreSrc_keeps {s : State} {x : Source} {item : Nat} :
    Keeps 0xC0000 s (State.restoreSrc s x item).2 := by
  unfold State.restoreSrc
  try dsimp only
  repeat' first | (with_reducible first | exact Keeps.refl | apply Keeps.via State.note_keeps | apply Keeps.via State.warnOff_keeps)
                | decide | split

theorem execPrimaryRestore_keeps {s : State} :
    OutKeeps 0x10C0000 s (execPrimaryRestore s) := by
  unfold execPrimaryRestore
  try dsimp only
  repeat' first | (with_reducible first | exact Keeps.refl | apply outKeeps_next | apply Keeps.via State.mapForm_keeps | apply Keeps.via State.restoreSrc_keeps)
                | decide

theorem State.slotsRun_keeps {s : State} :
    Keeps 0x1040020 s (State.slotsRun s) := by
  unfold State.slotsRun
  try dsimp only
  repeat' first | (with_reducible first | exact Keeps.refl | apply keeps_ite | apply Keeps.via State.mapForm_keeps | apply Keeps.via State.warnOff_keeps | apply Keeps.via State.mapB_keeps)
                | decide
                | (with_reducible apply keeps_extDone; (with_reducible first | exact Keeps.refl | apply keeps_ite | apply Keeps.via State.mapForm_keeps | apply Keeps.via State.warnOff_keeps | apply Keeps.via State.mapB_keeps))

theorem State.overrunAct_keeps {s : State} :
    Keeps 0x1DB0C4800 s (State.overrunAct s) := by
  unfold State.overrunAct
  try dsimp only
  repeat' first | (with_reducible first | exact Keeps.refl | apply keeps_ite | apply Keeps.via State.mapForm_keeps | apply Keeps.via State.warnOff_keeps | apply Keeps.via State.warnKeep_keeps | apply Keeps.via State.trip_keeps | apply Keeps.via State.mapB_keeps)
                | decide

theorem State.extRestore_keeps {s : State} :
    Keeps 0x10C0000 s (State.extRestore s) := by
  unfold State.extRestore
  try dsimp only
  repeat' first | (with_reducible first | exact Keeps.refl | apply Keeps.via State.note_keeps | apply Keeps.via State.warnOff_keeps | apply Keeps.via State.mapB_keeps)
                | decide

theorem State.slotsFinish_keeps {s : State} :
    Keeps 0x1DB0C4820 s (State.slotsFinish s) := by
  unfold State.slotsFinish
  try dsimp only
  repeat' first | (with_reducible first | exact Keeps.refl | apply keeps_ite | apply Keeps.via State.slotsRun_keeps | apply Keeps.via State.overrunAct_keeps | apply Keeps.via State.extRestore_keeps)
                | decide

theorem execExtSlotsRun_keeps {s : State} :
    OutKeeps 0x1040020 s (execExtSlotsRun s) := by
  unfold execExtSlotsRun
  try dsimp only
  repeat' first | (with_reducible first | exact Keeps.refl | apply outKeeps_next | apply keeps_ite | apply Keeps.via State.slotsRun_keeps)
                | decide

theorem execExtSlotOverrun_keeps {s : State} :
    OutKeeps 0x1DB0C4800 s (execExtSlotOverrun s) := by
  unfold execExtSlotOverrun
  try dsimp only
  repeat' first | (with_reducible first | exact Keeps.refl | apply outKeeps_next | apply keeps_ite | apply Keeps.via State.overrunAct_keeps)
                | decide

theorem execExtRestoreReached_keeps {s : State} :
    OutKeeps 0x10C0000 s (execExtRestoreReached s) := by
  unfold execExtRestoreReached
  try dsimp only
  repeat' first | (with_reducible first | exact Keeps.refl | apply outKeeps_next | apply keeps_ite | apply Keeps.via State.extRestore_keeps)
                | decide

theorem State.noteLimits_keeps {s : State} {code : Nat} :
    Keeps 0x1000000 s (State.noteLimits s code) := by
  unfold State.noteLimits
  try dsimp only
  repeat' first | (with_reducible first | exact Keeps.refl | apply Keeps.via State.mapForm_keeps) | decide

theorem State.formUp_keeps {s : State} :
    Keeps 0x1084000 s (State.formUp s) := by
  unfold State.formUp
  try dsimp only
  repeat' first | (with_reducible first | exact Keeps.refl | apply Keeps.via State.mapForm_keeps | apply Keeps.via State.setRun_keeps)
                | decide

end Sys2Proof.Machine
end

