-- ==== Sys2Proof/Laws/KeepCells.lean ====
section
/-! SUPPORT. What every operation of Machine/Cells.lean leaves: its parts (the mask of Keeps) and the invariant. -/
namespace Sys2Proof.Machine

set_option Elab.async false
set_option linter.all false

set_option linter.unusedSimpArgs false
set_option linter.unusedVariables false

theorem State.mapCell_keeps {s : State} {c : Nat} {f : Cell → Cell} :
    Keeps 0x8000000 s (State.mapCell s c f) := by
  unfold State.mapCell
  try dsimp only
  repeat' first | (with_reducible exact Keeps.refl) | decide
                | (intros; simp only [List.length_map, List.length_zipIdx, length_updAt, length_putAt, List.length_range, List.length_replicate, and_self, *]; done)
                | (with_reducible apply keeps_cell; with_reducible exact Keeps.refl)

theorem State.mapTrk_keeps {s : State} {q : Nat} {f : Trunk → Trunk} :
    Keeps 0x8000000 s (State.mapTrk s q f) := by
  unfold State.mapTrk
  try dsimp only
  repeat' first | (with_reducible exact Keeps.refl) | decide
                | (intros; simp only [List.length_map, List.length_zipIdx, length_updAt, length_putAt, List.length_range, List.length_replicate, and_self, *]; done)
                | (with_reducible apply keeps_cell; with_reducible exact Keeps.refl)

theorem State.markFail_keeps {s : State} {c reason : Nat} :
    Keeps 0x80C0000 s (State.markFail s c reason) := by
  unfold State.markFail
  try dsimp only
  repeat' first | intro _ _
                | (with_reducible first | exact Keeps.refl | apply keeps_ite | apply Keeps.via State.warnOn_keeps | apply Keeps.via State.mapCell_keeps)
                | decide | (intros; (repeat' apply And.intro) <;> with_reducible assumption) | split
                | (with_reducible apply keeps_cell; (with_reducible first | exact Keeps.refl | apply keeps_ite | apply Keeps.via State.warnOn_keeps | apply Keeps.via State.mapCell_keeps))

theorem State.clearFail_keeps {s : State} {c : Nat} :
    Keeps 0x8040000 s (State.clearFail s c) := by
  unfold State.clearFail
  try dsimp only
  repeat' first | (with_reducible first | exact Keeps.refl | apply Keeps.via State.warnOff_keeps | apply Keeps.via State.mapCell_keeps)
                | decide

theorem State.setFail_keeps {s : State} {c v : Nat} :
    Keeps 0x80C0000 s (State.setFail s c v) := by
  unfold State.setFail
  try dsimp only
  repeat' first | (with_reducible first | exact Keeps.refl | apply keeps_ite | apply Keeps.via State.markFail_keeps | apply Keeps.via State.clearFail_keeps)
                | decide

theorem execFailReasonWrite_keeps {level : Nat} {c : Fin 256} {v : BitVec 8} {s : State} :
    OutKeeps 0x80C0000 s (execFailReasonWrite level c v s) := by
  unfold execFailReasonWrite
  try dsimp only
  repeat' first | (with_reducible first | exact Keeps.refl | apply outKeeps_next | apply keeps_ite | apply Keeps.via State.setFail_keeps)
                | decide

theorem State.failNow_keeps {s : State} {c : Nat} :
    Keeps 0x8000000 s (State.failNow s c) := by
  unfold State.failNow
  try dsimp only
  repeat' first | (with_reducible first | exact Keeps.refl | apply Keeps.via State.mapCell_keeps) | decide

theorem execFailNow_keeps {level : Nat} {c : Fin 256} {s : State} :
    OutKeeps 0x8000000 s (execFailNow level c s) := by
  unfold execFailNow
  try dsimp only
  repeat' first | (with_reducible first | exact Keeps.refl | apply outKeeps_next | apply keeps_ite | apply Keeps.via State.failNow_keeps)
                | decide

theorem State.promoteOne_keeps {s : State} :
    Keeps 0xC0800 s (State.promoteOne s) := by
  unfold State.promoteOne
  try dsimp only
  repeat' first | (with_reducible first | exact Keeps.refl | apply Keeps.via State.setObj_keeps | apply Keeps.via State.note_keeps | apply Keeps.via State.warnKeep_keeps)
                | decide | split

theorem State.promoteN_keeps {n : Nat} {s : State} : Keeps 0xC0800 s (State.promoteN n s) := by
  induction n generalizing s with
  | zero => exact Keeps.refl
  | succ n ih => unfold State.promoteN; exact Keeps.via ih (by decide) (Keeps.via State.promoteOne_keeps (by decide) Keeps.refl)

theorem State.promotions_keeps {s : State} :
    Keeps 0x80C0800 s (State.promotions s) := by
  unfold State.promotions
  try dsimp only
  repeat' first | intro _ _
                | (with_reducible first | exact Keeps.refl | apply Keeps.via State.warnOff_keeps | apply Keeps.via State.promoteN_keeps)
                | decide | (intros; (repeat' apply And.intro) <;> with_reducible assumption) | split
                | (with_reducible apply keeps_cell; (with_reducible first | exact Keeps.refl | apply Keeps.via State.warnOff_keeps | apply Keeps.via State.promoteN_keeps))

end Sys2Proof.Machine
end

