-- ==== Sys2Proof/Laws/KeepSelect.lean ====
section
/-! SUPPORT. What every operation of Machine/Select.lean leaves: its parts (the mask of Keeps) and the invariant. -/
namespace Sys2Proof.Machine

set_option Elab.async false
set_option linter.all false

set_option linter.unusedSimpArgs false
set_option linter.unusedVariables false

theorem State.estimates_keeps {s : State} {n : Nat} :
    Keeps 0x8000000 s (State.estimates s n) := by
  unfold State.estimates
  try dsimp only
  repeat' first | intro _ _ | (with_reducible exact Keeps.refl) | decide
                | (intros; simp only [List.length_map, List.length_zipIdx, length_updAt, length_putAt, List.length_range, List.length_replicate, and_self, *]; done)
                | (with_reducible apply keeps_cell; with_reducible exact Keeps.refl)

theorem State.beginRefreshes_keeps {s : State} {n : Nat} {rules : List Nat} :
    Keeps 0x8000000 s (State.beginRefreshes s n rules) := by
  unfold State.beginRefreshes
  try dsimp only
  repeat' first | intro _ _ _ | intro _ _
                | (with_reducible first | assumption | exact Keeps.refl | apply Keeps.via State.mapCell_keeps | apply keeps_foldl)
                | decide | (intros; (repeat' apply And.intro) <;> with_reducible assumption)
                | (with_reducible apply keeps_cell; (with_reducible first | assumption | exact Keeps.refl | apply Keeps.via State.mapCell_keeps | apply keeps_foldl))

theorem State.holdRules_keeps {s : State} {rules : List Nat} :
    Keeps 0x8000000 s (State.holdRules s rules) := by
  unfold State.holdRules
  try dsimp only
  repeat' first | intro _ _ | (with_reducible exact Keeps.refl) | decide
                | (intros; simp only [List.length_map, List.length_zipIdx, length_updAt, length_putAt, List.length_range, List.length_replicate, and_self, *]; done)
                | (with_reducible apply keeps_cell; with_reducible exact Keeps.refl)

theorem State.shortfall_keeps {s : State} {t want lockI free m7 : Nat} :
    Keeps 0x80C0000 s (State.shortfall s t want lockI free m7) := by
  unfold State.shortfall
  try dsimp only
  repeat' first | (exact rfl)
                | (with_reducible first | exact Keeps.refl | apply keeps_ite | apply Keeps.via State.note_keeps | apply Keeps.via State.warn_keeps | apply Keeps.via State.warnOff_keeps | apply Keeps.via State.warnHold_keeps)
                | (intros; (repeat' apply And.intro) <;> with_reducible assumption) | split
                | (with_reducible apply keeps_cell; (with_reducible first | exact Keeps.refl | apply keeps_ite | apply Keeps.via State.note_keeps | apply Keeps.via State.warn_keeps | apply Keeps.via State.warnOff_keeps | apply Keeps.via State.warnHold_keeps))

theorem State.selectRun_keeps {s : State} {n t : Nat} :
    Keeps 0x80C0000 s (State.selectRun s n t).1 := by
  unfold State.selectRun
  try dsimp only
  repeat' first | (with_reducible first | exact Keeps.refl | apply Keeps.via State.estimates_keeps | apply Keeps.via State.beginRefreshes_keeps | apply Keeps.via State.holdRules_keeps | apply Keeps.via State.shortfall_keeps)
                | decide | (intros; (repeat' apply And.intro) <;> with_reducible assumption)
                | (with_reducible apply keeps_cell; (with_reducible first | exact Keeps.refl | apply Keeps.via State.estimates_keeps | apply Keeps.via State.beginRefreshes_keeps | apply Keeps.via State.holdRules_keeps | apply Keeps.via State.shortfall_keeps))

theorem State.selectAll_keeps {s : State} {n t rule code : Nat} :
    Keeps 0x8040000 s (State.selectAll s n t rule code).1 := by
  unfold State.selectAll
  try dsimp only
  repeat' first | (exact rfl)
                | (with_reducible first | exact Keeps.refl | apply Keeps.via State.warnOff_keeps | apply Keeps.via State.estimates_keeps | apply Keeps.via State.holdRules_keeps)
                | (intros; (repeat' apply And.intro) <;> with_reducible assumption)
                | (with_reducible apply keeps_cell; (with_reducible first | exact Keeps.refl | apply Keeps.via State.warnOff_keeps | apply Keeps.via State.estimates_keeps | apply Keeps.via State.holdRules_keeps))

theorem State.selectTick_keeps {s : State} {n t : Nat} {block hold : Bool} :
    Keeps 0x80C0000 s (State.selectTick s n t block hold).1 := by
  unfold State.selectTick
  try dsimp only
  repeat' first | (with_reducible first | exact Keeps.refl | apply Keeps.via State.selectRun_keeps | apply Keeps.via State.selectAll_keeps)
                | decide | split

theorem State.creditBack_keeps {s : State} :
    Keeps 0x8000000 s (State.creditBack s) := by
  unfold State.creditBack
  try dsimp only
  repeat' first | intro _ _ | (with_reducible exact Keeps.refl) | decide
                | (intros; simp only [List.length_map, List.length_zipIdx, length_updAt, length_putAt, List.length_range, List.length_replicate, and_self, *]; done)
                | (with_reducible apply keeps_cell; with_reducible exact Keeps.refl)

theorem State.record_keeps {s : State} {n : Nat} {sent : List (Option Nat)} :
    Keeps 0x8000000 s (State.record s n sent) := by
  unfold State.record
  try dsimp only
  repeat' first | intro _ _
                | (with_reducible first | exact Keeps.refl | apply keeps_ite | apply Keeps.via State.creditBack_keeps)
                | decide
                | (intros; simp only [List.length_map, List.length_zipIdx, length_updAt, length_putAt, List.length_range, List.length_replicate, and_self, *]; done)
                | (with_reducible apply keeps_cell; (with_reducible first | exact Keeps.refl | apply keeps_ite | apply Keeps.via State.creditBack_keeps))

theorem State.refreshJudge_keeps {s : State} {c n : Nat} :
    Keeps 0x80C0000 s (State.refreshJudge s c n) := by
  unfold State.refreshJudge
  try dsimp only
  repeat' first | (with_reducible first | exact Keeps.refl | apply keeps_ite | apply Keeps.via State.mapCell_keeps | apply Keeps.via State.markFail_keeps)
                | decide | split

theorem State.refreshBegin_keeps {s : State} {c n : Nat} :
    Keeps 0x8000000 s (State.refreshBegin s c n) := by
  unfold State.refreshBegin
  try dsimp only
  repeat' first | intro _ _
                | (with_reducible first | exact Keeps.refl | apply keeps_ite | apply Keeps.via State.mapCell_keeps) | decide
                | (intros; (repeat' apply And.intro) <;> with_reducible assumption)
                | (with_reducible apply keeps_cell; (with_reducible first | exact Keeps.refl | apply keeps_ite | apply Keeps.via State.mapCell_keeps))

theorem execBsRecoverTimeout_keeps {c : Fin 256} {s : State} :
    OutKeeps 0x80C0000 s (execBsRecoverTimeout c s) := by
  unfold execBsRecoverTimeout
  try dsimp only
  repeat' first | (with_reducible first | exact Keeps.refl | apply outKeeps_next | apply Keeps.via State.refreshJudge_keeps)
                | decide

theorem execRefreshDue_keeps {c : Fin 256} {s : State} :
    OutKeeps 0x8000000 s (execRefreshDue c s) := by
  unfold execRefreshDue
  try dsimp only
  repeat' first | intro _ _
                | (with_reducible first | exact Keeps.refl | apply outKeeps_next | apply keeps_ite | apply Keeps.via State.mapCell_keeps)
                | decide | (intros; (repeat' apply And.intro) <;> with_reducible assumption)
                | (with_reducible apply keeps_cell; (with_reducible first | exact Keeps.refl | apply outKeeps_next | apply keeps_ite | apply Keeps.via State.mapCell_keeps))

theorem execDwellExpiry_keeps {c : Fin 256} {s : State} :
    OutKeeps 0x8000000 s (execDwellExpiry c s) := by
  unfold execDwellExpiry
  try dsimp only
  repeat' first | (with_reducible first | exact Keeps.refl | apply outKeeps_next | apply keeps_ite | apply Keeps.via State.mapCell_keeps)
                | decide

theorem execSwPeriodEnd_keeps {s : State} :
    OutKeeps 0x8000000 s (execSwPeriodEnd s) := by
  unfold execSwPeriodEnd
  try dsimp only
  repeat' first | (with_reducible first | exact Keeps.refl | apply outKeeps_next | apply keeps_ite | apply Keeps.via State.creditBack_keeps)
                | decide

theorem State.staleJudge_keeps {s : State} {c n : Nat} :
    Keeps 0x8080000 s (State.staleJudge s c n) := by
  unfold State.staleJudge
  try dsimp only
  repeat' first | (with_reducible first | exact Keeps.refl | apply keeps_ite | apply Keeps.via State.note_keeps | apply Keeps.via State.mapCell_keeps)
                | decide

theorem execTelStaleExceeded_keeps {c : Fin 256} {s : State} :
    OutKeeps 0x8080000 s (execTelStaleExceeded c s) := by
  unfold execTelStaleExceeded
  try dsimp only
  repeat' first | (with_reducible first | exact Keeps.refl | apply outKeeps_next | apply keeps_ite | apply Keeps.via State.staleJudge_keeps)
                | decide

theorem State.avCheck_keeps {s : State} {av : Nat} :
    Keeps 0x1DB0C4800 s (State.avCheck s av) := by
  unfold State.avCheck
  try dsimp only
  repeat' first | (with_reducible first | exact Keeps.refl | apply keeps_ite | apply Keeps.via State.trip_keeps) | decide
                | (intros; (repeat' apply And.intro) <;> with_reducible assumption)
                | (with_reducible apply keeps_cell; (with_reducible first | exact Keeps.refl | apply keeps_ite | apply Keeps.via State.trip_keeps))

theorem State.selectPeriod_keeps {s : State} :
    Keeps 0x8000000 s (State.selectPeriod s) := by
  unfold State.selectPeriod
  try dsimp only
  repeat' first | intro _ _ | (with_reducible exact Keeps.refl) | decide
                | (intros; simp only [List.length_map, List.length_zipIdx, length_updAt, length_putAt, List.length_range, List.length_replicate, and_self, *]; done)
                | (with_reducible apply keeps_cell; with_reducible exact Keeps.refl)

theorem State.selectFresh_keeps {s : State} :
    Keeps 0x8000000 s (State.selectFresh s) := by
  unfold State.selectFresh
  try dsimp only
  repeat' first | intro _ _ | (with_reducible exact Keeps.refl) | decide
                | (intros; simp only [List.length_map, List.length_zipIdx, length_updAt, length_putAt, List.length_range, List.length_replicate, and_self, *]; done)
                | (with_reducible apply keeps_cell; with_reducible exact Keeps.refl)

theorem State.selectUp_keeps {s : State} :
    Keeps 0x8000000 s (State.selectUp s) := by
  unfold State.selectUp
  try dsimp only
  repeat' first | intro _ _ | (with_reducible exact Keeps.refl) | decide
                | (intros; simp only [List.length_map, List.length_zipIdx, length_updAt, length_putAt, List.length_range, List.length_replicate, and_self, *]; done)
                | (with_reducible apply keeps_cell; with_reducible exact Keeps.refl)

end Sys2Proof.Machine
end

