-- ==== Sys2Proof/Laws/KeepSense.lean ====
section
/-! SUPPORT. What every operation of Machine/Sense.lean leaves: its parts (the mask of Keeps) and the invariant. -/
namespace Sys2Proof.Machine

set_option Elab.async false
set_option linter.all false

set_option linter.unusedSimpArgs false
set_option linter.unusedVariables false

theorem State.mapAin_keeps {s : State} {c : Nat} {f : AIn → AIn} :
    Keeps 0x10000000 s (State.mapAin s c f) := by
  unfold State.mapAin
  try dsimp only
  repeat' first | (with_reducible exact Keeps.refl) | decide
                | (intros; simp only [List.length_map, List.length_zipIdx, length_updAt, length_putAt, List.length_range, List.length_replicate, and_self, *]; done)
                | (with_reducible apply keeps_sense; with_reducible exact Keeps.refl)

theorem State.mapConv_keeps {s : State} {k : Nat} {f : Conv → Conv} :
    Keeps 0x10000000 s (State.mapConv s k f) := by
  unfold State.mapConv
  try dsimp only
  repeat' first | (with_reducible exact Keeps.refl) | decide
                | (intros; simp only [List.length_map, List.length_zipIdx, length_updAt, length_putAt, List.length_range, List.length_replicate, and_self, *]; done)
                | (with_reducible apply keeps_sense; with_reducible exact Keeps.refl)

theorem State.cross_keeps {s : State} {c thr : Nat} :
    Keeps 0x130C0800 s (State.cross s c thr) := by
  unfold State.cross
  try dsimp only
  repeat' first | intro _
                | (with_reducible first | assumption | exact Keeps.refl | apply keeps_ite | apply Keeps.via State.offer_keeps | apply Keeps.via State.warnKeep_keeps | apply Keeps.via State.blockSpan_keeps | apply Keeps.via State.mapAin_keeps)
                | decide
                | (with_reducible apply keeps_mode; (with_reducible first | assumption | exact Keeps.refl | apply keeps_ite | apply Keeps.via State.offer_keeps | apply Keeps.via State.warnKeep_keeps | apply Keeps.via State.blockSpan_keeps | apply Keeps.via State.mapAin_keeps))

theorem State.cmpRuns_keeps {s : State} {c : Nat} :
    Keeps 0x10040000 s (State.cmpRuns s c) := by
  unfold State.cmpRuns
  try dsimp only
  repeat' first | (with_reducible first | exact Keeps.refl | apply keeps_ite | apply Keeps.via State.warnOff_keeps | apply Keeps.via State.mapAin_keeps)
                | decide

theorem State.compare_keeps {s : State} {c : Nat} :
    Keeps 0x130C0800 s (State.compare s c) := by
  unfold State.compare
  try dsimp only
  repeat' first | (with_reducible first | exact Keeps.refl | apply keeps_ite | apply Keeps.via State.mapAin_keeps | apply Keeps.via State.cross_keeps | apply Keeps.via State.cmpRuns_keeps)
                | decide

theorem State.push_keeps {s : State} {c : Nat} {x : Int} :
    Keeps 0x10000000 s (State.push s c x) := by
  unfold State.push
  try dsimp only
  repeat' first | (with_reducible first | exact Keeps.refl | apply Keeps.via State.mapAin_keeps) | decide

theorem State.countWindow_keeps {s : State} {c : Nat} {x : Int} :
    Keeps 0x10000000 s (State.countWindow s c x) := by
  unfold State.countWindow
  try dsimp only
  repeat' first | (with_reducible first | exact Keeps.refl | apply keeps_ite | apply Keeps.via State.mapAin_keeps) | decide

theorem State.countSat_keeps {s : State} {c : Nat} {x : Int} :
    Keeps 0x100C0000 s (State.countSat s c x) := by
  unfold State.countSat
  try dsimp only
  repeat' first | (with_reducible first | exact Keeps.refl | apply keeps_ite | apply Keeps.via State.warnOn_keeps | apply Keeps.via State.mapAin_keeps)
                | decide

theorem State.give_keeps {s : State} {c : Nat} {x : Int} :
    Keeps 0x130C0800 s (State.give s c x) := by
  unfold State.give
  try dsimp only
  repeat' first | (exact rfl)
                | (with_reducible first | exact Keeps.refl | apply Keeps.via State.compare_keeps | apply Keeps.via State.push_keeps | apply Keeps.via State.countWindow_keeps)

theorem State.feedOne_keeps {s : State} {c : Nat} {x : Int} :
    Keeps 0x130C0800 s (State.feedOne s c x) := by
  unfold State.feedOne
  try dsimp only
  repeat' first | (exact rfl)
                | (with_reducible first | exact Keeps.refl | apply Keeps.via State.countSat_keeps | apply Keeps.via State.give_keeps)

theorem State.feedRepeat_keeps {s : State} {c : Nat} :
    Keeps 0x130C0800 s (State.feedRepeat s c) := by
  unfold State.feedRepeat
  try dsimp only
  repeat' first | (exact rfl) | (with_reducible first | exact Keeps.refl | apply Keeps.via State.give_keeps)

theorem State.injRegister_keeps {s : State} {c : Nat} {reg : Int} {mode : Nat} {test : Bool} :
    Keeps 0x10000000 s (State.injRegister s c reg mode test) := by
  unfold State.injRegister
  try dsimp only
  repeat' first | (with_reducible first | exact Keeps.refl | apply Keeps.via State.mapAin_keeps) | decide

theorem State.injOverrun_keeps {s : State} {c : Nat} :
    Keeps 0x10080000 s (State.injOverrun s c) := by
  unfold State.injOverrun
  try dsimp only
  repeat' first | (with_reducible first | exact Keeps.refl | apply keeps_ite | apply Keeps.via State.note_keeps | apply Keeps.via State.mapAin_keeps)
                | decide

theorem State.injRequest_keeps {s : State} {c : Nat} {r : Arrival} :
    Keeps 0x10080000 s (State.injRequest s c r) := by
  unfold State.injRequest
  try dsimp only
  repeat' first | (exact rfl)
                | (with_reducible first | exact Keeps.refl | apply keeps_ite | apply Keeps.via State.injRegister_keeps | apply Keeps.via State.injOverrun_keeps)

theorem State.injArrive_keeps {s : State} {c : Nat} {r : Arrival} :
    Keeps 0x10080000 s (State.injArrive s c r) := by
  unfold State.injArrive
  try dsimp only
  repeat' first | (with_reducible first | exact Keeps.refl | apply keeps_ite | apply Keeps.via State.mapAin_keeps | apply Keeps.via State.injRequest_keeps)
                | decide

theorem State.injDue_keeps {s : State} {c : Nat} {i : Int} :
    Keeps 0x10080000 s (State.injDue s c i) := by
  unfold State.injDue
  try dsimp only
  repeat' first | intro _ _ _
                | (with_reducible first | assumption | exact Keeps.refl | apply Keeps.via State.mapAin_keeps | apply Keeps.via State.injRequest_keeps | apply keeps_foldl)
                | decide

theorem State.testJudge_keeps {s : State} {c : Nat} {code prev : Int} :
    Keeps 0x100C0000 s (State.testJudge s c code prev) := by
  unfold State.testJudge
  try dsimp only
  repeat' first | (with_reducible first | exact Keeps.refl | apply keeps_ite | apply Keeps.via State.note_keeps | apply Keeps.via State.warnOn_keeps | apply Keeps.via State.warnOff_keeps | apply Keeps.via State.mapAin_keeps)
                | decide

theorem State.injTake_keeps {s : State} {n c : Nat} {i : Int} {r : InjReq} {x : Int} :
    Keeps 0x130C0800 s (State.injTake s n c i r x) := by
  unfold State.injTake
  try dsimp only
  repeat' first | (with_reducible first | exact Keeps.refl | apply Keeps.via State.mapAin_keeps | apply Keeps.via State.feedRepeat_keeps)
                | decide

theorem State.injLeave_keeps {s : State} {c : Nat} {r : InjReq} :
    Keeps 0x100C0000 s (State.injLeave s c r) := by
  unfold State.injLeave
  try dsimp only
  repeat' first | (with_reducible first | exact Keeps.refl | apply keeps_ite | apply Keeps.via State.mapAin_keeps | apply Keeps.via State.testJudge_keeps)
                | decide

theorem State.countEdges_keeps {s : State} {c k : Nat} {cmp : Bool} :
    Keeps 0x10000000 s (State.countEdges s c k cmp) := by
  unfold State.countEdges
  try dsimp only
  repeat' first | (intro _ _ _; dsimp only)
                | (with_reducible first | exact Keeps.refl | apply keeps_ite | apply Keeps.via (State.mapSense_keeps ?_))
                | decide | (intros; (repeat' apply And.intro) <;> with_reducible assumption)

theorem State.feedEdge_keeps {s : State} {n c : Nat} {x : Int} :
    Keeps 0x130C0800 s (State.feedEdge s n c x) := by
  unfold State.feedEdge
  try dsimp only
  repeat' first | (exact rfl)
                | (with_reducible first | exact Keeps.refl | apply keeps_ite | apply Keeps.via State.feedOne_keeps | apply Keeps.via State.injDue_keeps | apply Keeps.via State.injTake_keeps | apply Keeps.via State.injLeave_keeps | apply Keeps.via State.countEdges_keeps)
                | split

theorem State.feed_keeps {s : State} {n c : Nat} {codes : List Int} :
    Keeps 0x130C0800 s (State.feed s n c codes) := by
  unfold State.feed
  try dsimp only
  repeat' first | intro _ _ _
                | (with_reducible first | assumption | exact Keeps.refl | apply keeps_ite | apply Keeps.via State.feedEdge_keeps | apply keeps_foldl)
                | decide

theorem execHistoryFilled_keeps {c : Fin 16} {codes : List Int} {s : State} :
    OutKeeps 0x130C0800 s (execHistoryFilled c codes s) := by
  unfold execHistoryFilled
  try dsimp only
  repeat' first | (exact rfl)
                | (with_reducible first | exact Keeps.refl | apply outKeeps_next | apply Keeps.via State.feed_keeps)

theorem execComparatorCrossing_keeps {c : Fin 16} {codes : List Int} {s : State} :
    OutKeeps 0x130C0800 s (execComparatorCrossing c codes s) := by
  unfold execComparatorCrossing
  try dsimp only
  repeat' first | (exact rfl)
                | (with_reducible first | exact Keeps.refl | apply outKeeps_next | apply Keeps.via State.feed_keeps)

theorem execSaturationLost_keeps {c : Fin 16} {codes : List Int} {s : State} :
    OutKeeps 0x130C0800 s (execSaturationLost c codes s) := by
  unfold execSaturationLost
  try dsimp only
  repeat' first | (exact rfl)
                | (with_reducible first | exact Keeps.refl | apply outKeeps_next | apply Keeps.via State.feed_keeps)

theorem execInjectedSampleDone_keeps {c : Fin 16} {codes : List Int} {code : Int} {s : State} :
    OutKeeps 0x130C0800 s (execInjectedSampleDone c codes code s) := by
  unfold execInjectedSampleDone
  try dsimp only
  repeat' first | (exact rfl)
                | (with_reducible first | exact Keeps.refl | apply outKeeps_next | apply Keeps.via State.feed_keeps)

theorem State.cmpRelease_keeps {s : State} {c : Nat} :
    Keeps 0x10000000 s (State.cmpRelease s c) := by
  unfold State.cmpRelease
  try dsimp only
  repeat' first | (with_reducible first | exact Keeps.refl | apply keeps_ite | apply Keeps.via State.mapAin_keeps) | decide

theorem execComparatorRelease_keeps {c : Fin 16} {s : State} :
    OutKeeps 0x10000000 s (execComparatorRelease c s) := by
  unfold execComparatorRelease
  try dsimp only
  repeat' first | (with_reducible first | exact Keeps.refl | apply outKeeps_next | apply keeps_ite | apply Keeps.via State.cmpRelease_keeps)
                | decide

theorem State.satClear_keeps {s : State} {c : Nat} :
    Keeps 0x100C0000 s (State.satClear s c) := by
  unfold State.satClear
  try dsimp only
  repeat' first | (with_reducible first | exact Keeps.refl | apply keeps_ite | apply Keeps.via State.note_keeps | apply Keeps.via State.warnOff_keeps | apply Keeps.via State.mapAin_keeps)
                | decide

theorem execSaturationClear_keeps {c : Fin 16} {s : State} :
    OutKeeps 0x100C0000 s (execSaturationClear c s) := by
  unfold execSaturationClear
  try dsimp only
  repeat' first | (with_reducible first | exact Keeps.refl | apply outKeeps_next | apply keeps_ite | apply Keeps.via State.satClear_keeps)
                | decide

theorem State.frozenDecide_keeps {s : State} {c : Nat} :
    Keeps 0x100C0000 s (State.frozenDecide s c) := by
  unfold State.frozenDecide
  try dsimp only
  repeat' first | (with_reducible first | exact Keeps.refl | apply keeps_ite | apply Keeps.via State.note_keeps | apply Keeps.via State.warnOn_keeps | apply Keeps.via State.warnOff_keeps | apply Keeps.via State.mapAin_keeps)
                | decide

theorem State.frozenTick_keeps {s : State} {c : Nat} :
    Keeps 0x100C0000 s (State.frozenTick s c) := by
  unfold State.frozenTick
  try dsimp only
  repeat' first | (with_reducible first | exact Keeps.refl | apply keeps_ite | apply Keeps.via State.mapAin_keeps | apply Keeps.via State.frozenDecide_keeps)
                | decide

theorem execFrozenWindowEnd_keeps {c : Fin 16} {s : State} :
    OutKeeps 0x100C0000 s (execFrozenWindowEnd c s) := by
  unfold execFrozenWindowEnd
  try dsimp only
  repeat' first | (with_reducible first | exact Keeps.refl | apply outKeeps_next | apply keeps_ite | apply Keeps.via State.mapAin_keeps | apply Keeps.via State.frozenDecide_keeps)
                | decide

theorem State.frozenRestart_keeps {s : State} {c : Nat} :
    Keeps 0x10000000 s (State.frozenRestart s c) := by
  unfold State.frozenRestart
  try dsimp only
  repeat' first | (with_reducible first | exact Keeps.refl | apply Keeps.via State.mapAin_keeps) | decide

theorem State.latchAin_keeps {s : State} {c : Nat} :
    Keeps 0x10000000 s (State.latchAin s c) := by
  unfold State.latchAin
  try dsimp only
  repeat' first | (with_reducible first | exact Keeps.refl | apply Keeps.via State.mapAin_keeps) | decide

theorem State.tickAin_keeps {s : State} {n c : Nat} {codes : List Int} :
    Keeps 0x130C0800 s (State.tickAin s n c codes) := by
  unfold State.tickAin
  try dsimp only
  repeat' first | (exact rfl)
                | (with_reducible first | exact Keeps.refl | apply keeps_ite | apply Keeps.via State.countEdges_keeps | apply Keeps.via State.feed_keeps | apply Keeps.via State.cmpRelease_keeps | apply Keeps.via State.satClear_keeps | apply Keeps.via State.frozenTick_keeps | apply Keeps.via State.latchAin_keeps)

theorem State.senseLatch_keeps {s : State} {n : Nat} {codes : List (List Int)} :
    Keeps 0x130C0800 s (State.senseLatch s n codes) := by
  unfold State.senseLatch
  try dsimp only
  repeat' first | intro _ _ _
                | (with_reducible first | assumption | exact Keeps.refl | apply Keeps.via State.tickAin_keeps | apply keeps_foldl)
                | decide

theorem State.issueEdges_keeps {s : State} {n : Nat} {codes : List (List Int)} :
    Keeps 0x130C0800 s (State.issueEdges s n codes) := by
  unfold State.issueEdges
  try dsimp only
  repeat' first | intro _ _ _
                | (with_reducible first | assumption | exact Keeps.refl | apply Keeps.via State.feed_keeps | apply keeps_foldl)
                | decide

theorem State.injSoftware_keeps {s : State} {c : Nat} :
    Keeps 0x10000000 s (State.injSoftware s c) := by
  unfold State.injSoftware
  try dsimp only
  repeat' first | (exact rfl) | (with_reducible first | exact Keeps.refl | apply Keeps.via State.injRegister_keeps)

theorem execInjCommand_keeps {level : Nat} {c : Fin 25} {s : State} :
    OutKeeps 0x10000000 s (execInjCommand level c s) := by
  unfold execInjCommand
  try dsimp only
  repeat' first | (exact rfl)
                | (with_reducible first | exact Keeps.refl | apply outKeeps_next | apply keeps_ite | apply Keeps.via State.injSoftware_keeps)

theorem execAinTrigEdge_keeps {rising : Bool} {s : State} :
    OutKeeps 0x10080000 s (execAinTrigEdge rising s) := by
  unfold execAinTrigEdge
  try dsimp only
  repeat' first | intro _ _ _
                | (with_reducible first | assumption | exact Keeps.refl | apply outKeeps_next | apply keeps_ite | apply Keeps.via State.injArrive_keeps | apply keeps_foldl)
                | decide

theorem execTestInjection_keeps {c : Fin 16} {s : State} :
    OutKeeps 0x10080000 s (execTestInjection c s) := by
  unfold execTestInjection
  try dsimp only
  repeat' first | (exact rfl)
                | (with_reducible first | exact Keeps.refl | apply outKeeps_next | apply keeps_ite | apply Keeps.via State.injArrive_keeps)

theorem State.retire_keeps {s : State} {k : Nat} :
    Keeps 0x100C0000 s (State.retire s k) := by
  unfold State.retire
  try dsimp only
  repeat' first | (intro _ _ _; dsimp only)
                | (with_reducible first | exact Keeps.refl | apply Keeps.via (State.mapSense_keeps ?_) | apply Keeps.via State.warnOn_keeps | apply Keeps.via State.mapConv_keeps)
                | decide | (intros; (repeat' apply And.intro) <;> with_reducible assumption)

theorem State.rotationOff_keeps {s : State} :
    Keeps 0x100C0000 s (State.rotationOff s) := by
  unfold State.rotationOff
  try dsimp only
  repeat' first | (intro _ _ _; dsimp only)
                | (with_reducible first | exact Keeps.refl | apply Keeps.via (State.mapSense_keeps ?_) | apply Keeps.via State.warnOn_keeps)
                | decide
                | (intros; simp only [List.length_map, List.length_zipIdx, length_updAt, length_putAt, List.length_range, List.length_replicate, and_self, *]; done)

theorem State.stopRotation_keeps {s : State} {k : Nat} :
    Keeps 0x100C0000 s (State.stopRotation s k) := by
  unfold State.stopRotation
  try dsimp only
  repeat' first | (exact rfl)
                | (with_reducible first | exact Keeps.refl | apply Keeps.via State.retire_keeps | apply Keeps.via State.rotationOff_keeps)

theorem execRotationHandover_keeps {s : State} :
    OutKeeps 0x10000000 s (execRotationHandover s) := by
  unfold execRotationHandover
  try dsimp only
  repeat' first | (intro _ _ _; dsimp only)
                | (with_reducible first | exact Keeps.refl | apply outKeeps_next | apply keeps_ite | apply Keeps.via (State.mapSense_keeps ?_) | apply Keeps.via State.mapConv_keeps)
                | decide | (intros; (repeat' apply And.intro) <;> with_reducible assumption)

theorem State.calibrate_keeps {s : State} {k : Nat} :
    Keeps 0x10000000 s (State.calibrate s k) := by
  unfold State.calibrate
  try dsimp only
  repeat' first | (intro _ _ _; dsimp only) | (with_reducible first | exact Keeps.refl | apply Keeps.via State.mapConv_keeps)
                | decide | (intros; (repeat' apply And.intro) <;> with_reducible assumption)
                | (with_reducible apply keeps_sense; (with_reducible first | exact Keeps.refl | apply Keeps.via State.mapConv_keeps))

theorem execSwitchEdge_keeps {sumX sumS : Int} {s : State} :
    OutKeeps 0x100C0000 s (execSwitchEdge sumX sumS s) := by
  unfold execSwitchEdge
  try dsimp only
  repeat' first | (with_reducible first | exact Keeps.refl | apply outKeeps_next | apply keeps_ite | apply Keeps.via State.warnOff_keeps | apply Keeps.via State.warnKeep_keeps | apply Keeps.via State.mapAin_keeps | apply Keeps.via State.mapConv_keeps | apply Keeps.via State.stopRotation_keeps | apply Keeps.via State.calibrate_keeps)
                | decide

theorem execHandoverDeferralLimit_keeps {s : State} :
    OutKeeps 0x10080000 s (execHandoverDeferralLimit s) := by
  unfold execHandoverDeferralLimit
  try dsimp only
  repeat' first | (exact rfl)
                | (with_reducible first | exact Keeps.refl | apply outKeeps_next | apply keeps_ite | apply Keeps.via State.note_keeps)
                | (intros; (repeat' apply And.intro) <;> with_reducible assumption)
                | (with_reducible apply keeps_sense; (with_reducible first | exact Keeps.refl | apply outKeeps_next | apply keeps_ite | apply Keeps.via State.note_keeps))

theorem State.storeCoeffs_keeps {s : State} :
    Keeps 0x10000000 s (State.storeCoeffs s) := by
  unfold State.storeCoeffs
  try dsimp only
  repeat' first | (intro _ _ _; dsimp only)
                | (with_reducible first | exact Keeps.refl | apply keeps_ite | apply Keeps.via (State.mapSense_keeps ?_))
                | decide | (intros; (repeat' apply And.intro) <;> with_reducible assumption)

theorem execCalibrateComplete_keeps {offset gain : Int} {converged : Bool} {s : State} :
    OutKeeps 0x100C0000 s (execCalibrateComplete offset gain converged s) := by
  unfold execCalibrateComplete
  try dsimp only
  repeat' first | (intro _ _ _; dsimp only)
                | (with_reducible first | exact Keeps.refl | apply outKeeps_next | apply keeps_ite | apply Keeps.via (State.mapSense_keeps ?_) | apply Keeps.via State.mapConv_keeps | apply Keeps.via State.stopRotation_keeps | apply Keeps.via State.storeCoeffs_keeps)
                | decide | (intros; (repeat' apply And.intro) <;> with_reducible assumption) | split

theorem State.intJudge_keeps {s : State} {i : Nat} {v : Int} :
    Keeps 0x1DB0C4800 s (State.intJudge s i v) := by
  unfold State.intJudge
  try dsimp only
  repeat' first | (intro _ _ _; dsimp only)
                | (with_reducible first | exact Keeps.refl | apply keeps_ite | apply Keeps.via (State.mapSense_keeps ?_) | apply Keeps.via State.warnOn_keeps | apply Keeps.via State.trip_keeps)
                | decide
                | (intros; simp only [List.length_map, List.length_zipIdx, length_updAt, length_putAt, List.length_range, List.length_replicate, and_self, *]; done)

theorem State.passEnd_keeps {s : State} :
    Keeps 0x40000 s (State.passEnd s) := by
  unfold State.passEnd
  try dsimp only
  repeat' first | intro _ _ _
                | (with_reducible first | assumption | exact Keeps.refl | apply keeps_ite | apply Keeps.via State.warnOff_keeps | apply keeps_foldl)
                | decide

theorem execInternalChannelConverted_keeps {ch : Fin 8} {v : Int} {s : State} :
    OutKeeps 0x1DB0C4800 s (execInternalChannelConverted ch v s) := by
  unfold execInternalChannelConverted
  try dsimp only
  repeat' first | (intro _ _ _; dsimp only)
                | (with_reducible first | exact Keeps.refl | apply outKeeps_next | apply keeps_ite | apply Keeps.via (State.mapSense_keeps ?_) | apply Keeps.via State.intJudge_keeps | apply Keeps.via State.passEnd_keeps)
                | decide
                | (intros; simp only [List.length_map, List.length_zipIdx, length_updAt, length_putAt, List.length_range, List.length_replicate, and_self, *]; done)

theorem State.convsFirst_keeps {s : State} {fg : Bool} :
    Keeps 0x10000000 s (State.convsFirst s fg) := by
  unfold State.convsFirst
  try dsimp only
  repeat' first | (intro _ _ _; dsimp only)
                | (with_reducible first | exact Keeps.refl | apply Keeps.via (State.mapSense_keeps ?_)) | decide
                | (intros; simp only [List.length_map, List.length_zipIdx, length_updAt, length_putAt, List.length_range, List.length_replicate, and_self, *]; done)

theorem State.senseUp_keeps {s : State} :
    Keeps 0x10040000 s (State.senseUp s) := by
  unfold State.senseUp
  try dsimp only
  repeat' first | (intro _ _ _; dsimp only)
                | (with_reducible first | exact Keeps.refl | apply Keeps.via (State.mapMode_keeps ?_) | apply Keeps.via (State.mapSense_keeps ?_) | apply Keeps.via State.convsFirst_keeps | rfl)
                | decide
                | (intros; simp only [List.length_map, List.length_zipIdx, length_updAt, length_putAt, List.length_range, List.length_replicate, and_self, SafeState.down, *]; done)

theorem State.senseRuns_keeps {s : State} :
    Keeps 0x10084000 s (State.senseRuns s) := by
  unfold State.senseRuns
  try dsimp only
  repeat' first | (intro _ _ _; dsimp only)
                | (with_reducible first | exact Keeps.refl | apply Keeps.via (State.mapSense_keeps ?_) | apply Keeps.via State.setRun_keeps)
                | decide
                | (intros; simp only [List.length_map, List.length_zipIdx, length_updAt, length_putAt, List.length_range, List.length_replicate, and_self, *]; done)

theorem State.setCoeffs_keeps {s : State} {l : List (Int × Int)} :
    Keeps 0x10000000 s (State.setCoeffs s l) := by
  unfold State.setCoeffs
  try dsimp only
  repeat' first | (intro _ _ _; dsimp only)
                | (with_reducible first | exact Keeps.refl | apply Keeps.via (State.mapSense_keeps ?_)) | decide
                | (intros; simp only [List.length_map, List.length_zipIdx, length_updAt, length_putAt, List.length_range, List.length_replicate, and_self, *]; done)

theorem State.foreground_keeps {s : State} {cal : List (Option (Int × Int))} :
    Keeps 0x100C4000 s (State.foreground s cal) := by
  unfold State.foreground
  try dsimp only
  repeat' first | (intro _ _ _; dsimp only) | intro _ _ _
                | (with_reducible first | assumption | exact Keeps.refl | apply keeps_ite | apply Keeps.via (State.mapSense_keeps ?_) | apply Keeps.via State.note_keeps | apply Keeps.via State.retire_keeps | apply Keeps.via State.rotationOff_keeps | apply Keeps.via State.senseRuns_keeps | apply keeps_foldl)
                | decide
                | (intros; simp only [List.length_map, List.length_zipIdx, length_updAt, length_putAt, List.length_range, List.length_replicate, and_self, *]; done)

theorem State.coeffsRead_keeps {s : State} {temp : Int} :
    Keeps 0x10084000 s (State.coeffsRead s temp) := by
  unfold State.coeffsRead
  try dsimp only
  repeat' first | (intro _ _ _; dsimp only)
                | (with_reducible first | exact Keeps.refl | apply keeps_ite | apply Keeps.via (State.mapSense_keeps ?_) | apply Keeps.via State.convsFirst_keeps | apply Keeps.via State.senseRuns_keeps | apply Keeps.via State.setCoeffs_keeps)
                | decide
                | (intros; simp only [List.length_map, List.length_zipIdx, length_updAt, length_putAt, List.length_range, List.length_replicate, and_self, *]; done)

theorem execSenseCalibrationDone_keeps {temp : Int} {cal : List (Option (Int × Int))} {s : State} :
    OutKeeps 0x100C4000 s (execSenseCalibrationDone temp cal s) := by
  unfold execSenseCalibrationDone
  try dsimp only
  repeat' first | (exact rfl)
                | (with_reducible first | exact Keeps.refl | apply outKeeps_next | apply keeps_ite | apply Keeps.via State.foreground_keeps | apply Keeps.via State.coeffsRead_keeps)
                | split

end Sys2Proof.Machine
end

