-- ==== Sys2Proof/Laws/KeepSpine.lean ====
section
/-! SUPPORT. What every operation of Machine/Spine.lean leaves: its parts (the mask of Keeps) and the invariant. -/
namespace Sys2Proof.Machine

set_option Elab.async false
set_option linter.all false

set_option linter.unusedSimpArgs false
set_option linter.unusedVariables false

theorem State.spineSend_keeps {s : State} {type tick : Nat} {payload : List Nat} :
    Keeps 0x200000000 s (State.spineSend s type tick payload) := by
  unfold State.spineSend
  try dsimp only
  repeat' first | (with_reducible first | exact Keeps.refl | apply keeps_ite | apply Keeps.via State.emit_keeps) | decide

theorem State.spineForward_keeps {s : State} {p : Side} {h : Nat} {data : List Nat} :
    Keeps 0x200000000 s (State.spineForward s p h data) := by
  unfold State.spineForward
  try dsimp only
  repeat' first | (exact rfl) | (with_reducible first | exact Keeps.refl | apply keeps_ite | apply Keeps.via State.emit_keeps)

theorem State.markCopy_keeps {s : State} {x : SpineHdr} {item : Nat} :
    Keeps 0x4000000 s (State.markCopy s x item) := by
  unfold State.markCopy
  try dsimp only
  repeat' first | (with_reducible first | exact Keeps.refl | apply Keeps.via State.mapSpn_keeps) | decide

theorem State.lateMsg_keeps {s : State} :
    Keeps 0x4080000 s (State.lateMsg s) := by
  unfold State.lateMsg
  try dsimp only
  repeat' first | (with_reducible first | exact Keeps.refl | apply keeps_ite | apply Keeps.via State.mapSpn_keeps | apply Keeps.via State.note_keeps)
                | decide

theorem State.spineTake_keeps {m : Nat} {r s : State} {p : Side} {type item h : Nat} {data : List Nat} {late : Bool}
    {ok : Nat → Bool} {f : SpineHdr → State → State} (hm : within 0x204080000 m) (k : Keeps m r s)
    (hf : ∀ h t, Keeps m r t → Keeps m r (f h t)) : Keeps m r (s.spineTake p type item h data late ok f) := by
  have h1 : Keeps m r (s.spineForward p h data) := Keeps.via State.spineForward_keeps (within_trans (by decide) hm) k
  have h2 : Keeps m r ((s.spineForward p h data).markCopy (spineParse h) item) :=
    Keeps.via State.markCopy_keeps (within_trans (by decide) hm) h1
  unfold State.spineTake
  exact keeps_ite h1 (keeps_ite (Keeps.via State.lateMsg_keeps (within_trans (by decide) hm) h2) (keeps_ite (hf _ _ h2) h1))

theorem State.mapPort_keeps {s : State} {p : Side} {f : SpinePort → SpinePort} :
    Keeps 0x4000000 s (State.mapPort s p f) := by
  unfold State.mapPort
  try dsimp only
  repeat' first | (with_reducible first | exact Keeps.refl | apply Keeps.via State.mapSpn_keeps) | decide

theorem State.memberJudge_keeps {s : State} :
    Keeps 0x4080000 s (State.memberJudge s) := by
  unfold State.memberJudge
  try dsimp only
  repeat' first | (with_reducible first | exact Keeps.refl | apply keeps_ite | apply Keeps.via State.mapSpn_keeps | apply Keeps.via State.note_keeps)
                | decide

theorem State.ringJudge_keeps {s : State} :
    Keeps 0x40C0000 s (State.ringJudge s) := by
  unfold State.ringJudge
  try dsimp only
  repeat' first | (with_reducible first | exact Keeps.refl | apply keeps_ite | apply Keeps.via State.mapSpn_keeps | apply Keeps.via State.warnOn_keeps | apply Keeps.via State.warnOff_keeps | apply Keeps.via State.memberJudge_keeps)
                | decide | split

theorem State.reachJudge_keeps {s : State} :
    Keeps 0x40C0000 s (State.reachJudge s) := by
  unfold State.reachJudge
  try dsimp only
  repeat' first | (with_reducible first | exact Keeps.refl | apply keeps_ite | apply Keeps.via State.mapSpn_keeps | apply Keeps.via State.warnOn_keeps | apply Keeps.via State.warnOff_keeps)
                | decide

theorem State.sendEcho_keeps {s : State} {p : Side} :
    Keeps 0x204000000 s (State.sendEcho s p) := by
  unfold State.sendEcho
  try dsimp only
  repeat' first | (with_reducible first | exact Keeps.refl | apply Keeps.via State.spineSend_keeps | apply Keeps.via State.mapPort_keeps)
                | decide

theorem State.segMeasure_keeps {s : State} {p : Side} :
    Keeps 0x204000000 s (State.segMeasure s p) := by
  unfold State.segMeasure
  try dsimp only
  repeat' first | (with_reducible first | exact Keeps.refl | apply keeps_ite | apply Keeps.via State.mapPort_keeps | apply Keeps.via State.sendEcho_keeps)
                | decide

theorem execSegmentMeasure_keeps {p : Side} {s : State} :
    OutKeeps 0x204000000 s (execSegmentMeasure p s) := by
  unfold execSegmentMeasure
  try dsimp only
  repeat' first | (with_reducible first | exact Keeps.refl | apply outKeeps_next | apply Keeps.via State.segMeasure_keeps)
                | decide

theorem execSpineEcho_keeps {p : Side} {header : BitVec 64} {data : List Nat} {hold : BitVec 16} {s : State} :
    OutKeeps 0x204000000 s (execSpineEcho p header data hold s) := by
  unfold execSpineEcho
  try dsimp only
  repeat' first | (exact rfl)
                | (with_reducible first | exact Keeps.refl | apply outKeeps_next | apply keeps_ite | apply Keeps.via State.spineSend_keeps | apply Keeps.via State.spineForward_keeps | apply Keeps.via State.markCopy_keeps)

theorem State.segDone_keeps {s : State} {p : Side} {ns hops : Nat} :
    Keeps 0x40C0000 s (State.segDone s p ns hops) := by
  unfold State.segDone
  try dsimp only
  repeat' first | (with_reducible first | exact Keeps.refl | apply keeps_ite | apply Keeps.via State.note_keeps | apply Keeps.via State.warnOff_keeps | apply Keeps.via State.mapPort_keeps | apply Keeps.via State.ringJudge_keeps)
                | decide

theorem execSpineEchoReply_keeps {p : Side} {header : BitVec 64} {data : List Nat} {rx : BitVec 32} {s : State} :
    OutKeeps 0x2040C0000 s (execSpineEchoReply p header data rx s) := by
  unfold execSpineEchoReply
  try dsimp only
  repeat' first | (with_reducible first | exact Keeps.refl | apply outKeeps_next | apply keeps_ite | apply Keeps.via State.spineForward_keeps | apply Keeps.via State.markCopy_keeps | apply Keeps.via State.mapPort_keeps | apply Keeps.via State.sendEcho_keeps | apply Keeps.via State.segDone_keeps)
                | decide | split

theorem execSpinePortLockLost_keeps {p : Side} {s : State} :
    OutKeeps 0x40C0000 s (execSpinePortLockLost p s) := by
  unfold execSpinePortLockLost
  try dsimp only
  repeat' first | (with_reducible first | exact Keeps.refl | apply outKeeps_next | apply keeps_ite | apply Keeps.via State.warnOn_keeps | apply Keeps.via State.mapPort_keeps | apply Keeps.via State.ringJudge_keeps)
                | decide

theorem execSpinePortRestored_keeps {p : Side} {s : State} :
    OutKeeps 0x204000000 s (execSpinePortRestored p s) := by
  unfold execSpinePortRestored
  try dsimp only
  repeat' first | (with_reducible first | exact Keeps.refl | apply outKeeps_next | apply keeps_ite | apply Keeps.via State.mapPort_keeps | apply Keeps.via State.segMeasure_keeps)
                | decide

theorem State.lockLost_keeps {s : State} :
    Keeps 0x40C0000 s (State.lockLost s) := by
  unfold State.lockLost
  try dsimp only
  repeat' first | (with_reducible first | exact Keeps.refl | apply keeps_ite | apply Keeps.via State.mapSpn_keeps | apply Keeps.via State.warnOn_keeps | apply Keeps.via State.memberJudge_keeps)
                | decide

theorem State.lockGot_keeps {s : State} :
    Keeps 0x40C0000 s (State.lockGot s) := by
  unfold State.lockGot
  try dsimp only
  repeat' first | (with_reducible first | exact Keeps.refl | apply keeps_ite | apply Keeps.via State.mapSpn_keeps | apply Keeps.via State.warnOff_keeps | apply Keeps.via State.memberJudge_keeps)
                | decide

theorem State.foreignMarker_keeps {s : State} {src station code : Nat} :
    Keeps 0x40C0000 s (State.foreignMarker s src station code) := by
  unfold State.foreignMarker
  try dsimp only
  repeat' first | (with_reducible first | exact Keeps.refl | apply Keeps.via State.mapSpn_keeps | apply Keeps.via State.warnOn_keeps | apply Keeps.via State.memberJudge_keeps)
                | decide

theorem State.follow_keeps {s : State} {src : Nat} :
    Keeps 0x40C0000 s (State.follow s src) := by
  unfold State.follow
  try dsimp only
  repeat' first | (with_reducible first | exact Keeps.refl | apply keeps_ite | apply Keeps.via State.mapSpn_keeps | apply Keeps.via State.note_keeps | apply Keeps.via State.ringJudge_keeps | apply Keeps.via State.lockLost_keeps)
                | decide

theorem State.markerPhase_keeps {s : State} {p : Side} {arrival : Int} :
    Keeps 0x40C0000 s (State.markerPhase s p arrival) := by
  unfold State.markerPhase
  try dsimp only
  repeat' first | (with_reducible first | exact Keeps.refl | apply keeps_ite | apply Keeps.via State.mapSpn_keeps | apply Keeps.via State.lockLost_keeps)
                | decide

theorem State.goodMarker_keeps {s : State} {p : Side} {x : SpineHdr} {arrival : Int} :
    Keeps 0x40C0000 s (State.goodMarker s p x arrival) := by
  unfold State.goodMarker
  try dsimp only
  repeat' first | (with_reducible first | exact Keeps.refl | apply keeps_ite | apply Keeps.via State.mapSpn_keeps | apply Keeps.via State.warnOff_keeps | apply Keeps.via State.memberJudge_keeps | apply Keeps.via State.lockLost_keeps | apply Keeps.via State.follow_keeps | apply Keeps.via State.markerPhase_keeps)
                | decide

theorem execMarkerMsg_keeps {p : Side} {header : BitVec 64} {data : List Nat} {arrival : Int} {s : State} :
    OutKeeps 0x2040C0000 s (execMarkerMsg p header data arrival s) := by
  unfold execMarkerMsg
  try dsimp only
  repeat' first | (with_reducible first | exact Keeps.refl | apply outKeeps_next | apply keeps_ite | apply Keeps.via State.mapSpn_keeps | apply Keeps.via State.spineForward_keeps | apply Keeps.via State.markCopy_keeps | apply Keeps.via State.foreignMarker_keeps | apply Keeps.via State.goodMarker_keeps)
                | decide | split

theorem State.becomeMaster_keeps {s : State} :
    Keeps 0x40C0000 s (State.becomeMaster s) := by
  unfold State.becomeMaster
  try dsimp only
  repeat' first | (with_reducible first | exact Keeps.refl | apply Keeps.via State.mapSpn_keeps | apply Keeps.via State.ringJudge_keeps | apply Keeps.via State.lockGot_keeps)
                | decide

theorem execMarkerWaitExpiry_keeps {s : State} :
    OutKeeps 0x40C0000 s (execMarkerWaitExpiry s) := by
  unfold execMarkerWaitExpiry
  try dsimp only
  repeat' first | (exact rfl)
                | (with_reducible first | exact Keeps.refl | apply outKeeps_next | apply keeps_ite | apply Keeps.via State.becomeMaster_keeps)

theorem State.markerMissing_keeps {s : State} :
    Keeps 0x40C0000 s (State.markerMissing s) := by
  unfold State.markerMissing
  try dsimp only
  repeat' first | (with_reducible first | exact Keeps.refl | apply keeps_ite | apply Keeps.via State.mapSpn_keeps | apply Keeps.via State.note_keeps | apply Keeps.via State.ringJudge_keeps | apply Keeps.via State.lockLost_keeps | apply Keeps.via State.becomeMaster_keeps)
                | decide | split

theorem execMarkerMissing_keeps {s : State} :
    OutKeeps 0x44C0000 s (execMarkerMissing s) := by
  unfold execMarkerMissing
  try dsimp only
  repeat' first | (with_reducible first | exact Keeps.refl | apply outKeeps_next | apply keeps_ite | apply Keeps.via State.mapPwr_keeps | apply Keeps.via State.markerMissing_keeps)
                | decide

theorem execMarkerLossTrip_keeps {s : State} :
    OutKeeps 0x1DB0C4800 s (execMarkerLossTrip s) := by
  unfold execMarkerLossTrip
  try dsimp only
  repeat' first | (exact rfl)
                | (with_reducible first | exact Keeps.refl | apply outKeeps_next | apply keeps_ite | apply Keeps.via State.trip_keeps)

theorem execTickLockAcquired_keeps {s : State} :
    OutKeeps 0x40C0000 s (execTickLockAcquired s) := by
  unfold execTickLockAcquired
  try dsimp only
  repeat' first | (with_reducible first | exact Keeps.refl | apply outKeeps_next | apply keeps_ite | apply Keeps.via State.lockGot_keeps)
                | decide

theorem State.tickServo_keeps {s : State} :
    Keeps 0x20000100 s (State.tickServo s) := by
  unfold State.tickServo
  try dsimp only
  repeat' first | (exact rfl)
                | (with_reducible first | exact Keeps.refl | apply keeps_ite | apply Keeps.via State.drawn_keeps)
                | (with_reducible apply keeps_clk; (with_reducible first | exact Keeps.refl | apply keeps_ite | apply Keeps.via State.drawn_keeps))

theorem State.markerTick_keeps {s : State} :
    Keeps 0x2240C0100 s (State.markerTick s) := by
  unfold State.markerTick
  try dsimp only
  repeat' first | (with_reducible first | exact Keeps.refl | apply keeps_ite | apply Keeps.via State.mapSpn_keeps | apply Keeps.via State.spineSend_keeps | apply Keeps.via State.lockLost_keeps | apply Keeps.via State.lockGot_keeps | apply Keeps.via State.tickServo_keeps)
                | decide

theorem State.takeNumber_keeps {s : State} {n : Nat} :
    Keeps 0x400000C s (State.takeNumber s n) := by
  unfold State.takeNumber
  try dsimp only
  repeat' first | (with_reducible exact Keeps.refl)
                | (refine Keeps.upd ?_ rfl (fun h => (by unfold State.Good; dsimp only; exact good_upd h)); with_reducible exact Keeps.refl)

theorem State.holdCall_keeps {s : State} {c : RollCall} :
    Keeps 0x4000000 s (State.holdCall s c) := by
  unfold State.holdCall
  try dsimp only
  repeat' first | (with_reducible first | exact Keeps.refl | apply Keeps.via State.mapSpn_keeps) | decide

theorem execRollCall_keeps {p : Side} {header : BitVec 64} {data : List Nat} {late : Bool} {s : State} :
    OutKeeps 0x20408000C s (execRollCall p header data late s) := by
  unfold execRollCall
  try dsimp only
  repeat' first | intro _ _ _
                | (with_reducible first | assumption | exact Keeps.refl | apply outKeeps_next | apply keeps_ite | apply State.spineTake_keeps | apply Keeps.via State.takeNumber_keeps | apply Keeps.via State.holdCall_keeps)
                | decide

theorem State.takeRoster_keeps {s : State} :
    Keeps 0x40C0000 s (State.takeRoster s) := by
  unfold State.takeRoster
  try dsimp only
  repeat' first | (with_reducible first | exact Keeps.refl | apply keeps_ite | apply Keeps.via State.mapSpn_keeps | apply Keeps.via State.ringJudge_keeps | apply Keeps.via State.reachJudge_keeps)
                | decide

theorem State.elect_keeps {s : State} :
    Keeps 0x50C0000 s (State.elect s) := by
  unfold State.elect
  try dsimp only
  repeat' first | (with_reducible first | exact Keeps.refl | apply keeps_ite | apply Keeps.via State.mapForm_keeps | apply Keeps.via State.mapSpn_keeps | apply Keeps.via State.note_keeps | apply Keeps.via State.warnOn_keeps | apply Keeps.via State.warnOff_keeps)
                | decide

end Sys2Proof.Machine
end

