-- ==== Sys2Proof/Laws/KeepArmLaw.lean ====
section
/-! SUPPORT. What every operation of Machine/ArmLaw.lean leaves: its parts (the mask of Keeps) and the invariant. -/
namespace Sys2Proof.Machine

set_option Elab.async false
set_option linter.all false

set_option linter.unusedSimpArgs false
set_option linter.unusedVariables false

theorem State.feedforward_keeps {s : State} {u : Int} :
    Keeps 0x100 s (State.feedforward s u).2 := by
  unfold State.feedforward
  try dsimp only
  repeat' first | (with_reducible first | exact Keeps.refl | apply Keeps.via State.drawn_keeps) | decide | split

theorem State.countEvents_keeps {s : State} {limited : Bool} :
    Keeps 0x20C0000 s (State.countEvents s limited) := by
  unfold State.countEvents
  try dsimp only
  repeat' first | (with_reducible first | exact Keeps.refl | apply keeps_ite | apply Keeps.via State.mapArm_keeps | apply Keeps.via State.note_keeps | apply Keeps.via State.warnOn_keeps | apply Keeps.via State.warnOff_keeps)
                | decide

theorem State.armCount_keeps {s : State} {r : RefSet} :
    Keeps 0x20C0100 s (State.armCount s r) := by
  unfold State.armCount
  try dsimp only
  repeat' first | (with_reducible first | exact Keeps.refl | apply Keeps.via State.mapArm_keeps | apply Keeps.via State.feedforward_keeps | apply Keeps.via State.countEvents_keeps)
                | decide | split

theorem State.lostTrip_keeps {s : State} :
    Keeps 0x1DB0C4800 s (State.lostTrip s) := by
  unfold State.lostTrip
  try dsimp only
  repeat' first | (with_reducible first | exact Keeps.refl | apply keeps_ite | apply Keeps.via State.mapArm_keeps | apply Keeps.via State.trip_keeps)
                | decide

theorem State.frozenTrip_keeps {s : State} :
    Keeps 0x1DB0C4800 s (State.frozenTrip s) := by
  unfold State.frozenTrip
  try dsimp only
  repeat' first | (with_reducible first | exact Keeps.refl | apply keeps_ite | apply Keeps.via State.mapArm_keeps | apply Keeps.via State.trip_keeps)
                | decide

theorem State.armFeedback_keeps {s : State} :
    Keeps 0x1DB0C4800 s (State.armFeedback s) := by
  unfold State.armFeedback
  try dsimp only
  repeat' first | (with_reducible first | exact Keeps.refl | apply keeps_ite | apply Keeps.via State.mapArm_keeps | apply Keeps.via State.warnOn_keeps | apply Keeps.via State.warnOff_keeps | apply Keeps.via State.lostTrip_keeps | apply Keeps.via State.frozenTrip_keeps)
                | decide

theorem State.partnerTrip_keeps {s : State} :
    Keeps 0x1DB0C4800 s (State.partnerTrip s) := by
  unfold State.partnerTrip
  try dsimp only
  repeat' first | (with_reducible first | exact Keeps.refl | apply Keeps.via State.trip_keeps) | decide

theorem State.reportTick_keeps {s : State} {n : Nat} {live : Bool} :
    Keeps 0x1DB0C4800 s (State.reportTick s n live) := by
  unfold State.reportTick
  try dsimp only
  repeat' first | (with_reducible first | exact Keeps.refl | apply keeps_ite | apply Keeps.via State.mapArm_keeps | apply Keeps.via State.partnerTrip_keeps)
                | decide

theorem State.sendShare_keeps {s : State} {no : Nat} {block : Bool} :
    Keeps 0x202000000 s (State.sendShare s no block) := by
  unfold State.sendShare
  try dsimp only
  repeat' first | (with_reducible first | exact Keeps.refl | apply keeps_ite | apply Keeps.via State.mapArm_keeps | apply Keeps.via State.spineSend_keeps)
                | decide

theorem State.noInterval_keeps {s : State} :
    Keeps 0x8080000 s (State.noInterval s) := by
  unfold State.noInterval
  try dsimp only
  repeat' first | intro _ _
                | (with_reducible first | exact Keeps.refl | apply keeps_ite | apply Keeps.via (State.mapCellS_keeps ?_) | apply Keeps.via State.note_keeps)
                | decide | (intros; (repeat' apply And.intro) <;> with_reducible assumption)

theorem State.leadTarget_keeps {s : State} {n no : Nat} :
    Keeps 0x8080000 s (State.leadTarget s n no).2 := by
  unfold State.leadTarget
  try dsimp only
  repeat' first | (exact rfl) | (with_reducible first | exact Keeps.refl | apply Keeps.via State.noInterval_keeps) | split

theorem State.leadTick_keeps {s : State} :
    Keeps 0x3DB0C4900 s (State.leadTick s).2 := by
  unfold State.leadTick
  try dsimp only
  repeat' first | (with_reducible first | exact Keeps.refl | apply keeps_ite | apply Keeps.via State.mapArm_keeps | apply Keeps.via State.armCount_keeps | apply Keeps.via State.armFeedback_keeps | apply Keeps.via State.reportTick_keeps | apply Keeps.via State.sendShare_keeps | apply Keeps.via State.leadTarget_keeps)
                | decide | split

theorem State.missShare_keeps {s : State} :
    Keeps 0x2080000 s (State.missShare s) := by
  unfold State.missShare
  try dsimp only
  repeat' first | (with_reducible first | exact Keeps.refl | apply keeps_ite | apply Keeps.via State.mapArm_keeps | apply Keeps.via State.note_keeps)
                | decide

theorem State.missTrip_keeps {s : State} :
    Keeps 0x1DB0C4800 s (State.missTrip s) := by
  unfold State.missTrip
  try dsimp only
  repeat' first | (with_reducible first | exact Keeps.refl | apply keeps_ite | apply Keeps.via State.trip_keeps) | decide

theorem State.followTick_keeps {s : State} :
    Keeps 0x1DB0C4800 s (State.followTick s).2 := by
  unfold State.followTick
  try dsimp only
  repeat' first | (with_reducible first | exact Keeps.refl | apply keeps_ite | apply Keeps.via State.mapArm_keeps | apply Keeps.via State.missShare_keeps | apply Keeps.via State.missTrip_keeps)
                | decide | split

theorem State.armTick_keeps {s : State} :
    Keeps 0x3DB0C4900 s (State.armTick s).2 := by
  unfold State.armTick
  try dsimp only
  repeat' first | intro _ _
                | (with_reducible first | exact Keeps.refl | apply Keeps.via State.mapArm_keeps | apply Keeps.via (State.mapCellS_keeps ?_) | apply Keeps.via State.leadTick_keeps | apply Keeps.via State.followTick_keeps)
                | decide | (intros; (repeat' apply And.intro) <;> with_reducible assumption) | split

theorem State.armAfter_keeps {s : State} {x : ArmTick} :
    Keeps 0x208000000 s (State.armAfter s x) := by
  unfold State.armAfter
  try dsimp only
  repeat' first | intro _ _
                | (with_reducible first | exact Keeps.refl | apply keeps_ite | apply Keeps.via (State.mapCellS_keeps ?_) | apply Keeps.via State.spineSend_keeps)
                | decide | (intros; (repeat' apply And.intro) <;> with_reducible assumption)

theorem State.periodValues_keeps {s : State} :
    Keeps 0x6000000 s (State.periodValues s) := by
  unfold State.periodValues
  try dsimp only
  repeat' first | (with_reducible exact Keeps.refl) | split
                | (refine Keeps.upd ?_ rfl (fun h => (by unfold State.Good; dsimp only; exact good_upd h)); with_reducible exact Keeps.refl)

theorem State.refsLost_keeps {s : State} :
    Keeps 0x1DB0C4800 s (State.refsLost s) := by
  unfold State.refsLost
  try dsimp only
  repeat' first | (with_reducible first | exact Keeps.refl | apply keeps_ite | apply Keeps.via State.mapArm_keeps | apply Keeps.via State.warnOff_keeps | apply Keeps.via State.trip_keeps)
                | decide

theorem State.refsBoundary_keeps {s : State} :
    Keeps 0x1DB0C4800 s (State.refsBoundary s) := by
  unfold State.refsBoundary
  try dsimp only
  repeat' first | (with_reducible first | exact Keeps.refl | apply keeps_ite | apply Keeps.via State.mapArm_keeps | apply Keeps.via State.warnOn_keeps | apply Keeps.via State.warnOff_keeps | apply Keeps.via State.refsLost_keeps)
                | decide | split

theorem State.leadCount_keeps {s : State} :
    Keeps 0x1000000 s (State.leadCount s) := by
  unfold State.leadCount
  try dsimp only
  repeat' first | (with_reducible first | exact Keeps.refl | apply Keeps.via State.mapForm_keeps) | decide

theorem State.armFresh_keeps {s : State} :
    Keeps 0x6040000 s (State.armFresh s) := by
  unfold State.armFresh
  try dsimp only
  repeat' first | (exact rfl) | (with_reducible first | exact Keeps.refl | apply Keeps.via State.warnOff_keeps)
                | (refine Keeps.upd ?_ rfl (fun h => (by unfold State.Good; dsimp only; exact good_upd h)); (with_reducible first | exact Keeps.refl | apply Keeps.via State.warnOff_keeps))

theorem execShareMsg_keeps {p : Side} {header : BitVec 64} {data : List Nat} {late : Bool} {s : State} :
    OutKeeps 0x206080000 s (execShareMsg p header data late s) := by
  unfold execShareMsg
  try dsimp only
  repeat' first | intro _ _ _
                | (with_reducible first | assumption | exact Keeps.refl | apply outKeeps_next | apply keeps_ite | apply Keeps.via State.mapArm_keeps | apply State.spineTake_keeps)
                | decide

theorem execSpanReport_keeps {p : Side} {header : BitVec 64} {data : List Nat} {late : Bool} {s : State} :
    OutKeeps 0x3DF0C4800 s (execSpanReport p header data late s) := by
  unfold execSpanReport
  try dsimp only
  repeat' first | intro _ _ _
                | (with_reducible first | assumption | exact Keeps.refl | apply outKeeps_next | apply keeps_ite | apply Keeps.via State.mapArm_keeps | apply State.spineTake_keeps | apply Keeps.via State.partnerTrip_keeps)
                | decide

theorem execArmState_keeps {p : Side} {header : BitVec 64} {data : List Nat} {late : Bool} {s : State} :
    OutKeeps 0x3DF0C4800 s (execArmState p header data late s) := by
  unfold execArmState
  try dsimp only
  repeat' first | intro _ _ _
                | (with_reducible first | assumption | exact Keeps.refl | apply outKeeps_next | apply keeps_ite | apply Keeps.via State.mapSpn_keeps | apply Keeps.via State.trip_keeps | apply State.spineTake_keeps)
                | decide

theorem execArmStateMissing_keeps {s : State} :
    OutKeeps 0x1DB0C4800 s (execArmStateMissing s) := by
  unfold execArmStateMissing
  try dsimp only
  repeat' first | (with_reducible first | exact Keeps.refl | apply outKeeps_next | apply keeps_ite | apply Keeps.via State.trip_keeps)
                | decide

theorem execSpanPub_keeps {p : Side} {header : BitVec 64} {data : List Nat} {late : Bool} {s : State} :
    OutKeeps 0x204080000 s (execSpanPub p header data late s) := by
  unfold execSpanPub
  try dsimp only
  repeat' first | intro _ _ _
                | (with_reducible first | assumption | exact Keeps.refl | apply outKeeps_next | apply Keeps.via State.mapSpn_keeps | apply State.spineTake_keeps)
                | decide

theorem execShareMissing_keeps {s : State} :
    OutKeeps 0x2080000 s (execShareMissing s) := by
  unfold execShareMissing
  try dsimp only
  repeat' first | (with_reducible first | exact Keeps.refl | apply outKeeps_next | apply keeps_ite | apply Keeps.via State.missShare_keeps)
                | decide

theorem execShareMissTrip_keeps {s : State} :
    OutKeeps 0x1DB0C4800 s (execShareMissTrip s) := by
  unfold execShareMissTrip
  try dsimp only
  repeat' first | (with_reducible first | exact Keeps.refl | apply outKeeps_next | apply Keeps.via State.missTrip_keeps)
                | decide

theorem execReportMissingTrip_keeps {s : State} :
    OutKeeps 0x1DB0C4800 s (execReportMissingTrip s) := by
  unfold execReportMissingTrip
  try dsimp only
  repeat' first | (with_reducible first | exact Keeps.refl | apply outKeeps_next | apply keeps_ite | apply Keeps.via State.partnerTrip_keeps)
                | decide

theorem execRefsLostTrip_keeps {s : State} :
    OutKeeps 0x1DB0C4800 s (execRefsLostTrip s) := by
  unfold execRefsLostTrip
  try dsimp only
  repeat' first | (with_reducible first | exact Keeps.refl | apply outKeeps_next | apply keeps_ite | apply Keeps.via State.refsLost_keeps)
                | decide

theorem execLeadWaitExpiry_keeps {s : State} :
    OutKeeps 0x1DB0C4800 s (execLeadWaitExpiry s) := by
  unfold execLeadWaitExpiry
  try dsimp only
  repeat' first | (with_reducible first | exact Keeps.refl | apply outKeeps_next | apply keeps_ite | apply Keeps.via State.trip_keeps)
                | decide

theorem State.armUp_keeps {s : State} :
    Keeps 0x20C4000 s (State.armUp s) := by
  unfold State.armUp
  try dsimp only
  repeat' first | (with_reducible first | exact Keeps.refl | apply Keeps.via State.mapArm_keeps | apply Keeps.via State.warnOff_keeps | apply Keeps.via State.setRun_keeps)
                | decide

end Sys2Proof.Machine
end

