-- ==== Sys2Proof/Laws/KeepSafetyFns.lean ====
section
/-! SUPPORT. What every operation of Machine/SafetyFns.lean leaves: its parts (the mask of Keeps) and the invariant. -/
namespace Sys2Proof.Machine

set_option Elab.async false
set_option linter.all false

set_option linter.unusedSimpArgs false
set_option linter.unusedVariables false

theorem State.siCycle_keeps {s : State} {i : Nat} {first reset : Bool} :
    Keeps 0x1000C0000 s (State.siCycle s i first reset).1 := by
  unfold State.siCycle
  try dsimp only
  repeat' first | (intro _ _ _; dsimp only)
                | (with_reducible first | exact Keeps.refl | apply keeps_ite | apply Keeps.via (State.mapSafe_keeps ?_) | apply Keeps.via State.warnOn_keeps | apply Keeps.via State.warnOff_keeps)
                | decide
                | (intros; simp only [List.length_map, List.length_zipIdx, length_updAt, length_putAt, List.length_range, List.length_replicate, and_self, *]; done)

theorem State.protJudge_keeps {s : State} {item : Nat} :
    Keeps 0x1000C0000 s (State.protJudge s item) := by
  unfold State.protJudge
  try dsimp only
  repeat' first | (intro _ _ _; dsimp only)
                | (with_reducible first | exact Keeps.refl | apply keeps_ite | apply Keeps.via (State.mapSafe_keeps ?_) | apply Keeps.via State.warnOn_keeps)
                | decide | (intros; (repeat' apply And.intro) <;> with_reducible assumption)

theorem State.protStart_keeps {s : State} :
    Keeps 0x100000000 s (State.protStart s) := by
  unfold State.protStart
  try dsimp only
  repeat' first | (intro _ _ _; dsimp only)
                | (with_reducible first | exact Keeps.refl | apply Keeps.via (State.mapSafe_keeps ?_)) | decide
                | (intros; (repeat' apply And.intro) <;> with_reducible assumption)

theorem State.protWritten_keeps {s : State} :
    Keeps 0x1000C0000 s (State.protWritten s) := by
  unfold State.protWritten
  try dsimp only
  repeat' first | (intro _ _ _; dsimp only)
                | (with_reducible first | exact Keeps.refl | apply Keeps.via (State.mapSafe_keeps ?_) | apply Keeps.via State.warnOn_keeps | apply Keeps.via State.warnOff_keeps)
                | decide | (intros; (repeat' apply And.intro) <;> with_reducible assumption)

theorem State.protCycle_keeps {s : State} :
    Keeps 0x1000C0000 s (State.protCycle s) := by
  unfold State.protCycle
  try dsimp only
  repeat' first | (intro _ _ _; dsimp only) | intro _ _ _
                | (with_reducible first | assumption | exact Keeps.refl | apply keeps_ite | apply Keeps.via (State.mapSafe_keeps ?_) | apply Keeps.via State.note_keeps | apply Keeps.via State.warnOff_keeps | apply Keeps.via State.protJudge_keeps | apply keeps_foldl)
                | decide | (intros; (repeat' apply And.intro) <;> with_reducible assumption)

theorem State.protReset_keeps {s : State} :
    Keeps 0x100040000 s (State.protReset s).1 := by
  unfold State.protReset
  try dsimp only
  repeat' first | (intro _ _ _; dsimp only) | intro _ _ _
                | (with_reducible first | assumption | exact Keeps.refl | apply keeps_ite | apply Keeps.via (State.mapSafe_keeps ?_) | apply Keeps.via State.warnOff_keeps | apply keeps_foldl)
                | decide | (intros; (repeat' apply And.intro) <;> with_reducible assumption)

theorem State.sfEval_keeps {s : State} :
    Keeps 0x1030C0800 s (State.sfEval s) := by
  unfold State.sfEval
  try dsimp only
  repeat' first | (with_reducible first | exact Keeps.refl | apply Keeps.via State.sf1Set_keeps | apply Keeps.via State.sf2Set_keeps | apply Keeps.via State.releaseSet_keeps)
                | decide

theorem State.putSo_keeps {s : State} {n : Nat} {o : SafeOut} :
    Keeps 0x100000000 s (State.putSo s n o) := by
  unfold State.putSo
  try dsimp only
  repeat' first | (intro _ _ _; dsimp only)
                | (with_reducible first | exact Keeps.refl | apply Keeps.via (State.mapSafe_keeps ?_)) | decide
                | (intros; simp only [List.length_map, List.length_zipIdx, length_updAt, length_putAt, List.length_range, List.length_replicate, and_self, *]; done)

theorem State.soFault_keeps {s : State} {n cause : Nat} :
    Keeps 0x1000C0000 s (State.soFault s n cause) := by
  unfold State.soFault
  try dsimp only
  repeat' first | (with_reducible first | exact Keeps.refl | apply Keeps.via State.warnOn_keeps | apply Keeps.via State.putSo_keeps)
                | decide

theorem State.soCycle_keeps {s : State} {n : Nat} :
    Keeps 0x1000C0000 s (State.soCycle s n) := by
  unfold State.soCycle
  try dsimp only
  repeat' first | (with_reducible first | exact Keeps.refl | apply keeps_ite | apply Keeps.via State.putSo_keeps | apply Keeps.via State.soFault_keeps)
                | decide

theorem State.soStep_keeps {s : State} {n : Nat} :
    Keeps 0x1000C0000 s (State.soStep s n) := by
  unfold State.soStep
  try dsimp only
  repeat' first | (with_reducible first | exact Keeps.refl | apply keeps_ite | apply Keeps.via State.note_keeps | apply Keeps.via State.putSo_keeps | apply Keeps.via State.soFault_keeps)
                | decide | split

theorem execSoSwitchOnStep_keeps {n : Fin 4} {s : State} :
    OutKeeps 0x1000C0000 s (execSoSwitchOnStep n s) := by
  unfold execSoSwitchOnStep
  try dsimp only
  repeat' first | (with_reducible first | exact Keeps.refl | apply outKeeps_next | apply Keeps.via State.soStep_keeps)
                | decide

theorem execSoTestPulseDue_keeps {n : Fin 4} {s : State} :
    OutKeeps 0x100000000 s (execSoTestPulseDue n s) := by
  unfold execSoTestPulseDue
  try dsimp only
  repeat' first | (with_reducible first | exact Keeps.refl | apply outKeeps_next | apply keeps_ite | apply Keeps.via State.putSo_keeps)
                | decide | split

theorem State.pulseEnd_keeps {s : State} {n : Nat} :
    Keeps 0x1000C0000 s (State.pulseEnd s n) := by
  unfold State.pulseEnd
  try dsimp only
  repeat' first | (with_reducible first | exact Keeps.refl | apply keeps_ite | apply Keeps.via State.warnOn_keeps | apply Keeps.via State.putSo_keeps)
                | decide | split

theorem execSoPulseEnd_keeps {n : Fin 4} {s : State} :
    OutKeeps 0x1000C0000 s (execSoPulseEnd n s) := by
  unfold execSoPulseEnd
  try dsimp only
  repeat' first | (with_reducible first | exact Keeps.refl | apply outKeeps_next | apply Keeps.via State.pulseEnd_keeps)
                | decide

theorem State.soOpen_keeps {s : State} {n : Nat} :
    Keeps 0x1000C0000 s (State.soOpen s n) := by
  unfold State.soOpen
  try dsimp only
  repeat' first | (exact rfl)
                | (with_reducible first | exact Keeps.refl | apply keeps_ite | apply Keeps.via State.warnOn_keeps | apply Keeps.via State.warnOff_keeps | apply Keeps.via State.putSo_keeps)

theorem State.soShort_keeps {s : State} {n : Nat} :
    Keeps 0x1000C0000 s (State.soShort s n) := by
  unfold State.soShort
  try dsimp only
  repeat' first | (exact rfl)
                | (with_reducible first | exact Keeps.refl | apply keeps_ite | apply Keeps.via State.soFault_keeps)

theorem State.soReadback_keeps {s : State} {n : Nat} :
    Keeps 0x1000C0000 s (State.soReadback s n) := by
  unfold State.soReadback
  try dsimp only
  repeat' first | (exact rfl)
                | (with_reducible first | exact Keeps.refl | apply keeps_ite | apply Keeps.via State.soFault_keeps)

theorem State.soWatch_keeps {s : State} {n : Nat} :
    Keeps 0x1000C0000 s (State.soWatch s n) := by
  unfold State.soWatch
  try dsimp only
  repeat' first | (exact rfl)
                | (with_reducible first | exact Keeps.refl | apply keeps_ite | apply Keeps.via State.putSo_keeps | apply Keeps.via State.soOpen_keeps | apply Keeps.via State.soShort_keeps | apply Keeps.via State.soReadback_keeps)

theorem execSoDiagTimer_keeps {n : Fin 4} {which : Fin 5} {present : Bool} {s : State} :
    OutKeeps 0x1000C0000 s (execSoDiagTimer n which present s) := by
  unfold execSoDiagTimer
  try dsimp only
  repeat' first | (exact rfl)
                | (with_reducible first | exact Keeps.refl | apply outKeeps_next | apply keeps_ite | apply Keeps.via State.warnOff_keeps | apply Keeps.via State.putSo_keeps | apply Keeps.via State.soFault_keeps | apply Keeps.via State.soOpen_keeps | apply Keeps.via State.soShort_keeps | apply Keeps.via State.soReadback_keeps)
                | split

theorem State.soReset_keeps {s : State} {n : Nat} :
    Keeps 0x100040000 s (State.soReset s n).1 := by
  unfold State.soReset
  try dsimp only
  repeat' first | intro _ _ _
                | (with_reducible first | assumption | exact Keeps.refl | apply Keeps.via State.warnOff_keeps | apply Keeps.via State.putSo_keeps | apply keeps_foldl)
                | decide | split

theorem State.putConn_keeps {s : State} {c : Nat} {x : SlConn} :
    Keeps 0x100000000 s (State.putConn s c x) := by
  unfold State.putConn
  try dsimp only
  repeat' first | (intro _ _ _; dsimp only)
                | (with_reducible first | exact Keeps.refl | apply Keeps.via (State.mapSafe_keeps ?_)) | decide
                | (intros; simp only [List.length_map, List.length_zipIdx, length_updAt, length_putAt, List.length_range, List.length_replicate, and_self, *]; done)

theorem State.slData_keeps {s : State} {c : Nat} :
    Keeps 0x100000000 s (State.slData s c) := by
  unfold State.slData
  try dsimp only
  repeat' first | (intro _ _ _; dsimp only)
                | (with_reducible first | exact Keeps.refl | apply keeps_ite | apply Keeps.via (State.mapSafe_keeps ?_) | apply Keeps.via State.putConn_keeps)
                | decide | (intros; (repeat' apply And.intro) <;> with_reducible assumption)

theorem State.slLost_keeps {s : State} {c cause : Nat} :
    Keeps 0x1000C0000 s (State.slLost s c cause) := by
  unfold State.slLost
  try dsimp only
  repeat' first | (with_reducible first | exact Keeps.refl | apply Keeps.via State.warnOn_keeps | apply Keeps.via State.putConn_keeps | apply Keeps.via State.slData_keeps)
                | decide

theorem State.slError_keeps {s : State} {c : Nat} :
    Keeps 0x1000C0000 s (State.slError s c) := by
  unfold State.slError
  try dsimp only
  repeat' first | (with_reducible first | exact Keeps.refl | apply keeps_ite | apply Keeps.via State.putConn_keeps | apply Keeps.via State.slLost_keeps)
                | decide

theorem State.slJoin_keeps {s : State} {c seq raw : Nat} {startup : Bool} :
    Keeps 0x1000C0000 s (State.slJoin s c seq raw startup) := by
  unfold State.slJoin
  try dsimp only
  repeat' first | (with_reducible first | exact Keeps.refl | apply keeps_ite | apply Keeps.via State.note_keeps | apply Keeps.via State.warnOff_keeps | apply Keeps.via State.putConn_keeps | apply Keeps.via State.slData_keeps)
                | decide

theorem State.slJudge_keeps {s : State} {c : Nat} {bs : List Nat} :
    Keeps 0x1000C0000 s (State.slJudge s c bs) := by
  unfold State.slJudge
  try dsimp only
  repeat' first | (with_reducible first | exact Keeps.refl | apply keeps_ite | apply Keeps.via State.putConn_keeps | apply Keeps.via State.slData_keeps | apply Keeps.via State.slLost_keeps | apply Keeps.via State.slError_keeps | apply Keeps.via State.slJoin_keeps)
                | decide | split

theorem State.slDatagram_keeps {s : State} {src : Nat} {bs : List Nat} :
    Keeps 0x1000C0000 s (State.slDatagram s src bs) := by
  unfold State.slDatagram
  try dsimp only
  repeat' first | (intro _ _ _; dsimp only) | intro _ _ _
                | (with_reducible first | assumption | exact Keeps.refl | apply keeps_ite | apply Keeps.via (State.mapSafe_keeps ?_) | apply Keeps.via State.warnOn_keeps | apply Keeps.via State.warnOff_keeps | apply Keeps.via State.slJudge_keeps | apply keeps_foldl)
                | decide | (intros; (repeat' apply And.intro) <;> with_reducible assumption)

theorem execSafetyFrame_keeps {p : Side} {rct : Option (Nat × Nat)} {src : Nat} {bytes : List Nat} {s : State} :
    OutKeeps 0x1002C0000 s (execSafetyFrame p rct src bytes s) := by
  unfold execSafetyFrame
  try dsimp only
  repeat' first | (with_reducible first | exact Keeps.refl | apply outKeeps_next | apply keeps_ite | apply Keeps.via State.ingress_keeps | apply Keeps.via State.slDatagram_keeps)
                | decide

theorem execSlWatchdogExpiry_keeps {c : Fin 8} {s : State} :
    OutKeeps 0x1000C0000 s (execSlWatchdogExpiry c s) := by
  unfold execSlWatchdogExpiry
  try dsimp only
  repeat' first | (with_reducible first | exact Keeps.refl | apply outKeeps_next | apply keeps_ite | apply Keeps.via State.slLost_keeps)
                | decide

theorem execSlProduce_keeps {c : Fin 8} {s : State} :
    OutKeeps 0x300000000 s (execSlProduce c s) := by
  unfold execSlProduce
  try dsimp only
  repeat' first | (with_reducible first | exact Keeps.refl | apply outKeeps_next | apply keeps_ite | apply Keeps.via State.emit_keeps | apply Keeps.via State.putConn_keeps)
                | decide

theorem State.connReset_keeps {s : State} {c : Nat} :
    Keeps 0x100000000 s (State.connReset s c).1 := by
  unfold State.connReset
  try dsimp only
  repeat' first | (with_reducible first | exact Keeps.refl | apply Keeps.via State.putConn_keeps | apply Keeps.via State.slData_keeps)
                | decide | split

theorem State.resetItems_keeps {s : State} :
    Keeps 0x100040000 s (State.resetItems s).1 := by
  unfold State.resetItems
  try dsimp only
  repeat' first | (intro _ _ _; dsimp only)
                | (with_reducible first | assumption | exact Keeps.refl | apply Keeps.via State.protReset_keeps | apply Keeps.via State.soReset_keeps | apply Keeps.via State.connReset_keeps | apply keeps_foldl_fst)
                | decide

theorem State.safetyCycle_keeps {s : State} :
    Keeps 0x1030C0800 s (State.safetyCycle s) := by
  unfold State.safetyCycle
  try dsimp only
  repeat' first | (intro _ _ _; dsimp only) | intro _ _ _
                | (with_reducible first | assumption | exact Keeps.refl | apply keeps_ite | apply Keeps.via (State.mapSafe_keeps ?_) | apply Keeps.via State.note_keeps | apply Keeps.via State.siCycle_keeps | apply Keeps.via State.protCycle_keeps | apply Keeps.via State.sfEval_keeps | apply Keeps.via State.soCycle_keeps | apply Keeps.via State.soWatch_keeps | apply Keeps.via State.resetItems_keeps | apply keeps_foldl | apply keeps_foldl_fst)
                | decide | (intros; (repeat' apply And.intro) <;> with_reducible assumption)

theorem execSafetyCycle_keeps {s : State} :
    OutKeeps 0x1030C0800 s (execSafetyCycle s) := by
  unfold execSafetyCycle
  try dsimp only
  repeat' first | (with_reducible first | exact Keeps.refl | apply outKeeps_next | apply Keeps.via State.safetyCycle_keeps)
                | decide

theorem State.sfApply_keeps {s : State} :
    Keeps 0x1030C0800 s (State.sfApply s) := by
  unfold State.sfApply
  try dsimp only
  repeat' first | intro _ _ _
                | (with_reducible first | assumption | exact Keeps.refl | apply Keeps.via State.sfEval_keeps | apply Keeps.via State.soCycle_keeps | apply keeps_foldl)
                | decide

theorem execProtItemLatch_keeps {item : Fin 6} {s : State} :
    OutKeeps 0x1030C0800 s (execProtItemLatch item s) := by
  unfold execProtItemLatch
  try dsimp only
  repeat' first | (with_reducible first | exact Keeps.refl | apply outKeeps_next | apply keeps_ite | apply Keeps.via State.protJudge_keeps | apply Keeps.via State.sfApply_keeps)
                | decide

theorem execDiscrepancyTimeout_keeps {inp : Fin 8} {s : State} :
    OutKeeps 0x1030C0800 s (execDiscrepancyTimeout inp s) := by
  unfold execDiscrepancyTimeout
  try dsimp only
  repeat' first | (with_reducible first | exact Keeps.refl | apply outKeeps_next | apply keeps_ite | apply Keeps.via State.siCycle_keeps | apply Keeps.via State.sfApply_keeps)
                | decide

theorem execIntlkDwellElapsed_keeps {s : State} :
    OutKeeps 0x1030C0800 s (execIntlkDwellElapsed s) := by
  unfold execIntlkDwellElapsed
  try dsimp only
  repeat' first | (with_reducible first | exact Keeps.refl | apply outKeeps_next | apply keeps_ite | apply Keeps.via State.sfApply_keeps)
                | decide | split

theorem State.lockstepStop_keeps {s : State} {code : Nat} :
    Keeps 0x1DF4C4800 s (State.lockstepStop s code) := by
  unfold State.lockstepStop
  try dsimp only
  repeat' first | (intro _ _ _; dsimp only)
                | (with_reducible first | exact Keeps.refl | apply Keeps.via (State.mapSafe_keeps ?_) | apply Keeps.via State.safeFault_keeps | apply Keeps.via State.barrierDown_keeps)
                | decide
                | (intros; simp only [List.length_map, List.length_zipIdx, length_updAt, length_putAt, List.length_range, List.length_replicate, and_self, *]; done)

theorem execLockstepMismatch_keeps {s : State} :
    OutKeeps 0x1DF4C4800 s (execLockstepMismatch s) := by
  unfold execLockstepMismatch
  try dsimp only
  repeat' first | (with_reducible first | exact Keeps.refl | apply outKeeps_next | apply keeps_ite | apply Keeps.via State.lockstepStop_keeps)
                | decide

theorem execLockstepSelftestFail_keeps {s : State} :
    OutKeeps 0x1DF4C4800 s (execLockstepSelftestFail s) := by
  unfold execLockstepSelftestFail
  try dsimp only
  repeat' first | (with_reducible first | exact Keeps.refl | apply outKeeps_next | apply keeps_ite | apply Keeps.via State.lockstepStop_keeps)
                | decide

theorem State.safeReset_keeps {s : State} :
    Keeps 0x100000000 s (State.safeReset s) := by
  unfold State.safeReset
  try dsimp only
  repeat' first | (intro _ _ _; dsimp only)
                | (with_reducible first | exact Keeps.refl | apply Keeps.via (State.mapSafe_keeps ?_)) | decide
                | (intros; (repeat' apply And.intro) <;> with_reducible assumption)

theorem execSafeReset_keeps {level : Nat} {s : State} :
    OutKeeps 0x100000000 s (execSafeReset level s) := by
  unfold execSafeReset
  try dsimp only
  repeat' first | (with_reducible first | exact Keeps.refl | apply outKeeps_next | apply keeps_ite | apply Keeps.via State.safeReset_keeps)
                | decide

theorem execProtStart_keeps {level : Nat} {s : State} :
    OutKeeps 0x100000000 s (execProtStart level s) := by
  unfold execProtStart
  try dsimp only
  repeat' first | (with_reducible first | exact Keeps.refl | apply outKeeps_next | apply keeps_ite | apply Keeps.via State.protStart_keeps)
                | decide

theorem State.safetyWritten_keeps {s : State} :
    Keeps 0x1000C0000 s (State.safetyWritten s) := by
  unfold State.safetyWritten
  try dsimp only
  repeat' first | (exact rfl) | (intro _ _ _; dsimp only)
                | (with_reducible first | exact Keeps.refl | apply Keeps.via (State.mapMode_keeps ?_) | apply Keeps.via (State.mapSafe_keeps ?_) | apply Keeps.via State.note_keeps)
                | decide | (intros; (repeat' apply And.intro) <;> with_reducible assumption)

theorem State.safetyConfirm_keeps {s : State} {level v : Nat} :
    Keeps 0x1000C0000 s (State.safetyConfirm s level v) := by
  unfold State.safetyConfirm
  try dsimp only
  repeat' first | (exact rfl) | (intro _ _ _; dsimp only)
                | (with_reducible first | exact Keeps.refl | apply keeps_ite | apply Keeps.via (State.mapMode_keeps ?_) | apply Keeps.via (State.mapSafe_keeps ?_) | apply Keeps.via State.note_keeps | apply Keeps.via State.warn_keeps)
                | decide | (intros; (repeat' apply And.intro) <;> with_reducible assumption)

theorem execSafetyConfirm_keeps {level : Nat} {v : BitVec 32} {s : State} :
    OutKeeps 0x1000C0000 s (execSafetyConfirm level v s) := by
  unfold execSafetyConfirm
  try dsimp only
  repeat' first | (with_reducible first | exact Keeps.refl | apply outKeeps_next | apply Keeps.via State.safetyConfirm_keeps)
                | decide

theorem State.safetyUp_keeps {s : State} :
    Keeps 0x100084000 s (State.safetyUp s) := by
  unfold State.safetyUp
  try dsimp only
  repeat' first | (intro _ _ _; dsimp only)
                | (with_reducible first | exact Keeps.refl | apply Keeps.via (State.mapSafe_keeps ?_) | apply Keeps.via State.setRun_keeps | apply Keeps.via State.protStart_keeps)
                | decide
                | (intros; simp only [List.length_map, List.length_zipIdx, length_updAt, length_putAt, List.length_range, List.length_replicate, and_self, *]; done)

end Sys2Proof.Machine
end

