-- ==== Sys2Proof/Laws/KeepSpineLaw.lean ====
section
/-! SUPPORT. What every operation of Machine/SpineLaw.lean leaves: its parts (the mask of Keeps) and the invariant. -/
namespace Sys2Proof.Machine

set_option Elab.async false
set_option linter.all false

set_option linter.unusedSimpArgs false
set_option linter.unusedVariables false

theorem execMeasMsg_keeps {p : Side} {header : BitVec 64} {data : List Nat} {late : Bool} {s : State} :
    OutKeeps 0x204080000 s (execMeasMsg p header data late s) := by
  unfold execMeasMsg
  try dsimp only
  repeat' first | intro _ _ _
                | (with_reducible first | assumption | exact Keeps.refl | apply outKeeps_next | apply Keeps.via State.mapSpn_keeps | apply State.spineTake_keeps)
                | decide | split

theorem execSetpointMsg_keeps {p : Side} {header : BitVec 64} {data : List Nat} {late : Bool} {s : State} :
    OutKeeps 0x204080000 s (execSetpointMsg p header data late s) := by
  unfold execSetpointMsg
  try dsimp only
  repeat' first | intro _ _ _
                | (with_reducible first | assumption | exact Keeps.refl | apply outKeeps_next | apply keeps_ite | apply Keeps.via State.mapSpn_keeps | apply State.spineTake_keeps)
                | decide

theorem execRefsMsg_keeps {p : Side} {header : BitVec 64} {data : List Nat} {late : Bool} {s : State} :
    OutKeeps 0x206080000 s (execRefsMsg p header data late s) := by
  unfold execRefsMsg
  try dsimp only
  repeat' first | intro _ _ _
                | (with_reducible first | assumption | exact Keeps.refl | apply outKeeps_next | apply keeps_ite | apply Keeps.via State.mapArm_keeps | apply Keeps.via State.mapSpn_keeps | apply Keeps.via State.warn_keeps | apply State.spineTake_keeps)
                | decide

theorem execStateMsg_keeps {p : Side} {header : BitVec 64} {data : List Nat} {late : Bool} {s : State} :
    OutKeeps 0x204080000 s (execStateMsg p header data late s) := by
  unfold execStateMsg
  try dsimp only
  repeat' first | intro _ _ _
                | (with_reducible first | assumption | exact Keeps.refl | apply outKeeps_next | apply keeps_ite | apply Keeps.via State.mapSpn_keeps | apply State.spineTake_keeps)
                | decide

theorem State.holdSetpoint_keeps {s : State} {sub : Nat} {v : Int} :
    Keeps 0x4000000 s (State.holdSetpoint s sub v) := by
  unfold State.holdSetpoint
  try dsimp only
  repeat' first | (with_reducible first | exact Keeps.refl | apply Keeps.via State.mapSpn_keeps) | decide

theorem execStationSetpointWrite_keeps {level : Nat} {sub : Fin 4} {value : BitVec 32} {s : State} :
    OutKeeps 0x4000000 s (execStationSetpointWrite level sub value s) := by
  unfold execStationSetpointWrite
  try dsimp only
  repeat' first | (with_reducible first | exact Keeps.refl | apply outKeeps_next | apply keeps_ite | apply Keeps.via State.holdSetpoint_keeps)
                | decide

theorem State.applySetpoints_keeps {s : State} :
    Keeps 0x4000800 s (State.applySetpoints s) := by
  unfold State.applySetpoints
  try dsimp only
  repeat' first | intro _ _ _
                | (with_reducible first | assumption | exact Keeps.refl | apply Keeps.via State.setObj_keeps | apply Keeps.via State.mapSpn_keeps | apply keeps_foldl)
                | decide

theorem State.publishMeas_keeps {s : State} {m : MeasItem} :
    Keeps 0x204000000 s (State.publishMeas s m) := by
  unfold State.publishMeas
  try dsimp only
  repeat' first | (with_reducible first | exact Keeps.refl | apply Keeps.via State.mapSpn_keeps | apply Keeps.via State.spineSend_keeps)
                | decide

theorem State.pubLatch_keeps {s : State} :
    Keeps 0x1DF0C4800 s (State.pubLatch s) := by
  unfold State.pubLatch
  try dsimp only
  repeat' first | (with_reducible first | exact Keeps.refl | apply keeps_ite | apply Keeps.via State.mapSpn_keeps | apply Keeps.via State.avCheck_keeps)
                | decide

theorem State.spanPublish_keeps {s : State} {p : Nat × Nat × Nat} :
    Keeps 0x204000000 s (State.spanPublish s p) := by
  unfold State.spanPublish
  try dsimp only
  repeat' first | (with_reducible first | exact Keeps.refl | apply keeps_ite | apply Keeps.via State.mapSpn_keeps | apply Keeps.via State.spineSend_keeps)
                | decide

theorem State.setpointPublish_keeps {s : State} :
    Keeps 0x204000000 s (State.setpointPublish s) := by
  unfold State.setpointPublish
  try dsimp only
  repeat' first | intro _ _ _
                | (with_reducible first | assumption | exact Keeps.refl | apply keeps_ite | apply Keeps.via State.mapSpn_keeps | apply Keeps.via State.spineSend_keeps | apply keeps_foldl)
                | decide

theorem State.rollCall_keeps {s : State} {c : RollCall} :
    Keeps 0x204000000 s (State.rollCall s c) := by
  unfold State.rollCall
  try dsimp only
  repeat' first | (with_reducible first | exact Keeps.refl | apply keeps_ite | apply Keeps.via State.mapSpn_keeps | apply Keeps.via State.spineSend_keeps | apply Keeps.via State.holdCall_keeps)
                | decide

theorem State.publishAll_keeps {s : State} :
    Keeps 0x204000000 s (State.publishAll s) := by
  unfold State.publishAll
  try dsimp only
  repeat' first | intro _ _ _
                | (with_reducible first | assumption | exact Keeps.refl | apply Keeps.via State.publishMeas_keeps | apply Keeps.via State.spanPublish_keeps | apply Keeps.via State.setpointPublish_keeps | apply Keeps.via State.rollCall_keeps | apply keeps_foldl)
                | decide

theorem State.refsSend_keeps {s : State} :
    Keeps 0x202000040 s (State.refsSend s) := by
  unfold State.refsSend
  try dsimp only
  repeat' first | (with_reducible first | exact Keeps.refl | apply keeps_ite | apply Keeps.via State.mapArm_keeps | apply Keeps.via State.spineSend_keeps)
                | decide | split
                | (with_reducible apply keeps_refsDone; (with_reducible first | exact Keeps.refl | apply keeps_ite | apply Keeps.via State.mapArm_keeps | apply Keeps.via State.spineSend_keeps))

theorem execRefsSend_keeps {s : State} :
    OutKeeps 0x3DB0C4860 s (execRefsSend s) := by
  unfold execRefsSend
  try dsimp only
  repeat' first | (with_reducible first | exact Keeps.refl | apply outKeeps_next | apply keeps_ite | apply Keeps.via State.slotsFinish_keeps | apply Keeps.via State.refsSend_keeps)
                | decide

theorem State.shadowLimit_keeps {s : State} :
    Keeps 0x10C0000 s (State.shadowLimit s) := by
  unfold State.shadowLimit
  try dsimp only
  repeat' first | (with_reducible first | exact Keeps.refl | apply keeps_ite | apply Keeps.via State.mapForm_keeps | apply Keeps.via State.warnOn_keeps)
                | decide

theorem State.shadowRestore_keeps {s : State} :
    Keeps 0x1040000 s (State.shadowRestore s) := by
  unfold State.shadowRestore
  try dsimp only
  repeat' first | (with_reducible first | exact Keeps.refl | apply keeps_ite | apply Keeps.via State.mapForm_keeps | apply Keeps.via State.warnOff_keeps)
                | decide

theorem State.shadowMatch_keeps {s : State} :
    Keeps 0x1040000 s (State.shadowMatch s) := by
  unfold State.shadowMatch
  try dsimp only
  repeat' first | (with_reducible first | exact Keeps.refl | apply Keeps.via State.mapForm_keeps | apply Keeps.via State.shadowRestore_keeps)
                | decide

theorem State.shadowMismatch_keeps {s : State} {b : LawBlock} :
    Keeps 0x10C0000 s (State.shadowMismatch s b) := by
  unfold State.shadowMismatch
  try dsimp only
  repeat' first | (with_reducible first | exact Keeps.refl | apply Keeps.via State.mapForm_keeps | apply Keeps.via State.note_keeps | apply Keeps.via State.shadowLimit_keeps)
                | decide

theorem State.shadowCheck_keeps {s : State} :
    Keeps 0x10C0000 s (State.shadowCheck s) := by
  unfold State.shadowCheck
  try dsimp only
  repeat' first | (with_reducible first | exact Keeps.refl | apply keeps_ite | apply Keeps.via State.mapForm_keeps | apply Keeps.via State.warnOff_keeps | apply Keeps.via State.shadowMatch_keeps | apply Keeps.via State.shadowMismatch_keeps)
                | decide | split

theorem execShadowMismatchLimit_keeps {s : State} :
    OutKeeps 0x10C0000 s (execShadowMismatchLimit s) := by
  unfold execShadowMismatchLimit
  try dsimp only
  repeat' first | (with_reducible first | exact Keeps.refl | apply outKeeps_next | apply Keeps.via State.shadowLimit_keeps)
                | decide

theorem execShadowMatchRestore_keeps {s : State} :
    OutKeeps 0x1040000 s (execShadowMatchRestore s) := by
  unfold execShadowMatchRestore
  try dsimp only
  repeat' first | (with_reducible first | exact Keeps.refl | apply outKeeps_next | apply Keeps.via State.shadowRestore_keeps)
                | decide

theorem State.activeOnly_keeps {s : State} :
    Keeps 0x4000000 s (State.activeOnly s) := by
  unfold State.activeOnly
  try dsimp only
  repeat' first | (with_reducible first | exact Keeps.refl | apply Keeps.via State.mapSpn_keeps) | decide

theorem State.spineClear_keeps {s : State} :
    Keeps 0x4000000 s (State.spineClear s) := by
  unfold State.spineClear
  try dsimp only
  repeat' first | (with_reducible first | exact Keeps.refl | apply Keeps.via State.mapSpn_keeps) | decide

end Sys2Proof.Machine
end

