-- ==== Sys2Proof/Laws/KeepTrunk.lean ====
section
/-! SUPPORT. What every operation of Machine/Trunk.lean leaves: its parts (the mask of Keeps) and the invariant. -/
namespace Sys2Proof.Machine

set_option Elab.async false
set_option linter.all false

set_option linter.unusedSimpArgs false
set_option linter.unusedVariables false

theorem State.mgmtSend_keeps {s : State} {q type : Nat} {data : List Nat} :
    Keeps 0x208000000 s (State.mgmtSend s q type data) := by
  unfold State.mgmtSend
  try dsimp only
  repeat' first | (with_reducible first | exact Keeps.refl | apply Keeps.via State.emit_keeps | apply Keeps.via State.mapTrk_keeps)
                | decide

theorem State.mgmtDone_keeps {s : State} {q type : Nat} :
    Keeps 0x8000000 s (State.mgmtDone s q type) := by
  unfold State.mgmtDone
  try dsimp only
  repeat' first | (with_reducible first | exact Keeps.refl | apply keeps_ite | apply Keeps.via State.mapTrk_keeps) | decide
                | split

theorem State.mgmtAgain_keeps {s : State} {q : Nat} :
    Keeps 0x208000000 s (State.mgmtAgain s q) := by
  unfold State.mgmtAgain
  try dsimp only
  repeat' first | (with_reducible first | exact Keeps.refl | apply keeps_ite | apply Keeps.via State.mgmtSend_keeps) | decide
                | split

theorem execMgmtRequestTimeout_keeps {q : Fin 8} {s : State} :
    OutKeeps 0x208000000 s (execMgmtRequestTimeout q s) := by
  unfold execMgmtRequestTimeout
  try dsimp only
  repeat' first | (with_reducible first | exact Keeps.refl | apply outKeeps_next | apply Keeps.via State.mgmtAgain_keeps)
                | decide

theorem State.mgmtTick_keeps {s : State} {q : Nat} :
    Keeps 0x208000000 s (State.mgmtTick s q) := by
  unfold State.mgmtTick
  try dsimp only
  repeat' first | (with_reducible first | exact Keeps.refl | apply keeps_ite | apply Keeps.via State.mgmtSend_keeps | apply Keeps.via State.mgmtAgain_keeps)
                | decide

theorem State.abandon_keeps {s : State} {q : Nat} :
    Keeps 0x8000000 s (State.abandon s q) := by
  unfold State.abandon
  try dsimp only
  repeat' first | intro _ _ _
                | (with_reducible first | assumption | exact Keeps.refl | apply Keeps.via State.mapCell_keeps | apply keeps_foldl)
                | decide

theorem State.bringFail_keeps {s : State} {q code cause : Nat} {payload : List Nat} :
    Keeps 0x80C0000 s (State.bringFail s q code cause payload) := by
  unfold State.bringFail
  try dsimp only
  repeat' first | (with_reducible first | exact Keeps.refl | apply keeps_ite | apply Keeps.via State.warnHold_keeps | apply Keeps.via State.warnKeep_keeps | apply Keeps.via State.mapTrk_keeps | apply Keeps.via State.abandon_keeps)
                | decide

theorem State.trunkWell_keeps {s : State} {q : Nat} :
    Keeps 0x40000 s (State.trunkWell s q) := by
  unfold State.trunkWell
  try dsimp only
  repeat' first | (exact rfl) | (with_reducible first | exact Keeps.refl | apply Keeps.via State.warnOff_keeps)

theorem State.quireLoss_keeps {s : State} :
    Keeps 0x1DB0C4800 s (State.quireLoss s) := by
  unfold State.quireLoss
  try dsimp only
  repeat' first | (with_reducible first | exact Keeps.refl | apply keeps_ite | apply Keeps.via State.warnOn_keeps | apply Keeps.via State.warnOff_keeps | apply Keeps.via State.trip_keeps)
                | decide

theorem State.leaveUp_keeps {s : State} {q cause : Nat} :
    Keeps 0x80C0000 s (State.leaveUp s q cause) := by
  unfold State.leaveUp
  try dsimp only
  repeat' first | (with_reducible first | exact Keeps.refl | apply keeps_ite | apply Keeps.via State.warnKeep_keeps | apply Keeps.via State.mapTrk_keeps | apply Keeps.via State.abandon_keeps)
                | decide

theorem State.leaveJudge_keeps {s : State} {q : Nat} :
    Keeps 0x80C0000 s (State.leaveJudge s q) := by
  unfold State.leaveJudge
  try dsimp only
  repeat' first | (with_reducible first | exact Keeps.refl | apply keeps_ite | apply Keeps.via State.leaveUp_keeps) | decide

theorem execTrunkLeavesUp_keeps {q : Fin 8} {s : State} :
    OutKeeps 0x1DB0C4800 s (execTrunkLeavesUp q s) := by
  unfold execTrunkLeavesUp
  try dsimp only
  repeat' first | (with_reducible first | exact Keeps.refl | apply outKeeps_next | apply Keeps.via State.quireLoss_keeps | apply Keeps.via State.leaveJudge_keeps)
                | decide

theorem execTrunkBlockLockLost_keeps {q : Fin 8} {down : Bool} {s : State} :
    OutKeeps 0x1DB0C4800 s (execTrunkBlockLockLost q down s) := by
  unfold execTrunkBlockLockLost
  try dsimp only
  repeat' first | (with_reducible first | exact Keeps.refl | apply outKeeps_next | apply keeps_ite | apply Keeps.via State.mapTrk_keeps | apply Keeps.via State.bringFail_keeps | apply Keeps.via State.quireLoss_keeps | apply Keeps.via State.leaveUp_keeps)
                | decide

theorem State.mailFail_keeps {s : State} {c gd : Nat} :
    Keeps 0x80C0000 s (State.mailFail s c gd) := by
  unfold State.mailFail
  try dsimp only
  repeat' first | (with_reducible first | exact Keeps.refl | apply keeps_ite | apply Keeps.via State.warnKeep_keeps | apply Keeps.via State.mapCell_keeps | apply Keeps.via State.markFail_keeps)
                | decide

theorem State.mailIn_keeps {s : State} {c : Nat} :
    Keeps 0x80C0000 s (State.mailIn s c) := by
  unfold State.mailIn
  try dsimp only
  repeat' first | (with_reducible first | exact Keeps.refl | apply keeps_ite | apply Keeps.via State.warnOff_keeps | apply Keeps.via State.mapCell_keeps | apply Keeps.via State.mapTrk_keeps | apply Keeps.via State.mailFail_keeps)
                | decide | split

theorem State.mailLate_keeps {s : State} {c n : Nat} :
    Keeps 0x80C0000 s (State.mailLate s c n) := by
  unfold State.mailLate
  try dsimp only
  repeat' first | (with_reducible first | exact Keeps.refl | apply keeps_ite | apply Keeps.via State.mailFail_keeps) | decide
                | split

theorem execMailboxReadTimeout_keeps {c : Fin 256} {s : State} :
    OutKeeps 0x80C0000 s (execMailboxReadTimeout c s) := by
  unfold execMailboxReadTimeout
  try dsimp only
  repeat' first | (with_reducible first | exact Keeps.refl | apply outKeeps_next | apply Keeps.via State.mailLate_keeps)
                | decide

theorem State.mailSend_keeps {s : State} {q n : Nat} {b0 : Option (Nat × Nat × Bool × MailWhy)} :
    Keeps 0x8000000 s (State.mailSend s q n b0) := by
  unfold State.mailSend
  try dsimp only
  repeat' first | (with_reducible first | exact Keeps.refl | apply keeps_ite | apply Keeps.via State.mapCell_keeps | apply Keeps.via State.mapTrk_keeps)
                | decide | split

theorem execPeriodicReadback_keeps {q : Fin 8} {s : State} :
    OutKeeps 0x8000000 s (execPeriodicReadback q s) := by
  unfold execPeriodicReadback
  try dsimp only
  repeat' first | (with_reducible first | exact Keeps.refl | apply outKeeps_next | apply keeps_ite | apply Keeps.via State.mapCell_keeps | apply Keeps.via State.mapTrk_keeps)
                | decide | split

theorem State.gdVerify_keeps {s : State} :
    Keeps 0x8000000 s (State.gdVerify s) := by
  unfold State.gdVerify
  try dsimp only
  repeat' first | intro _ _ _
                | (with_reducible first | assumption | exact Keeps.refl | apply keeps_ite | apply Keeps.via State.mapCell_keeps | apply keeps_foldl)
                | decide

theorem execGdVerify_keeps {level : Nat} {s : State} :
    OutKeeps 0x8000000 s (execGdVerify level s) := by
  unfold execGdVerify
  try dsimp only
  repeat' first | (with_reducible first | exact Keeps.refl | apply outKeeps_next | apply keeps_ite | apply Keeps.via State.gdVerify_keeps)
                | decide

theorem State.sendFrame_keeps {s : State} {q n : Nat} {words : List Nat} :
    Keeps 0x208000000 s (State.sendFrame s q n words) := by
  unfold State.sendFrame
  try dsimp only
  repeat' first | (with_reducible first | exact Keeps.refl | apply Keeps.via State.emit_keeps | apply Keeps.via State.mailSend_keeps)
                | decide

theorem State.issue_keeps {s : State} {n : Nat} {words : List Nat} {block : Bool} :
    Keeps 0x208200000 s (State.issue s n words block) := by
  unfold State.issue
  try dsimp only
  repeat' first | (intro _ _ _; dsimp only) | intro _ _ _ | intro _ _
                | (with_reducible first | assumption | exact Keeps.refl | apply keeps_ite | apply Keeps.via State.record_keeps | apply Keeps.via State.sendFrame_keeps | apply keeps_foldl)
                | decide | (intros; (repeat' apply And.intro) <;> with_reducible assumption)
                | (intros; simp only [List.length_map, List.length_zipIdx, length_updAt, length_putAt, List.length_range, List.length_replicate, and_self, *]; done)
                | (with_reducible apply keeps_fab; (with_reducible first | assumption | exact Keeps.refl | apply keeps_ite | apply Keeps.via State.record_keeps | apply Keeps.via State.sendFrame_keeps | apply keeps_foldl))
                | (with_reducible apply keeps_cell; (with_reducible first | assumption | exact Keeps.refl | apply keeps_ite | apply Keeps.via State.record_keeps | apply Keeps.via State.sendFrame_keeps | apply keeps_foldl))

theorem execUplinkFrame_keeps {q : Fin 8} {head : List Nat} {words : List (List Nat)} {s : State} :
    OutKeeps 0x8000000 s (execUplinkFrame q head words s) := by
  unfold execUplinkFrame
  try dsimp only
  repeat' first | (with_reducible first | exact Keeps.refl | apply outKeeps_next | apply keeps_ite | apply Keeps.via State.mapTrk_keeps)
                | decide

theorem State.alarmChange_keeps {s : State} {q code detail : Nat} :
    Keeps 0x80C0000 s (State.alarmChange s q code detail) := by
  unfold State.alarmChange
  try dsimp only
  repeat' first | (with_reducible first | exact Keeps.refl | apply keeps_ite | apply Keeps.via State.warnOn_keeps | apply Keeps.via State.warnOff_keeps | apply Keeps.via State.mapTrk_keeps)
                | decide

theorem execHubAlarm_keeps {q : Fin 8} {code : BitVec 8} {detail : BitVec 32} {s : State} :
    OutKeeps 0x80C0000 s (execHubAlarm q code detail s) := by
  unfold execHubAlarm
  try dsimp only
  repeat' first | (with_reducible first | exact Keeps.refl | apply outKeeps_next | apply keeps_ite | apply Keeps.via State.alarmChange_keeps)
                | decide

theorem State.headerHold_keeps {s : State} {q h : Nat} :
    Keeps 0x8000000 s (State.headerHold s q h) := by
  unfold State.headerHold
  try dsimp only
  repeat' first | intro _ _ | (with_reducible first | exact Keeps.refl | apply Keeps.via State.mapTrk_keeps) | decide
                | (intros; (repeat' apply And.intro) <;> with_reducible assumption) | split
                | (with_reducible apply keeps_cell; (with_reducible first | exact Keeps.refl | apply Keeps.via State.mapTrk_keeps))

theorem State.liveHold_keeps {s : State} {q h : Nat} :
    Keeps 0x800000 s (State.liveHold s q h) := by
  unfold State.liveHold
  try dsimp only
  repeat' first | (with_reducible first | exact Keeps.refl | apply keeps_ite | apply Keeps.via State.mapDpx_keeps) | decide
                | split

theorem State.headerAlarm_keeps {s : State} {q code : Nat} :
    Keeps 0x80C0100 s (State.headerAlarm s q code) := by
  unfold State.headerAlarm
  try dsimp only
  repeat' first | (with_reducible first | exact Keeps.refl | apply keeps_ite | apply Keeps.via State.drawn_keeps | apply Keeps.via State.alarmChange_keeps)
                | decide

theorem State.conflictLeave_keeps {s : State} {q : Nat} :
    Keeps 0x80C0100 s (State.conflictLeave s q) := by
  unfold State.conflictLeave
  try dsimp only
  repeat' first | (with_reducible first | exact Keeps.refl | apply keeps_ite | apply Keeps.via State.drawn_keeps | apply Keeps.via State.leaveUp_keeps)
                | decide

theorem State.headerEpoch_keeps {s : State} {q ep : Nat} {conflict : Bool} :
    Keeps 0x1DB8C4900 s (State.headerEpoch s q ep conflict) := by
  unfold State.headerEpoch
  try dsimp only
  repeat' first | (exact rfl)
                | (with_reducible first | exact Keeps.refl | apply keeps_ite | apply Keeps.via State.warnOn_keeps | apply Keeps.via State.warnOff_keeps | apply Keeps.via State.trip_keeps | apply Keeps.via State.leaseLost_keeps | apply Keeps.via State.conflictLeave_keeps)
                | (intros; (repeat' apply And.intro) <;> with_reducible assumption)
                | (with_reducible apply keeps_cell; (with_reducible first | exact Keeps.refl | apply keeps_ite | apply Keeps.via State.warnOn_keeps | apply Keeps.via State.warnOff_keeps | apply Keeps.via State.trip_keeps | apply Keeps.via State.leaseLost_keeps | apply Keeps.via State.conflictLeave_keeps))

theorem State.headerIn_keeps {s : State} {q h : Nat} :
    Keeps 0x1DB8C4900 s (State.headerIn s q h) := by
  unfold State.headerIn
  try dsimp only
  repeat' first | (with_reducible first | exact Keeps.refl | apply Keeps.via State.headerHold_keeps | apply Keeps.via State.liveHold_keeps | apply Keeps.via State.headerAlarm_keeps | apply Keeps.via State.headerEpoch_keeps)
                | decide

theorem State.wordIn_keeps {s : State} {q n c : Nat} {w : List Nat} :
    Keeps 0x8080000 s (State.wordIn s q n c w) := by
  unfold State.wordIn
  try dsimp only
  repeat' first | (with_reducible first | exact Keeps.refl | apply keeps_ite | apply Keeps.via State.note_keeps | apply Keeps.via State.mapCell_keeps | apply Keeps.via State.mapTrk_keeps)
                | decide

theorem State.latchTrunk_keeps {s : State} {q n : Nat} :
    Keeps 0x1DB8C4900 s (State.latchTrunk s q n) := by
  unfold State.latchTrunk
  try dsimp only
  repeat' first | intro _ _ _
                | (with_reducible first | assumption | exact Keeps.refl | apply keeps_ite | apply Keeps.via State.mapTrk_keeps | apply Keeps.via State.headerIn_keeps | apply Keeps.via State.wordIn_keeps | apply keeps_foldl)
                | decide | split

theorem State.lostCount_keeps {s : State} {c n : Nat} {others : Bool} :
    Keeps 0x8000000 s (State.lostCount s c n others) := by
  unfold State.lostCount
  try dsimp only
  repeat' first | (with_reducible first | exact Keeps.refl | apply Keeps.via State.mapCell_keeps) | decide

theorem State.lostJudge_keeps {s : State} {c : Nat} :
    Keeps 0x80C0000 s (State.lostJudge s c) := by
  unfold State.lostJudge
  try dsimp only
  repeat' first | (with_reducible first | exact Keeps.refl | apply keeps_ite | apply Keeps.via State.markFail_keeps) | decide

theorem execTelLost_keeps {c : Fin 256} {s : State} :
    OutKeeps 0x80C0000 s (execTelLost c s) := by
  unfold execTelLost
  try dsimp only
  repeat' first | (with_reducible first | exact Keeps.refl | apply outKeeps_next | apply Keeps.via State.lostJudge_keeps)
                | decide

theorem State.appliedJudge_keeps {s : State} {c : Nat} :
    Keeps 0x80C0000 s (State.appliedJudge s c) := by
  unfold State.appliedJudge
  try dsimp only
  repeat' first | (with_reducible first | exact Keeps.refl | apply keeps_ite | apply Keeps.via State.note_keeps | apply Keeps.via State.warnOn_keeps | apply Keeps.via State.warnOff_keeps | apply Keeps.via State.mapCell_keeps)
                | decide

theorem State.mismatchJudge_keeps {s : State} {c : Nat} :
    Keeps 0x80C0000 s (State.mismatchJudge s c) := by
  unfold State.mismatchJudge
  try dsimp only
  repeat' first | (exact rfl)
                | (with_reducible first | exact Keeps.refl | apply keeps_ite | apply Keeps.via State.markFail_keeps)

theorem execAppliedMismatchLimit_keeps {c : Fin 256} {s : State} :
    OutKeeps 0x80C0000 s (execAppliedMismatchLimit c s) := by
  unfold execAppliedMismatchLimit
  try dsimp only
  repeat' first | (with_reducible first | exact Keeps.refl | apply outKeeps_next | apply Keeps.via State.mismatchJudge_keeps)
                | decide

theorem State.hotJudge_keeps {s : State} {c : Nat} :
    Keeps 0x8080000 s (State.hotJudge s c) := by
  unfold State.hotJudge
  try dsimp only
  repeat' first | (with_reducible first | exact Keeps.refl | apply keeps_ite | apply Keeps.via State.note_keeps | apply Keeps.via State.mapCell_keeps)
                | decide

theorem State.react_keeps {s : State} {c n : Nat} :
    Keeps 0x80C0000 s (State.react s c n) := by
  unfold State.react
  try dsimp only
  repeat' first | (with_reducible first | exact Keeps.refl | apply keeps_ite | apply Keeps.via State.mapCell_keeps | apply Keeps.via State.markFail_keeps | apply Keeps.via State.appliedJudge_keeps | apply Keeps.via State.mismatchJudge_keeps | apply Keeps.via State.hotJudge_keeps)
                | decide | split

theorem State.latchCell_keeps {s : State} {c n : Nat} {others : Bool} :
    Keeps 0x80C0000 s (State.latchCell s c n others) := by
  unfold State.latchCell
  try dsimp only
  repeat' first | (with_reducible first | exact Keeps.refl | apply keeps_ite | apply Keeps.via State.mapCell_keeps | apply Keeps.via State.markFail_keeps | apply Keeps.via State.refreshJudge_keeps | apply Keeps.via State.refreshBegin_keeps | apply Keeps.via State.staleJudge_keeps | apply Keeps.via State.mailIn_keeps | apply Keeps.via State.mailLate_keeps | apply Keeps.via State.lostCount_keeps | apply Keeps.via State.lostJudge_keeps | apply Keeps.via State.react_keeps)
                | decide

theorem State.latchCells_keeps {s : State} {q n : Nat} :
    Keeps 0x80C0000 s (State.latchCells s q n) := by
  unfold State.latchCells
  try dsimp only
  repeat' first | intro _ _ _
                | (with_reducible first | assumption | exact Keeps.refl | apply Keeps.via State.latchCell_keeps | apply keeps_foldl)
                | decide

theorem State.verifyDone_keeps {s : State} {q : Nat} :
    Keeps 0x1DB0C4800 s (State.verifyDone s q) := by
  unfold State.verifyDone
  try dsimp only
  repeat' first | (with_reducible first | exact Keeps.refl | apply keeps_ite | apply Keeps.via State.note_keeps | apply Keeps.via State.mapTrk_keeps | apply Keeps.via State.abandon_keeps | apply Keeps.via State.trunkWell_keeps | apply Keeps.via State.quireLoss_keeps)
                | decide

theorem execTrunkVerifyComplete_keeps {q : Fin 8} {s : State} :
    OutKeeps 0x1DB0C4800 s (execTrunkVerifyComplete q s) := by
  unfold execTrunkVerifyComplete
  try dsimp only
  repeat' first | (with_reducible first | exact Keeps.refl | apply outKeeps_next | apply Keeps.via State.verifyDone_keeps)
                | decide

theorem State.cellLatch_keeps {s : State} {n : Nat} :
    Keeps 0x3DB8C4900 s (State.cellLatch s n) := by
  unfold State.cellLatch
  try dsimp only
  repeat' first | intro _ _ _ | intro _ _
                | (with_reducible first | assumption | exact Keeps.refl | apply keeps_ite | apply Keeps.via State.mgmtTick_keeps | apply Keeps.via State.quireLoss_keeps | apply Keeps.via State.leaveJudge_keeps | apply Keeps.via State.latchTrunk_keeps | apply Keeps.via State.latchCells_keeps | apply Keeps.via State.verifyDone_keeps | apply keeps_foldl)
                | decide | (intros; (repeat' apply And.intro) <;> with_reducible assumption)
                | (with_reducible apply keeps_cell; (with_reducible first | assumption | exact Keeps.refl | apply keeps_ite | apply Keeps.via State.mgmtTick_keeps | apply Keeps.via State.quireLoss_keeps | apply Keeps.via State.leaveJudge_keeps | apply Keeps.via State.latchTrunk_keeps | apply Keeps.via State.latchCells_keeps | apply Keeps.via State.verifyDone_keeps | apply keeps_foldl))

theorem execTrunkTrainComplete_keeps {q : Fin 8} {locked : Bool} {s : State} :
    OutKeeps 0x80C0000 s (execTrunkTrainComplete q locked s) := by
  unfold execTrunkTrainComplete
  try dsimp only
  repeat' first | (with_reducible first | exact Keeps.refl | apply outKeeps_next | apply keeps_ite | apply Keeps.via State.mapTrk_keeps | apply Keeps.via State.bringFail_keeps)
                | decide

theorem execTrunkEchoReply_keeps {q : Fin 8} {sent : BitVec 32} {hold : BitVec 16} {rt : Nat} {s : State} :
    OutKeeps 0x8000000 s (execTrunkEchoReply q sent hold rt s) := by
  unfold execTrunkEchoReply
  try dsimp only
  repeat' first | (with_reducible first | exact Keeps.refl | apply outKeeps_next | apply keeps_ite | apply Keeps.via State.mapTrk_keeps)
                | decide | split

theorem execTrunkMeasureComplete_keeps {q : Fin 8} {s : State} :
    OutKeeps 0x80C0000 s (execTrunkMeasureComplete q s) := by
  unfold execTrunkMeasureComplete
  try dsimp only
  repeat' first | (with_reducible first | exact Keeps.refl | apply outKeeps_next | apply keeps_ite | apply Keeps.via State.mapTrk_keeps | apply Keeps.via State.bringFail_keeps)
                | decide

theorem execDelayAck_keeps {q : Fin 8} {aligned : Bool} {s : State} :
    OutKeeps 0x8000000 s (execDelayAck q aligned s) := by
  unfold execDelayAck
  try dsimp only
  repeat' first | (with_reducible first | exact Keeps.refl | apply outKeeps_next | apply keeps_ite | apply Keeps.via State.mapTrk_keeps | apply Keeps.via State.mgmtDone_keeps)
                | decide

theorem execHubInfo_keeps {q : Fin 8} {data : List Nat} {s : State} :
    OutKeeps 0x8000000 s (execHubInfo q data s) := by
  unfold execHubInfo
  try dsimp only
  repeat' first | (with_reducible first | exact Keeps.refl | apply outKeeps_next | apply keeps_ite | apply Keeps.via State.mapTrk_keeps | apply Keeps.via State.mgmtDone_keeps)
                | decide

theorem execCellDelays_keeps {q : Fin 8} {ds : List Nat} {s : State} :
    OutKeeps 0x8000000 s (execCellDelays q ds s) := by
  unfold execCellDelays
  try dsimp only
  repeat' first | intro _ _ _
                | (with_reducible first | assumption | exact Keeps.refl | apply outKeeps_next | apply keeps_ite | apply Keeps.via State.mapCell_keeps | apply Keeps.via State.mapTrk_keeps | apply Keeps.via State.mgmtDone_keeps | apply keeps_foldl)
                | decide

theorem execTrunkAlignComplete_keeps {q : Fin 8} {s : State} :
    OutKeeps 0x80C0000 s (execTrunkAlignComplete q s) := by
  unfold execTrunkAlignComplete
  try dsimp only
  repeat' first | (with_reducible first | exact Keeps.refl | apply outKeeps_next | apply keeps_ite | apply Keeps.via State.mapTrk_keeps | apply Keeps.via State.abandon_keeps | apply Keeps.via State.bringFail_keeps)
                | decide

theorem execTrunkRetryExpiry_keeps {q : Fin 8} {s : State} :
    OutKeeps 0x8000000 s (execTrunkRetryExpiry q s) := by
  unfold execTrunkRetryExpiry
  try dsimp only
  repeat' first | (with_reducible first | exact Keeps.refl | apply outKeeps_next | apply keeps_ite | apply Keeps.via State.mapTrk_keeps)
                | decide

theorem State.trunksTrain_keeps {s : State} :
    Keeps 0x8000000 s (State.trunksTrain s) := by
  unfold State.trunksTrain
  try dsimp only
  repeat' first | intro _ _ | (with_reducible exact Keeps.refl) | decide
                | (intros; simp only [List.length_map, List.length_zipIdx, length_updAt, length_putAt, List.length_range, List.length_replicate, and_self, *]; done)
                | (with_reducible apply keeps_cell; with_reducible exact Keeps.refl)

theorem State.trunkUp_keeps {s : State} :
    Keeps 0x8040000 s (State.trunkUp s) := by
  unfold State.trunkUp
  try dsimp only
  repeat' first | intro _ _ _ | intro _ _
                | (with_reducible first | assumption | exact Keeps.refl | apply Keeps.via State.trunkWell_keeps | apply Keeps.via State.trunksTrain_keeps | apply keeps_foldl)
                | decide
                | (intros; simp only [List.length_map, List.length_zipIdx, length_updAt, length_putAt, List.length_range, List.length_replicate, and_self, *]; done)
                | (with_reducible apply keeps_cell; (with_reducible first | assumption | exact Keeps.refl | apply Keeps.via State.trunkWell_keeps | apply Keeps.via State.trunksTrain_keeps | apply keeps_foldl))

end Sys2Proof.Machine
end

