-- ==== Sys2Proof/Laws/KeepRuns.lean ====
section
/-! SUPPORT. What every operation of Machine/Runs.lean leaves: its parts (the mask of Keeps) and the invariant. -/
namespace Sys2Proof.Machine

set_option Elab.async false
set_option linter.all false

set_option linter.unusedSimpArgs false
set_option linter.unusedVariables false

theorem State.setDue_keeps {s : State} {n : Fn} {d : Bool} :
    Keeps 0x4000 s (State.setDue s n d) := by
  unfold State.setDue
  try dsimp only
  repeat' first | (with_reducible exact Keeps.refl) | decide
                | (with_reducible apply keeps_fns; with_reducible exact Keeps.refl)

theorem State.runApply_keeps {s : State} {n : Fn} {cmd : Nat} :
    Keeps 0xC4000 s (State.runApply s n cmd) := by
  unfold State.runApply
  try dsimp only
  repeat' first | (exact rfl) | (with_reducible first | exact Keeps.refl | apply keeps_ite | apply Keeps.via (State.mapMode_keeps ?_) | apply Keeps.via State.offer_keeps | apply Keeps.via State.setRun_keeps | apply Keeps.via State.setDue_keeps)
                | decide

theorem execRunStart_keeps {level : Nat} {n : Fn} {s : State} :
    OutKeeps 0xC4000 s (execRunStart level n s) := by
  unfold execRunStart
  try dsimp only
  repeat' first | (with_reducible first | exact Keeps.refl | apply outKeeps_next | apply keeps_ite | apply Keeps.via State.runApply_keeps)
                | decide

theorem execRunStop_keeps {level : Nat} {n : Fn} {s : State} :
    OutKeeps 0xC4000 s (execRunStop level n s) := by
  unfold execRunStop
  try dsimp only
  repeat' first | (with_reducible first | exact Keeps.refl | apply outKeeps_next | apply keeps_ite | apply Keeps.via State.runApply_keeps)
                | decide

theorem State.bringUp_keeps {s : State} {b0 : Fn} :
    Keeps 0x1FB0C4000 s (State.bringUp s b0) := by
  unfold State.bringUp
  try dsimp only
  repeat' first | (with_reducible first | exact Keeps.refl | apply Keeps.via State.setRun_keeps | apply Keeps.via State.recordUp_keeps | apply Keeps.via State.clockUp_keeps | apply Keeps.via State.senseUp_keeps | apply Keeps.via State.selectUp_keeps | apply Keeps.via State.timeUp_keeps | apply Keeps.via State.fieldUp_keeps | apply Keeps.via State.formUp_keeps | apply Keeps.via State.armUp_keeps | apply Keeps.via State.trunkUp_keeps | apply Keeps.via State.safetyUp_keeps)
                | decide | split

theorem State.startDone_keeps {s : State} {n : Fn} {memOk : Bool} :
    Keeps 0x1FB0C4000 s (State.startDone s n memOk) := by
  unfold State.startDone
  try dsimp only
  repeat' first | (with_reducible first | exact Keeps.refl | apply keeps_ite | apply Keeps.via State.offer_keeps | apply Keeps.via State.setRun_keeps | apply Keeps.via State.setCheck_keeps | apply Keeps.via State.noteLimits_keeps | apply Keeps.via State.setDue_keeps | apply Keeps.via State.bringUp_keeps)
                | decide

theorem execStartCheckDone_keeps {n : Fn} {memOk : Bool} {s : State} :
    OutKeeps 0x1FB0C4000 s (execStartCheckDone n memOk s) := by
  unfold execStartCheckDone
  try dsimp only
  repeat' first | (with_reducible first | exact Keeps.refl | apply outKeeps_next | apply Keeps.via State.startDone_keeps)
                | decide

theorem State.stopDone_keeps {s : State} {n : Fn} :
    Keeps 0x1DB0C4800 s (State.stopDone s n) := by
  unfold State.stopDone
  try dsimp only
  repeat' first | (with_reducible first | exact Keeps.refl | apply keeps_ite | apply Keeps.via State.setRun_keeps | apply Keeps.via State.fnDown_keeps)
                | decide

theorem execStopComplete_keeps {n : Fn} {s : State} :
    OutKeeps 0x1DB0C4800 s (execStopComplete n s) := by
  unfold execStopComplete
  try dsimp only
  repeat' first | (with_reducible first | exact Keeps.refl | apply outKeeps_next | apply Keeps.via State.stopDone_keeps)
                | decide

theorem State.setModeCheck_keeps {s : State} {c : Nat} :
    Keeps 0x40000 s (State.setModeCheck s c) := by
  unfold State.setModeCheck
  try dsimp only
  repeat' first | (exact rfl) | (with_reducible first | exact Keeps.refl | apply Keeps.via (State.mapMode_keeps ?_)) | decide

theorem State.modeRefuse_keeps {s : State} {r code : Nat} :
    Keeps 0xC0000 s (State.modeRefuse s r code).2 := by
  unfold State.modeRefuse
  try dsimp only
  repeat' first | (with_reducible first | exact Keeps.refl | apply Keeps.via State.note_keeps | apply Keeps.via State.setModeCheck_keeps)
                | decide

theorem State.modeRequest_keeps {s : State} {level r : Nat} :
    Keeps 0x30C0800 s (State.modeRequest s level r).2 := by
  unfold State.modeRequest
  try dsimp only
  repeat' first | (with_reducible first | exact Keeps.refl | apply Keeps.via (State.mapMode_keeps ?_) | apply Keeps.via State.setMode_keeps | apply Keeps.via State.setModeCheck_keeps | apply Keeps.via State.modeRefuse_keeps | rfl)
                | decide | split

theorem execModeRequestCommission_keeps {level : Nat} {s : State} :
    OutKeeps 0x30C0800 s (execModeRequestCommission level s) := by
  unfold execModeRequestCommission
  try dsimp only
  repeat' first | (exact rfl)
                | (with_reducible first | exact Keeps.refl | apply outKeeps_next | apply Keeps.via State.modeRequest_keeps)

theorem execModeRequestBlocked_keeps {level : Nat} {s : State} :
    OutKeeps 0x30C0800 s (execModeRequestBlocked level s) := by
  unfold execModeRequestBlocked
  try dsimp only
  repeat' first | (exact rfl)
                | (with_reducible first | exact Keeps.refl | apply outKeeps_next | apply Keeps.via State.modeRequest_keeps)

theorem execModeRequestForming_keeps {level : Nat} {s : State} :
    OutKeeps 0x30C0800 s (execModeRequestForming level s) := by
  unfold execModeRequestForming
  try dsimp only
  repeat' first | (exact rfl)
                | (with_reducible first | exact Keeps.refl | apply outKeeps_next | apply Keeps.via State.modeRequest_keeps)

theorem State.commitConfig_keeps {s : State} :
    Keeps 0x2000 s (State.commitConfig s) := by
  unfold State.commitConfig
  try dsimp only
  repeat' first | (with_reducible exact Keeps.refl) | decide
                | (with_reducible apply keeps_commitAt; with_reducible exact Keeps.refl)

theorem execConfigCommit_keeps {level : Nat} {s : State} :
    OutKeeps 0x2000 s (execConfigCommit level s) := by
  unfold execConfigCommit
  try dsimp only
  repeat' first | (with_reducible first | exact Keeps.refl | apply outKeeps_next | apply keeps_ite | apply Keeps.via State.commitConfig_keeps)
                | decide

theorem State.commitDone_keeps {s : State} : Keeps 0x43000 s s.commitDone := by
  unfold State.commitDone
  split
  · exact Keeps.refl
  · dsimp only
    split
    · exact Keeps.upd Keeps.refl rfl id
    · refine Keeps.via (State.mapMode_keeps rfl) (by decide) (Keeps.via State.warnOff_keeps (by decide)
        (Keeps.upd Keeps.refl rfl (fun h => ?_)))
      unfold State.Good; dsimp only
      exact good_set h h.1 (tcanon_filter h.1) h.2.2.1 rfl

theorem State.setTickLen_keeps {s : State} {v : Nat} :
    Keeps 0x40000 s (State.setTickLen s v) := by
  unfold State.setTickLen
  try dsimp only
  repeat' first | (exact rfl) | (with_reducible first | exact Keeps.refl | apply Keeps.via (State.mapMode_keeps ?_)) | decide

theorem execTickLengthWrite_keeps {level : Nat} {v : BitVec 8} {s : State} :
    OutKeeps 0x40000 s (execTickLengthWrite level v s) := by
  unfold execTickLengthWrite
  try dsimp only
  repeat' first | (with_reducible first | exact Keeps.refl | apply outKeeps_next | apply keeps_ite | apply Keeps.via State.setTickLen_keeps)
                | decide

theorem State.tickLenApply_keeps {s : State} :
    Keeps 0x40800 s (State.tickLenApply s) := by
  unfold State.tickLenApply
  try dsimp only
  repeat' first | (exact rfl) | (with_reducible first | exact Keeps.refl | apply Keeps.via State.setObj_keeps | apply Keeps.via (State.mapMode_keeps ?_))
                | decide | split

end Sys2Proof.Machine
end

