-- ==== Sys2Proof/Laws/KeepVerify.lean ====
section
/-! SUPPORT. What every operation of Machine/Verify.lean leaves: its parts (the mask of Keeps) and the invariant. -/
namespace Sys2Proof.Machine

set_option Elab.async false
set_option linter.all false

set_option linter.unusedSimpArgs false
set_option linter.unusedVariables false

theorem State.runSecure_keeps {s : State} {i : Nat} :
    Keeps 0x100000 s (State.runSecure s i) := by
  unfold State.runSecure
  try dsimp only
  repeat' first | (with_reducible first | exact Keeps.refl | apply Keeps.via State.mapSec_keeps) | decide | split

theorem State.bootImages_keeps {s : State} :
    Keeps 0x1C0000 s (State.bootImages s).2 := by
  unfold State.bootImages
  try dsimp only
  repeat' first | (exact rfl)
                | (with_reducible first | exact Keeps.refl | apply keeps_ite | apply Keeps.via State.warnOn_keeps | apply Keeps.via State.warnOff_keeps | apply Keeps.via State.runSecure_keeps)
                | split

theorem State.runApp_keeps {s : State} {i : Nat} :
    Keeps 0x100000 s (State.runApp s i) := by
  unfold State.runApp
  try dsimp only
  repeat' first | (with_reducible first | exact Keeps.refl | apply Keeps.via State.mapSec_keeps) | decide | split

theorem State.bootApps_keeps {s : State} :
    Keeps 0x1C0000 s (State.bootApps s) := by
  unfold State.bootApps
  try dsimp only
  repeat' first | intro _ _ _
                | (with_reducible first | assumption | exact Keeps.refl | apply keeps_ite | apply Keeps.via State.mapSec_keeps | apply Keeps.via State.warnOn_keeps | apply Keeps.via State.warnOff_keeps | apply Keeps.via State.runApp_keeps | apply keeps_foldl)
                | decide | split

theorem execFirmwareVerify_keeps {s : State} :
    OutKeeps 0x5C0000 s (execFirmwareVerify s) := by
  unfold execFirmwareVerify
  try dsimp only
  repeat' first | (with_reducible first | exact Keeps.refl | apply outKeeps_next | apply keeps_ite | apply Keeps.via State.bootImages_keeps | apply Keeps.via State.bootApps_keeps)
                | decide
                | (with_reducible apply keeps_pwr; (with_reducible first | exact Keeps.refl | apply outKeeps_next | apply keeps_ite | apply Keeps.via State.bootImages_keeps | apply Keeps.via State.bootApps_keeps))

theorem State.bootColophon_keeps {s : State} :
    Keeps 0x180000 s (State.bootColophon s).2 := by
  unfold State.bootColophon
  try dsimp only
  repeat' first | (with_reducible first | exact Keeps.refl | apply Keeps.via State.mapSec_keeps | apply Keeps.via State.warn_keeps)
                | decide | split

theorem State.bootLms_keeps {s : State} :
    Keeps 0x1C0000 s (State.bootLms s).2 := by
  unfold State.bootLms
  try dsimp only
  repeat' first | (with_reducible first | exact Keeps.refl | apply keeps_ite | apply Keeps.via State.mapSec_keeps | apply Keeps.via State.warn_keeps | apply Keeps.via State.warnHold_keeps)
                | decide | split

theorem State.lmsAdvance_keeps {s : State} {okA okB : Bool} :
    Keeps 0x1C0000 s (State.lmsAdvance s okA okB).2 := by
  unfold State.lmsAdvance
  try dsimp only
  repeat' first | (with_reducible first | exact Keeps.refl | apply keeps_ite | apply Keeps.via State.mapSec_keeps | apply Keeps.via State.warnOn_keeps | apply Keeps.via State.warnOff_keeps | apply Keeps.via State.warnKeep_keeps)
                | decide | split

theorem execLmsTokenRefill_keeps {s : State} :
    OutKeeps 0x100000 s (execLmsTokenRefill s) := by
  unfold execLmsTokenRefill
  try dsimp only
  repeat' first | (with_reducible first | exact Keeps.refl | apply outKeeps_next | apply keeps_ite | apply Keeps.via State.mapSec_keeps)
                | decide

theorem State.fuseSvn_keeps {s : State} {v : Nat} :
    Keeps 0x180000 s (State.fuseSvn s v) := by
  unfold State.fuseSvn
  try dsimp only
  repeat' first | (with_reducible first | exact Keeps.refl | apply keeps_ite | apply Keeps.via State.mapSec_keeps | apply Keeps.via State.note_keeps)
                | decide

theorem execFuseSvn_keeps {level : Nat} {v : BitVec 16} {s : State} :
    OutKeeps 0x180000 s (execFuseSvn level v s) := by
  unfold execFuseSvn
  try dsimp only
  repeat' first | (with_reducible first | exact Keeps.refl | apply outKeeps_next | apply keeps_ite | apply Keeps.via State.fuseSvn_keeps)
                | decide

theorem State.privNote_keeps {s : State} {idx sub session : Nat} :
    Keeps 0x80000 s (State.privNote s idx sub session) := by
  unfold State.privNote
  try dsimp only
  repeat' first | (with_reducible first | exact Keeps.refl | apply Keeps.via State.offer_keeps) | decide

theorem State.appMinSvn_keeps {s : State} {v : Nat} :
    Keeps 0x180000 s (State.appMinSvn s v) := by
  unfold State.appMinSvn
  try dsimp only
  repeat' first | (with_reducible first | exact Keeps.refl | apply keeps_ite | apply Keeps.via State.mapSec_keeps | apply Keeps.via State.note_keeps)
                | decide

theorem execAppMinSvnWrite_keeps {session level : Nat} {v : BitVec 16} {s : State} :
    OutKeeps 0x180000 s (execAppMinSvnWrite session level v s) := by
  unfold execAppMinSvnWrite
  try dsimp only
  repeat' first | (with_reducible first | exact Keeps.refl | apply outKeeps_next | apply keeps_ite | apply Keeps.via State.privNote_keeps | apply Keeps.via State.appMinSvn_keeps)
                | decide

theorem State.dbgEnd_keeps {s : State} :
    Keeps 0x180000 s (State.dbgEnd s) := by
  unfold State.dbgEnd
  try dsimp only
  repeat' first | (with_reducible first | exact Keeps.refl | apply keeps_ite | apply Keeps.via State.mapSec_keeps | apply Keeps.via State.note_keeps)
                | decide

theorem State.debugLock_keeps {s : State} :
    Keeps 0x180000 s (State.debugLock s) := by
  unfold State.debugLock
  try dsimp only
  repeat' first | (with_reducible first | exact Keeps.refl | apply Keeps.via State.mapSec_keeps | apply Keeps.via State.note_keeps | apply Keeps.via State.dbgEnd_keeps)
                | decide

theorem execDebugLockSet_keeps {level : Nat} {v : BitVec 32} {s : State} :
    OutKeeps 0x180000 s (execDebugLockSet level v s) := by
  unfold execDebugLockSet
  try dsimp only
  repeat' first | (with_reducible first | exact Keeps.refl | apply outKeeps_next | apply keeps_ite | apply Keeps.via State.debugLock_keeps)
                | decide

end Sys2Proof.Machine
end

