-- ==== Sys2Proof/Laws/KeepBoot.lean ====
section
/-! SUPPORT. What every operation of Machine/Boot.lean leaves: its parts (the mask of Keeps) and the invariant. -/
namespace Sys2Proof.Machine

set_option Elab.async false
set_option linter.all false

set_option linter.unusedSimpArgs false
set_option linter.unusedVariables false

theorem State.fullReset_keeps {s : State} : Keeps 0x1FFFFE8FC s s.fullReset := by
  refine Keeps.upd Keeps.refl rfl (fun h => ?_) (fun _ _ => .inr rfl)
  have e := h.2.2.2.2.2.1
  unfold State.fullReset State.Good
  dsimp only
  refine ⟨tcanon_nil, h.2.1, h.2.2.1, rfl, rfl, ?_, rfl, rfl, rfl, rfl, rfl, rfl, rfl, rfl, rfl, rfl, rfl⟩
  simp only [List.length_map, e]

theorem State.sysReset_keeps {s : State} {cause event : Nat} :
    Keeps 0x1FFFFE8FC s (State.sysReset s cause event) := by
  unfold State.sysReset
  try dsimp only
  repeat' first | (with_reducible first | exact Keeps.refl | apply Keeps.via State.fullReset_keeps) | decide
                | (refine Keeps.upd ?_ rfl (fun h => (by unfold State.Good; dsimp only; exact good_upd h)); (with_reducible first | exact Keeps.refl | apply Keeps.via State.fullReset_keeps))

theorem execPowerOnReset_keeps {va vb : Nat} {s : State} :
    OutKeeps 0x1FFFFE8FC s (execPowerOnReset va vb s) := by
  unfold execPowerOnReset
  try dsimp only
  repeat' first | (with_reducible first | exact Keeps.refl | apply outKeeps_next | apply keeps_ite | apply Keeps.via State.fullReset_keeps)
                | decide

theorem execSysResetN_keeps {low : Nat} {s : State} :
    OutKeeps 0x1FFFFE9FC s (execSysResetN low s) := by
  unfold execSysResetN
  try dsimp only
  repeat' first | (with_reducible first | exact Keeps.refl | apply outKeeps_next | apply keeps_ite | apply Keeps.via State.drawn_keeps | apply Keeps.via State.sysReset_keeps)
                | decide

theorem State.appReset_keeps {s : State} {cores bits_ event : Nat} {cls : Cls} :
    Keeps 0x2C0000 s (State.appReset s cores bits_ event cls) := by
  unfold State.appReset
  try dsimp only
  repeat' first | (exact rfl) | intro _ _ _
                | (with_reducible first | assumption | exact Keeps.refl | apply keeps_ite | apply Keeps.via (State.mapMode_keeps ?_) | apply Keeps.via State.offer_keeps | apply Keeps.via State.dropSems_keeps | apply keeps_foldl)
                | decide

theorem State.resetCommand_keeps {s : State} {v : Nat} :
    Keeps 0x1FFFFE8FC s (State.resetCommand s v) := by
  unfold State.resetCommand
  try dsimp only
  repeat' first | (with_reducible first | exact Keeps.refl | apply keeps_ite | apply Keeps.via State.sysReset_keeps | apply Keeps.via State.appReset_keeps)
                | decide

theorem execApplicationResetCommand_keeps {level : Nat} {s : State} :
    OutKeeps 0x1FFFFE8FC s (execApplicationResetCommand level s) := by
  unfold execApplicationResetCommand
  try dsimp only
  repeat' first | (with_reducible first | exact Keeps.refl | apply outKeeps_next | apply keeps_ite | apply Keeps.via State.resetCommand_keeps)
                | decide

theorem execSystemResetCommand_keeps {level : Nat} {s : State} :
    OutKeeps 0x1FFFFE8FC s (execSystemResetCommand level s) := by
  unfold execSystemResetCommand
  try dsimp only
  repeat' first | (with_reducible first | exact Keeps.refl | apply outKeeps_next | apply keeps_ite | apply Keeps.via State.resetCommand_keeps)
                | decide

theorem execHkWatchdogExpiry_keeps {s : State} :
    OutKeeps 0x1FFFFE8FC s (execHkWatchdogExpiry s) := by
  unfold execHkWatchdogExpiry
  try dsimp only
  repeat' first | (with_reducible first | exact Keeps.refl | apply outKeeps_next | apply keeps_ite | apply Keeps.via State.sysReset_keeps)
                | decide

theorem execAppWatchdogExpiry_keeps {core : Fin 4} {s : State} :
    OutKeeps 0x2C0000 s (execAppWatchdogExpiry core s) := by
  unfold execAppWatchdogExpiry
  try dsimp only
  repeat' first | (with_reducible first | exact Keeps.refl | apply outKeeps_next | apply keeps_ite | apply Keeps.via State.appReset_keeps)
                | decide

theorem State.halt_keeps {s : State} :
    Keeps 0x440000 s (State.halt s) := by
  unfold State.halt
  try dsimp only
  repeat' first | (with_reducible exact Keeps.refl)
                | (refine Keeps.upd ?_ rfl (fun h => (by unfold State.Good; dsimp only; exact good_upd h)); with_reducible exact Keeps.refl)

theorem State.stepDone_keeps {s : State} {n : Nat} :
    Keeps 0x40000 s (State.stepDone s n) := by
  unfold State.stepDone
  try dsimp only
  repeat' first | (exact rfl) | (with_reducible first | exact Keeps.refl | apply Keeps.via (State.mapMode_keeps ?_)) | decide

theorem State.powerOn_keeps {s : State} {bits_ : List Nat} :
    Keeps 0x400000 s (State.powerOn s bits_) := by
  unfold State.powerOn
  try dsimp only
  repeat' first | (with_reducible exact Keeps.refl) | decide
                | (with_reducible apply keeps_pwr; with_reducible exact Keeps.refl)

theorem State.boot12_keeps {s : State} {x : BootIn} :
    Keeps 0x204C4000 s (State.boot12 s x) := by
  unfold State.boot12
  try dsimp only
  repeat' first | (with_reducible first | exact Keeps.refl | apply keeps_ite | apply Keeps.via (State.mapMode_keeps ?_) | apply Keeps.via State.warnOn_keeps | apply Keeps.via State.putPll_keeps | apply Keeps.via State.acquire_keeps | apply Keeps.via State.acqRun_keeps | apply Keeps.via State.stepDone_keeps | apply Keeps.via State.powerOn_keeps | rfl)
                | decide

theorem State.bootStart_keeps {s : State} {x : BootIn} {n : Fn} :
    Keeps 0x1FB0C4000 s (State.bootStart s x n) := by
  unfold State.bootStart
  try dsimp only
  repeat' first | intro _ _ _
                | (with_reducible first | assumption | exact Keeps.refl | apply keeps_ite | apply Keeps.via State.setRun_keeps | apply Keeps.via State.acqRun_keeps | apply Keeps.via State.foreground_keeps | apply Keeps.via State.coeffsRead_keeps | apply Keeps.via State.setDue_keeps | apply Keeps.via State.startDone_keeps | apply keeps_foldl)
                | decide | split

theorem State.boot3_keeps {s : State} {x : BootIn} :
    Keeps 0x1FB1D4000 s (State.boot3 s x).2 := by
  unfold State.boot3
  try dsimp only
  repeat' first | (with_reducible first | exact Keeps.refl | apply keeps_ite | apply Keeps.via (State.mapMode_keeps ?_) | apply Keeps.via State.offer_keeps | apply Keeps.via State.warnOn_keeps | apply Keeps.via State.bootScan_keeps | apply Keeps.via State.bootColophon_keeps | apply Keeps.via State.bootLms_keeps | apply Keeps.via State.stepDone_keeps | apply Keeps.via State.bootStart_keeps | rfl)
                | decide | split

theorem State.fillBands_keeps {s : State} :
    Keeps 0x20000800 s (State.fillBands s) := by
  unfold State.fillBands
  try dsimp only
  repeat' first | intro _ _ _
                | (with_reducible first | assumption | exact Keeps.refl | apply keeps_ite | apply Keeps.via State.setObj_keeps | apply Keeps.via State.putPll_keeps | apply keeps_foldl)
                | decide | split

theorem State.boot5_keeps {s : State} {x : BootIn} :
    Keeps 0x1FF4C4800 s (State.boot5 s x).2 := by
  unfold State.boot5
  try dsimp only
  repeat' first | intro _ _ _
                | (with_reducible first | assumption | exact Keeps.refl | apply Keeps.via State.safeFault_keeps | apply Keeps.via State.clkCommit_keeps | apply Keeps.via State.acqRun_keeps | apply Keeps.via State.stepDone_keeps | apply Keeps.via State.fillBands_keeps | apply keeps_foldl)
                | decide | split

theorem State.boot6_keeps {s : State} {x : BootIn} :
    Keeps 0x1DF4C4800 s (State.boot6 s x).2 := by
  unfold State.boot6
  try dsimp only
  repeat' first | intro _
                | (with_reducible first | assumption | exact Keeps.refl | apply Keeps.via (State.mapFieldS_keeps ?_) | apply Keeps.via State.enterSafe_keeps | apply Keeps.via State.lockstepStop_keeps | apply Keeps.via State.stepDone_keeps | apply Keeps.via State.powerOn_keeps)
                | decide | split

theorem State.loadProt_keeps {s : State} :
    Keeps 0xC0800 s (State.loadProt s) := by
  unfold State.loadProt
  try dsimp only
  repeat' first | intro _ _ _
                | (with_reducible first | assumption | exact Keeps.refl | apply keeps_ite | apply Keeps.via State.setObj_keeps | apply Keeps.via State.warnOn_keeps | apply keeps_foldl)
                | decide

theorem State.loadConfig_keeps {s : State} : Keeps 0x100040800 s s.loadConfig := by
  unfold State.loadConfig
  split
  · rename_i r e
    split
    · have h1 : Keeps 0x100040800 s { s with objs := r.objs } := by
        refine Keeps.upd Keeps.refl rfl (fun h => ?_)
        have hr : tcanon objDefault r.objs := by have := h.2.1; rw [e] at this; exact this
        unfold State.Good; dsimp only
        exact good_set h hr h.2.1 h.2.2.1 rfl
      dsimp only
      exact Keeps.via (State.mapMode_keeps rfl) (by decide) (Keeps.via (State.mapSafe_keeps (fun a b c => ⟨a, b, c⟩)) (by decide)
        (Keeps.via (State.mapMode_keeps rfl) (by decide) h1))
    · exact Keeps.refl
  · exact Keeps.refl

theorem State.boot7_keeps {s : State} {x : BootIn} :
    Keeps 0x1FFDC4800 s (State.boot7 s x) := by
  unfold State.boot7
  try dsimp only
  repeat' first | intro _ _ _
                | (with_reducible first | assumption | exact Keeps.refl | apply Keeps.via State.mapSpn_keeps | apply Keeps.via State.bootApps_keeps | apply Keeps.via State.stepDone_keeps | apply Keeps.via State.powerOn_keeps | apply Keeps.via State.bootStart_keeps | apply Keeps.via State.loadProt_keeps | apply Keeps.via State.loadConfig_keeps | apply keeps_foldl)
                | decide
                | (with_reducible apply keeps_dpx; (with_reducible first | assumption | exact Keeps.refl | apply Keeps.via State.mapSpn_keeps | apply Keeps.via State.bootApps_keeps | apply Keeps.via State.stepDone_keeps | apply Keeps.via State.powerOn_keeps | apply Keeps.via State.bootStart_keeps | apply Keeps.via State.loadProt_keeps | apply Keeps.via State.loadConfig_keeps | apply keeps_foldl))

theorem State.boot8_keeps {s : State} :
    Keeps 0x40000 s (State.boot8 s) := by
  unfold State.boot8
  try dsimp only
  repeat' first | (exact rfl) | (with_reducible first | exact Keeps.refl | apply Keeps.via (State.mapMode_keeps ?_)) | decide

theorem State.bootRest_keeps {s : State} {x : BootIn} :
    Keeps 0x1FFDC4800 s (State.bootRest s x) := by
  unfold State.bootRest
  try dsimp only
  repeat' first | (with_reducible first | exact Keeps.refl | apply keeps_ite | apply Keeps.via State.boot5_keeps | apply Keeps.via State.boot6_keeps | apply Keeps.via State.boot7_keeps | apply Keeps.via State.boot8_keeps)
                | decide

theorem execBootSequence_keeps {x : BootIn} {s : State} :
    OutKeeps 0x1FFDD4800 s (execBootSequence x s) := by
  unfold execBootSequence
  try dsimp only
  repeat' first | (with_reducible first | exact Keeps.refl | apply outKeeps_next | apply keeps_ite | apply Keeps.via State.bootImages_keeps | apply Keeps.via State.halt_keeps | apply Keeps.via State.stepDone_keeps | apply Keeps.via State.boot12_keeps | apply Keeps.via State.boot3_keeps | apply Keeps.via State.bootRest_keeps)
                | decide

theorem execDpxListenWindowEnd_keeps {s : State} :
    OutKeeps 0x4038C0800 s (execDpxListenWindowEnd s) := by
  unfold execDpxListenWindowEnd
  try dsimp only
  repeat' first | (with_reducible first | exact Keeps.refl | apply outKeeps_next | apply keeps_ite | apply Keeps.via State.note_keeps | apply Keeps.via State.warnOn_keeps | apply Keeps.via State.enterMode_opens | apply Keeps.via State.stepDone_keeps)
                | decide | split
                | (with_reducible apply keeps_dpx; (with_reducible first | exact Keeps.refl | apply outKeeps_next | apply keeps_ite | apply Keeps.via State.note_keeps | apply Keeps.via State.warnOn_keeps | apply Keeps.via State.enterMode_opens | apply Keeps.via State.stepDone_keeps))

end Sys2Proof.Machine
end

