-- ==== Sys2Proof/Laws/KeepDuplex.lean ====
section
/-! SUPPORT. What every operation of Machine/Duplex.lean leaves: its parts (the mask of Keeps) and the invariant. -/
namespace Sys2Proof.Machine

set_option Elab.async false
set_option linter.all false

set_option linter.unusedSimpArgs false
set_option linter.unusedVariables false

theorem State.dpxSend_keeps {s : State} {type ix : Nat} {data : List Nat} :
    Keeps 0x200800000 s (State.dpxSend s type ix data) := by
  unfold State.dpxSend
  try dsimp only
  repeat' first | (with_reducible first | exact Keeps.refl | apply keeps_ite | apply Keeps.via State.mapDpx_keeps | apply Keeps.via State.emit_keeps)
                | decide

theorem State.dpxAlive_keeps {s : State} :
    Keeps 0x8C0000 s (State.dpxAlive s) := by
  unfold State.dpxAlive
  try dsimp only
  repeat' first | (with_reducible first | exact Keeps.refl | apply keeps_ite | apply Keeps.via State.mapDpx_keeps | apply Keeps.via State.note_keeps | apply Keeps.via State.warnOff_keeps)
                | decide

theorem State.dpxTake_keeps {m : Nat} {r s : State} {ok : Bool} {f : State → State}
    (hm : within 0x8C0000 m) (k : Keeps m r s) (hf : ∀ t, Keeps m r t → Keeps m r (f t)) :
    Keeps m r (s.dpxTake ok f) := by
  unfold State.dpxTake
  exact keeps_ite k (keeps_ite (hf _ (Keeps.via State.dpxAlive_keeps (within_trans (by decide) hm) k))
    (Keeps.via State.mapDpx_keeps (within_trans (by decide) hm) k))

theorem State.storeRenew_keeps {s : State} :
    Keeps 0x800000 s (State.storeRenew s) := by
  unfold State.storeRenew
  try dsimp only
  repeat' first | (with_reducible first | exact Keeps.refl | apply keeps_ite | apply Keeps.via State.mapDpx_keeps) | decide

theorem execDpxLinkDown_keeps {s : State} :
    OutKeeps 0x8C0000 s (execDpxLinkDown s) := by
  unfold execDpxLinkDown
  try dsimp only
  repeat' first | (exact rfl)
                | (with_reducible first | exact Keeps.refl | apply outKeeps_next | apply keeps_ite | apply Keeps.via State.dpxLinkLost_keeps)
                | split

theorem State.storeGrant_keeps {s : State} {dev epoch : Nat} :
    Keeps 0x800000 s (State.storeGrant s dev epoch) := by
  unfold State.storeGrant
  try dsimp only
  repeat' first | (with_reducible first | exact Keeps.refl | apply Keeps.via State.mapDpx_keeps) | decide

theorem State.ckptDrop_keeps {s : State} :
    Keeps 0x8C0000 s (State.ckptDrop s) := by
  unfold State.ckptDrop
  try dsimp only
  repeat' first | (with_reducible first | exact Keeps.refl | apply Keeps.via State.mapDpx_keeps | apply Keeps.via State.warnOn_keeps)
                | decide

theorem State.ckptStore_keeps {s : State} {b : List Nat} :
    Keeps 0x840000 s (State.ckptStore s b) := by
  unfold State.ckptStore
  try dsimp only
  repeat' first | (with_reducible first | exact Keeps.refl | apply keeps_ite | apply Keeps.via (State.mapMode_keeps ?_) | apply Keeps.via State.mapDpx_keeps | apply Keeps.via State.warnOff_keeps | apply Keeps.via State.storeGrant_keeps | rfl)
                | decide

theorem State.ckptOpen_keeps {s : State} {seq : Nat} {data : List Nat} :
    Keeps 0x800000 s (State.ckptOpen s seq data) := by
  unfold State.ckptOpen
  try dsimp only
  repeat' first | (with_reducible first | exact Keeps.refl | apply Keeps.via State.mapDpx_keeps) | decide

theorem State.ckptClose_keeps {s : State} {r : CkptRx} :
    Keeps 0x8C0000 s (State.ckptClose s r) := by
  unfold State.ckptClose
  try dsimp only
  repeat' first | (with_reducible first | exact Keeps.refl | apply keeps_ite | apply Keeps.via State.mapDpx_keeps | apply Keeps.via State.ckptDrop_keeps | apply Keeps.via State.ckptStore_keeps)
                | decide

theorem State.ckptMore_keeps {s : State} {seq idx : Nat} {data : List Nat} :
    Keeps 0x8C0000 s (State.ckptMore s seq idx data) := by
  unfold State.ckptMore
  try dsimp only
  repeat' first | (with_reducible first | exact Keeps.refl | apply keeps_ite | apply Keeps.via State.mapDpx_keeps | apply Keeps.via State.ckptDrop_keeps | apply Keeps.via State.ckptClose_keeps)
                | decide | split

theorem execCkpt_keeps {f : DpxFrame} {seq : BitVec 32} {idx : Fin 32} {data : List Nat} {s : State} :
    OutKeeps 0x8C0000 s (execCkpt f seq idx data s) := by
  unfold execCkpt
  try dsimp only
  repeat' first | intro _ _
                | (with_reducible first | assumption | exact Keeps.refl | apply outKeeps_next | apply keeps_ite | apply State.dpxTake_keeps | apply Keeps.via State.storeRenew_keeps | apply Keeps.via State.ckptDrop_keeps | apply Keeps.via State.ckptOpen_keeps | apply Keeps.via State.ckptMore_keeps)
                | decide

theorem execBeatSend_keeps {s : State} :
    OutKeeps 0x200800000 s (execBeatSend s) := by
  unfold execBeatSend
  try dsimp only
  repeat' first | (with_reducible first | exact Keeps.refl | apply outKeeps_next | apply keeps_ite | apply Keeps.via State.mapDpx_keeps | apply Keeps.via State.dpxSend_keeps)
                | decide

theorem execBeatMsg_keeps {seq : BitVec 16} {tick : BitVec 64} {epoch : BitVec 16} {dev : Fin 512} {mode flags : BitVec 8}
    {crc : BitVec 32} {s : State} :
    OutKeeps 0x1008C0000 s (execBeatMsg seq tick epoch dev mode flags crc s) := by
  unfold execBeatMsg
  try dsimp only
  repeat' first | intro _ _
                | (with_reducible first | assumption | exact Keeps.refl | apply outKeeps_next | apply keeps_ite | apply Keeps.via State.mapDpx_keeps | apply Keeps.via State.leaseLost_keeps | apply State.dpxTake_keeps | apply Keeps.via State.storeRenew_keeps | apply Keeps.via State.storeGrant_keeps)
                | decide

theorem State.ackJudge_keeps {s : State} {beat : Nat} :
    Keeps 0x1008C0000 s (State.ackJudge s beat) := by
  unfold State.ackJudge
  try dsimp only
  repeat' first | (with_reducible first | exact Keeps.refl | apply keeps_ite | apply Keeps.via State.leaseLost_keeps) | decide

theorem execHolderLeaseExpiry_keeps {beat : BitVec 16} {s : State} :
    OutKeeps 0x1008C0000 s (execHolderLeaseExpiry beat s) := by
  unfold execHolderLeaseExpiry
  try dsimp only
  repeat' first | (with_reducible first | exact Keeps.refl | apply outKeeps_next | apply Keeps.via State.ackJudge_keeps)
                | decide

theorem execStatusMsg_keeps {f : DpxFrame} {state flags : BitVec 8} {beat hold : BitVec 16} {ckpt run cfg : BitVec 32}
    {dev : Fin 512} {s : State} :
    OutKeeps 0x1008C0000 s (execStatusMsg f state flags beat hold ckpt run cfg dev s) := by
  unfold execStatusMsg
  try dsimp only
  repeat' first | intro _ _
                | (with_reducible first | assumption | exact Keeps.refl | apply outKeeps_next | apply keeps_ite | apply Keeps.via State.mapDpx_keeps | apply State.dpxTake_keeps | apply Keeps.via State.ackJudge_keeps)
                | decide

theorem execStatusSend_keeps {s : State} :
    OutKeeps 0x200800000 s (execStatusSend s) := by
  unfold execStatusSend
  try dsimp only
  repeat' first | (with_reducible first | exact Keeps.refl | apply outKeeps_next | apply keeps_ite | apply Keeps.via State.mapDpx_keeps | apply Keeps.via State.dpxSend_keeps)
                | decide

theorem execYieldReset_keeps {s : State} :
    OutKeeps 0x1FFFFE8FC s (execYieldReset s) := by
  unfold execYieldReset
  try dsimp only
  repeat' first | (with_reducible first | exact Keeps.refl | apply outKeeps_next | apply keeps_ite | apply Keeps.via State.sysReset_keeps)
                | decide | split

theorem State.acquireLease_keeps {s : State} {path e : Nat} :
    Keeps 0x880000 s (State.acquireLease s path e) := by
  unfold State.acquireLease
  try dsimp only
  repeat' first | (with_reducible first | exact Keeps.refl | apply Keeps.via State.mapDpx_keeps | apply Keeps.via State.note_keeps)
                | decide

theorem execColdAcquisition_keeps {s : State} :
    OutKeeps 0x38C0800 s (execColdAcquisition s) := by
  unfold execColdAcquisition
  try dsimp only
  repeat' first | (with_reducible first | exact Keeps.refl | apply outKeeps_next | apply keeps_ite | apply Keeps.via State.mapDpx_keeps | apply Keeps.via State.warn_keeps | apply Keeps.via State.warnOn_keeps | apply Keeps.via State.warnOff_keeps | apply Keeps.via State.setMode_keeps | apply Keeps.via State.acquireLease_keeps)
                | decide

theorem State.ckptSend_keeps {s : State} :
    Keeps 0x200800000 s (State.ckptSend s) := by
  unfold State.ckptSend
  try dsimp only
  repeat' first | intro _ _ _
                | (with_reducible first | assumption | exact Keeps.refl | apply keeps_ite | apply Keeps.via State.mapDpx_keeps | apply Keeps.via State.dpxSend_keeps | apply keeps_foldl)
                | decide

end Sys2Proof.Machine
end

