-- ==== Sys2Proof/Laws/KeepTakeover.lean ====
section
/-! SUPPORT. What every operation of Machine/Takeover.lean leaves: its parts (the mask of Keeps) and the invariant. -/
namespace Sys2Proof.Machine

set_option Elab.async false
set_option linter.all false

set_option linter.unusedSimpArgs false
set_option linter.unusedVariables false

theorem State.mergeMarks_keeps {s : State} {b : CkptBuf} :
    Keeps 0x8000800 s (State.mergeMarks s b) := by
  unfold State.mergeMarks
  try dsimp only
  repeat' first | intro _ _ _
                | (with_reducible first | assumption | exact Keeps.refl | apply Keeps.via State.setObj_keeps | apply Keeps.via State.mapCell_keeps | apply keeps_foldl)
                | decide

theorem State.restoreCells_keeps {s : State} {b : CkptBuf} :
    Keeps 0x8000000 s (State.restoreCells s b) := by
  unfold State.restoreCells
  try dsimp only
  repeat' first | intro _ _ | (with_reducible first | exact Keeps.refl | apply Keeps.via (State.mapCellS_keeps ?_)) | decide
                | (intros; simp only [List.length_map, List.length_zipIdx, length_updAt, length_putAt, List.length_range, List.length_replicate, and_self, *]; done)

theorem State.restoreLaw_keeps {s : State} {b : CkptBuf} {g : Nat} :
    Keeps 0x7040000 s (State.restoreLaw s b g) := by
  unfold State.restoreLaw
  try dsimp only
  repeat' first | (with_reducible first | exact Keeps.refl | apply Keeps.via State.mapForm_keeps | apply Keeps.via State.mapB_keeps | apply Keeps.via State.armFresh_keeps)
                | decide

theorem State.restoreTime_keeps {s : State} {b : CkptBuf} {g : Nat} :
    Keeps 0x400C0000 s (State.restoreTime s b g) := by
  unfold State.restoreTime
  try dsimp only
  repeat' first | (exact rfl)
                | (with_reducible first | exact Keeps.refl | apply Keeps.via State.servoFree_keeps | apply Keeps.via State.setClock_keeps)

theorem State.restoreOuts_keeps {s : State} {out : Nat} :
    Keeps 0x80000000 s (State.restoreOuts s out) := by
  unfold State.restoreOuts
  try dsimp only
  repeat' first | intro _ | (with_reducible exact Keeps.refl) | decide
                | (intros; simp only [List.length_map, List.length_zipIdx, length_updAt, length_putAt, List.length_range, List.length_replicate, and_self, *]; done)
                | (with_reducible apply keeps_field; with_reducible exact Keeps.refl)

theorem State.alignUp_keeps {s : State} :
    Keeps 0x1DB0C4800 s (State.alignUp s) := by
  unfold State.alignUp
  try dsimp only
  repeat' first | intro _ _ _
                | (with_reducible first | assumption | exact Keeps.refl | apply keeps_ite | apply Keeps.via State.note_keeps | apply Keeps.via State.mapTrk_keeps | apply Keeps.via State.trunkWell_keeps | apply Keeps.via State.quireLoss_keeps | apply keeps_foldl)
                | decide

theorem State.wakePlls_keeps {s : State} {x : BootIn} :
    Keeps 0x200C4000 s (State.wakePlls s x) := by
  unfold State.wakePlls
  try dsimp only
  repeat' first | (with_reducible first | exact Keeps.refl | apply Keeps.via State.putPll_keeps | apply Keeps.via State.acqRun_keeps)
                | decide

theorem State.wakeDelays_keeps {s : State} :
    Keeps 0xC000000 s (State.wakeDelays s) := by
  unfold State.wakeDelays
  try dsimp only
  repeat' first | intro _ _ _
                | (with_reducible first | assumption | exact Keeps.refl | apply Keeps.via State.mapSpn_keeps | apply Keeps.via State.mapTrk_keeps | apply keeps_foldl)
                | decide | split

theorem State.wake_keeps {s : State} {x : BootIn} {all : Bool} {b : Option CkptBuf} :
    Keeps 0x1FF4C4800 s (State.wake s x all b) := by
  unfold State.wake
  try dsimp only
  repeat' first | intro _ _ _ | intro _
                | (with_reducible first | assumption | exact Keeps.refl | apply Keeps.via State.mapSpn_keeps | apply Keeps.via (State.mapFieldS_keeps ?_) | apply Keeps.via State.powerOn_keeps | apply Keeps.via State.bootStart_keeps | apply Keeps.via State.loadProt_keeps | apply Keeps.via State.loadConfig_keeps | apply Keeps.via State.mergeMarks_keeps | apply Keeps.via State.wakePlls_keeps | apply Keeps.via State.wakeDelays_keeps | apply keeps_foldl)
                | decide | split

theorem State.takeBegin_keeps {s : State} {x : BootIn} {b : CkptBuf} :
    Keeps 0x1FFCC4800 s (State.takeBegin s x b) := by
  unfold State.takeBegin
  try dsimp only
  repeat' first | (with_reducible first | exact Keeps.refl | apply keeps_ite | apply Keeps.via State.mapDpx_keeps | apply Keeps.via State.warnOn_keeps | apply Keeps.via State.mergeMarks_keeps | apply Keeps.via State.wake_keeps)
                | decide

theorem execStoreLeaseExpiry_keeps {x : BootIn} {s : State} :
    OutKeeps 0x1FFCC4800 s (execStoreLeaseExpiry x s) := by
  unfold execStoreLeaseExpiry
  try dsimp only
  repeat' first | (with_reducible first | exact Keeps.refl | apply outKeeps_next | apply keeps_ite | apply Keeps.via State.mapDpx_keeps | apply Keeps.via State.takeBegin_keeps)
                | decide | split

theorem State.takeAbandon_keeps {s : State} :
    Keeps 0x38C0800 s (State.takeAbandon s) := by
  unfold State.takeAbandon
  try dsimp only
  repeat' first | (with_reducible first | exact Keeps.refl | apply Keeps.via State.mapDpx_keeps | apply Keeps.via State.warnOn_keeps | apply Keeps.via State.warnOff_keeps | apply Keeps.via State.setMode_keeps)
                | decide

theorem execLivenessCheck_keeps {s : State} :
    OutKeeps 0x38C0800 s (execLivenessCheck s) := by
  unfold execLivenessCheck
  try dsimp only
  repeat' first | (with_reducible first | exact Keeps.refl | apply outKeeps_next | apply keeps_ite | apply Keeps.via State.mapDpx_keeps | apply Keeps.via State.acquireLease_keeps | apply Keeps.via State.takeAbandon_keeps)
                | decide | split

theorem execTakeoverBringupDone_keeps {s : State} :
    OutKeeps 0x800000 s (execTakeoverBringupDone s) := by
  unfold execTakeoverBringupDone
  try dsimp only
  repeat' first | (with_reducible first | exact Keeps.refl | apply outKeeps_next | apply Keeps.via State.mapDpx_keeps)
                | decide | split

theorem State.takeRecord_keeps {s : State} {tb g outcome : Nat} :
    Keeps 0x8C0000 s (State.takeRecord s tb g outcome) := by
  unfold State.takeRecord
  try dsimp only
  repeat' first | (with_reducible first | exact Keeps.refl | apply Keeps.via State.mapDpx_keeps | apply Keeps.via State.note_keeps | apply Keeps.via State.warnOff_keeps)
                | decide

theorem State.takeState_keeps {s : State} {b : CkptBuf} :
    Keeps 0xCF0C0000 s (State.takeState s b) := by
  unfold State.takeState
  try dsimp only
  repeat' first | (with_reducible first | exact Keeps.refl | apply Keeps.via State.restoreCells_keeps | apply Keeps.via State.restoreLaw_keeps | apply Keeps.via State.restoreTime_keeps | apply Keeps.via State.restoreOuts_keeps)
                | decide

theorem State.takeMode_keeps {s : State} {b : CkptBuf} :
    Keeps 0x1DB0C4800 s (State.takeMode s b) := by
  unfold State.takeMode
  try dsimp only
  repeat' first | (exact rfl)
                | (with_reducible first | exact Keeps.refl | apply keeps_ite | apply Keeps.via State.setMode_keeps | apply Keeps.via State.sf1Hold_keeps | apply Keeps.via State.trip_keeps)

theorem State.takeRestore_keeps {s : State} {prep : Bool} :
    Keeps 0x1DF8C4800 s (State.takeRestore s prep) := by
  unfold State.takeRestore
  try dsimp only
  repeat' first | (with_reducible first | exact Keeps.refl | apply keeps_ite | apply Keeps.via State.warn_keeps | apply Keeps.via State.setMode_keeps | apply Keeps.via State.alignUp_keeps | apply Keeps.via State.takeRecord_keeps | apply Keeps.via State.takeState_keeps | apply Keeps.via State.takeMode_keeps)
                | decide | split

theorem execPreparedEntry_keeps {x : BootIn} {s : State} :
    OutKeeps 0x1FF4C4800 s (execPreparedEntry x s) := by
  unfold execPreparedEntry
  try dsimp only
  repeat' first | (with_reducible first | exact Keeps.refl | apply outKeeps_next | apply keeps_ite | apply Keeps.via State.note_keeps | apply Keeps.via State.setMode_keeps | apply Keeps.via State.wake_keeps)
                | decide | split

theorem State.warmJudge_keeps {s : State} :
    Keeps 0x880000 s (State.warmJudge s) := by
  unfold State.warmJudge
  try dsimp only
  repeat' first | (with_reducible first | exact Keeps.refl | apply keeps_ite | apply Keeps.via State.mapDpx_keeps | apply Keeps.via State.note_keeps)
                | decide

theorem execWarmReached_keeps {s : State} :
    OutKeeps 0x880000 s (execWarmReached s) := by
  unfold execWarmReached
  try dsimp only
  repeat' first | (with_reducible first | exact Keeps.refl | apply outKeeps_next | apply Keeps.via State.warmJudge_keeps)
                | decide

theorem State.mirrorApply_keeps {s : State} {m : MirrorRec} :
    Keeps 0x8000000 s (State.mirrorApply s m) := by
  unfold State.mirrorApply
  try dsimp only
  repeat' first | (with_reducible first | exact Keeps.refl | apply Keeps.via State.record_keeps) | decide

theorem State.mirrorLoad_keeps {s : State} {b : CkptBuf} :
    Keeps 0x8800000 s (State.mirrorLoad s b) := by
  unfold State.mirrorLoad
  try dsimp only
  repeat' first | intro _ _ _ | intro _ _
                | (with_reducible first | assumption | exact Keeps.refl | apply keeps_ite | apply Keeps.via State.mapDpx_keeps | apply Keeps.via (State.mapCellS_keeps ?_) | apply Keeps.via State.mirrorApply_keeps | apply keeps_foldl)
                | decide
                | (intros; simp only [List.length_map, List.length_zipIdx, length_updAt, length_putAt, List.length_range, List.length_replicate, and_self, *]; done)

theorem State.asUp_keeps {s : State} :
    Keeps 0x8000000 s (State.asUp s) := by
  unfold State.asUp
  try dsimp only
  repeat' first | intro _ _ | (with_reducible exact Keeps.refl) | decide
                | (intros; simp only [List.length_map, List.length_zipIdx, length_updAt, length_putAt, List.length_range, List.length_replicate, and_self, *]; done)
                | (with_reducible apply keeps_cell; with_reducible exact Keeps.refl)

theorem State.mirrorMismatch_keeps {s : State} :
    Keeps 0x1008C0000 s (State.mirrorMismatch s) := by
  unfold State.mirrorMismatch
  try dsimp only
  repeat' first | (with_reducible first | exact Keeps.refl | apply keeps_ite | apply Keeps.via State.mapDpx_keeps | apply Keeps.via State.warnOn_keeps)
                | decide
                | (refine Keeps.upd ?_ rfl (fun h => (by unfold State.Good; dsimp only; exact good_upd h)); (with_reducible first | exact Keeps.refl | apply keeps_ite | apply Keeps.via State.mapDpx_keeps | apply Keeps.via State.warnOn_keeps))

theorem State.shadowSelect_length {s : State} {n t : Nat} (h : s.Good) : (s.shadowSelect n t).2.length = 256 :=
  (State.selectRun_keeps.good (State.asUp_keeps.good h)).2.2.2.2.2.1

theorem State.mirrorCompare_keeps {s : State} {m : MirrorRec} : Keeps 0x1088C0000 s (s.mirrorCompare m) := by
  have h1 : Keeps 0x1088C0000 s (s.mapCellS (fun c => { c with ims := (m.im :: c.ims).take 24 })) :=
    Keeps.via (State.mapCellS_keeps (fun a b => ⟨a, b⟩)) (by decide) Keeps.refl
  have h2 : Keeps 0x1088C0000 s ((s.mapCellS (fun c => { c with ims := (m.im :: c.ims).take 24 })).mapCellS
      (fun c => { c with cells := ((s.mapCellS (fun c => { c with ims := (m.im :: c.ims).take 24 })).shadowSelect
        m.tick m.target).2 })) := by
    refine Keeps.upd h1 rfl (fun h => ?_)
    have hc := State.shadowSelect_length (n := m.tick) (t := m.target) h
    exact (State.mapCellS_keeps (fun _ b => ⟨hc, b⟩)).good h
  unfold State.mirrorCompare
  dsimp only
  split
  · exact Keeps.via State.warmJudge_keeps (by decide) (Keeps.via State.mapDpx_keeps (by decide)
      (Keeps.via State.mirrorApply_keeps (by decide) h1))
  · split
    · exact Keeps.via State.warmJudge_keeps (by decide) (Keeps.via State.mapDpx_keeps (by decide)
        (Keeps.via State.mirrorApply_keeps (by decide) h2))
    · exact Keeps.via State.mirrorMismatch_keeps (by decide) (Keeps.via State.mirrorApply_keeps (by decide) h1)

theorem State.mirrorIn_keeps {s : State} {m : MirrorRec} :
    Keeps 0x1088C0000 s (State.mirrorIn s m) := by
  unfold State.mirrorIn
  try dsimp only
  repeat' first | (with_reducible first | exact Keeps.refl | apply keeps_ite | apply Keeps.via State.mapDpx_keeps | apply Keeps.via State.mirrorLoad_keeps | apply Keeps.via State.mirrorMismatch_keeps | apply Keeps.via State.mirrorCompare_keeps)
                | decide | split

theorem execMirror_keeps {f : DpxFrame} {tick : BitVec 64} {target count : BitVec 16} {nc : BitVec 16} {im : BitVec 32}
    {out : BitVec 32} {words : List Nat} {s : State} :
    OutKeeps 0x1088C0000 s (execMirror f tick target count nc im out words s) := by
  unfold execMirror
  try dsimp only
  repeat' first | intro _ _
                | (with_reducible first | assumption | exact Keeps.refl | apply outKeeps_next | apply keeps_ite | apply State.dpxTake_keeps | apply Keeps.via State.storeRenew_keeps | apply Keeps.via State.mirrorIn_keeps)
                | decide

theorem State.mirrorSend_keeps {s : State} {target : Nat} {words : List Nat} :
    Keeps 0x200800000 s (State.mirrorSend s target words) := by
  unfold State.mirrorSend
  try dsimp only
  repeat' first | (exact rfl)
                | (with_reducible first | exact Keeps.refl | apply keeps_ite | apply Keeps.via State.dpxSend_keeps)

theorem State.handJudge_keeps {s : State} :
    Keeps 0x2008C0000 s (State.handJudge s) := by
  unfold State.handJudge
  try dsimp only
  repeat' first | (with_reducible first | exact Keeps.refl | apply keeps_ite | apply Keeps.via State.mapDpx_keeps | apply Keeps.via State.warnKeep_keeps | apply Keeps.via State.dpxSend_keeps)
                | decide

theorem State.handSend_keeps {s : State} :
    Keeps 0x200840000 s (State.handSend s) := by
  unfold State.handSend
  try dsimp only
  repeat' first | (with_reducible first | exact Keeps.refl | apply keeps_ite | apply Keeps.via State.mapDpx_keeps | apply Keeps.via State.warnOff_keeps | apply Keeps.via State.dpxSend_keeps)
                | decide

theorem State.handYield_keeps {s : State} :
    Keeps 0x1008C0000 s (State.handYield s) := by
  unfold State.handYield
  try dsimp only
  repeat' first | (with_reducible first | exact Keeps.refl | apply Keeps.via State.warnOn_keeps) | decide
                | (refine Keeps.upd ?_ rfl (fun h => (by unfold State.Good; dsimp only; exact good_upd h)); (with_reducible first | exact Keeps.refl | apply Keeps.via State.warnOn_keeps))

theorem execHandback_keeps {f : DpxFrame} {b : BitVec 64} {epoch : BitVec 16} {s : State} :
    OutKeeps 0x3008C0000 s (execHandback f b epoch s) := by
  unfold execHandback
  try dsimp only
  repeat' first | intro _ _
                | (with_reducible first | assumption | exact Keeps.refl | apply outKeeps_next | apply keeps_ite | apply Keeps.via State.mapDpx_keeps | apply Keeps.via State.dpxSend_keeps | apply State.dpxTake_keeps | apply Keeps.via State.storeRenew_keeps | apply Keeps.via State.handYield_keeps)
                | decide

theorem execHbAck_keeps {f : DpxFrame} {b : BitVec 64} {result : BitVec 8} {s : State} :
    OutKeeps 0x8C0000 s (execHbAck f b result s) := by
  unfold execHbAck
  try dsimp only
  repeat' first | intro _ _
                | (with_reducible first | assumption | exact Keeps.refl | apply outKeeps_next | apply keeps_ite | apply Keeps.via State.mapDpx_keeps | apply State.dpxTake_keeps)
                | decide

theorem execHandbackModeEntry_keeps {s : State} :
    OutKeeps 0x1DF8C4900 s (execHandbackModeEntry s) := by
  unfold execHandbackModeEntry
  try dsimp only
  repeat' first | (with_reducible first | exact Keeps.refl | apply outKeeps_next | apply keeps_ite | apply Keeps.via State.mapDpx_keeps | apply Keeps.via State.setMode_keeps | apply Keeps.via State.sf1Hold_keeps | apply Keeps.via State.lawPeriod_keeps | apply Keeps.via State.restoreLaw_keeps)
                | decide | split

theorem State.handCount_keeps {s : State} :
    Keeps 0x2000000 s (State.handCount s) := by
  unfold State.handCount
  try dsimp only
  repeat' first | (with_reducible first | exact Keeps.refl | apply keeps_ite | apply Keeps.via State.mapArm_keeps) | decide
                | split

theorem State.handRaise_keeps {s : State} :
    Keeps 0x800000 s (State.handRaise s) := by
  unfold State.handRaise
  try dsimp only
  repeat' first | (with_reducible first | exact Keeps.refl | apply Keeps.via State.mapDpx_keeps) | decide

theorem execHandbackEpochRaise_keeps {s : State} :
    OutKeeps 0x800000 s (execHandbackEpochRaise s) := by
  unfold execHandbackEpochRaise
  try dsimp only
  repeat' first | (with_reducible first | exact Keeps.refl | apply outKeeps_next | apply keeps_ite | apply Keeps.via State.handRaise_keeps)
                | decide

theorem State.handTake_keeps {s : State} :
    Keeps 0x1DB8C4800 s (State.handTake s) := by
  unfold State.handTake
  try dsimp only
  repeat' first | (with_reducible first | exact Keeps.refl | apply keeps_ite | apply Keeps.via State.mapDpx_keeps | apply Keeps.via State.acquireLease_keeps | apply Keeps.via State.restoreOuts_keeps | apply Keeps.via State.alignUp_keeps | apply Keeps.via State.handRaise_keeps)
                | decide

theorem State.handGive_keeps {s : State} :
    Keeps 0x1038C0800 s (State.handGive s) := by
  unfold State.handGive
  try dsimp only
  repeat' first | (intro _ _ _; dsimp only)
                | (with_reducible first | exact Keeps.refl | apply Keeps.via State.mapDpx_keeps | apply Keeps.via State.setMode_keeps)
                | decide
                | (intros; simp only [List.length_map, List.length_zipIdx, length_updAt, length_putAt, List.length_range, List.length_replicate, and_self, *]; done)
                | (with_reducible apply keeps_safe; (with_reducible first | exact Keeps.refl | apply Keeps.via State.mapDpx_keeps | apply Keeps.via State.setMode_keeps))

theorem execHandbackTransfer_keeps {s : State} :
    OutKeeps 0x1DB8C4800 s (execHandbackTransfer s) := by
  unfold execHandbackTransfer
  try dsimp only
  repeat' first | (with_reducible first | exact Keeps.refl | apply outKeeps_next | apply keeps_ite | apply Keeps.via State.handTake_keeps | apply Keeps.via State.handGive_keeps)
                | decide

theorem execHolderOutputRelease_keeps {s : State} :
    OutKeeps 0x880000 s (execHolderOutputRelease s) := by
  unfold execHolderOutputRelease
  try dsimp only
  repeat' first | (with_reducible first | exact Keeps.refl | apply outKeeps_next | apply keeps_ite | apply Keeps.via State.mapDpx_keeps | apply Keeps.via State.note_keeps)
                | decide | split

theorem execSwitchover_keeps {level : Nat} {s : State} :
    OutKeeps 0x800000 s (execSwitchover level s) := by
  unfold execSwitchover
  try dsimp only
  repeat' first | (with_reducible first | exact Keeps.refl | apply outKeeps_next | apply keeps_ite | apply Keeps.via State.mapDpx_keeps)
                | decide

theorem State.coldState_keeps {s : State} : Keeps 0x1FFFFE8FC s s.coldState := by
  refine Keeps.upd Keeps.refl rfl (fun h => ?_)
  unfold State.coldState State.Good
  dsimp only
  exact good_set (State.fullReset_keeps.good h) h.1 h.2.1 h.2.2.1 rfl

theorem execPowerDownColdComplete_keeps {s : State} :
    OutKeeps 0x1FFFFE8FC s (execPowerDownColdComplete s) := by
  unfold execPowerDownColdComplete
  try dsimp only
  repeat' first | (with_reducible first | exact Keeps.refl | apply outKeeps_next | apply keeps_ite | apply Keeps.via State.coldState_keeps)
                | decide

end Sys2Proof.Machine
end

