-- ==== Sys2Proof/Laws/KeepPower.lean ====
section
/-! SUPPORT. What every operation of Machine/Power.lean leaves: its parts (the mask of Keeps) and the invariant. -/
namespace Sys2Proof.Machine

set_option Elab.async false
set_option linter.all false

set_option linter.unusedSimpArgs false
set_option linter.unusedVariables false

theorem State.putFeed_keeps {s : State} {p : Side} {f : Feed} :
    Keeps 0x400000 s (State.putFeed s p f) := by
  unfold State.putFeed
  try dsimp only
  repeat' first | (with_reducible first | exact Keeps.refl | apply Keeps.via State.mapPwr_keeps) | decide

theorem State.neitherJudge_keeps {s : State} :
    Keeps 0x4C0000 s (State.neitherJudge s) := by
  unfold State.neitherJudge
  try dsimp only
  repeat' first | (with_reducible first | exact Keeps.refl | apply keeps_ite | apply Keeps.via State.mapPwr_keeps | apply Keeps.via State.warnOn_keeps | apply Keeps.via State.warnOff_keeps)
                | decide

theorem State.feedEvent_keeps {s : State} {p : Side} {b0 : FeedLevel} :
    Keeps 0xC0000 s (State.feedEvent s p b0) := by
  unfold State.feedEvent
  try dsimp only
  repeat' first | (with_reducible first | exact Keeps.refl | apply Keeps.via State.note_keeps | apply Keeps.via State.warnOn_keeps | apply Keeps.via State.warnOff_keeps)
                | decide | split

theorem execFeedStateChange_keeps {p : Side} {mv : BitVec 16} {s : State} :
    OutKeeps 0x4C0000 s (execFeedStateChange p mv s) := by
  unfold execFeedStateChange
  try dsimp only
  repeat' first | (with_reducible first | exact Keeps.refl | apply outKeeps_next | apply keeps_ite | apply Keeps.via State.putFeed_keeps | apply Keeps.via State.neitherJudge_keeps | apply Keeps.via State.feedEvent_keeps)
                | decide

theorem execConductingFeedChange_keeps {va vb : BitVec 16} {s : State} :
    OutKeeps 0x400000 s (execConductingFeedChange va vb s) := by
  unfold execConductingFeedChange
  try dsimp only
  repeat' first | (with_reducible first | exact Keeps.refl | apply outKeeps_next | apply Keeps.via State.mapPwr_keeps)
                | decide

theorem execVdd3v3Check_keeps {mv : BitVec 16} {s : State} :
    OutKeeps 0x4C0000 s (execVdd3v3Check mv s) := by
  unfold execVdd3v3Check
  try dsimp only
  repeat' first | (with_reducible first | exact Keeps.refl | apply outKeeps_next | apply keeps_ite | apply Keeps.via State.mapPwr_keeps | apply Keeps.via State.warnOn_keeps | apply Keeps.via State.warnOff_keeps)
                | decide

theorem State.pollOne_keeps {s : State} {addr : Nat} {ans : Option Nat} :
    Keeps 0x2004C0000 s (State.pollOne s addr ans) := by
  unfold State.pollOne
  try dsimp only
  repeat' first | (with_reducible first | exact Keeps.refl | apply keeps_ite | apply Keeps.via State.mapPwr_keeps | apply Keeps.via State.emit_keeps | apply Keeps.via State.warnOn_keeps | apply Keeps.via State.warnOff_keeps)
                | decide

theorem execPmbusPoll_keeps {ans : List (Option Nat)} {s : State} :
    OutKeeps 0x2004C0000 s (execPmbusPoll ans s) := by
  unfold execPmbusPoll
  try dsimp only
  repeat' first | intro _ _ _
                | (with_reducible first | assumption | exact Keeps.refl | apply outKeeps_next | apply keeps_ite | apply Keeps.via State.mapPwr_keeps | apply Keeps.via State.pollOne_keeps | apply keeps_foldl)
                | decide

theorem execPmbAlert_keeps {s : State} :
    OutKeeps 0x400000 s (execPmbAlert s) := by
  unfold execPmbAlert
  try dsimp only
  repeat' first | (with_reducible first | exact Keeps.refl | apply outKeeps_next | apply keeps_ite | apply Keeps.via State.mapPwr_keeps)
                | decide

end Sys2Proof.Machine
end

