-- ==== Sys2Proof/Laws/KeepSessions.lean ====
section
/-! SUPPORT. What every operation of Machine/Sessions.lean leaves: its parts (the mask of Keeps) and the invariant. -/
namespace Sys2Proof.Machine

set_option Elab.async false
set_option linter.all false

set_option linter.unusedSimpArgs false
set_option linter.unusedVariables false

theorem State.mapSession_keeps {s : State} {id : Nat} {f : Session → Session} :
    Keeps 0x20000 s (State.mapSession s id f) := by
  unfold State.mapSession
  try dsimp only
  repeat' first | (with_reducible first | exact Keeps.refl | apply Keeps.via State.mapPs_keeps) | decide

theorem State.sessionEnd_keeps {s : State} {id cause : Nat} :
    Keeps 0xA0000 s (State.sessionEnd s id cause) := by
  unfold State.sessionEnd
  try dsimp only
  repeat' first | (with_reducible first | exact Keeps.refl | apply keeps_ite | apply Keeps.via State.mapPs_keeps | apply Keeps.via State.note_keeps)
                | decide

theorem State.sessionsEnd_keeps {s : State} {p : Session → Bool} {cause : Nat} :
    Keeps 0xA0000 s (State.sessionsEnd s p cause) := by
  unfold State.sessionsEnd
  try dsimp only
  repeat' first | intro _ _ _
                | (with_reducible first | assumption | exact Keeps.refl | apply Keeps.via State.sessionEnd_keeps | apply keeps_foldl)
                | decide

theorem State.hello_keeps {s : State} {session : Nat} {data : List Nat} :
    Keeps 0x120100 s (State.hello s session data).2.2 := by
  unfold State.hello
  try dsimp only
  repeat' first | (with_reducible first | exact Keeps.refl | apply Keeps.via State.mapPs_keeps | apply Keeps.via State.mapSec_keeps | apply Keeps.via State.drawn_keeps)
                | decide | split

theorem State.grantSession_keeps {s : State} {h : Hello} {cred : List Nat} :
    Keeps 0x120000 s (State.grantSession s h cred).2 := by
  unfold State.grantSession
  try dsimp only
  repeat' first | (with_reducible first | exact Keeps.refl | apply Keeps.via State.mapPs_keeps | apply Keeps.via State.mapSec_keeps)
                | decide

theorem State.openNow_keeps {s : State} {session : Nat} {data : List Nat} :
    Keeps 0x1A0100 s (State.openNow s session data).2.2 := by
  unfold State.openNow
  try dsimp only
  repeat' first | (with_reducible first | exact Keeps.refl | apply Keeps.via State.mapPs_keeps | apply Keeps.via State.drawn_keeps | apply Keeps.via State.warn_keeps | apply Keeps.via State.grantSession_keeps)
                | decide | split

theorem execHelloExpiry_keeps {s : State} :
    OutKeeps 0x20000 s (execHelloExpiry s) := by
  unfold execHelloExpiry
  try dsimp only
  repeat' first | (with_reducible first | exact Keeps.refl | apply outKeeps_next | apply Keeps.via State.mapPs_keeps) | decide

theorem execSessionTimeout_keeps {id : BitVec 32} {s : State} :
    OutKeeps 0xA0000 s (execSessionTimeout id s) := by
  unfold execSessionTimeout
  try dsimp only
  repeat' first | (with_reducible first | exact Keeps.refl | apply outKeeps_next | apply Keeps.via State.sessionEnd_keeps)
                | decide | split

theorem State.closeNamed_keeps {s : State} {id : Nat} :
    Keeps 0xA0000 s (State.closeNamed s id) := by
  unfold State.closeNamed
  try dsimp only
  repeat' first | (with_reducible first | exact Keeps.refl | apply Keeps.via State.sessionEnd_keeps) | decide

theorem execSessionClose_keeps {level : Nat} {id : BitVec 32} {s : State} :
    OutKeeps 0xA0000 s (execSessionClose level id s) := by
  unfold execSessionClose
  try dsimp only
  repeat' first | (with_reducible first | exact Keeps.refl | apply outKeeps_next | apply keeps_ite | apply Keeps.via State.closeNamed_keeps)
                | decide

theorem execSyncTimeStore_keeps {s : State} :
    OutKeeps 0x100000 s (execSyncTimeStore s) := by
  unfold execSyncTimeStore
  try dsimp only
  repeat' first | (with_reducible first | exact Keeps.refl | apply outKeeps_next | apply keeps_ite | apply Keeps.via State.mapSec_keeps)
                | decide

theorem State.claim_keeps {s : State} {session : Nat} {data : List Nat} :
    Keeps 0x180100 s (State.claim s session data).2 := by
  unfold State.claim
  try dsimp only
  repeat' first | (with_reducible first | exact Keeps.refl | apply Keeps.via State.mapSec_keeps | apply Keeps.via State.drawn_keeps | apply Keeps.via State.note_keeps)
                | decide | split

theorem State.ownerChange_keeps {s : State} {session : Nat} {data : List Nat} :
    Keeps 0x1A0000 s (State.ownerChange s session data) := by
  unfold State.ownerChange
  try dsimp only
  repeat' first | (with_reducible first | exact Keeps.refl | apply Keeps.via State.mapSec_keeps | apply Keeps.via State.note_keeps | apply Keeps.via State.privNote_keeps | apply Keeps.via State.sessionsEnd_keeps)
                | decide

theorem execOwnerKeysWrite_keeps {session level : Nat} {data : List Nat} {s : State} :
    OutKeeps 0x1A0000 s (execOwnerKeysWrite session level data s) := by
  unfold execOwnerKeysWrite
  try dsimp only
  repeat' first | (with_reducible first | exact Keeps.refl | apply outKeeps_next | apply keeps_ite | apply Keeps.via State.sessionEnd_keeps | apply Keeps.via State.ownerChange_keeps)
                | decide

theorem State.credGen_keeps {s : State} {session v : Nat} :
    Keeps 0x1A0000 s (State.credGen s session v) := by
  unfold State.credGen
  try dsimp only
  repeat' first | (with_reducible first | exact Keeps.refl | apply keeps_ite | apply Keeps.via State.mapSec_keeps | apply Keeps.via State.note_keeps | apply Keeps.via State.privNote_keeps | apply Keeps.via State.sessionsEnd_keeps)
                | decide

theorem execCredMinGenWrite_keeps {session level : Nat} {v : BitVec 32} {s : State} :
    OutKeeps 0x1A0000 s (execCredMinGenWrite session level v s) := by
  unfold execCredMinGenWrite
  try dsimp only
  repeat' first | (with_reducible first | exact Keeps.refl | apply outKeeps_next | apply keeps_ite | apply Keeps.via State.credGen_keeps)
                | decide

theorem State.attestRefused_keeps {s : State} {session : Nat} :
    Keeps 0x20000 s (State.attestRefused s session) := by
  unfold State.attestRefused
  try dsimp only
  repeat' first | (with_reducible first | exact Keeps.refl | apply Keeps.via State.mapSession_keeps) | decide

theorem State.attestBegin_keeps {s : State} {session : Nat} {nonce : List Nat} {okA okB : Bool} :
    Keeps 0x1E0000 s (State.attestBegin s session nonce okA okB) := by
  unfold State.attestBegin
  try dsimp only
  repeat' first | (with_reducible first | exact Keeps.refl | apply keeps_ite | apply Keeps.via State.mapSec_keeps | apply Keeps.via State.lmsAdvance_keeps | apply Keeps.via State.mapSession_keeps)
                | decide

theorem execAttestRequest_keeps {session level : Nat} {nonce : List Nat} {okA okB : Bool} {s : State} :
    OutKeeps 0x1E0000 s (execAttestRequest session level nonce okA okB s) := by
  unfold execAttestRequest
  try dsimp only
  repeat' first | (with_reducible first | exact Keeps.refl | apply outKeeps_next | apply keeps_ite | apply Keeps.via State.attestRefused_keeps | apply Keeps.via State.attestBegin_keeps)
                | decide

theorem execAttestSigned_keeps {s : State} :
    OutKeeps 0x1A0000 s (execAttestSigned s) := by
  unfold execAttestSigned
  try dsimp only
  repeat' first | (with_reducible first | exact Keeps.refl | apply outKeeps_next | apply keeps_ite | apply Keeps.via State.mapSec_keeps | apply Keeps.via State.note_keeps | apply Keeps.via State.mapSession_keeps)
                | decide | split

theorem execIdcode_keeps {s : State} :
    OutKeeps 0x100000 s (execIdcode s) := by
  unfold execIdcode
  try dsimp only
  repeat' first | (with_reducible first | exact Keeps.refl | apply outKeeps_next | apply Keeps.via State.mapSec_keeps)
                | decide

theorem execBypass_keeps {tdi : List Bool} {s : State} :
    OutKeeps 0x100000 s (execBypass tdi s) := by
  unfold execBypass
  try dsimp only
  repeat' first | (with_reducible first | exact Keeps.refl | apply outKeeps_next | apply Keeps.via State.mapSec_keeps)
                | decide

theorem execSamplePreload_keeps {pins tdi : List Bool} {s : State} :
    OutKeeps 0x100000 s (execSamplePreload pins tdi s) := by
  unfold execSamplePreload
  try dsimp only
  repeat' first | (with_reducible first | exact Keeps.refl | apply outKeeps_next | apply Keeps.via State.mapSec_keeps)
                | decide

theorem execExtest_keeps {pins tdi : List Bool} {s : State} :
    OutKeeps 0x100000 s (execExtest pins tdi s) := by
  unfold execExtest
  try dsimp only
  repeat' first | (with_reducible first | exact Keeps.refl | apply outKeeps_next | apply keeps_ite | apply Keeps.via State.mapSec_keeps)
                | decide

theorem execDbgChallenge_keeps {s : State} :
    OutKeeps 0x100000 s (execDbgChallenge s) := by
  unfold execDbgChallenge
  try dsimp only
  repeat' first | (with_reducible first | exact Keeps.refl | apply outKeeps_next | apply keeps_ite | apply Keeps.via State.mapSec_keeps)
                | decide

theorem State.dbgFailed_keeps {s : State} :
    Keeps 0x1C0000 s (State.dbgFailed s) := by
  unfold State.dbgFailed
  try dsimp only
  repeat' first | (with_reducible first | exact Keeps.refl | apply keeps_ite | apply Keeps.via State.mapSec_keeps | apply Keeps.via State.warnOn_keeps)
                | decide

theorem State.dbgJudge_keeps {s : State} {cred sig : List Nat} :
    Keeps 0x1C0000 s (State.dbgJudge s cred sig) := by
  unfold State.dbgJudge
  try dsimp only
  repeat' first | (with_reducible first | exact Keeps.refl | apply keeps_ite | apply Keeps.via State.mapSec_keeps | apply Keeps.via State.note_keeps | apply Keeps.via State.dbgFailed_keeps)
                | decide | split

theorem execDbgResponse_keeps {cred sig : List Nat} {s : State} :
    OutKeeps 0x1C0000 s (execDbgResponse cred sig s) := by
  unfold execDbgResponse
  try dsimp only
  repeat' first | (with_reducible first | exact Keeps.refl | apply outKeeps_next | apply keeps_ite | apply Keeps.via State.mapSec_keeps | apply Keeps.via State.dbgJudge_keeps)
                | decide

theorem execDbgLockoutEnd_keeps {s : State} :
    OutKeeps 0x140000 s (execDbgLockoutEnd s) := by
  unfold execDbgLockoutEnd
  try dsimp only
  repeat' first | (with_reducible first | exact Keeps.refl | apply outKeeps_next | apply keeps_ite | apply Keeps.via State.mapSec_keeps | apply Keeps.via State.warnOff_keeps)
                | decide | split

theorem execDbgEnd_keeps {s : State} :
    OutKeeps 0x180000 s (execDbgEnd s) := by
  unfold execDbgEnd
  try dsimp only
  repeat' first | (with_reducible first | exact Keeps.refl | apply outKeeps_next | apply keeps_ite | apply Keeps.via State.mapSec_keeps | apply Keeps.via State.dbgEnd_keeps)
                | decide

theorem execDbgIdleTimeout_keeps {s : State} :
    OutKeeps 0x180000 s (execDbgIdleTimeout s) := by
  unfold execDbgIdleTimeout
  try dsimp only
  repeat' first | (with_reducible first | exact Keeps.refl | apply outKeeps_next | apply keeps_ite | apply Keeps.via State.dbgEnd_keeps)
                | decide | split

theorem execDbgReset_keeps {s : State} :
    OutKeeps 0x1FFFFE8FC s (execDbgReset s) := by
  unfold execDbgReset
  try dsimp only
  repeat' first | (with_reducible first | exact Keeps.refl | apply outKeeps_next | apply keeps_ite | apply Keeps.via State.errBit_keeps | apply Keeps.via State.sysReset_keeps)
                | decide

end Sys2Proof.Machine
end

