-- ==== Sys2Proof/Laws/KeepViews.lean ====
section
/-! SUPPORT. What every operation of Machine/Views.lean leaves: its parts (the mask of Keeps) and the invariant. -/
namespace Sys2Proof.Machine

set_option Elab.async false
set_option linter.all false

set_option linter.unusedSimpArgs false
set_option linter.unusedVariables false

theorem State.mapClient_keeps {s : State} {src sport : Nat} {f : Client → Client} :
    Keeps 0x20000 s (State.mapClient s src sport f) := by
  unfold State.mapClient
  try dsimp only
  repeat' first | (with_reducible first | exact Keeps.refl | apply Keeps.via State.mapPs_keeps) | decide

theorem State.putSelects_keeps {s : State} {c : Caller} {v : Selects} :
    Keeps 0x30000 s (State.putSelects s c v) := by
  unfold State.putSelects
  try dsimp only
  repeat' first | intro _
                | (with_reducible first | exact Keeps.refl | apply Keeps.via State.mapSession_keeps | apply Keeps.via State.mapClient_keeps)
                | decide
                | (intros; simp only [List.length_map, List.length_zipIdx, length_updAt, length_putAt, List.length_range, List.length_replicate, and_self, *]; done)
                | split
                | (with_reducible apply keeps_masters; (with_reducible first | exact Keeps.refl | apply Keeps.via State.mapSession_keeps | apply Keeps.via State.mapClient_keeps))

theorem State.putCursor_keeps {s : State} {c : Caller} {v : Nat} {a : Bool} :
    Keeps 0x30000 s (State.putCursor s c v a) := by
  unfold State.putCursor
  try dsimp only
  repeat' first | intro _
                | (with_reducible first | exact Keeps.refl | apply Keeps.via State.mapSession_keeps | apply Keeps.via State.mapClient_keeps)
                | decide
                | (intros; simp only [List.length_map, List.length_zipIdx, length_updAt, length_putAt, List.length_range, List.length_replicate, and_self, *]; done)
                | split
                | (with_reducible apply keeps_masters; (with_reducible first | exact Keeps.refl | apply Keeps.via State.mapSession_keeps | apply Keeps.via State.mapClient_keeps))

theorem State.readWindow_keeps {s : State} {c : Caller} :
    Keeps 0x30000 s (State.readWindow s c).2 := by
  unfold State.readWindow
  try dsimp only
  repeat' first | (with_reducible first | exact Keeps.refl | apply Keeps.via State.putCursor_keeps) | decide

theorem State.readObj_keeps {s : State} {c : Caller} {sel : Selects} {idx sub : Nat} :
    Keeps 0x30000 s (State.readObj s c sel idx sub).2.2 := by
  unfold State.readObj
  try dsimp only
  repeat' first | (with_reducible first | exact Keeps.refl | apply Keeps.via State.readWindow_keeps) | decide | split

end Sys2Proof.Machine
end

