-- ==== Sys2Proof/Laws/KeepWrites.lean ====
section
/-! SUPPORT. What every operation of Machine/Writes.lean leaves: its parts (the mask of Keeps) and the invariant. -/
namespace Sys2Proof.Machine

set_option Elab.async false
set_option linter.all false

set_option linter.unusedSimpArgs false
set_option linter.unusedVariables false

theorem State.putObj_keeps {s : State} {c : Caller} {e : WEntry} :
    Keeps 0x1000C0800 s (State.putObj s c e) := by
  unfold State.putObj
  try dsimp only
  repeat' first | (with_reducible first | exact Keeps.refl | apply keeps_ite | apply Keeps.via State.setObj_keeps | apply Keeps.via State.protWritten_keeps | apply Keeps.via State.safetyWritten_keeps | apply Keeps.via State.privNote_keeps)
                | decide

theorem State.writeEffect_keeps {s : State} {c : Caller} {level : Nat} {e : WEntry} :
    Keeps 0x1FFFFE8FC s (State.writeEffect s c level e) := by
  unfold State.writeEffect
  try dsimp only
  repeat' first | (with_reducible first | exact Keeps.refl | apply Keeps.via State.mapSec_keeps | apply Keeps.via State.mapDpx_keeps | apply Keeps.via State.clearNow_keeps | apply Keeps.via State.clkCommit_keeps | apply Keeps.via State.injSoftware_keeps | apply Keeps.via State.setFail_keeps | apply Keeps.via State.failNow_keeps | apply Keeps.via State.setClock_keeps | apply Keeps.via State.outSet_keeps | apply Keeps.via State.outClear_keeps | apply Keeps.via State.pinClear_keeps | apply Keeps.via State.forcePin_keeps | apply Keeps.via State.holdSetpoint_keeps | apply Keeps.via State.gdVerify_keeps | apply Keeps.via State.protStart_keeps | apply Keeps.via State.safeReset_keeps | apply Keeps.via State.safetyConfirm_keeps | apply Keeps.via State.runApply_keeps | apply Keeps.via State.modeRequest_keeps | apply Keeps.via State.commitConfig_keeps | apply Keeps.via State.setTickLen_keeps | apply Keeps.via State.fuseSvn_keeps | apply Keeps.via State.privNote_keeps | apply Keeps.via State.appMinSvn_keeps | apply Keeps.via State.debugLock_keeps | apply Keeps.via State.resetCommand_keeps | apply Keeps.via State.closeNamed_keeps | apply Keeps.via State.ownerChange_keeps | apply Keeps.via State.credGen_keeps | apply Keeps.via State.attestBegin_keeps | apply Keeps.via State.putCursor_keeps | apply Keeps.via State.putObj_keeps)
                | decide | split

theorem State.refused_keeps {s at_ : State} {c : Caller} {level st : Nat} {e : WEntry} :
    Keeps 0x30E0800 s (State.refused s at_ c level st e) := by
  unfold State.refused
  try dsimp only
  repeat' first | (with_reducible first | exact Keeps.refl | apply keeps_ite | apply Keeps.via State.note_keeps | apply Keeps.via State.warn_keeps | apply Keeps.via State.setModeCheck_keeps | apply Keeps.via State.mapSession_keeps)
                | decide

theorem State.writeObj_keeps {s : State} {c : Caller} {level idx sub chan : Nat} {b : List Nat} :
    Keeps 0x1FFFFE8FC s (State.writeObj s c level idx sub chan b).2 := by
  unfold State.writeObj
  try dsimp only
  repeat' first | (with_reducible first | exact Keeps.refl | apply keeps_ite | apply Keeps.via State.writeEffect_keeps | apply Keeps.via State.refused_keeps)
                | decide

theorem State.putSelect_keeps {s : State} {c : Caller} {idx v : Nat} :
    Keeps 0x30000 s (State.putSelect s c idx v) := by
  unfold State.putSelect
  try dsimp only
  repeat' first | (with_reducible first | exact Keeps.refl | apply Keeps.via State.putSelects_keeps) | decide

theorem State.entryEffect_keeps {s : State} {c : Caller} {level : Nat} {e : WEntry} :
    Keeps 0x1FFFFE8FC s (State.entryEffect s c level e) := by
  unfold State.entryEffect
  try dsimp only
  repeat' first | (with_reducible first | exact Keeps.refl | apply keeps_ite | apply Keeps.via State.writeEffect_keeps | apply Keeps.via State.putSelect_keeps)
                | decide

theorem State.writeList_keeps {c : Caller} {level : Nat} {block : Option Selects} {es : List (Nat × Nat × List Nat)} {pos : Nat}
    {acc : List WEntry} {s : State} : Keeps 0x1FFFFE8FC s (State.writeList c level block es pos acc s).2.2.1 := by
  induction es generalizing pos acc s with
  | nil => exact Keeps.refl
  | cons e es ih =>
    obtain ⟨idx, sub, b⟩ := e
    unfold State.writeList
    dsimp only
    split
    · exact Keeps.via ih (by decide) (Keeps.via State.entryEffect_keeps (by decide) Keeps.refl)
    · exact Keeps.refl

theorem State.writeAll_keeps {s : State} {c : Caller} {level : Nat} {block : Option Selects}
    {es : List (Nat × Nat × List Nat)} :
    Keeps 0x1FFFFE8FC s (State.writeAll s c level block es).2.2.1 := by
  unfold State.writeAll
  try dsimp only
  repeat' first | intro _ _ _
                | (with_reducible first | assumption | exact Keeps.refl | apply keeps_ite | apply Keeps.via State.refused_keeps | apply Keeps.via State.entryEffect_keeps | apply Keeps.via State.writeList_keeps | apply keeps_foldl)
                | decide | split

theorem State.applyStaged_keeps {s : State} {c : Caller} {level : Nat} {ws : List WEntry} :
    Keeps 0x1FFFFE8FC s (State.applyStaged s c level ws).2.2 := by
  unfold State.applyStaged
  try dsimp only
  repeat' first | intro _ _ _
                | (with_reducible first | assumption | exact Keeps.refl | apply Keeps.via State.refused_keeps | apply Keeps.via State.entryEffect_keeps | apply keeps_foldl | apply keeps_foldl_mid)
                | decide | split

theorem execSafetySetWrite_keeps {session level idx sub chan : Nat} {value : List Nat} {s : State} :
    OutKeeps 0x1FFFFE8FC s (execSafetySetWrite session level idx sub chan value s) := by
  unfold execSafetySetWrite
  try dsimp only
  repeat' first | (with_reducible first | exact Keeps.refl | apply outKeeps_next | apply keeps_ite | apply Keeps.via State.writeObj_keeps)
                | decide

theorem execProtSetWrite_keeps {session level sub : Nat} {value : List Nat} {s : State} :
    OutKeeps 0x1FFFFE8FC s (execProtSetWrite session level sub value s) := by
  unfold execProtSetWrite
  try dsimp only
  repeat' first | (with_reducible first | exact Keeps.refl | apply outKeeps_next | apply Keeps.via State.writeObj_keeps)
                | decide

end Sys2Proof.Machine
end

