-- ==== Sys2Proof/Laws/KeepService.lean ====
section
/-! SUPPORT. What every operation of Machine/Service.lean leaves: its parts (the mask of Keeps) and the invariant. -/
namespace Sys2Proof.Machine

set_option Elab.async false
set_option linter.all false

set_option linter.unusedSimpArgs false
set_option linter.unusedVariables false

theorem State.sendResponse_keeps {s : State} {r : Request} {data : List Nat} :
    Keeps 0x200200000 s (State.sendResponse s r data) := by
  unfold State.sendResponse
  try dsimp only
  repeat' first | (exact rfl) | (with_reducible first | exact Keeps.refl | apply Keeps.via State.emitNet_keeps)

theorem State.reject_keeps {s : State} {r : Request} {st : Nat} :
    Keeps 0x200200000 s (State.reject s r st) := by
  unfold State.reject
  try dsimp only
  repeat' first | (exact rfl) | (with_reducible first | exact Keeps.refl | apply Keeps.via State.sendResponse_keeps)

theorem State.popHead_keeps {s : State} :
    Keeps 0x20000 s (State.popHead s) := by
  unfold State.popHead
  try dsimp only
  repeat' first | (with_reducible first | exact Keeps.refl | apply Keeps.via State.mapPs_keeps) | decide

theorem State.executed_keeps {s : State} {r : Request} {data : List Nat} :
    Keeps 0x20000 s (State.executed s r data) := by
  unfold State.executed
  try dsimp only
  repeat' first | (with_reducible first | exact Keeps.refl | apply keeps_ite | apply Keeps.via State.mapSession_keeps)
                | decide

theorem State.drain_keeps {n : Nat} {s : State} : Keeps 0x2002A0100 s (State.drain n s) := by
  induction n generalizing s with
  | zero => exact Keeps.refl
  | succ n ih =>
    unfold State.drain
    repeat' first | (with_reducible first | exact Keeps.refl | apply keeps_ite | apply Keeps.via ih | apply Keeps.via State.popHead_keeps | apply Keeps.via State.sendResponse_keeps | apply Keeps.via State.executed_keeps | apply Keeps.via State.note_keeps | apply Keeps.via State.drawn_keeps) | decide | split | dsimp only

theorem State.finish_keeps {s : State} {r : Request} {key : Option (List Nat)} {payload : List Nat} :
    Keeps 0x2002A0100 s (State.finish s r key payload) := by
  unfold State.finish
  try dsimp only
  repeat' first | (with_reducible first | exact Keeps.refl | apply Keeps.via State.mapPs_keeps | apply Keeps.via State.sendResponse_keeps | apply Keeps.via State.executed_keeps | apply Keeps.via State.drain_keeps)
                | decide

theorem State.touchClient_keeps {s : State} {src sport : Nat} :
    Keeps 0x20000 s (State.touchClient s src sport) := by
  unfold State.touchClient
  try dsimp only
  repeat' first | (with_reducible first | exact Keeps.refl | apply keeps_ite | apply Keeps.via State.mapPs_keeps | apply Keeps.via State.mapClient_keeps)
                | decide

theorem State.takeRequest_keeps {s : State} {r : Request} :
    Keeps 0x2002A0100 s (State.takeRequest s r) := by
  unfold State.takeRequest
  try dsimp only
  repeat' first | (with_reducible first | exact Keeps.refl | apply keeps_ite | apply Keeps.via State.mapPs_keeps | apply Keeps.via State.note_keeps | apply Keeps.via State.sendResponse_keeps | apply Keeps.via State.reject_keeps | apply Keeps.via State.drain_keeps)
                | decide | split

theorem execPsDatagram_keeps {door : Door} {rct : Option (Nat × Nat)} {src sport : Nat} {data : List Nat} {s : State} :
    OutKeeps 0x2002A0100 s (execPsDatagram door rct src sport data s) := by
  unfold execPsDatagram
  try dsimp only
  repeat' first | (exact rfl)
                | (with_reducible first | exact Keeps.refl | apply outKeeps_next | apply keeps_ite | apply Keeps.via State.warn_keeps | apply Keeps.via State.ingress_keeps | apply Keeps.via State.reject_keeps | apply Keeps.via State.touchClient_keeps | apply Keeps.via State.takeRequest_keeps)

theorem execClientStateExpiry_keeps {src sport : Nat} {s : State} :
    OutKeeps 0x20000 s (execClientStateExpiry src sport s) := by
  unfold execClientStateExpiry
  try dsimp only
  repeat' first | (with_reducible first | exact Keeps.refl | apply outKeeps_next | apply Keeps.via State.mapPs_keeps) | decide

theorem State.readEntry_keeps {s : State} {c : Caller} {idx sub : Nat} {b : List Nat} :
    Keeps 0x30000 s (State.readEntry s c idx sub b).2.2 := by
  unfold State.readEntry
  try dsimp only
  repeat' first | (with_reducible first | exact Keeps.refl | apply keeps_ite | apply Keeps.via State.readObj_keeps | apply Keeps.via State.putSelect_keeps)
                | decide | split

/-- An entry that does not fit the response answers FRAME and leaves the state before it. -/
theorem State.fitEntry_keeps {m : Nat} {r s : State} {len left : Nat} {x : Nat × List Nat × State} (k : Keeps m r s)
    (kx : Keeps m r x.2.2) : Keeps m r (State.fitEntry s len left x).2.2 := by
  unfold State.fitEntry
  split
  · exact kx
  · exact k

theorem State.readList_keeps {c : Caller} {es : List (Nat × Nat × List Nat)} {pos : Nat} {f : Nat × Nat} {out : List Nat}
    {s : State} : Keeps 0x30000 s (State.readList c es pos f out s).2.2 := by
  induction es generalizing pos f out s with
  | nil => exact Keeps.refl
  | cons e es ih =>
    obtain ⟨idx, sub, b⟩ := e
    unfold State.readList
    exact Keeps.via ih (by decide) (State.fitEntry_keeps Keeps.refl (Keeps.via State.readEntry_keeps (by decide) Keeps.refl))

theorem State.readBlockList_keeps {c : Caller} {sel : Selects} {idx n sub pos : Nat} {f : Nat × Nat} {out : List Nat}
    {s : State} : Keeps 0x30000 s (State.readBlockList c sel idx n sub pos f out s).2.2 := by
  induction n generalizing sub pos f out s with
  | zero => exact Keeps.refl
  | succ n ih =>
    unfold State.readBlockList
    exact Keeps.via ih (by decide) (State.fitEntry_keeps Keeps.refl (Keeps.via State.readObj_keeps (by decide) Keeps.refl))

theorem State.begin_keeps {s t : State} {code : Nat} {r : Request} (e : s.begin code = some (r, t)) :
    Keeps 0x2002A0100 s t := by
  unfold State.begin at e
  dsimp only at e
  cases hh : (State.drain 17 s).head code with
  | none => rw [hh] at e; cases e
  | some q =>
    rw [hh] at e; cases e
    exact Keeps.via State.popHead_keeps (by decide) (Keeps.via State.drain_keeps (by decide) Keeps.refl)

theorem State.doRead_keeps {s : State} {r : Request} :
    Keeps 0x2002B0100 s (State.doRead s r) := by
  unfold State.doRead
  try dsimp only
  repeat' first | (exact rfl)
                | (with_reducible first | exact Keeps.refl | apply Keeps.via State.finish_keeps | apply Keeps.via State.readList_keeps)
                | split

theorem execReadRequest_keeps {s : State} :
    OutKeeps 0x2002B0100 s (execReadRequest s) := by
  unfold execReadRequest
  try dsimp only
  repeat' first | (with_reducible first | exact Keeps.refl | apply outKeeps_next | apply Keeps.via State.drain_keeps | apply Keeps.via State.doRead_keeps)
                | decide | refine Keeps.via (State.begin_keeps (by assumption)) (by decide) ?_ | split

theorem State.doReadBlock_keeps {s : State} {r : Request} :
    Keeps 0x2002B0100 s (State.doReadBlock s r) := by
  unfold State.doReadBlock
  try dsimp only
  repeat' first | (exact rfl)
                | (with_reducible first | exact Keeps.refl | apply Keeps.via State.finish_keeps | apply Keeps.via State.readBlockList_keeps)
                | split

theorem execReadBlock_keeps {s : State} :
    OutKeeps 0x2002B0100 s (execReadBlock s) := by
  unfold execReadBlock
  try dsimp only
  repeat' first | (with_reducible first | exact Keeps.refl | apply outKeeps_next | apply Keeps.via State.drain_keeps | apply Keeps.via State.doReadBlock_keeps)
                | decide | refine Keeps.via (State.begin_keeps (by assumption)) (by decide) ?_ | split

theorem State.doDescribe_keeps {s : State} {r : Request} :
    Keeps 0x2002A0100 s (State.doDescribe s r) := by
  unfold State.doDescribe
  try dsimp only
  repeat' first | (exact rfl) | (with_reducible first | exact Keeps.refl | apply Keeps.via State.finish_keeps) | split

theorem execDescribeRequest_keeps {s : State} :
    OutKeeps 0x2002A0100 s (execDescribeRequest s) := by
  unfold execDescribeRequest
  try dsimp only
  repeat' first | (with_reducible first | exact Keeps.refl | apply outKeeps_next | apply Keeps.via State.drain_keeps | apply Keeps.via State.doDescribe_keeps)
                | decide | refine Keeps.via (State.begin_keeps (by assumption)) (by decide) ?_ | split

theorem State.wait_keeps {s : State} {r : Request} {w : Waiting} :
    Keeps 0x20000 s (State.wait s r w) := by
  unfold State.wait
  try dsimp only
  repeat' first | (with_reducible first | exact Keeps.refl | apply Keeps.via State.mapPs_keeps) | decide

theorem State.endOwner_keeps {s : State} {r : Request} {ws : List (Nat × Nat)} :
    Keeps 0xA0000 s (State.endOwner s r ws) := by
  unfold State.endOwner
  try dsimp only
  repeat' first | (with_reducible first | exact Keeps.refl | apply keeps_ite | apply Keeps.via State.sessionEnd_keeps)
                | decide

theorem State.doWrite_keeps {s : State} {r : Request} {block : Option Selects} {es : List (Nat × Nat × List Nat)} :
    Keeps 0x3FFFFE9FC s (State.doWrite s r block es) := by
  unfold State.doWrite
  try dsimp only
  repeat' first | (exact rfl)
                | (with_reducible first | exact Keeps.refl | apply keeps_ite | apply Keeps.via State.writeAll_keeps | apply Keeps.via State.finish_keeps | apply Keeps.via State.wait_keeps | apply Keeps.via State.endOwner_keeps)
                | split

theorem execWriteRequest_keeps {s : State} :
    OutKeeps 0x3FFFFE9FC s (execWriteRequest s) := by
  unfold execWriteRequest
  try dsimp only
  repeat' first | (exact rfl)
                | (with_reducible first | exact Keeps.refl | apply outKeeps_next | apply Keeps.via State.drain_keeps | apply Keeps.via State.finish_keeps | apply Keeps.via State.doWrite_keeps)
                | refine Keeps.via (State.begin_keeps (by assumption)) (by decide) ?_ | split

theorem execWriteBlock_keeps {s : State} :
    OutKeeps 0x3FFFFE9FC s (execWriteBlock s) := by
  unfold execWriteBlock
  try dsimp only
  repeat' first | (exact rfl)
                | (with_reducible first | exact Keeps.refl | apply outKeeps_next | apply Keeps.via State.drain_keeps | apply Keeps.via State.finish_keeps | apply Keeps.via State.doWrite_keeps)
                | refine Keeps.via (State.begin_keeps (by assumption)) (by decide) ?_ | split

theorem State.settleNext_keeps {s : State} {r : Request} :
    Keeps 0x2002A0100 s (State.settleNext s r) := by
  unfold State.settleNext
  try dsimp only
  repeat' first | (exact rfl)
                | (with_reducible first | exact Keeps.refl | apply Keeps.via State.finish_keeps | apply Keeps.via State.wait_keeps | apply Keeps.via State.endOwner_keeps)
                | split

theorem State.settle_keeps {s : State} :
    Keeps 0x2002A0100 s (State.settle s) := by
  unfold State.settle
  try dsimp only
  repeat' first | (exact rfl)
                | (with_reducible first | exact Keeps.refl | apply keeps_ite | apply Keeps.via State.finish_keeps | apply Keeps.via State.settleNext_keeps)
                | split

theorem State.stagedApply_keeps {s : State} :
    Keeps 0x3FFFFE9FC s (State.stagedApply s) := by
  unfold State.stagedApply
  try dsimp only
  repeat' first | (with_reducible first | exact Keeps.refl | apply keeps_ite | apply Keeps.via State.applyStaged_keeps | apply Keeps.via State.finish_keeps | apply Keeps.via State.wait_keeps | apply Keeps.via State.endOwner_keeps)
                | decide | split

theorem execConfigCommitDone_keeps {s : State} :
    OutKeeps 0x2002E3100 s (execConfigCommitDone s) := by
  unfold execConfigCommitDone
  try dsimp only
  repeat' first | (with_reducible first | exact Keeps.refl | apply outKeeps_next | apply Keeps.via State.commitDone_keeps | apply Keeps.via State.settle_keeps)
                | decide

theorem execHelloRequest_keeps {s : State} :
    OutKeeps 0x2003A0100 s (execHelloRequest s) := by
  unfold execHelloRequest
  try dsimp only
  repeat' first | (exact rfl)
                | (with_reducible first | exact Keeps.refl | apply outKeeps_next | apply Keeps.via State.hello_keeps | apply Keeps.via State.drain_keeps | apply Keeps.via State.finish_keeps)
                | refine Keeps.via (State.begin_keeps (by assumption)) (by decide) ?_ | split

theorem execOpenSession_keeps {s : State} :
    OutKeeps 0x2003A0100 s (execOpenSession s) := by
  unfold execOpenSession
  try dsimp only
  repeat' first | (exact rfl)
                | (with_reducible first | exact Keeps.refl | apply outKeeps_next | apply Keeps.via State.openNow_keeps | apply Keeps.via State.drain_keeps | apply Keeps.via State.finish_keeps)
                | refine Keeps.via (State.begin_keeps (by assumption)) (by decide) ?_ | split

theorem execCloseSession_keeps {s : State} :
    OutKeeps 0x2002A0100 s (execCloseSession s) := by
  unfold execCloseSession
  try dsimp only
  repeat' first | (exact rfl)
                | (with_reducible first | exact Keeps.refl | apply outKeeps_next | apply keeps_ite | apply Keeps.via State.drawn_keeps | apply Keeps.via State.sessionEnd_keeps | apply Keeps.via State.drain_keeps | apply Keeps.via State.finish_keeps)
                | refine Keeps.via (State.begin_keeps (by assumption)) (by decide) ?_ | split

theorem execClaimOwner_keeps {s : State} :
    OutKeeps 0x2003A0100 s (execClaimOwner s) := by
  unfold execClaimOwner
  try dsimp only
  repeat' first | (exact rfl)
                | (with_reducible first | exact Keeps.refl | apply outKeeps_next | apply Keeps.via State.claim_keeps | apply Keeps.via State.drain_keeps | apply Keeps.via State.finish_keeps)
                | refine Keeps.via (State.begin_keeps (by assumption)) (by decide) ?_ | split

end Sys2Proof.Machine
end

