-- ==== Sys2Proof/Laws/KeepFence.lean ====
section
/-! SUPPORT. What every operation of Machine/Fence.lean leaves: its parts (the mask of Keeps) and the invariant. -/
namespace Sys2Proof.Machine

set_option Elab.async false
set_option linter.all false

set_option linter.unusedSimpArgs false
set_option linter.unusedVariables false

theorem State.mapHdr_keeps {s : State} {region : Nat} {f : RegionHdr → RegionHdr} :
    Keeps 0x8000 s (State.mapHdr s region f) := by
  unfold State.mapHdr
  try dsimp only
  repeat' first | (with_reducible exact Keeps.refl) | decide
                | (intros; simp only [List.length_map, List.length_zipIdx, length_updAt, length_putAt, List.length_range, List.length_replicate, and_self, *]; done)
                | (with_reducible apply keeps_hdrs; with_reducible exact Keeps.refl)

theorem State.markFenced_keeps {s : State} {region b : Nat} :
    Keeps 0x8000 s (State.markFenced s region b) := by
  unfold State.markFenced
  try dsimp only
  repeat' first | (with_reducible first | exact Keeps.refl | apply Keeps.via State.mapHdr_keeps) | decide

theorem State.tripIn_keeps {s : State} {code region : Nat} {n : Fn} {payload : List Nat} :
    Keeps 0x1DB0C4800 s (State.tripIn s code region n payload) := by
  unfold State.tripIn
  try dsimp only
  repeat' first | (exact rfl) | (with_reducible first | exact Keeps.refl | apply Keeps.via (State.mapMode_keeps ?_) | apply Keeps.via State.offer_keeps | apply Keeps.via State.faultFn_keeps | apply Keeps.via State.blockSpan_keeps)
                | decide

theorem State.recordFails_keeps {s : State} :
    Keeps 0x1DB0C4800 s (State.recordFails s) := by
  unfold State.recordFails
  try dsimp only
  repeat' first | (with_reducible first | exact Keeps.refl | apply keeps_ite | apply Keeps.via State.memFailure_keeps)
                | decide

theorem State.rotationEnds_keeps {s : State} :
    Keeps 0x100C0000 s (State.rotationEnds s) := by
  unfold State.rotationEnds
  try dsimp only
  repeat' first | (intro _ _ _; dsimp only)
                | (with_reducible first | exact Keeps.refl | apply Keeps.via (State.mapSense_keeps ?_) | apply Keeps.via State.warnOn_keeps)
                | decide
                | (intros; simp only [List.length_map, List.length_zipIdx, length_updAt, length_putAt, List.length_range, List.length_replicate, and_self, *]; done)

theorem State.frameCut_keeps {s : State} {q : Nat} :
    Keeps 0x200000000 s (State.frameCut s q) := by
  unfold State.frameCut
  try dsimp only
  repeat' first | (exact rfl) | (with_reducible first | exact Keeps.refl | apply keeps_ite | apply Keeps.via State.emit_keeps)

theorem State.framerEnds_keeps {s : State} {q : Nat} :
    Keeps 0x3DB0C4800 s (State.framerEnds s q) := by
  unfold State.framerEnds
  try dsimp only
  repeat' first | (with_reducible first | exact Keeps.refl | apply keeps_ite | apply Keeps.via State.mapTrk_keeps | apply Keeps.via State.abandon_keeps | apply Keeps.via State.quireLoss_keeps | apply Keeps.via State.leaveUp_keeps | apply Keeps.via State.frameCut_keeps)
                | decide

theorem State.mailboxEnds_keeps {s : State} :
    Keeps 0x8000000 s (State.mailboxEnds s) := by
  unfold State.mailboxEnds
  try dsimp only
  repeat' first | intro _ _ _
                | (with_reducible first | assumption | exact Keeps.refl | apply keeps_ite | apply Keeps.via State.mapTrk_keeps | apply Keeps.via State.abandon_keeps | apply keeps_foldl)
                | decide

theorem State.safetyLayerEnds_keeps {s : State} :
    Keeps 0x1000C0100 s (State.safetyLayerEnds s) := by
  unfold State.safetyLayerEnds
  try dsimp only
  repeat' first | intro _ _ _
                | (with_reducible first | assumption | exact Keeps.refl | apply Keeps.via State.drawn_keeps | apply Keeps.via State.slLost_keeps | apply keeps_foldl)
                | decide

theorem State.serviceEnds_keeps {s : State} :
    Keeps 0x220000 s (State.serviceEnds s) := by
  unfold State.serviceEnds
  try dsimp only
  repeat' first | (with_reducible first | exact Keeps.refl | apply Keeps.via State.mapPs_keeps | apply Keeps.via State.dropSems_keeps)
                | decide

theorem State.securityEnds_keeps {s : State} :
    Keeps 0x1A0100 s (State.securityEnds s) := by
  unfold State.securityEnds
  try dsimp only
  repeat' first | (with_reducible first | exact Keeps.refl | apply Keeps.via State.mapSec_keeps | apply Keeps.via State.drawn_keeps | apply Keeps.via State.sessionsEnd_keeps)
                | decide

theorem State.fenceEffect_keeps {s : State} {region b : Nat} :
    Keeps 0x3DFBE4900 s (State.fenceEffect s region b) := by
  unfold State.fenceEffect
  try dsimp only
  repeat' first | (intro _ _ _; dsimp only)
                | (with_reducible first | exact Keeps.refl | apply keeps_ite | apply Keeps.via (State.mapRecd_keeps ?_) | apply Keeps.via State.mapSec_keeps | apply Keeps.via (State.mapFab_keeps ?_) | apply Keeps.via State.mapDpx_keeps | apply Keeps.via State.spnStop_keeps | apply Keeps.via State.servoFree_keeps | apply Keeps.via State.dpxLinkLost_keeps | apply Keeps.via State.dropSems_keeps | apply Keeps.via State.portLost_keeps | apply Keeps.via State.barrierDown_keeps | apply Keeps.via State.dbgEnd_keeps | apply Keeps.via State.recordFails_keeps | apply Keeps.via State.rotationEnds_keeps | apply Keeps.via State.framerEnds_keeps | apply Keeps.via State.mailboxEnds_keeps | apply Keeps.via State.safetyLayerEnds_keeps | apply Keeps.via State.serviceEnds_keeps | apply Keeps.via State.securityEnds_keeps | rfl)
                | decide
                | (intros; simp only [List.length_map, List.length_zipIdx, length_updAt, length_putAt, List.length_range, List.length_replicate, and_self, *]; done)
                | split

theorem State.dropStaged_keeps {s : State} {region b : Nat} :
    Keeps 0x2042A0100 s (State.dropStaged s region b) := by
  unfold State.dropStaged
  try dsimp only
  repeat' first | (with_reducible first | exact Keeps.refl | apply keeps_ite | apply Keeps.via State.mapSpn_keeps | apply Keeps.via State.finish_keeps)
                | decide | split

theorem State.dropRegs_keeps {s : State} {region b : Nat} :
    Keeps 0x20000 s (State.dropRegs s region b) := by
  unfold State.dropRegs
  try dsimp only
  repeat' first | (with_reducible first | exact Keeps.refl | apply Keeps.via State.mapPs_keeps) | decide

theorem State.escalate_keeps {s : State} {item : Nat} :
    Keeps 0x1DF6C4800 s (State.escalate s item) := by
  unfold State.escalate
  try dsimp only
  repeat' first | (intro _ _ _; dsimp only)
                | (with_reducible first | exact Keeps.refl | apply keeps_ite | apply Keeps.via (State.mapFab_keeps ?_) | apply Keeps.via State.safeFault_keeps)
                | decide | (intros; (repeat' apply And.intro) <;> with_reducible assumption)

theorem State.fenceEvent_keeps {s : State} {region b cause : Nat} :
    Keeps 0x1DB0C4800 s (State.fenceEvent s region b cause) := by
  unfold State.fenceEvent
  try dsimp only
  repeat' first | (with_reducible first | exact Keeps.refl | apply keeps_ite | apply Keeps.via (State.mapMode_keeps ?_) | apply Keeps.via State.offer_keeps | apply Keeps.via State.tripIn_keeps | rfl)
                | decide | split

theorem State.fenceBlock_keeps {s : State} {region b cause : Nat} :
    Keeps 0x3DFFEC900 s (State.fenceBlock s region b cause) := by
  unfold State.fenceBlock
  try dsimp only
  repeat' first | (intro _ _ _; dsimp only)
                | (with_reducible first | exact Keeps.refl | apply keeps_ite | apply Keeps.via (State.mapFab_keeps ?_) | apply Keeps.via State.offer_keeps | apply Keeps.via State.markFenced_keeps | apply Keeps.via State.fenceEffect_keeps | apply Keeps.via State.dropStaged_keeps | apply Keeps.via State.dropRegs_keeps | apply Keeps.via State.escalate_keeps | apply Keeps.via State.fenceEvent_keeps)
                | decide | (intros; (repeat' apply And.intro) <;> with_reducible assumption)

theorem execUncorrectableError_keeps {region : Fin 9} {b : Fin 16} {kind : Fin 3} {boundary : Bool} {s : State} :
    OutKeeps 0x3DFFEC900 s (execUncorrectableError region b kind boundary s) := by
  unfold execUncorrectableError
  try dsimp only
  repeat' first | (with_reducible first | exact Keeps.refl | apply outKeeps_next | apply keeps_ite | apply Keeps.via State.escalate_keeps | apply Keeps.via State.fenceBlock_keeps)
                | decide

theorem execParityError_keeps {region : Fin 9} {b : Fin 16} {nth : Fin 4} {s : State} :
    OutKeeps 0x3DFFEC900 s (execParityError region b nth s) := by
  unfold execParityError
  try dsimp only
  repeat' first | (intro _ _ _; dsimp only)
                | (with_reducible first | exact Keeps.refl | apply outKeeps_next | apply keeps_ite | apply Keeps.via (State.mapFab_keeps ?_) | apply Keeps.via State.errBit_keeps | apply Keeps.via State.fenceBlock_keeps)
                | decide | (intros; (repeat' apply And.intro) <;> with_reducible assumption)

theorem execHandshakeTimeout_keeps {core : Option Nat} {s : State} :
    OutKeeps 0x3DFFEC900 s (execHandshakeTimeout core s) := by
  unfold execHandshakeTimeout
  try dsimp only
  repeat' first | (with_reducible first | exact Keeps.refl | apply outKeeps_next | apply Keeps.via State.escalate_keeps | apply Keeps.via State.fenceBlock_keeps)
                | decide | split

theorem execQueueStall_keeps {q : Fin 16} {s : State} :
    OutKeeps 0x3DFFEC900 s (execQueueStall q s) := by
  unfold execQueueStall
  try dsimp only
  repeat' first | (intro _ _ _; dsimp only)
                | (with_reducible first | exact Keeps.refl | apply outKeeps_next | apply keeps_ite | apply Keeps.via (State.mapFab_keeps ?_) | apply Keeps.via State.fenceBlock_keeps)
                | decide
                | (intros; simp only [List.length_map, List.length_zipIdx, length_updAt, length_putAt, List.length_range, List.length_replicate, and_self, *]; done)
                | split

theorem State.unfence_keeps {s : State} {m region b : Nat} :
    Keeps 0x208000 s (State.unfence s m region b) := by
  unfold State.unfence
  try dsimp only
  repeat' first | (intro _ _ _; dsimp only)
                | (with_reducible first | exact Keeps.refl | apply keeps_ite | apply Keeps.via (State.mapFab_keeps ?_) | apply Keeps.via State.errBit_keeps)
                | decide | (intros; (repeat' apply And.intro) <;> with_reducible assumption)

theorem execUnfence_keeps {m : Fin 7} {region : Fin 9} {b : Fin 16} {s : State} :
    OutKeeps 0x208000 s (execUnfence m region b s) := by
  unfold execUnfence
  try dsimp only
  repeat' first | (with_reducible first | exact Keeps.refl | apply outKeeps_next | apply Keeps.via State.unfence_keeps)
                | decide

theorem State.objsReset_keeps {s : State} {region b : Nat} : Keeps 0x800 s (s.objsReset region b) := by
  refine Keeps.upd Keeps.refl rfl (fun h => ?_)
  unfold State.objsReset State.Good
  dsimp only
  exact good_set h (tcanon_filter h.1) h.2.1 h.2.2.1 rfl

theorem State.workReset_keeps {s : State} {region b : Nat} :
    Keeps 0x1BFB0000 s (State.workReset s region b) := by
  unfold State.workReset
  try dsimp only
  repeat' first | (intro _ _ _; dsimp only) | intro _ _ | intro _
                | (with_reducible first | exact Keeps.refl | apply keeps_ite | apply Keeps.via State.mapPs_keeps | apply Keeps.via (State.mapRecd_keeps ?_) | apply Keeps.via State.mapSec_keeps | apply Keeps.via (State.mapFab_keeps ?_) | apply Keeps.via State.mapPwr_keeps | apply Keeps.via State.mapDpx_keeps | apply Keeps.via State.mapForm_keeps | apply Keeps.via State.mapArm_keeps | apply Keeps.via (State.mapCellS_keeps ?_) | apply Keeps.via (State.mapSense_keeps ?_) | apply Keeps.via State.mapTrk_keeps | apply Keeps.via State.mapB_keeps | rfl)
                | decide
                | (intros; simp only [List.length_map, List.length_zipIdx, length_updAt, length_putAt, List.length_range, List.length_replicate, and_self, *]; done)
                | split
                | (with_reducible apply keeps_masters; (with_reducible first | exact Keeps.refl | apply keeps_ite | apply Keeps.via State.mapPs_keeps | apply Keeps.via (State.mapRecd_keeps ?_) | apply Keeps.via State.mapSec_keeps | apply Keeps.via (State.mapFab_keeps ?_) | apply Keeps.via State.mapPwr_keeps | apply Keeps.via State.mapDpx_keeps | apply Keeps.via State.mapForm_keeps | apply Keeps.via State.mapArm_keeps | apply Keeps.via (State.mapCellS_keeps ?_) | apply Keeps.via (State.mapSense_keeps ?_) | apply Keeps.via State.mapTrk_keeps | apply Keeps.via State.mapB_keeps))

theorem State.released_keeps {s : State} {region b : Nat} :
    Keeps 0x1BFF8800 s (State.released s region b) := by
  unfold State.released
  try dsimp only
  repeat' first | (intro _ _ _; dsimp only)
                | (with_reducible first | exact Keeps.refl | apply Keeps.via (State.mapMode_keeps ?_) | apply Keeps.via (State.mapFab_keeps ?_) | apply Keeps.via State.offer_keeps | apply Keeps.via State.mapHdr_keeps | apply Keeps.via State.objsReset_keeps | apply Keeps.via State.workReset_keeps | rfl)
                | decide | (intros; (repeat' apply And.intro) <;> with_reducible assumption)

theorem execFenceSelftestDone_keeps {region : Fin 9} {b : Fin 16} {ok : Bool} {s : State} :
    OutKeeps 0x1BFF8800 s (execFenceSelftestDone region b ok s) := by
  unfold execFenceSelftestDone
  try dsimp only
  repeat' first | (intro _ _ _; dsimp only)
                | (with_reducible first | exact Keeps.refl | apply outKeeps_next | apply keeps_ite | apply Keeps.via (State.mapFab_keeps ?_) | apply Keeps.via State.offer_keeps | apply Keeps.via State.released_keeps)
                | decide | (intros; (repeat' apply And.intro) <;> with_reducible assumption)

theorem execErrorClear_keeps {m : Fin 7} {region : Fin 8} {mask : BitVec 32} {s : State} :
    OutKeeps 0x8000 s (execErrorClear m region mask s) := by
  unfold execErrorClear
  try dsimp only
  repeat' first | (with_reducible first | exact Keeps.refl | apply outKeeps_next | apply keeps_ite | apply Keeps.via State.errBit_keeps | apply Keeps.via State.clearError_keeps)
                | decide

end Sys2Proof.Machine
end

