-- ==== Sys2Proof/Laws/KeepRegisters.lean ====
section
/-! SUPPORT. What every operation of Machine/Registers.lean leaves: its parts (the mask of Keeps) and the invariant. -/
namespace Sys2Proof.Machine

set_option Elab.async false
set_option linter.all false

set_option linter.unusedSimpArgs false
set_option linter.unusedVariables false

theorem State.refuseReg_keeps {s : State} {region st : Nat} :
    Keeps 0x8000 s (State.refuseReg s region st) := by
  unfold State.refuseReg
  try dsimp only
  repeat' first | (with_reducible first | exact Keeps.refl | apply Keeps.via State.errBit_keeps) | decide | split

theorem State.regObj_keeps {s : State} {m idx sub chan : Nat} {v : Val} :
    Keeps 0x1FFFFE8FC s (State.regObj s m idx sub chan v).2 := by
  unfold State.regObj
  try dsimp only
  repeat' first | (with_reducible first | exact Keeps.refl | apply keeps_ite | apply Keeps.via State.mapPs_keeps | apply Keeps.via State.writeObj_keeps)
                | decide | split

theorem State.regCmd_keeps {s : State} {m region idx sub v : Nat} :
    Keeps 0x1FFFFE8FC s (State.regCmd s m region idx sub v) := by
  unfold State.regCmd
  try dsimp only
  repeat' first | (with_reducible first | exact Keeps.refl | apply Keeps.via State.refuseReg_keeps | apply Keeps.via State.regObj_keeps)
                | decide

theorem State.writeFields_keeps {s : State} {m region w : Nat} {fs : List MapField} :
    Keeps 0x1FFFFE8FC s (State.writeFields s m region w fs) := by
  unfold State.writeFields
  try dsimp only
  repeat' first | intro _ _ _
                | (with_reducible first | assumption | exact Keeps.refl | apply keeps_ite | apply Keeps.via State.errBit_keeps | apply Keeps.via State.refuseReg_keeps | apply Keeps.via State.regObj_keeps | apply keeps_foldl_snd)
                | decide | split

theorem State.writeWord_keeps {s : State} {m region idx sub i w : Nat} :
    Keeps 0x1FFFFE8FC s (State.writeWord s m region idx sub i w) := by
  unfold State.writeWord
  try dsimp only
  repeat' first | (with_reducible first | exact Keeps.refl | apply keeps_ite | apply Keeps.via State.refuseReg_keeps | apply Keeps.via State.regObj_keeps)
                | decide

theorem State.writeSelect_keeps {s : State} {m region g v : Nat} :
    Keeps 0x18000 s (State.writeSelect s m region g v) := by
  unfold State.writeSelect
  try dsimp only
  repeat' first | intro _ | (with_reducible first | exact Keeps.refl | apply keeps_ite | apply Keeps.via State.errBit_keeps)
                | decide
                | (intros; simp only [List.length_map, List.length_zipIdx, length_updAt, length_putAt, List.length_range, List.length_replicate, and_self, *]; done)
                | (with_reducible apply keeps_masters; (with_reducible first | exact Keeps.refl | apply keeps_ite | apply Keeps.via State.errBit_keeps))

theorem State.readOnly_keeps {s : State} {region : Nat} :
    Keeps 0x8000 s (State.readOnly s region) := by
  unfold State.readOnly
  try dsimp only
  repeat' first | (with_reducible first | exact Keeps.refl | apply Keeps.via State.errBit_keeps) | decide

theorem State.w1c_keeps {x : Nat} {r s : State} {m region level : Nat} {on : Bool} {f : State → State}
    (hm : within 0x8000 x) (k : Keeps x r s) (hf : ∀ t, Keeps x r t → Keeps x r (f t)) :
    Keeps x r (s.w1c m region level on f) := by
  unfold State.w1c
  exact keeps_ite (Keeps.via State.errBit_keeps (within_trans (by decide) hm) k) (keeps_ite (hf _ k) k)

theorem State.unfenceMask_keeps {s : State} {m region mask : Nat} :
    Keeps 0x208000 s (State.unfenceMask s m region mask) := by
  unfold State.unfenceMask
  try dsimp only
  repeat' first | intro _ _ _
                | (with_reducible first | assumption | exact Keeps.refl | apply keeps_ite | apply Keeps.via State.unfence_keeps | apply keeps_foldl)
                | decide

theorem State.writeHeader_keeps {s : State} {m region off w : Nat} :
    Keeps 0x1FFFFE8FC s (State.writeHeader s m region off w) := by
  unfold State.writeHeader
  try dsimp only
  repeat' first | (exact rfl)
                | (with_reducible first | exact Keeps.refl | apply keeps_ite | apply Keeps.via State.errBit_keeps | apply Keeps.via State.clearError_keeps | apply Keeps.via State.regCmd_keeps | apply Keeps.via State.readOnly_keeps | apply Keeps.via State.unfenceMask_keeps)
                | split

theorem State.writeOwner_keeps {s : State} {m i w : Nat} :
    Keeps 0x208000 s (State.writeOwner s m i w) := by
  unfold State.writeOwner
  try dsimp only
  repeat' first | (intro _ _ _; dsimp only)
                | (with_reducible first | exact Keeps.refl | apply keeps_ite | apply Keeps.via (State.mapFab_keeps ?_) | apply Keeps.via State.errBit_keeps)
                | decide
                | (intros; simp only [List.length_map, List.length_zipIdx, length_updAt, length_putAt, List.length_range, List.length_replicate, and_self, *]; done)

theorem State.writeHk_keeps {s : State} {m off w : Nat} :
    Keeps 0x1FFFFE8FC s (State.writeHk s m off w) := by
  unfold State.writeHk
  try dsimp only
  repeat' first | intro _ _ _ | intro _ _
                | (with_reducible first | assumption | exact Keeps.refl | apply keeps_ite | apply Keeps.via State.mapPwr_keeps | apply Keeps.via State.errBit_keeps | apply Keeps.via State.putPll_keeps | apply Keeps.via State.semRelease_keeps | apply Keeps.via State.semRenew_keeps | apply Keeps.via State.queuePost_keeps | apply Keeps.via State.unfence_keeps | apply Keeps.via State.regCmd_keeps | apply Keeps.via State.readOnly_keeps | apply State.w1c_keeps | apply Keeps.via State.writeOwner_keeps | apply keeps_foldl)
                | decide

theorem State.writeSense_keeps {s : State} {m off w : Nat} :
    Keeps 0x1FFFFE8FC s (State.writeSense s m off w) := by
  unfold State.writeSense
  try dsimp only
  repeat' first | intro _ _
                | (with_reducible first | assumption | exact Keeps.refl | apply keeps_ite | apply Keeps.via State.errBit_keeps | apply Keeps.via State.mapAin_keeps | apply Keeps.via State.regCmd_keeps | apply Keeps.via State.readOnly_keeps | apply State.w1c_keeps)
                | decide

theorem State.writeField_keeps {s : State} {m off w : Nat} :
    Keeps 0x1FFFFE8FC s (State.writeField s m off w) := by
  unfold State.writeField
  try dsimp only
  repeat' first | (with_reducible first | exact Keeps.refl | apply keeps_ite | apply Keeps.via State.regCmd_keeps | apply Keeps.via State.readOnly_keeps)
                | decide

theorem State.cursorHalf_keeps {s : State} {m : Nat} {high : Bool} {w : Nat} :
    Keeps 0x18000 s (State.cursorHalf s m high w) := by
  unfold State.cursorHalf
  try dsimp only
  repeat' first | intro _ | (with_reducible first | exact Keeps.refl | apply keeps_ite | apply Keeps.via State.errBit_keeps)
                | decide
                | (intros; simp only [List.length_map, List.length_zipIdx, length_updAt, length_putAt, List.length_range, List.length_replicate, and_self, *]; done)
                | split
                | (with_reducible apply keeps_masters; (with_reducible first | exact Keeps.refl | apply keeps_ite | apply Keeps.via State.errBit_keeps))

theorem State.writeRec_keeps {s : State} {m off w : Nat} :
    Keeps 0x1FFFFE8FC s (State.writeRec s m off w) := by
  unfold State.writeRec
  try dsimp only
  repeat' first | intro _ _ | intro _
                | (with_reducible first | assumption | exact Keeps.refl | apply keeps_ite | apply Keeps.via (State.mapRecd_keeps ?_) | apply Keeps.via State.loadWindow_keeps | apply Keeps.via State.errBit_keeps | apply Keeps.via State.recOffer_keeps | apply Keeps.via State.regCmd_keeps | apply Keeps.via State.readOnly_keeps | apply State.w1c_keeps | apply Keeps.via State.cursorHalf_keeps | rfl)
                | decide
                | (intros; simp only [List.length_map, List.length_zipIdx, length_updAt, length_putAt, List.length_range, List.length_replicate, and_self, *]; done)
                | (with_reducible apply keeps_masters; (with_reducible first | assumption | exact Keeps.refl | apply keeps_ite | apply Keeps.via (State.mapRecd_keeps ?_) | apply Keeps.via State.loadWindow_keeps | apply Keeps.via State.errBit_keeps | apply Keeps.via State.recOffer_keeps | apply Keeps.via State.regCmd_keeps | apply Keeps.via State.readOnly_keeps | apply State.w1c_keeps | apply Keeps.via State.cursorHalf_keeps))

theorem State.regWrite_keeps {s : State} {m addr w : Nat} :
    Keeps 0x1FFFFE8FC s (State.regWrite s m addr w) := by
  unfold State.regWrite
  try dsimp only
  repeat' first | (with_reducible first | exact Keeps.refl | apply keeps_ite | apply Keeps.via State.errBit_keeps | apply Keeps.via State.writeFields_keeps | apply Keeps.via State.writeWord_keeps | apply Keeps.via State.writeSelect_keeps | apply Keeps.via State.readOnly_keeps | apply Keeps.via State.writeHeader_keeps | apply Keeps.via State.writeHk_keeps | apply Keeps.via State.writeSense_keeps | apply Keeps.via State.writeField_keeps | apply Keeps.via State.writeRec_keeps)
                | decide | split

theorem execRegisterWrite_keeps {m : Fin 7} {addr : BitVec 32} {w : BitVec 32} {s : State} :
    OutKeeps 0x1FFFFE8FC s (execRegisterWrite m addr w s) := by
  unfold execRegisterWrite
  try dsimp only
  repeat' first | (with_reducible first | exact Keeps.refl | apply outKeeps_next | apply Keeps.via State.regWrite_keeps)
                | decide

theorem execSelectRegisterWrite_keeps {m : Fin 7} {group : Fin 5} {v : BitVec 32} {s : State} :
    OutKeeps 0x18000 s (execSelectRegisterWrite m group v s) := by
  unfold execSelectRegisterWrite
  try dsimp only
  repeat' first | (with_reducible first | exact Keeps.refl | apply outKeeps_next | apply keeps_ite | apply Keeps.via State.errBit_keeps | apply Keeps.via State.writeSelect_keeps)
                | decide

theorem State.readValue_keeps {s : State} {m : Nat} {v : Option Nat} :
    Keeps 0x10100 s (State.readValue s m v) := by
  unfold State.readValue
  try dsimp only
  repeat' first | (with_reducible first | exact Keeps.refl | apply Keeps.via State.drawn_keeps | apply Keeps.via State.answer_keeps)
                | decide | split

theorem State.readChan_keeps {s : State} {m region idx sub v : Nat} :
    Keeps 0x18000 s (State.readChan s m region idx sub v) := by
  unfold State.readChan
  try dsimp only
  repeat' first | (with_reducible first | exact Keeps.refl | apply keeps_ite | apply Keeps.via State.errBit_keeps | apply Keeps.via State.answer_keeps)
                | decide

theorem State.readTake_keeps {s t : State} {m region off : Nat} (e : s.readTake m region off = some t) :
    Keeps 0x298000 s t := by
  unfold State.readTake at e
  repeat' split at e
  all_goals cases e
  · exact Keeps.via State.semAcquire_keeps (by decide) Keeps.refl
  · exact Keeps.via State.queueTake_keeps (by decide) Keeps.refl
  · exact Keeps.via State.readTime_keeps (by decide) Keeps.refl
  · exact Keeps.via State.readNewest_keeps (by decide) Keeps.refl
  · exact Keeps.via State.readOldest_keeps (by decide) Keeps.refl

theorem State.readStatusReg_keeps {s : State} {m region off : Nat} :
    Keeps 0x18100 s (State.readStatusReg s m region off) := by
  unfold State.readStatusReg
  try dsimp only
  repeat' first | (with_reducible first | exact Keeps.refl | apply keeps_ite | apply Keeps.via State.readValue_keeps | apply Keeps.via State.readChan_keeps)
                | decide | split

theorem State.regRead_keeps {s : State} {m addr : Nat} :
    Keeps 0x298100 s (State.regRead s m addr) := by
  unfold State.regRead
  try dsimp only
  repeat' first | (with_reducible first | exact Keeps.refl | apply keeps_ite | apply Keeps.via State.errBit_keeps | apply Keeps.via State.answer_keeps | apply Keeps.via State.readFenced_keeps | apply Keeps.via State.readValue_keeps | apply Keeps.via State.readChan_keeps | apply Keeps.via State.readStatusReg_keeps)
                | decide | refine Keeps.via (State.readTake_keeps (by assumption)) (by decide) ?_ | split

theorem execDbgAccess_keeps {write : Bool} {addr : BitVec 32} {w : BitVec 32} {halt : Option (Fin 4)} {s : State} :
    OutKeeps 0x1FFFFE9FC s (execDbgAccess write addr w halt s) := by
  unfold execDbgAccess
  try dsimp only
  repeat' first | (with_reducible first | exact Keeps.refl | apply outKeeps_next | apply keeps_ite | apply Keeps.via State.mapSec_keeps | apply Keeps.via State.errBit_keeps | apply Keeps.via State.regWrite_keeps | apply Keeps.via State.regRead_keeps)
                | decide | split

end Sys2Proof.Machine
end

