-- ==== Sys2Proof/Laws/KeepPeriod.lean ====
section
/-! SUPPORT. What every operation of Machine/Period.lean leaves: its parts (the mask of Keeps) and the invariant. -/
namespace Sys2Proof.Machine

set_option Elab.async false
set_option linter.all false

set_option linter.unusedSimpArgs false
set_option linter.unusedVariables false

theorem State.refsDue_keeps {s : State} :
    Keeps 0x3DB0C4860 s (State.refsDue s) := by
  unfold State.refsDue
  try dsimp only
  repeat' first | (with_reducible first | exact Keeps.refl | apply keeps_ite | apply Keeps.via State.slotsFinish_keeps | apply Keeps.via State.refsSend_keeps)
                | decide

theorem State.lawShot_keeps {s : State} :
    Keeps 0x1000000 s (State.lawShot s) := by
  unfold State.lawShot
  try dsimp only
  repeat' first | (with_reducible first | exact Keeps.refl | apply keeps_ite | apply Keeps.via State.mapForm_keeps) | decide

theorem State.lastWork_keeps {s : State} :
    Keeps 0x2058C0080 s (State.lastWork s) := by
  unfold State.lastWork
  try dsimp only
  repeat' first | (exact rfl)
                | (with_reducible first | exact Keeps.refl | apply Keeps.via State.publishAll_keeps | apply Keeps.via State.shadowCheck_keeps | apply Keeps.via State.ckptSend_keeps | apply Keeps.via State.handSend_keeps | apply Keeps.via State.lawShot_keeps)
                | (with_reducible apply keeps_lastDone; (with_reducible first | exact Keeps.refl | apply Keeps.via State.publishAll_keeps | apply Keeps.via State.shadowCheck_keeps | apply Keeps.via State.ckptSend_keeps | apply Keeps.via State.handSend_keeps | apply Keeps.via State.lawShot_keeps))

theorem State.lastDue_keeps {s : State} :
    Keeps 0x2058C0080 s (State.lastDue s) := by
  unfold State.lastDue
  try dsimp only
  repeat' first | (exact rfl)
                | (with_reducible first | exact Keeps.refl | apply keeps_ite | apply Keeps.via State.lastWork_keeps)

theorem execPeriodLastTick_keeps {s : State} :
    OutKeeps 0x2058C0080 s (execPeriodLastTick s) := by
  unfold execPeriodLastTick
  try dsimp only
  repeat' first | (with_reducible first | exact Keeps.refl | apply outKeeps_next | apply keeps_ite | apply Keeps.via State.lastWork_keeps)
                | decide

theorem State.tickTime_keeps {s : State} :
    Keeps 0xE0080002 s (State.tickTime s) := by
  unfold State.tickTime
  try dsimp only
  repeat' first | (exact rfl)
                | (with_reducible first | exact Keeps.refl | apply Keeps.via State.slewPlls_keeps | apply Keeps.via State.runClock_keeps)
                | (refine Keeps.upd ?_ rfl (fun h => (by unfold State.Good; dsimp only; exact good_upd h)); (with_reducible first | exact Keeps.refl | apply Keeps.via State.slewPlls_keeps | apply Keeps.via State.runClock_keeps))

theorem State.advance_keeps {s : State} :
    Keeps 0x3FF8C48EE s (State.advance s) := by
  unfold State.advance
  try dsimp only
  repeat' first | (exact rfl)
                | (with_reducible first | exact Keeps.refl | apply keeps_ite | apply Keeps.via State.subApply_keeps | apply Keeps.via State.latchTai_keeps | apply Keeps.via State.slotsFinish_keeps | apply Keeps.via State.refsDue_keeps | apply Keeps.via State.lastDue_keeps | apply Keeps.via State.tickTime_keeps)
                | (refine Keeps.upd ?_ rfl (fun h => (by unfold State.Good; dsimp only; exact good_upd h)); (with_reducible first | exact Keeps.refl | apply keeps_ite | apply Keeps.via State.subApply_keeps | apply Keeps.via State.latchTai_keeps | apply Keeps.via State.slotsFinish_keeps | apply Keeps.via State.refsDue_keeps | apply Keeps.via State.lastDue_keeps | apply Keeps.via State.tickTime_keeps))

theorem State.regApply_keeps {s : State} : Keeps 0x20800 s s.regApply := by
  unfold State.regApply
  exact Keeps.via State.mapPs_keeps (by decide) (keeps_foldl _ Keeps.refl (fun s w h => by
    refine Keeps.upd h rfl (fun h => ?_)
    unfold State.Good; dsimp only
    exact good_set h (tcanon_tput _ _ h.1) h.2.1 h.2.2.1 rfl))

theorem State.enterForming_keeps {s : State} :
    Keeps 0x1DF0C4900 s (State.enterForming s) := by
  unfold State.enterForming
  try dsimp only
  repeat' first | (exact rfl) | (with_reducible first | exact Keeps.refl | apply Keeps.via (State.mapMode_keeps ?_) | apply Keeps.via State.mapForm_keeps | apply Keeps.via State.selectFresh_keeps | apply Keeps.via State.lawPeriod_keeps | apply Keeps.via State.armFresh_keeps)
                | decide

theorem State.boundaryLaw_keeps {s : State} :
    Keeps 0x1DF8C4900 s (State.boundaryLaw s) := by
  unfold State.boundaryLaw
  try dsimp only
  repeat' first | (exact rfl)
                | (with_reducible first | exact Keeps.refl | apply keeps_ite | apply Keeps.via State.lawPeriod_keeps | apply Keeps.via State.takeRestore_keeps | apply Keeps.via State.enterForming_keeps)
                | split

theorem State.ripen_keeps {s : State} :
    Keeps 0x40000 s (State.ripen s) := by
  unfold State.ripen
  try dsimp only
  repeat' first | (with_reducible first | exact Keeps.refl | apply Keeps.via (State.mapMode_keeps ?_) | rfl) | decide

theorem State.gainWritten_keeps {s : State} :
    Keeps 0x1000000 s (State.gainWritten s) := by
  unfold State.gainWritten
  try dsimp only
  repeat' first | (with_reducible first | exact Keeps.refl | apply Keeps.via State.mapForm_keeps) | decide

theorem State.boundaryRegs_keeps {s : State} :
    Keeps 0xF0E0800 s (State.boundaryRegs s) := by
  unfold State.boundaryRegs
  try dsimp only
  repeat' first | (exact rfl)
                | (with_reducible first | exact Keeps.refl | apply Keeps.via State.takeRoster_keeps | apply Keeps.via State.elect_keeps | apply Keeps.via State.promotions_keeps | apply Keeps.via State.selectPeriod_keeps | apply Keeps.via State.loadGains_keeps | apply Keeps.via State.periodValues_keeps | apply Keeps.via State.activeOnly_keeps | apply Keeps.via State.regApply_keeps | apply Keeps.via State.ripen_keeps | apply Keeps.via State.gainWritten_keeps)

theorem State.boundaryOpen_keeps {s : State} :
    Keeps 0x3FFFFE9FC s (State.boundaryOpen s) := by
  unfold State.boundaryOpen
  try dsimp only
  repeat' first | (exact rfl)
                | (with_reducible first | exact Keeps.refl | apply Keeps.via State.stagedApply_keeps | apply Keeps.via State.boundaryRegs_keeps | rfl)

theorem State.boundaryRest_keeps {s : State} :
    Keeps 0x3DFAE4900 s (State.boundaryRest s) := by
  unfold State.boundaryRest
  try dsimp only
  repeat' first | (with_reducible first | exact Keeps.refl | apply Keeps.via State.mapPs_keeps | apply Keeps.via State.closePass_keeps | apply Keeps.via State.refsBoundary_keeps | apply Keeps.via State.leadCount_keeps | apply Keeps.via State.applySetpoints_keeps | apply Keeps.via State.spineClear_keeps | apply Keeps.via State.tickLenApply_keeps | apply Keeps.via State.settle_keeps | apply Keeps.via State.boundaryLaw_keeps)
                | decide

theorem State.openPeriod_keeps {s : State} :
    Keeps 0x3FFFFE9FE s (State.openPeriod s) := by
  unfold State.openPeriod
  try dsimp only
  repeat' first | (exact rfl)
                | (with_reducible first | exact Keeps.refl | apply keeps_ite | apply Keeps.via State.advance_keeps | apply Keeps.via State.boundaryOpen_keeps)

theorem State.edgeMark_keeps {s : State} :
    Keeps 0x2000000 s (State.edgeMark s) := by
  unfold State.edgeMark
  try dsimp only
  repeat' first | (with_reducible first | exact Keeps.refl | apply Keeps.via State.mapArm_keeps) | decide

theorem State.closePeriod_keeps {s : State} :
    Keeps 0x3DFAE4900 s (State.closePeriod s) := by
  unfold State.closePeriod
  try dsimp only
  repeat' first | (with_reducible first | exact Keeps.refl | apply keeps_ite | apply Keeps.via State.mapPs_keeps | apply Keeps.via State.boundaryRest_keeps | apply Keeps.via State.edgeMark_keeps)
                | decide

theorem State.beginPeriod_keeps {s : State} :
    Keeps 0x3FFFFE9FE s (State.beginPeriod s) := by
  unfold State.beginPeriod
  try dsimp only
  repeat' first | (exact rfl)
                | (with_reducible first | exact Keeps.refl | apply Keeps.via State.openPeriod_keeps | apply Keeps.via State.closePeriod_keeps)

theorem execStagedWriteApply_keeps {s : State} :
    OutKeeps 0x3FFFFE9FE s (execStagedWriteApply s) := by
  unfold execStagedWriteApply
  try dsimp only
  repeat' first | (with_reducible first | exact Keeps.refl | apply outKeeps_next | apply keeps_ite | apply Keeps.via State.mapPs_keeps | apply Keeps.via State.openPeriod_keeps)
                | decide | split
                | (with_reducible apply keeps_edge; (with_reducible first | exact Keeps.refl | apply outKeeps_next | apply keeps_ite | apply Keeps.via State.mapPs_keeps | apply Keeps.via State.openPeriod_keeps))

theorem execFormingPeriodBoundary_keeps {s : State} :
    OutKeeps 0x3FFFFE9FE s (execFormingPeriodBoundary s) := by
  unfold execFormingPeriodBoundary
  try dsimp only
  repeat' first | (exact rfl)
                | (with_reducible first | exact Keeps.refl | apply outKeeps_next | apply keeps_ite | apply Keeps.via State.closePeriod_keeps | apply Keeps.via State.beginPeriod_keeps)
                | (with_reducible apply keeps_edge; (with_reducible first | exact Keeps.refl | apply outKeeps_next | apply keeps_ite | apply Keeps.via State.closePeriod_keeps | apply Keeps.via State.beginPeriod_keeps))

theorem State.windowRestart_keeps {s : State} :
    Keeps 0x10000000 s (State.windowRestart s) := by
  unfold State.windowRestart
  try dsimp only
  repeat' first | (with_reducible first | exact Keeps.refl | apply keeps_ite | apply Keeps.via State.frozenRestart_keeps)
                | decide

theorem State.ainShots_keeps {s : State} :
    Keeps 0x10000000 s (State.ainShots s) := by
  unfold State.ainShots
  try dsimp only
  repeat' first | (intro _ _ _; dsimp only)
                | (with_reducible first | exact Keeps.refl | apply Keeps.via (State.mapSense_keeps ?_)) | decide
                | (intros; simp only [List.length_map, List.length_zipIdx, length_updAt, length_putAt, List.length_range, List.length_replicate, and_self, *]; done)

theorem State.pinShots_keeps {s : State} :
    Keeps 0x80000000 s (State.pinShots s) := by
  unfold State.pinShots
  try dsimp only
  repeat' first | intro _ | (with_reducible exact Keeps.refl) | decide
                | (intros; simp only [List.length_map, List.length_zipIdx, length_updAt, length_putAt, List.length_range, List.length_replicate, and_self, *]; done)
                | (with_reducible apply keeps_field; with_reducible exact Keeps.refl)

theorem State.latchPoint_keeps {s : State} {codes : List (List Int)} :
    Keeps 0x3DB8C4900 s (State.latchPoint s codes) := by
  unfold State.latchPoint
  try dsimp only
  repeat' first | (exact rfl)
                | (with_reducible first | exact Keeps.refl | apply Keeps.via State.senseLatch_keeps | apply Keeps.via State.tickCopy_keeps | apply Keeps.via State.cellLatch_keeps | apply Keeps.via State.handCount_keeps | apply Keeps.via State.windowRestart_keeps | apply Keeps.via State.ainShots_keeps | apply Keeps.via State.pinShots_keeps)

theorem State.armShot_keeps {s : State} :
    Keeps 0x2000000 s (State.armShot s) := by
  unfold State.armShot
  try dsimp only
  repeat' first | (with_reducible first | exact Keeps.refl | apply Keeps.via State.mapArm_keeps) | decide

theorem State.commandPoints_keeps {s : State} {codes : List (List Int)} :
    Keeps 0x3DBAC4900 s (State.commandPoints s codes) := by
  unfold State.commandPoints
  try dsimp only
  repeat' first | (exact rfl)
                | (with_reducible first | exact Keeps.refl | apply Keeps.via State.issueEdges_keeps | apply Keeps.via State.selectTick_keeps | apply Keeps.via State.armTick_keeps | apply Keeps.via State.armAfter_keeps | apply Keeps.via State.issue_keeps | apply Keeps.via State.mirrorSend_keeps | apply Keeps.via State.handJudge_keeps | apply Keeps.via State.armShot_keeps)

theorem State.shadowPoints_keeps {s : State} :
    Keeps 0x3DB0C4900 s (State.shadowPoints s) := by
  unfold State.shadowPoints
  try dsimp only
  repeat' first | intro _ _
                | (with_reducible first | exact Keeps.refl | apply Keeps.via (State.mapCellS_keeps ?_) | apply Keeps.via State.armTick_keeps | apply Keeps.via State.armShot_keeps)
                | decide | (intros; (repeat' apply And.intro) <;> with_reducible assumption)

theorem State.points_keeps {s : State} {codes : List (List Int)} :
    Keeps 0x3DBAC4900 s (State.points s codes) := by
  unfold State.points
  try dsimp only
  repeat' first | (exact rfl)
                | (with_reducible first | exact Keeps.refl | apply keeps_ite | apply Keeps.via State.issueEdges_keeps | apply Keeps.via State.commandPoints_keeps | apply Keeps.via State.shadowPoints_keeps)

theorem State.tickPoints_keeps {s : State} {codes : List (List Int)} :
    Keeps 0x3FFAE4900 s (State.tickPoints s codes) := by
  unfold State.tickPoints
  try dsimp only
  repeat' first | (exact rfl)
                | (with_reducible first | exact Keeps.refl | apply Keeps.via State.markerTick_keeps | apply Keeps.via State.pubLatch_keeps | apply Keeps.via State.settle_keeps | apply Keeps.via State.latchPoint_keeps | apply Keeps.via State.points_keeps)

theorem State.tickStep_keeps {s : State} {codes : List (List Int)} :
    Keeps 0x3FFFFE9FE s (State.tickStep s codes) := by
  unfold State.tickStep
  try dsimp only
  repeat' first | (exact rfl)
                | (with_reducible first | exact Keeps.refl | apply keeps_ite | apply Keeps.via State.advance_keeps | apply Keeps.via State.edgeMark_keeps | apply Keeps.via State.closePeriod_keeps | apply Keeps.via State.beginPeriod_keeps | apply Keeps.via State.tickPoints_keeps)
                | split
                | (with_reducible apply keeps_edge; (with_reducible first | exact Keeps.refl | apply keeps_ite | apply Keeps.via State.advance_keeps | apply Keeps.via State.edgeMark_keeps | apply Keeps.via State.closePeriod_keeps | apply Keeps.via State.beginPeriod_keeps | apply Keeps.via State.tickPoints_keeps))

theorem execTick_keeps {codes : List (List Int)} {s : State} :
    OutKeeps 0x3FFFFE9FE s (execTick codes s) := by
  unfold execTick
  try dsimp only
  repeat' first | (with_reducible first | exact Keeps.refl | apply outKeeps_next | apply Keeps.via State.tickStep_keeps)
                | decide

end Sys2Proof.Machine
end

