-- ==== Sys2Proof/Laws/Ops.lean ====
section
/-! SUPPORT. What the shared operations leave alone, field by field: recording an event, warnings, run states, the ERROR bits,
the answer of a register read, a frame that leaves the device. -/
namespace Sys2Proof.Machine

set_option Elab.async false
set_option linter.all false

section
variable (s : State) (code : Nat) (cls : Cls) (region : Nat) (payload : List Nat)
@[simp] theorem State.offer_pending : (State.offer s code cls region payload).pending = s.pending := State.offer_keeps.same .pending rfl
@[simp] theorem State.offer_now : (State.offer s code cls region payload).now = s.now := State.offer_keeps.same .now rfl
@[simp] theorem State.offer_tick : (State.offer s code cls region payload).tick = s.tick := State.offer_keeps.same .tick rfl
@[simp] theorem State.offer_k : (State.offer s code cls region payload).k = s.k := State.offer_keeps.same .k rfl
@[simp] theorem State.offer_edge : (State.offer s code cls region payload).edge = s.edge := State.offer_keeps.same .edge rfl
@[simp] theorem State.offer_extDone : (State.offer s code cls region payload).extDone = s.extDone := State.offer_keeps.same .extDone rfl
@[simp] theorem State.offer_refsDone : (State.offer s code cls region payload).refsDone = s.refsDone := State.offer_keeps.same .refsDone rfl
@[simp] theorem State.offer_lastDone : (State.offer s code cls region payload).lastDone = s.lastDone := State.offer_keeps.same .lastDone rfl
@[simp] theorem State.offer_freeCount : (State.offer s code cls region payload).freeCount = s.freeCount := State.offer_keeps.same .freeCount rfl
@[simp] theorem State.offer_device : (State.offer s code cls region payload).device = s.device := State.offer_keeps.same .device rfl
@[simp] theorem State.offer_station : (State.offer s code cls region payload).station = s.station := State.offer_keeps.same .station rfl
@[simp] theorem State.offer_objs : (State.offer s code cls region payload).objs = s.objs := State.offer_keeps.same .objs rfl
@[simp] theorem State.offer_stored : (State.offer s code cls region payload).stored = s.stored := State.offer_keeps.same .stored rfl
@[simp] theorem State.offer_commitAt : (State.offer s code cls region payload).commitAt = s.commitAt := State.offer_keeps.same .commitAt rfl
@[simp] theorem State.offer_fns : (State.offer s code cls region payload).fns = s.fns := State.offer_keeps.same .fns rfl
@[simp] theorem State.offer_hdrs : (State.offer s code cls region payload).hdrs = s.hdrs := State.offer_keeps.same .hdrs rfl
@[simp] theorem State.offer_masters : (State.offer s code cls region payload).masters = s.masters := State.offer_keeps.same .masters rfl
@[simp] theorem State.offer_ps : (State.offer s code cls region payload).ps = s.ps := State.offer_keeps.same .ps rfl
@[simp] theorem State.offer_mode : (State.offer s code cls region payload).mode = s.mode := State.offer_keeps.same .mode rfl
@[simp] theorem State.offer_sec : (State.offer s code cls region payload).sec = s.sec := State.offer_keeps.same .sec rfl
@[simp] theorem State.offer_fab : (State.offer s code cls region payload).fab = s.fab := State.offer_keeps.same .fab rfl
@[simp] theorem State.offer_pwr : (State.offer s code cls region payload).pwr = s.pwr := State.offer_keeps.same .pwr rfl
@[simp] theorem State.offer_dpx : (State.offer s code cls region payload).dpx = s.dpx := State.offer_keeps.same .dpx rfl
@[simp] theorem State.offer_form : (State.offer s code cls region payload).form = s.form := State.offer_keeps.same .form rfl
@[simp] theorem State.offer_arm : (State.offer s code cls region payload).arm = s.arm := State.offer_keeps.same .arm rfl
@[simp] theorem State.offer_spn : (State.offer s code cls region payload).spn = s.spn := State.offer_keeps.same .spn rfl
@[simp] theorem State.offer_cell : (State.offer s code cls region payload).cell = s.cell := State.offer_keeps.same .cell rfl
@[simp] theorem State.offer_sense : (State.offer s code cls region payload).sense = s.sense := State.offer_keeps.same .sense rfl
@[simp] theorem State.offer_clk : (State.offer s code cls region payload).clk = s.clk := State.offer_keeps.same .clk rfl
@[simp] theorem State.offer_time : (State.offer s code cls region payload).time = s.time := State.offer_keeps.same .time rfl
@[simp] theorem State.offer_field : (State.offer s code cls region payload).field = s.field := State.offer_keeps.same .field rfl
@[simp] theorem State.offer_safe : (State.offer s code cls region payload).safe = s.safe := State.offer_keeps.same .safe rfl
@[simp] theorem State.offer_tx : (State.offer s code cls region payload).tx = s.tx := State.offer_keeps.same .tx rfl
end

section
variable (s : State) (code : Nat) (payload : List Nat)
@[simp] theorem State.note_pending : (State.note s code payload).pending = s.pending := State.note_keeps.same .pending rfl
@[simp] theorem State.note_now : (State.note s code payload).now = s.now := State.note_keeps.same .now rfl
@[simp] theorem State.note_tick : (State.note s code payload).tick = s.tick := State.note_keeps.same .tick rfl
@[simp] theorem State.note_k : (State.note s code payload).k = s.k := State.note_keeps.same .k rfl
@[simp] theorem State.note_edge : (State.note s code payload).edge = s.edge := State.note_keeps.same .edge rfl
@[simp] theorem State.note_extDone : (State.note s code payload).extDone = s.extDone := State.note_keeps.same .extDone rfl
@[simp] theorem State.note_refsDone : (State.note s code payload).refsDone = s.refsDone := State.note_keeps.same .refsDone rfl
@[simp] theorem State.note_lastDone : (State.note s code payload).lastDone = s.lastDone := State.note_keeps.same .lastDone rfl
@[simp] theorem State.note_freeCount : (State.note s code payload).freeCount = s.freeCount := State.note_keeps.same .freeCount rfl
@[simp] theorem State.note_device : (State.note s code payload).device = s.device := State.note_keeps.same .device rfl
@[simp] theorem State.note_station : (State.note s code payload).station = s.station := State.note_keeps.same .station rfl
@[simp] theorem State.note_objs : (State.note s code payload).objs = s.objs := State.note_keeps.same .objs rfl
@[simp] theorem State.note_stored : (State.note s code payload).stored = s.stored := State.note_keeps.same .stored rfl
@[simp] theorem State.note_commitAt : (State.note s code payload).commitAt = s.commitAt := State.note_keeps.same .commitAt rfl
@[simp] theorem State.note_fns : (State.note s code payload).fns = s.fns := State.note_keeps.same .fns rfl
@[simp] theorem State.note_hdrs : (State.note s code payload).hdrs = s.hdrs := State.note_keeps.same .hdrs rfl
@[simp] theorem State.note_masters : (State.note s code payload).masters = s.masters := State.note_keeps.same .masters rfl
@[simp] theorem State.note_ps : (State.note s code payload).ps = s.ps := State.note_keeps.same .ps rfl
@[simp] theorem State.note_mode : (State.note s code payload).mode = s.mode := State.note_keeps.same .mode rfl
@[simp] theorem State.note_sec : (State.note s code payload).sec = s.sec := State.note_keeps.same .sec rfl
@[simp] theorem State.note_fab : (State.note s code payload).fab = s.fab := State.note_keeps.same .fab rfl
@[simp] theorem State.note_pwr : (State.note s code payload).pwr = s.pwr := State.note_keeps.same .pwr rfl
@[simp] theorem State.note_dpx : (State.note s code payload).dpx = s.dpx := State.note_keeps.same .dpx rfl
@[simp] theorem State.note_form : (State.note s code payload).form = s.form := State.note_keeps.same .form rfl
@[simp] theorem State.note_arm : (State.note s code payload).arm = s.arm := State.note_keeps.same .arm rfl
@[simp] theorem State.note_spn : (State.note s code payload).spn = s.spn := State.note_keeps.same .spn rfl
@[simp] theorem State.note_cell : (State.note s code payload).cell = s.cell := State.note_keeps.same .cell rfl
@[simp] theorem State.note_sense : (State.note s code payload).sense = s.sense := State.note_keeps.same .sense rfl
@[simp] theorem State.note_clk : (State.note s code payload).clk = s.clk := State.note_keeps.same .clk rfl
@[simp] theorem State.note_time : (State.note s code payload).time = s.time := State.note_keeps.same .time rfl
@[simp] theorem State.note_field : (State.note s code payload).field = s.field := State.note_keeps.same .field rfl
@[simp] theorem State.note_safe : (State.note s code payload).safe = s.safe := State.note_keeps.same .safe rfl
@[simp] theorem State.note_tx : (State.note s code payload).tx = s.tx := State.note_keeps.same .tx rfl
end

section
variable (s : State) (code : Nat) (payload : List Nat)
@[simp] theorem State.warn_pending : (State.warn s code payload).pending = s.pending := State.warn_keeps.same .pending rfl
@[simp] theorem State.warn_now : (State.warn s code payload).now = s.now := State.warn_keeps.same .now rfl
@[simp] theorem State.warn_tick : (State.warn s code payload).tick = s.tick := State.warn_keeps.same .tick rfl
@[simp] theorem State.warn_k : (State.warn s code payload).k = s.k := State.warn_keeps.same .k rfl
@[simp] theorem State.warn_edge : (State.warn s code payload).edge = s.edge := State.warn_keeps.same .edge rfl
@[simp] theorem State.warn_extDone : (State.warn s code payload).extDone = s.extDone := State.warn_keeps.same .extDone rfl
@[simp] theorem State.warn_refsDone : (State.warn s code payload).refsDone = s.refsDone := State.warn_keeps.same .refsDone rfl
@[simp] theorem State.warn_lastDone : (State.warn s code payload).lastDone = s.lastDone := State.warn_keeps.same .lastDone rfl
@[simp] theorem State.warn_freeCount : (State.warn s code payload).freeCount = s.freeCount := State.warn_keeps.same .freeCount rfl
@[simp] theorem State.warn_device : (State.warn s code payload).device = s.device := State.warn_keeps.same .device rfl
@[simp] theorem State.warn_station : (State.warn s code payload).station = s.station := State.warn_keeps.same .station rfl
@[simp] theorem State.warn_objs : (State.warn s code payload).objs = s.objs := State.warn_keeps.same .objs rfl
@[simp] theorem State.warn_stored : (State.warn s code payload).stored = s.stored := State.warn_keeps.same .stored rfl
@[simp] theorem State.warn_commitAt : (State.warn s code payload).commitAt = s.commitAt := State.warn_keeps.same .commitAt rfl
@[simp] theorem State.warn_fns : (State.warn s code payload).fns = s.fns := State.warn_keeps.same .fns rfl
@[simp] theorem State.warn_hdrs : (State.warn s code payload).hdrs = s.hdrs := State.warn_keeps.same .hdrs rfl
@[simp] theorem State.warn_masters : (State.warn s code payload).masters = s.masters := State.warn_keeps.same .masters rfl
@[simp] theorem State.warn_ps : (State.warn s code payload).ps = s.ps := State.warn_keeps.same .ps rfl
@[simp] theorem State.warn_mode : (State.warn s code payload).mode = s.mode := State.warn_keeps.same .mode rfl
@[simp] theorem State.warn_sec : (State.warn s code payload).sec = s.sec := State.warn_keeps.same .sec rfl
@[simp] theorem State.warn_fab : (State.warn s code payload).fab = s.fab := State.warn_keeps.same .fab rfl
@[simp] theorem State.warn_pwr : (State.warn s code payload).pwr = s.pwr := State.warn_keeps.same .pwr rfl
@[simp] theorem State.warn_dpx : (State.warn s code payload).dpx = s.dpx := State.warn_keeps.same .dpx rfl
@[simp] theorem State.warn_form : (State.warn s code payload).form = s.form := State.warn_keeps.same .form rfl
@[simp] theorem State.warn_arm : (State.warn s code payload).arm = s.arm := State.warn_keeps.same .arm rfl
@[simp] theorem State.warn_spn : (State.warn s code payload).spn = s.spn := State.warn_keeps.same .spn rfl
@[simp] theorem State.warn_cell : (State.warn s code payload).cell = s.cell := State.warn_keeps.same .cell rfl
@[simp] theorem State.warn_sense : (State.warn s code payload).sense = s.sense := State.warn_keeps.same .sense rfl
@[simp] theorem State.warn_clk : (State.warn s code payload).clk = s.clk := State.warn_keeps.same .clk rfl
@[simp] theorem State.warn_time : (State.warn s code payload).time = s.time := State.warn_keeps.same .time rfl
@[simp] theorem State.warn_field : (State.warn s code payload).field = s.field := State.warn_keeps.same .field rfl
@[simp] theorem State.warn_safe : (State.warn s code payload).safe = s.safe := State.warn_keeps.same .safe rfl
@[simp] theorem State.warn_tx : (State.warn s code payload).tx = s.tx := State.warn_keeps.same .tx rfl
end

section
variable (s : State) (code key : Nat) (payload : List Nat)
@[simp] theorem State.warnOn_pending : (State.warnOn s code key payload).pending = s.pending := State.warnOn_keeps.same .pending rfl
@[simp] theorem State.warnOn_now : (State.warnOn s code key payload).now = s.now := State.warnOn_keeps.same .now rfl
@[simp] theorem State.warnOn_tick : (State.warnOn s code key payload).tick = s.tick := State.warnOn_keeps.same .tick rfl
@[simp] theorem State.warnOn_k : (State.warnOn s code key payload).k = s.k := State.warnOn_keeps.same .k rfl
@[simp] theorem State.warnOn_edge : (State.warnOn s code key payload).edge = s.edge := State.warnOn_keeps.same .edge rfl
@[simp] theorem State.warnOn_extDone : (State.warnOn s code key payload).extDone = s.extDone := State.warnOn_keeps.same .extDone rfl
@[simp] theorem State.warnOn_refsDone : (State.warnOn s code key payload).refsDone = s.refsDone := State.warnOn_keeps.same .refsDone rfl
@[simp] theorem State.warnOn_lastDone : (State.warnOn s code key payload).lastDone = s.lastDone := State.warnOn_keeps.same .lastDone rfl
@[simp] theorem State.warnOn_freeCount : (State.warnOn s code key payload).freeCount = s.freeCount := State.warnOn_keeps.same .freeCount rfl
@[simp] theorem State.warnOn_device : (State.warnOn s code key payload).device = s.device := State.warnOn_keeps.same .device rfl
@[simp] theorem State.warnOn_station : (State.warnOn s code key payload).station = s.station := State.warnOn_keeps.same .station rfl
@[simp] theorem State.warnOn_objs : (State.warnOn s code key payload).objs = s.objs := State.warnOn_keeps.same .objs rfl
@[simp] theorem State.warnOn_stored : (State.warnOn s code key payload).stored = s.stored := State.warnOn_keeps.same .stored rfl
@[simp] theorem State.warnOn_commitAt : (State.warnOn s code key payload).commitAt = s.commitAt := State.warnOn_keeps.same .commitAt rfl
@[simp] theorem State.warnOn_fns : (State.warnOn s code key payload).fns = s.fns := State.warnOn_keeps.same .fns rfl
@[simp] theorem State.warnOn_hdrs : (State.warnOn s code key payload).hdrs = s.hdrs := State.warnOn_keeps.same .hdrs rfl
@[simp] theorem State.warnOn_masters : (State.warnOn s code key payload).masters = s.masters := State.warnOn_keeps.same .masters rfl
@[simp] theorem State.warnOn_ps : (State.warnOn s code key payload).ps = s.ps := State.warnOn_keeps.same .ps rfl
@[simp] theorem State.warnOn_sec : (State.warnOn s code key payload).sec = s.sec := State.warnOn_keeps.same .sec rfl
@[simp] theorem State.warnOn_fab : (State.warnOn s code key payload).fab = s.fab := State.warnOn_keeps.same .fab rfl
@[simp] theorem State.warnOn_pwr : (State.warnOn s code key payload).pwr = s.pwr := State.warnOn_keeps.same .pwr rfl
@[simp] theorem State.warnOn_dpx : (State.warnOn s code key payload).dpx = s.dpx := State.warnOn_keeps.same .dpx rfl
@[simp] theorem State.warnOn_form : (State.warnOn s code key payload).form = s.form := State.warnOn_keeps.same .form rfl
@[simp] theorem State.warnOn_arm : (State.warnOn s code key payload).arm = s.arm := State.warnOn_keeps.same .arm rfl
@[simp] theorem State.warnOn_spn : (State.warnOn s code key payload).spn = s.spn := State.warnOn_keeps.same .spn rfl
@[simp] theorem State.warnOn_cell : (State.warnOn s code key payload).cell = s.cell := State.warnOn_keeps.same .cell rfl
@[simp] theorem State.warnOn_sense : (State.warnOn s code key payload).sense = s.sense := State.warnOn_keeps.same .sense rfl
@[simp] theorem State.warnOn_clk : (State.warnOn s code key payload).clk = s.clk := State.warnOn_keeps.same .clk rfl
@[simp] theorem State.warnOn_time : (State.warnOn s code key payload).time = s.time := State.warnOn_keeps.same .time rfl
@[simp] theorem State.warnOn_field : (State.warnOn s code key payload).field = s.field := State.warnOn_keeps.same .field rfl
@[simp] theorem State.warnOn_safe : (State.warnOn s code key payload).safe = s.safe := State.warnOn_keeps.same .safe rfl
@[simp] theorem State.warnOn_tx : (State.warnOn s code key payload).tx = s.tx := State.warnOn_keeps.same .tx rfl
end

section
variable (s : State) (code key : Nat) (payload : List Nat)
@[simp] theorem State.warnKeep_pending : (State.warnKeep s code key payload).pending = s.pending := State.warnKeep_keeps.same .pending rfl
@[simp] theorem State.warnKeep_now : (State.warnKeep s code key payload).now = s.now := State.warnKeep_keeps.same .now rfl
@[simp] theorem State.warnKeep_tick : (State.warnKeep s code key payload).tick = s.tick := State.warnKeep_keeps.same .tick rfl
@[simp] theorem State.warnKeep_k : (State.warnKeep s code key payload).k = s.k := State.warnKeep_keeps.same .k rfl
@[simp] theorem State.warnKeep_edge : (State.warnKeep s code key payload).edge = s.edge := State.warnKeep_keeps.same .edge rfl
@[simp] theorem State.warnKeep_extDone : (State.warnKeep s code key payload).extDone = s.extDone := State.warnKeep_keeps.same .extDone rfl
@[simp] theorem State.warnKeep_refsDone : (State.warnKeep s code key payload).refsDone = s.refsDone := State.warnKeep_keeps.same .refsDone rfl
@[simp] theorem State.warnKeep_lastDone : (State.warnKeep s code key payload).lastDone = s.lastDone := State.warnKeep_keeps.same .lastDone rfl
@[simp] theorem State.warnKeep_freeCount : (State.warnKeep s code key payload).freeCount = s.freeCount := State.warnKeep_keeps.same .freeCount rfl
@[simp] theorem State.warnKeep_device : (State.warnKeep s code key payload).device = s.device := State.warnKeep_keeps.same .device rfl
@[simp] theorem State.warnKeep_station : (State.warnKeep s code key payload).station = s.station := State.warnKeep_keeps.same .station rfl
@[simp] theorem State.warnKeep_objs : (State.warnKeep s code key payload).objs = s.objs := State.warnKeep_keeps.same .objs rfl
@[simp] theorem State.warnKeep_stored : (State.warnKeep s code key payload).stored = s.stored := State.warnKeep_keeps.same .stored rfl
@[simp] theorem State.warnKeep_commitAt : (State.warnKeep s code key payload).commitAt = s.commitAt := State.warnKeep_keeps.same .commitAt rfl
@[simp] theorem State.warnKeep_fns : (State.warnKeep s code key payload).fns = s.fns := State.warnKeep_keeps.same .fns rfl
@[simp] theorem State.warnKeep_hdrs : (State.warnKeep s code key payload).hdrs = s.hdrs := State.warnKeep_keeps.same .hdrs rfl
@[simp] theorem State.warnKeep_masters : (State.warnKeep s code key payload).masters = s.masters := State.warnKeep_keeps.same .masters rfl
@[simp] theorem State.warnKeep_ps : (State.warnKeep s code key payload).ps = s.ps := State.warnKeep_keeps.same .ps rfl
@[simp] theorem State.warnKeep_sec : (State.warnKeep s code key payload).sec = s.sec := State.warnKeep_keeps.same .sec rfl
@[simp] theorem State.warnKeep_fab : (State.warnKeep s code key payload).fab = s.fab := State.warnKeep_keeps.same .fab rfl
@[simp] theorem State.warnKeep_pwr : (State.warnKeep s code key payload).pwr = s.pwr := State.warnKeep_keeps.same .pwr rfl
@[simp] theorem State.warnKeep_dpx : (State.warnKeep s code key payload).dpx = s.dpx := State.warnKeep_keeps.same .dpx rfl
@[simp] theorem State.warnKeep_form : (State.warnKeep s code key payload).form = s.form := State.warnKeep_keeps.same .form rfl
@[simp] theorem State.warnKeep_arm : (State.warnKeep s code key payload).arm = s.arm := State.warnKeep_keeps.same .arm rfl
@[simp] theorem State.warnKeep_spn : (State.warnKeep s code key payload).spn = s.spn := State.warnKeep_keeps.same .spn rfl
@[simp] theorem State.warnKeep_cell : (State.warnKeep s code key payload).cell = s.cell := State.warnKeep_keeps.same .cell rfl
@[simp] theorem State.warnKeep_sense : (State.warnKeep s code key payload).sense = s.sense := State.warnKeep_keeps.same .sense rfl
@[simp] theorem State.warnKeep_clk : (State.warnKeep s code key payload).clk = s.clk := State.warnKeep_keeps.same .clk rfl
@[simp] theorem State.warnKeep_time : (State.warnKeep s code key payload).time = s.time := State.warnKeep_keeps.same .time rfl
@[simp] theorem State.warnKeep_field : (State.warnKeep s code key payload).field = s.field := State.warnKeep_keeps.same .field rfl
@[simp] theorem State.warnKeep_safe : (State.warnKeep s code key payload).safe = s.safe := State.warnKeep_keeps.same .safe rfl
@[simp] theorem State.warnKeep_tx : (State.warnKeep s code key payload).tx = s.tx := State.warnKeep_keeps.same .tx rfl
end

section
variable (s : State) (code key : Nat)
@[simp] theorem State.warnOff_pending : (State.warnOff s code key).pending = s.pending := State.warnOff_keeps.same .pending rfl
@[simp] theorem State.warnOff_now : (State.warnOff s code key).now = s.now := State.warnOff_keeps.same .now rfl
@[simp] theorem State.warnOff_tick : (State.warnOff s code key).tick = s.tick := State.warnOff_keeps.same .tick rfl
@[simp] theorem State.warnOff_k : (State.warnOff s code key).k = s.k := State.warnOff_keeps.same .k rfl
@[simp] theorem State.warnOff_edge : (State.warnOff s code key).edge = s.edge := State.warnOff_keeps.same .edge rfl
@[simp] theorem State.warnOff_extDone : (State.warnOff s code key).extDone = s.extDone := State.warnOff_keeps.same .extDone rfl
@[simp] theorem State.warnOff_refsDone : (State.warnOff s code key).refsDone = s.refsDone := State.warnOff_keeps.same .refsDone rfl
@[simp] theorem State.warnOff_lastDone : (State.warnOff s code key).lastDone = s.lastDone := State.warnOff_keeps.same .lastDone rfl
@[simp] theorem State.warnOff_freeCount : (State.warnOff s code key).freeCount = s.freeCount := State.warnOff_keeps.same .freeCount rfl
@[simp] theorem State.warnOff_device : (State.warnOff s code key).device = s.device := State.warnOff_keeps.same .device rfl
@[simp] theorem State.warnOff_station : (State.warnOff s code key).station = s.station := State.warnOff_keeps.same .station rfl
@[simp] theorem State.warnOff_objs : (State.warnOff s code key).objs = s.objs := State.warnOff_keeps.same .objs rfl
@[simp] theorem State.warnOff_stored : (State.warnOff s code key).stored = s.stored := State.warnOff_keeps.same .stored rfl
@[simp] theorem State.warnOff_commitAt : (State.warnOff s code key).commitAt = s.commitAt := State.warnOff_keeps.same .commitAt rfl
@[simp] theorem State.warnOff_fns : (State.warnOff s code key).fns = s.fns := State.warnOff_keeps.same .fns rfl
@[simp] theorem State.warnOff_hdrs : (State.warnOff s code key).hdrs = s.hdrs := State.warnOff_keeps.same .hdrs rfl
@[simp] theorem State.warnOff_masters : (State.warnOff s code key).masters = s.masters := State.warnOff_keeps.same .masters rfl
@[simp] theorem State.warnOff_ps : (State.warnOff s code key).ps = s.ps := State.warnOff_keeps.same .ps rfl
@[simp] theorem State.warnOff_recd : (State.warnOff s code key).recd = s.recd := State.warnOff_keeps.same .recd rfl
@[simp] theorem State.warnOff_sec : (State.warnOff s code key).sec = s.sec := State.warnOff_keeps.same .sec rfl
@[simp] theorem State.warnOff_fab : (State.warnOff s code key).fab = s.fab := State.warnOff_keeps.same .fab rfl
@[simp] theorem State.warnOff_pwr : (State.warnOff s code key).pwr = s.pwr := State.warnOff_keeps.same .pwr rfl
@[simp] theorem State.warnOff_dpx : (State.warnOff s code key).dpx = s.dpx := State.warnOff_keeps.same .dpx rfl
@[simp] theorem State.warnOff_form : (State.warnOff s code key).form = s.form := State.warnOff_keeps.same .form rfl
@[simp] theorem State.warnOff_arm : (State.warnOff s code key).arm = s.arm := State.warnOff_keeps.same .arm rfl
@[simp] theorem State.warnOff_spn : (State.warnOff s code key).spn = s.spn := State.warnOff_keeps.same .spn rfl
@[simp] theorem State.warnOff_cell : (State.warnOff s code key).cell = s.cell := State.warnOff_keeps.same .cell rfl
@[simp] theorem State.warnOff_sense : (State.warnOff s code key).sense = s.sense := State.warnOff_keeps.same .sense rfl
@[simp] theorem State.warnOff_clk : (State.warnOff s code key).clk = s.clk := State.warnOff_keeps.same .clk rfl
@[simp] theorem State.warnOff_time : (State.warnOff s code key).time = s.time := State.warnOff_keeps.same .time rfl
@[simp] theorem State.warnOff_field : (State.warnOff s code key).field = s.field := State.warnOff_keeps.same .field rfl
@[simp] theorem State.warnOff_safe : (State.warnOff s code key).safe = s.safe := State.warnOff_keeps.same .safe rfl
@[simp] theorem State.warnOff_tx : (State.warnOff s code key).tx = s.tx := State.warnOff_keeps.same .tx rfl
end

section
variable (s : State)
@[simp] theorem State.cancelPending_pending : (State.cancelPending s).pending = s.pending := State.cancelPending_keeps.same .pending rfl
@[simp] theorem State.cancelPending_now : (State.cancelPending s).now = s.now := State.cancelPending_keeps.same .now rfl
@[simp] theorem State.cancelPending_tick : (State.cancelPending s).tick = s.tick := State.cancelPending_keeps.same .tick rfl
@[simp] theorem State.cancelPending_k : (State.cancelPending s).k = s.k := State.cancelPending_keeps.same .k rfl
@[simp] theorem State.cancelPending_edge : (State.cancelPending s).edge = s.edge := State.cancelPending_keeps.same .edge rfl
@[simp] theorem State.cancelPending_extDone : (State.cancelPending s).extDone = s.extDone := State.cancelPending_keeps.same .extDone rfl
@[simp] theorem State.cancelPending_refsDone : (State.cancelPending s).refsDone = s.refsDone := State.cancelPending_keeps.same .refsDone rfl
@[simp] theorem State.cancelPending_lastDone : (State.cancelPending s).lastDone = s.lastDone := State.cancelPending_keeps.same .lastDone rfl
@[simp] theorem State.cancelPending_freeCount : (State.cancelPending s).freeCount = s.freeCount := State.cancelPending_keeps.same .freeCount rfl
@[simp] theorem State.cancelPending_device : (State.cancelPending s).device = s.device := State.cancelPending_keeps.same .device rfl
@[simp] theorem State.cancelPending_station : (State.cancelPending s).station = s.station := State.cancelPending_keeps.same .station rfl
@[simp] theorem State.cancelPending_objs : (State.cancelPending s).objs = s.objs := State.cancelPending_keeps.same .objs rfl
@[simp] theorem State.cancelPending_stored : (State.cancelPending s).stored = s.stored := State.cancelPending_keeps.same .stored rfl
@[simp] theorem State.cancelPending_commitAt : (State.cancelPending s).commitAt = s.commitAt := State.cancelPending_keeps.same .commitAt rfl
@[simp] theorem State.cancelPending_fns : (State.cancelPending s).fns = s.fns := State.cancelPending_keeps.same .fns rfl
@[simp] theorem State.cancelPending_hdrs : (State.cancelPending s).hdrs = s.hdrs := State.cancelPending_keeps.same .hdrs rfl
@[simp] theorem State.cancelPending_masters : (State.cancelPending s).masters = s.masters := State.cancelPending_keeps.same .masters rfl
@[simp] theorem State.cancelPending_ps : (State.cancelPending s).ps = s.ps := State.cancelPending_keeps.same .ps rfl
@[simp] theorem State.cancelPending_sec : (State.cancelPending s).sec = s.sec := State.cancelPending_keeps.same .sec rfl
@[simp] theorem State.cancelPending_fab : (State.cancelPending s).fab = s.fab := State.cancelPending_keeps.same .fab rfl
@[simp] theorem State.cancelPending_pwr : (State.cancelPending s).pwr = s.pwr := State.cancelPending_keeps.same .pwr rfl
@[simp] theorem State.cancelPending_dpx : (State.cancelPending s).dpx = s.dpx := State.cancelPending_keeps.same .dpx rfl
@[simp] theorem State.cancelPending_form : (State.cancelPending s).form = s.form := State.cancelPending_keeps.same .form rfl
@[simp] theorem State.cancelPending_arm : (State.cancelPending s).arm = s.arm := State.cancelPending_keeps.same .arm rfl
@[simp] theorem State.cancelPending_spn : (State.cancelPending s).spn = s.spn := State.cancelPending_keeps.same .spn rfl
@[simp] theorem State.cancelPending_cell : (State.cancelPending s).cell = s.cell := State.cancelPending_keeps.same .cell rfl
@[simp] theorem State.cancelPending_sense : (State.cancelPending s).sense = s.sense := State.cancelPending_keeps.same .sense rfl
@[simp] theorem State.cancelPending_clk : (State.cancelPending s).clk = s.clk := State.cancelPending_keeps.same .clk rfl
@[simp] theorem State.cancelPending_time : (State.cancelPending s).time = s.time := State.cancelPending_keeps.same .time rfl
@[simp] theorem State.cancelPending_field : (State.cancelPending s).field = s.field := State.cancelPending_keeps.same .field rfl
@[simp] theorem State.cancelPending_safe : (State.cancelPending s).safe = s.safe := State.cancelPending_keeps.same .safe rfl
@[simp] theorem State.cancelPending_tx : (State.cancelPending s).tx = s.tx := State.cancelPending_keeps.same .tx rfl
end

section
variable (s : State) (n : Fn) (r : Run)
@[simp] theorem State.setRun_pending : (State.setRun s n r).pending = s.pending := State.setRun_keeps.same .pending rfl
@[simp] theorem State.setRun_now : (State.setRun s n r).now = s.now := State.setRun_keeps.same .now rfl
@[simp] theorem State.setRun_tick : (State.setRun s n r).tick = s.tick := State.setRun_keeps.same .tick rfl
@[simp] theorem State.setRun_k : (State.setRun s n r).k = s.k := State.setRun_keeps.same .k rfl
@[simp] theorem State.setRun_edge : (State.setRun s n r).edge = s.edge := State.setRun_keeps.same .edge rfl
@[simp] theorem State.setRun_extDone : (State.setRun s n r).extDone = s.extDone := State.setRun_keeps.same .extDone rfl
@[simp] theorem State.setRun_refsDone : (State.setRun s n r).refsDone = s.refsDone := State.setRun_keeps.same .refsDone rfl
@[simp] theorem State.setRun_lastDone : (State.setRun s n r).lastDone = s.lastDone := State.setRun_keeps.same .lastDone rfl
@[simp] theorem State.setRun_freeCount : (State.setRun s n r).freeCount = s.freeCount := State.setRun_keeps.same .freeCount rfl
@[simp] theorem State.setRun_device : (State.setRun s n r).device = s.device := State.setRun_keeps.same .device rfl
@[simp] theorem State.setRun_station : (State.setRun s n r).station = s.station := State.setRun_keeps.same .station rfl
@[simp] theorem State.setRun_objs : (State.setRun s n r).objs = s.objs := State.setRun_keeps.same .objs rfl
@[simp] theorem State.setRun_stored : (State.setRun s n r).stored = s.stored := State.setRun_keeps.same .stored rfl
@[simp] theorem State.setRun_commitAt : (State.setRun s n r).commitAt = s.commitAt := State.setRun_keeps.same .commitAt rfl
@[simp] theorem State.setRun_hdrs : (State.setRun s n r).hdrs = s.hdrs := State.setRun_keeps.same .hdrs rfl
@[simp] theorem State.setRun_masters : (State.setRun s n r).masters = s.masters := State.setRun_keeps.same .masters rfl
@[simp] theorem State.setRun_ps : (State.setRun s n r).ps = s.ps := State.setRun_keeps.same .ps rfl
@[simp] theorem State.setRun_mode : (State.setRun s n r).mode = s.mode := State.setRun_keeps.same .mode rfl
@[simp] theorem State.setRun_sec : (State.setRun s n r).sec = s.sec := State.setRun_keeps.same .sec rfl
@[simp] theorem State.setRun_fab : (State.setRun s n r).fab = s.fab := State.setRun_keeps.same .fab rfl
@[simp] theorem State.setRun_pwr : (State.setRun s n r).pwr = s.pwr := State.setRun_keeps.same .pwr rfl
@[simp] theorem State.setRun_dpx : (State.setRun s n r).dpx = s.dpx := State.setRun_keeps.same .dpx rfl
@[simp] theorem State.setRun_form : (State.setRun s n r).form = s.form := State.setRun_keeps.same .form rfl
@[simp] theorem State.setRun_arm : (State.setRun s n r).arm = s.arm := State.setRun_keeps.same .arm rfl
@[simp] theorem State.setRun_spn : (State.setRun s n r).spn = s.spn := State.setRun_keeps.same .spn rfl
@[simp] theorem State.setRun_cell : (State.setRun s n r).cell = s.cell := State.setRun_keeps.same .cell rfl
@[simp] theorem State.setRun_sense : (State.setRun s n r).sense = s.sense := State.setRun_keeps.same .sense rfl
@[simp] theorem State.setRun_clk : (State.setRun s n r).clk = s.clk := State.setRun_keeps.same .clk rfl
@[simp] theorem State.setRun_time : (State.setRun s n r).time = s.time := State.setRun_keeps.same .time rfl
@[simp] theorem State.setRun_field : (State.setRun s n r).field = s.field := State.setRun_keeps.same .field rfl
@[simp] theorem State.setRun_safe : (State.setRun s n r).safe = s.safe := State.setRun_keeps.same .safe rfl
@[simp] theorem State.setRun_tx : (State.setRun s n r).tx = s.tx := State.setRun_keeps.same .tx rfl
end

section
variable (s : State) (n : Fn) (c : Nat)
@[simp] theorem State.setCheck_pending : (State.setCheck s n c).pending = s.pending := State.setCheck_keeps.same .pending rfl
@[simp] theorem State.setCheck_now : (State.setCheck s n c).now = s.now := State.setCheck_keeps.same .now rfl
@[simp] theorem State.setCheck_tick : (State.setCheck s n c).tick = s.tick := State.setCheck_keeps.same .tick rfl
@[simp] theorem State.setCheck_k : (State.setCheck s n c).k = s.k := State.setCheck_keeps.same .k rfl
@[simp] theorem State.setCheck_edge : (State.setCheck s n c).edge = s.edge := State.setCheck_keeps.same .edge rfl
@[simp] theorem State.setCheck_extDone : (State.setCheck s n c).extDone = s.extDone := State.setCheck_keeps.same .extDone rfl
@[simp] theorem State.setCheck_refsDone : (State.setCheck s n c).refsDone = s.refsDone := State.setCheck_keeps.same .refsDone rfl
@[simp] theorem State.setCheck_lastDone : (State.setCheck s n c).lastDone = s.lastDone := State.setCheck_keeps.same .lastDone rfl
@[simp] theorem State.setCheck_freeCount : (State.setCheck s n c).freeCount = s.freeCount := State.setCheck_keeps.same .freeCount rfl
@[simp] theorem State.setCheck_device : (State.setCheck s n c).device = s.device := State.setCheck_keeps.same .device rfl
@[simp] theorem State.setCheck_station : (State.setCheck s n c).station = s.station := State.setCheck_keeps.same .station rfl
@[simp] theorem State.setCheck_objs : (State.setCheck s n c).objs = s.objs := State.setCheck_keeps.same .objs rfl
@[simp] theorem State.setCheck_stored : (State.setCheck s n c).stored = s.stored := State.setCheck_keeps.same .stored rfl
@[simp] theorem State.setCheck_commitAt : (State.setCheck s n c).commitAt = s.commitAt := State.setCheck_keeps.same .commitAt rfl
@[simp] theorem State.setCheck_hdrs : (State.setCheck s n c).hdrs = s.hdrs := State.setCheck_keeps.same .hdrs rfl
@[simp] theorem State.setCheck_masters : (State.setCheck s n c).masters = s.masters := State.setCheck_keeps.same .masters rfl
@[simp] theorem State.setCheck_ps : (State.setCheck s n c).ps = s.ps := State.setCheck_keeps.same .ps rfl
@[simp] theorem State.setCheck_mode : (State.setCheck s n c).mode = s.mode := State.setCheck_keeps.same .mode rfl
@[simp] theorem State.setCheck_recd : (State.setCheck s n c).recd = s.recd := State.setCheck_keeps.same .recd rfl
@[simp] theorem State.setCheck_sec : (State.setCheck s n c).sec = s.sec := State.setCheck_keeps.same .sec rfl
@[simp] theorem State.setCheck_fab : (State.setCheck s n c).fab = s.fab := State.setCheck_keeps.same .fab rfl
@[simp] theorem State.setCheck_pwr : (State.setCheck s n c).pwr = s.pwr := State.setCheck_keeps.same .pwr rfl
@[simp] theorem State.setCheck_dpx : (State.setCheck s n c).dpx = s.dpx := State.setCheck_keeps.same .dpx rfl
@[simp] theorem State.setCheck_form : (State.setCheck s n c).form = s.form := State.setCheck_keeps.same .form rfl
@[simp] theorem State.setCheck_arm : (State.setCheck s n c).arm = s.arm := State.setCheck_keeps.same .arm rfl
@[simp] theorem State.setCheck_spn : (State.setCheck s n c).spn = s.spn := State.setCheck_keeps.same .spn rfl
@[simp] theorem State.setCheck_cell : (State.setCheck s n c).cell = s.cell := State.setCheck_keeps.same .cell rfl
@[simp] theorem State.setCheck_sense : (State.setCheck s n c).sense = s.sense := State.setCheck_keeps.same .sense rfl
@[simp] theorem State.setCheck_clk : (State.setCheck s n c).clk = s.clk := State.setCheck_keeps.same .clk rfl
@[simp] theorem State.setCheck_time : (State.setCheck s n c).time = s.time := State.setCheck_keeps.same .time rfl
@[simp] theorem State.setCheck_field : (State.setCheck s n c).field = s.field := State.setCheck_keeps.same .field rfl
@[simp] theorem State.setCheck_safe : (State.setCheck s n c).safe = s.safe := State.setCheck_keeps.same .safe rfl
@[simp] theorem State.setCheck_tx : (State.setCheck s n c).tx = s.tx := State.setCheck_keeps.same .tx rfl
end

section
variable (s : State) (n : Fn) (d : Bool)
@[simp] theorem State.setDue_pending : (State.setDue s n d).pending = s.pending := State.setDue_keeps.same .pending rfl
@[simp] theorem State.setDue_now : (State.setDue s n d).now = s.now := State.setDue_keeps.same .now rfl
@[simp] theorem State.setDue_tick : (State.setDue s n d).tick = s.tick := State.setDue_keeps.same .tick rfl
@[simp] theorem State.setDue_k : (State.setDue s n d).k = s.k := State.setDue_keeps.same .k rfl
@[simp] theorem State.setDue_edge : (State.setDue s n d).edge = s.edge := State.setDue_keeps.same .edge rfl
@[simp] theorem State.setDue_extDone : (State.setDue s n d).extDone = s.extDone := State.setDue_keeps.same .extDone rfl
@[simp] theorem State.setDue_refsDone : (State.setDue s n d).refsDone = s.refsDone := State.setDue_keeps.same .refsDone rfl
@[simp] theorem State.setDue_lastDone : (State.setDue s n d).lastDone = s.lastDone := State.setDue_keeps.same .lastDone rfl
@[simp] theorem State.setDue_freeCount : (State.setDue s n d).freeCount = s.freeCount := State.setDue_keeps.same .freeCount rfl
@[simp] theorem State.setDue_device : (State.setDue s n d).device = s.device := State.setDue_keeps.same .device rfl
@[simp] theorem State.setDue_station : (State.setDue s n d).station = s.station := State.setDue_keeps.same .station rfl
@[simp] theorem State.setDue_objs : (State.setDue s n d).objs = s.objs := State.setDue_keeps.same .objs rfl
@[simp] theorem State.setDue_stored : (State.setDue s n d).stored = s.stored := State.setDue_keeps.same .stored rfl
@[simp] theorem State.setDue_commitAt : (State.setDue s n d).commitAt = s.commitAt := State.setDue_keeps.same .commitAt rfl
@[simp] theorem State.setDue_hdrs : (State.setDue s n d).hdrs = s.hdrs := State.setDue_keeps.same .hdrs rfl
@[simp] theorem State.setDue_masters : (State.setDue s n d).masters = s.masters := State.setDue_keeps.same .masters rfl
@[simp] theorem State.setDue_ps : (State.setDue s n d).ps = s.ps := State.setDue_keeps.same .ps rfl
@[simp] theorem State.setDue_mode : (State.setDue s n d).mode = s.mode := State.setDue_keeps.same .mode rfl
@[simp] theorem State.setDue_recd : (State.setDue s n d).recd = s.recd := State.setDue_keeps.same .recd rfl
@[simp] theorem State.setDue_sec : (State.setDue s n d).sec = s.sec := State.setDue_keeps.same .sec rfl
@[simp] theorem State.setDue_fab : (State.setDue s n d).fab = s.fab := State.setDue_keeps.same .fab rfl
@[simp] theorem State.setDue_pwr : (State.setDue s n d).pwr = s.pwr := State.setDue_keeps.same .pwr rfl
@[simp] theorem State.setDue_dpx : (State.setDue s n d).dpx = s.dpx := State.setDue_keeps.same .dpx rfl
@[simp] theorem State.setDue_form : (State.setDue s n d).form = s.form := State.setDue_keeps.same .form rfl
@[simp] theorem State.setDue_arm : (State.setDue s n d).arm = s.arm := State.setDue_keeps.same .arm rfl
@[simp] theorem State.setDue_spn : (State.setDue s n d).spn = s.spn := State.setDue_keeps.same .spn rfl
@[simp] theorem State.setDue_cell : (State.setDue s n d).cell = s.cell := State.setDue_keeps.same .cell rfl
@[simp] theorem State.setDue_sense : (State.setDue s n d).sense = s.sense := State.setDue_keeps.same .sense rfl
@[simp] theorem State.setDue_clk : (State.setDue s n d).clk = s.clk := State.setDue_keeps.same .clk rfl
@[simp] theorem State.setDue_time : (State.setDue s n d).time = s.time := State.setDue_keeps.same .time rfl
@[simp] theorem State.setDue_field : (State.setDue s n d).field = s.field := State.setDue_keeps.same .field rfl
@[simp] theorem State.setDue_safe : (State.setDue s n d).safe = s.safe := State.setDue_keeps.same .safe rfl
@[simp] theorem State.setDue_tx : (State.setDue s n d).tx = s.tx := State.setDue_keeps.same .tx rfl
end

section
variable (s : State) (region i : Nat)
@[simp] theorem State.errBit_pending : (State.errBit s region i).pending = s.pending := State.errBit_keeps.same .pending rfl
@[simp] theorem State.errBit_now : (State.errBit s region i).now = s.now := State.errBit_keeps.same .now rfl
@[simp] theorem State.errBit_tick : (State.errBit s region i).tick = s.tick := State.errBit_keeps.same .tick rfl
@[simp] theorem State.errBit_k : (State.errBit s region i).k = s.k := State.errBit_keeps.same .k rfl
@[simp] theorem State.errBit_edge : (State.errBit s region i).edge = s.edge := State.errBit_keeps.same .edge rfl
@[simp] theorem State.errBit_extDone : (State.errBit s region i).extDone = s.extDone := State.errBit_keeps.same .extDone rfl
@[simp] theorem State.errBit_refsDone : (State.errBit s region i).refsDone = s.refsDone := State.errBit_keeps.same .refsDone rfl
@[simp] theorem State.errBit_lastDone : (State.errBit s region i).lastDone = s.lastDone := State.errBit_keeps.same .lastDone rfl
@[simp] theorem State.errBit_freeCount : (State.errBit s region i).freeCount = s.freeCount := State.errBit_keeps.same .freeCount rfl
@[simp] theorem State.errBit_device : (State.errBit s region i).device = s.device := State.errBit_keeps.same .device rfl
@[simp] theorem State.errBit_station : (State.errBit s region i).station = s.station := State.errBit_keeps.same .station rfl
@[simp] theorem State.errBit_objs : (State.errBit s region i).objs = s.objs := State.errBit_keeps.same .objs rfl
@[simp] theorem State.errBit_stored : (State.errBit s region i).stored = s.stored := State.errBit_keeps.same .stored rfl
@[simp] theorem State.errBit_commitAt : (State.errBit s region i).commitAt = s.commitAt := State.errBit_keeps.same .commitAt rfl
@[simp] theorem State.errBit_fns : (State.errBit s region i).fns = s.fns := State.errBit_keeps.same .fns rfl
@[simp] theorem State.errBit_masters : (State.errBit s region i).masters = s.masters := State.errBit_keeps.same .masters rfl
@[simp] theorem State.errBit_ps : (State.errBit s region i).ps = s.ps := State.errBit_keeps.same .ps rfl
@[simp] theorem State.errBit_mode : (State.errBit s region i).mode = s.mode := State.errBit_keeps.same .mode rfl
@[simp] theorem State.errBit_recd : (State.errBit s region i).recd = s.recd := State.errBit_keeps.same .recd rfl
@[simp] theorem State.errBit_sec : (State.errBit s region i).sec = s.sec := State.errBit_keeps.same .sec rfl
@[simp] theorem State.errBit_fab : (State.errBit s region i).fab = s.fab := State.errBit_keeps.same .fab rfl
@[simp] theorem State.errBit_pwr : (State.errBit s region i).pwr = s.pwr := State.errBit_keeps.same .pwr rfl
@[simp] theorem State.errBit_dpx : (State.errBit s region i).dpx = s.dpx := State.errBit_keeps.same .dpx rfl
@[simp] theorem State.errBit_form : (State.errBit s region i).form = s.form := State.errBit_keeps.same .form rfl
@[simp] theorem State.errBit_arm : (State.errBit s region i).arm = s.arm := State.errBit_keeps.same .arm rfl
@[simp] theorem State.errBit_spn : (State.errBit s region i).spn = s.spn := State.errBit_keeps.same .spn rfl
@[simp] theorem State.errBit_cell : (State.errBit s region i).cell = s.cell := State.errBit_keeps.same .cell rfl
@[simp] theorem State.errBit_sense : (State.errBit s region i).sense = s.sense := State.errBit_keeps.same .sense rfl
@[simp] theorem State.errBit_clk : (State.errBit s region i).clk = s.clk := State.errBit_keeps.same .clk rfl
@[simp] theorem State.errBit_time : (State.errBit s region i).time = s.time := State.errBit_keeps.same .time rfl
@[simp] theorem State.errBit_field : (State.errBit s region i).field = s.field := State.errBit_keeps.same .field rfl
@[simp] theorem State.errBit_safe : (State.errBit s region i).safe = s.safe := State.errBit_keeps.same .safe rfl
@[simp] theorem State.errBit_tx : (State.errBit s region i).tx = s.tx := State.errBit_keeps.same .tx rfl
end

section
variable (s : State) (m v : Nat)
@[simp] theorem State.answer_pending : (State.answer s m v).pending = s.pending := State.answer_keeps.same .pending rfl
@[simp] theorem State.answer_now : (State.answer s m v).now = s.now := State.answer_keeps.same .now rfl
@[simp] theorem State.answer_tick : (State.answer s m v).tick = s.tick := State.answer_keeps.same .tick rfl
@[simp] theorem State.answer_k : (State.answer s m v).k = s.k := State.answer_keeps.same .k rfl
@[simp] theorem State.answer_edge : (State.answer s m v).edge = s.edge := State.answer_keeps.same .edge rfl
@[simp] theorem State.answer_extDone : (State.answer s m v).extDone = s.extDone := State.answer_keeps.same .extDone rfl
@[simp] theorem State.answer_refsDone : (State.answer s m v).refsDone = s.refsDone := State.answer_keeps.same .refsDone rfl
@[simp] theorem State.answer_lastDone : (State.answer s m v).lastDone = s.lastDone := State.answer_keeps.same .lastDone rfl
@[simp] theorem State.answer_freeCount : (State.answer s m v).freeCount = s.freeCount := State.answer_keeps.same .freeCount rfl
@[simp] theorem State.answer_device : (State.answer s m v).device = s.device := State.answer_keeps.same .device rfl
@[simp] theorem State.answer_station : (State.answer s m v).station = s.station := State.answer_keeps.same .station rfl
@[simp] theorem State.answer_objs : (State.answer s m v).objs = s.objs := State.answer_keeps.same .objs rfl
@[simp] theorem State.answer_stored : (State.answer s m v).stored = s.stored := State.answer_keeps.same .stored rfl
@[simp] theorem State.answer_commitAt : (State.answer s m v).commitAt = s.commitAt := State.answer_keeps.same .commitAt rfl
@[simp] theorem State.answer_fns : (State.answer s m v).fns = s.fns := State.answer_keeps.same .fns rfl
@[simp] theorem State.answer_hdrs : (State.answer s m v).hdrs = s.hdrs := State.answer_keeps.same .hdrs rfl
@[simp] theorem State.answer_ps : (State.answer s m v).ps = s.ps := State.answer_keeps.same .ps rfl
@[simp] theorem State.answer_mode : (State.answer s m v).mode = s.mode := State.answer_keeps.same .mode rfl
@[simp] theorem State.answer_recd : (State.answer s m v).recd = s.recd := State.answer_keeps.same .recd rfl
@[simp] theorem State.answer_sec : (State.answer s m v).sec = s.sec := State.answer_keeps.same .sec rfl
@[simp] theorem State.answer_fab : (State.answer s m v).fab = s.fab := State.answer_keeps.same .fab rfl
@[simp] theorem State.answer_pwr : (State.answer s m v).pwr = s.pwr := State.answer_keeps.same .pwr rfl
@[simp] theorem State.answer_dpx : (State.answer s m v).dpx = s.dpx := State.answer_keeps.same .dpx rfl
@[simp] theorem State.answer_form : (State.answer s m v).form = s.form := State.answer_keeps.same .form rfl
@[simp] theorem State.answer_arm : (State.answer s m v).arm = s.arm := State.answer_keeps.same .arm rfl
@[simp] theorem State.answer_spn : (State.answer s m v).spn = s.spn := State.answer_keeps.same .spn rfl
@[simp] theorem State.answer_cell : (State.answer s m v).cell = s.cell := State.answer_keeps.same .cell rfl
@[simp] theorem State.answer_sense : (State.answer s m v).sense = s.sense := State.answer_keeps.same .sense rfl
@[simp] theorem State.answer_clk : (State.answer s m v).clk = s.clk := State.answer_keeps.same .clk rfl
@[simp] theorem State.answer_time : (State.answer s m v).time = s.time := State.answer_keeps.same .time rfl
@[simp] theorem State.answer_field : (State.answer s m v).field = s.field := State.answer_keeps.same .field rfl
@[simp] theorem State.answer_safe : (State.answer s m v).safe = s.safe := State.answer_keeps.same .safe rfl
@[simp] theorem State.answer_tx : (State.answer s m v).tx = s.tx := State.answer_keeps.same .tx rfl
end

section
variable (s : State) (p : Side) (t : Tx)
@[simp] theorem State.emitNet_pending : (State.emitNet s p t).pending = s.pending := State.emitNet_keeps.same .pending rfl
@[simp] theorem State.emitNet_now : (State.emitNet s p t).now = s.now := State.emitNet_keeps.same .now rfl
@[simp] theorem State.emitNet_tick : (State.emitNet s p t).tick = s.tick := State.emitNet_keeps.same .tick rfl
@[simp] theorem State.emitNet_k : (State.emitNet s p t).k = s.k := State.emitNet_keeps.same .k rfl
@[simp] theorem State.emitNet_edge : (State.emitNet s p t).edge = s.edge := State.emitNet_keeps.same .edge rfl
@[simp] theorem State.emitNet_extDone : (State.emitNet s p t).extDone = s.extDone := State.emitNet_keeps.same .extDone rfl
@[simp] theorem State.emitNet_refsDone : (State.emitNet s p t).refsDone = s.refsDone := State.emitNet_keeps.same .refsDone rfl
@[simp] theorem State.emitNet_lastDone : (State.emitNet s p t).lastDone = s.lastDone := State.emitNet_keeps.same .lastDone rfl
@[simp] theorem State.emitNet_freeCount : (State.emitNet s p t).freeCount = s.freeCount := State.emitNet_keeps.same .freeCount rfl
@[simp] theorem State.emitNet_device : (State.emitNet s p t).device = s.device := State.emitNet_keeps.same .device rfl
@[simp] theorem State.emitNet_station : (State.emitNet s p t).station = s.station := State.emitNet_keeps.same .station rfl
@[simp] theorem State.emitNet_objs : (State.emitNet s p t).objs = s.objs := State.emitNet_keeps.same .objs rfl
@[simp] theorem State.emitNet_stored : (State.emitNet s p t).stored = s.stored := State.emitNet_keeps.same .stored rfl
@[simp] theorem State.emitNet_commitAt : (State.emitNet s p t).commitAt = s.commitAt := State.emitNet_keeps.same .commitAt rfl
@[simp] theorem State.emitNet_fns : (State.emitNet s p t).fns = s.fns := State.emitNet_keeps.same .fns rfl
@[simp] theorem State.emitNet_hdrs : (State.emitNet s p t).hdrs = s.hdrs := State.emitNet_keeps.same .hdrs rfl
@[simp] theorem State.emitNet_masters : (State.emitNet s p t).masters = s.masters := State.emitNet_keeps.same .masters rfl
@[simp] theorem State.emitNet_ps : (State.emitNet s p t).ps = s.ps := State.emitNet_keeps.same .ps rfl
@[simp] theorem State.emitNet_mode : (State.emitNet s p t).mode = s.mode := State.emitNet_keeps.same .mode rfl
@[simp] theorem State.emitNet_recd : (State.emitNet s p t).recd = s.recd := State.emitNet_keeps.same .recd rfl
@[simp] theorem State.emitNet_sec : (State.emitNet s p t).sec = s.sec := State.emitNet_keeps.same .sec rfl
@[simp] theorem State.emitNet_pwr : (State.emitNet s p t).pwr = s.pwr := State.emitNet_keeps.same .pwr rfl
@[simp] theorem State.emitNet_dpx : (State.emitNet s p t).dpx = s.dpx := State.emitNet_keeps.same .dpx rfl
@[simp] theorem State.emitNet_form : (State.emitNet s p t).form = s.form := State.emitNet_keeps.same .form rfl
@[simp] theorem State.emitNet_arm : (State.emitNet s p t).arm = s.arm := State.emitNet_keeps.same .arm rfl
@[simp] theorem State.emitNet_spn : (State.emitNet s p t).spn = s.spn := State.emitNet_keeps.same .spn rfl
@[simp] theorem State.emitNet_cell : (State.emitNet s p t).cell = s.cell := State.emitNet_keeps.same .cell rfl
@[simp] theorem State.emitNet_sense : (State.emitNet s p t).sense = s.sense := State.emitNet_keeps.same .sense rfl
@[simp] theorem State.emitNet_clk : (State.emitNet s p t).clk = s.clk := State.emitNet_keeps.same .clk rfl
@[simp] theorem State.emitNet_time : (State.emitNet s p t).time = s.time := State.emitNet_keeps.same .time rfl
@[simp] theorem State.emitNet_field : (State.emitNet s p t).field = s.field := State.emitNet_keeps.same .field rfl
@[simp] theorem State.emitNet_safe : (State.emitNet s p t).safe = s.safe := State.emitNet_keeps.same .safe rfl
end

section
variable (s : State) (r : Request) (data : List Nat)
@[simp] theorem State.sendResponse_pending : (State.sendResponse s r data).pending = s.pending := State.sendResponse_keeps.same .pending rfl
@[simp] theorem State.sendResponse_now : (State.sendResponse s r data).now = s.now := State.sendResponse_keeps.same .now rfl
@[simp] theorem State.sendResponse_tick : (State.sendResponse s r data).tick = s.tick := State.sendResponse_keeps.same .tick rfl
@[simp] theorem State.sendResponse_k : (State.sendResponse s r data).k = s.k := State.sendResponse_keeps.same .k rfl
@[simp] theorem State.sendResponse_edge : (State.sendResponse s r data).edge = s.edge := State.sendResponse_keeps.same .edge rfl
@[simp] theorem State.sendResponse_extDone : (State.sendResponse s r data).extDone = s.extDone := State.sendResponse_keeps.same .extDone rfl
@[simp] theorem State.sendResponse_refsDone : (State.sendResponse s r data).refsDone = s.refsDone := State.sendResponse_keeps.same .refsDone rfl
@[simp] theorem State.sendResponse_lastDone : (State.sendResponse s r data).lastDone = s.lastDone := State.sendResponse_keeps.same .lastDone rfl
@[simp] theorem State.sendResponse_freeCount : (State.sendResponse s r data).freeCount = s.freeCount := State.sendResponse_keeps.same .freeCount rfl
@[simp] theorem State.sendResponse_device : (State.sendResponse s r data).device = s.device := State.sendResponse_keeps.same .device rfl
@[simp] theorem State.sendResponse_station : (State.sendResponse s r data).station = s.station := State.sendResponse_keeps.same .station rfl
@[simp] theorem State.sendResponse_objs : (State.sendResponse s r data).objs = s.objs := State.sendResponse_keeps.same .objs rfl
@[simp] theorem State.sendResponse_stored : (State.sendResponse s r data).stored = s.stored := State.sendResponse_keeps.same .stored rfl
@[simp] theorem State.sendResponse_commitAt : (State.sendResponse s r data).commitAt = s.commitAt := State.sendResponse_keeps.same .commitAt rfl
@[simp] theorem State.sendResponse_fns : (State.sendResponse s r data).fns = s.fns := State.sendResponse_keeps.same .fns rfl
@[simp] theorem State.sendResponse_hdrs : (State.sendResponse s r data).hdrs = s.hdrs := State.sendResponse_keeps.same .hdrs rfl
@[simp] theorem State.sendResponse_masters : (State.sendResponse s r data).masters = s.masters := State.sendResponse_keeps.same .masters rfl
@[simp] theorem State.sendResponse_ps : (State.sendResponse s r data).ps = s.ps := State.sendResponse_keeps.same .ps rfl
@[simp] theorem State.sendResponse_mode : (State.sendResponse s r data).mode = s.mode := State.sendResponse_keeps.same .mode rfl
@[simp] theorem State.sendResponse_recd : (State.sendResponse s r data).recd = s.recd := State.sendResponse_keeps.same .recd rfl
@[simp] theorem State.sendResponse_sec : (State.sendResponse s r data).sec = s.sec := State.sendResponse_keeps.same .sec rfl
@[simp] theorem State.sendResponse_pwr : (State.sendResponse s r data).pwr = s.pwr := State.sendResponse_keeps.same .pwr rfl
@[simp] theorem State.sendResponse_dpx : (State.sendResponse s r data).dpx = s.dpx := State.sendResponse_keeps.same .dpx rfl
@[simp] theorem State.sendResponse_form : (State.sendResponse s r data).form = s.form := State.sendResponse_keeps.same .form rfl
@[simp] theorem State.sendResponse_arm : (State.sendResponse s r data).arm = s.arm := State.sendResponse_keeps.same .arm rfl
@[simp] theorem State.sendResponse_spn : (State.sendResponse s r data).spn = s.spn := State.sendResponse_keeps.same .spn rfl
@[simp] theorem State.sendResponse_cell : (State.sendResponse s r data).cell = s.cell := State.sendResponse_keeps.same .cell rfl
@[simp] theorem State.sendResponse_sense : (State.sendResponse s r data).sense = s.sense := State.sendResponse_keeps.same .sense rfl
@[simp] theorem State.sendResponse_clk : (State.sendResponse s r data).clk = s.clk := State.sendResponse_keeps.same .clk rfl
@[simp] theorem State.sendResponse_time : (State.sendResponse s r data).time = s.time := State.sendResponse_keeps.same .time rfl
@[simp] theorem State.sendResponse_field : (State.sendResponse s r data).field = s.field := State.sendResponse_keeps.same .field rfl
@[simp] theorem State.sendResponse_safe : (State.sendResponse s r data).safe = s.safe := State.sendResponse_keeps.same .safe rfl
end

end Sys2Proof.Machine
end

