-- ==== Sys2Proof/Laws/State.lean ====
section
/-! SUPPORT. One lemma per field per update of State: what the update writes, and that it leaves the other fields. -/
namespace Sys2Proof.Machine

set_option Elab.async false
set_option linter.all false

section
variable (s : State) (f : PsState → PsState)
@[simp] theorem State.mapPs_pending : (s.mapPs f).pending = s.pending := rfl
@[simp] theorem State.mapPs_now : (s.mapPs f).now = s.now := rfl
@[simp] theorem State.mapPs_tick : (s.mapPs f).tick = s.tick := rfl
@[simp] theorem State.mapPs_k : (s.mapPs f).k = s.k := rfl
@[simp] theorem State.mapPs_edge : (s.mapPs f).edge = s.edge := rfl
@[simp] theorem State.mapPs_extDone : (s.mapPs f).extDone = s.extDone := rfl
@[simp] theorem State.mapPs_refsDone : (s.mapPs f).refsDone = s.refsDone := rfl
@[simp] theorem State.mapPs_lastDone : (s.mapPs f).lastDone = s.lastDone := rfl
@[simp] theorem State.mapPs_freeCount : (s.mapPs f).freeCount = s.freeCount := rfl
@[simp] theorem State.mapPs_device : (s.mapPs f).device = s.device := rfl
@[simp] theorem State.mapPs_station : (s.mapPs f).station = s.station := rfl
@[simp] theorem State.mapPs_objs : (s.mapPs f).objs = s.objs := rfl
@[simp] theorem State.mapPs_stored : (s.mapPs f).stored = s.stored := rfl
@[simp] theorem State.mapPs_commitAt : (s.mapPs f).commitAt = s.commitAt := rfl
@[simp] theorem State.mapPs_fns : (s.mapPs f).fns = s.fns := rfl
@[simp] theorem State.mapPs_hdrs : (s.mapPs f).hdrs = s.hdrs := rfl
@[simp] theorem State.mapPs_masters : (s.mapPs f).masters = s.masters := rfl
@[simp] theorem State.mapPs_ps : (s.mapPs f).ps = f s.ps := rfl
@[simp] theorem State.mapPs_mode : (s.mapPs f).mode = s.mode := rfl
@[simp] theorem State.mapPs_recd : (s.mapPs f).recd = s.recd := rfl
@[simp] theorem State.mapPs_sec : (s.mapPs f).sec = s.sec := rfl
@[simp] theorem State.mapPs_fab : (s.mapPs f).fab = s.fab := rfl
@[simp] theorem State.mapPs_pwr : (s.mapPs f).pwr = s.pwr := rfl
@[simp] theorem State.mapPs_dpx : (s.mapPs f).dpx = s.dpx := rfl
@[simp] theorem State.mapPs_form : (s.mapPs f).form = s.form := rfl
@[simp] theorem State.mapPs_arm : (s.mapPs f).arm = s.arm := rfl
@[simp] theorem State.mapPs_spn : (s.mapPs f).spn = s.spn := rfl
@[simp] theorem State.mapPs_cell : (s.mapPs f).cell = s.cell := rfl
@[simp] theorem State.mapPs_sense : (s.mapPs f).sense = s.sense := rfl
@[simp] theorem State.mapPs_clk : (s.mapPs f).clk = s.clk := rfl
@[simp] theorem State.mapPs_time : (s.mapPs f).time = s.time := rfl
@[simp] theorem State.mapPs_field : (s.mapPs f).field = s.field := rfl
@[simp] theorem State.mapPs_safe : (s.mapPs f).safe = s.safe := rfl
@[simp] theorem State.mapPs_tx : (s.mapPs f).tx = s.tx := rfl
end

section
variable (s : State) (f : ModeState → ModeState)
@[simp] theorem State.mapMode_pending : (s.mapMode f).pending = s.pending := rfl
@[simp] theorem State.mapMode_now : (s.mapMode f).now = s.now := rfl
@[simp] theorem State.mapMode_tick : (s.mapMode f).tick = s.tick := rfl
@[simp] theorem State.mapMode_k : (s.mapMode f).k = s.k := rfl
@[simp] theorem State.mapMode_edge : (s.mapMode f).edge = s.edge := rfl
@[simp] theorem State.mapMode_extDone : (s.mapMode f).extDone = s.extDone := rfl
@[simp] theorem State.mapMode_refsDone : (s.mapMode f).refsDone = s.refsDone := rfl
@[simp] theorem State.mapMode_lastDone : (s.mapMode f).lastDone = s.lastDone := rfl
@[simp] theorem State.mapMode_freeCount : (s.mapMode f).freeCount = s.freeCount := rfl
@[simp] theorem State.mapMode_device : (s.mapMode f).device = s.device := rfl
@[simp] theorem State.mapMode_station : (s.mapMode f).station = s.station := rfl
@[simp] theorem State.mapMode_objs : (s.mapMode f).objs = s.objs := rfl
@[simp] theorem State.mapMode_stored : (s.mapMode f).stored = s.stored := rfl
@[simp] theorem State.mapMode_commitAt : (s.mapMode f).commitAt = s.commitAt := rfl
@[simp] theorem State.mapMode_fns : (s.mapMode f).fns = s.fns := rfl
@[simp] theorem State.mapMode_hdrs : (s.mapMode f).hdrs = s.hdrs := rfl
@[simp] theorem State.mapMode_masters : (s.mapMode f).masters = s.masters := rfl
@[simp] theorem State.mapMode_ps : (s.mapMode f).ps = s.ps := rfl
@[simp] theorem State.mapMode_mode : (s.mapMode f).mode = f s.mode := rfl
@[simp] theorem State.mapMode_recd : (s.mapMode f).recd = s.recd := rfl
@[simp] theorem State.mapMode_sec : (s.mapMode f).sec = s.sec := rfl
@[simp] theorem State.mapMode_fab : (s.mapMode f).fab = s.fab := rfl
@[simp] theorem State.mapMode_pwr : (s.mapMode f).pwr = s.pwr := rfl
@[simp] theorem State.mapMode_dpx : (s.mapMode f).dpx = s.dpx := rfl
@[simp] theorem State.mapMode_form : (s.mapMode f).form = s.form := rfl
@[simp] theorem State.mapMode_arm : (s.mapMode f).arm = s.arm := rfl
@[simp] theorem State.mapMode_spn : (s.mapMode f).spn = s.spn := rfl
@[simp] theorem State.mapMode_cell : (s.mapMode f).cell = s.cell := rfl
@[simp] theorem State.mapMode_sense : (s.mapMode f).sense = s.sense := rfl
@[simp] theorem State.mapMode_clk : (s.mapMode f).clk = s.clk := rfl
@[simp] theorem State.mapMode_time : (s.mapMode f).time = s.time := rfl
@[simp] theorem State.mapMode_field : (s.mapMode f).field = s.field := rfl
@[simp] theorem State.mapMode_safe : (s.mapMode f).safe = s.safe := rfl
@[simp] theorem State.mapMode_tx : (s.mapMode f).tx = s.tx := rfl
end

section
variable (s : State) (f : RecState → RecState)
@[simp] theorem State.mapRecd_pending : (s.mapRecd f).pending = s.pending := rfl
@[simp] theorem State.mapRecd_now : (s.mapRecd f).now = s.now := rfl
@[simp] theorem State.mapRecd_tick : (s.mapRecd f).tick = s.tick := rfl
@[simp] theorem State.mapRecd_k : (s.mapRecd f).k = s.k := rfl
@[simp] theorem State.mapRecd_edge : (s.mapRecd f).edge = s.edge := rfl
@[simp] theorem State.mapRecd_extDone : (s.mapRecd f).extDone = s.extDone := rfl
@[simp] theorem State.mapRecd_refsDone : (s.mapRecd f).refsDone = s.refsDone := rfl
@[simp] theorem State.mapRecd_lastDone : (s.mapRecd f).lastDone = s.lastDone := rfl
@[simp] theorem State.mapRecd_freeCount : (s.mapRecd f).freeCount = s.freeCount := rfl
@[simp] theorem State.mapRecd_device : (s.mapRecd f).device = s.device := rfl
@[simp] theorem State.mapRecd_station : (s.mapRecd f).station = s.station := rfl
@[simp] theorem State.mapRecd_objs : (s.mapRecd f).objs = s.objs := rfl
@[simp] theorem State.mapRecd_stored : (s.mapRecd f).stored = s.stored := rfl
@[simp] theorem State.mapRecd_commitAt : (s.mapRecd f).commitAt = s.commitAt := rfl
@[simp] theorem State.mapRecd_fns : (s.mapRecd f).fns = s.fns := rfl
@[simp] theorem State.mapRecd_hdrs : (s.mapRecd f).hdrs = s.hdrs := rfl
@[simp] theorem State.mapRecd_masters : (s.mapRecd f).masters = s.masters := rfl
@[simp] theorem State.mapRecd_ps : (s.mapRecd f).ps = s.ps := rfl
@[simp] theorem State.mapRecd_mode : (s.mapRecd f).mode = s.mode := rfl
@[simp] theorem State.mapRecd_recd : (s.mapRecd f).recd = f s.recd := rfl
@[simp] theorem State.mapRecd_sec : (s.mapRecd f).sec = s.sec := rfl
@[simp] theorem State.mapRecd_fab : (s.mapRecd f).fab = s.fab := rfl
@[simp] theorem State.mapRecd_pwr : (s.mapRecd f).pwr = s.pwr := rfl
@[simp] theorem State.mapRecd_dpx : (s.mapRecd f).dpx = s.dpx := rfl
@[simp] theorem State.mapRecd_form : (s.mapRecd f).form = s.form := rfl
@[simp] theorem State.mapRecd_arm : (s.mapRecd f).arm = s.arm := rfl
@[simp] theorem State.mapRecd_spn : (s.mapRecd f).spn = s.spn := rfl
@[simp] theorem State.mapRecd_cell : (s.mapRecd f).cell = s.cell := rfl
@[simp] theorem State.mapRecd_sense : (s.mapRecd f).sense = s.sense := rfl
@[simp] theorem State.mapRecd_clk : (s.mapRecd f).clk = s.clk := rfl
@[simp] theorem State.mapRecd_time : (s.mapRecd f).time = s.time := rfl
@[simp] theorem State.mapRecd_field : (s.mapRecd f).field = s.field := rfl
@[simp] theorem State.mapRecd_safe : (s.mapRecd f).safe = s.safe := rfl
@[simp] theorem State.mapRecd_tx : (s.mapRecd f).tx = s.tx := rfl
end

section
variable (s : State) (f : SecState → SecState)
@[simp] theorem State.mapSec_pending : (s.mapSec f).pending = s.pending := rfl
@[simp] theorem State.mapSec_now : (s.mapSec f).now = s.now := rfl
@[simp] theorem State.mapSec_tick : (s.mapSec f).tick = s.tick := rfl
@[simp] theorem State.mapSec_k : (s.mapSec f).k = s.k := rfl
@[simp] theorem State.mapSec_edge : (s.mapSec f).edge = s.edge := rfl
@[simp] theorem State.mapSec_extDone : (s.mapSec f).extDone = s.extDone := rfl
@[simp] theorem State.mapSec_refsDone : (s.mapSec f).refsDone = s.refsDone := rfl
@[simp] theorem State.mapSec_lastDone : (s.mapSec f).lastDone = s.lastDone := rfl
@[simp] theorem State.mapSec_freeCount : (s.mapSec f).freeCount = s.freeCount := rfl
@[simp] theorem State.mapSec_device : (s.mapSec f).device = s.device := rfl
@[simp] theorem State.mapSec_station : (s.mapSec f).station = s.station := rfl
@[simp] theorem State.mapSec_objs : (s.mapSec f).objs = s.objs := rfl
@[simp] theorem State.mapSec_stored : (s.mapSec f).stored = s.stored := rfl
@[simp] theorem State.mapSec_commitAt : (s.mapSec f).commitAt = s.commitAt := rfl
@[simp] theorem State.mapSec_fns : (s.mapSec f).fns = s.fns := rfl
@[simp] theorem State.mapSec_hdrs : (s.mapSec f).hdrs = s.hdrs := rfl
@[simp] theorem State.mapSec_masters : (s.mapSec f).masters = s.masters := rfl
@[simp] theorem State.mapSec_ps : (s.mapSec f).ps = s.ps := rfl
@[simp] theorem State.mapSec_mode : (s.mapSec f).mode = s.mode := rfl
@[simp] theorem State.mapSec_recd : (s.mapSec f).recd = s.recd := rfl
@[simp] theorem State.mapSec_sec : (s.mapSec f).sec = f s.sec := rfl
@[simp] theorem State.mapSec_fab : (s.mapSec f).fab = s.fab := rfl
@[simp] theorem State.mapSec_pwr : (s.mapSec f).pwr = s.pwr := rfl
@[simp] theorem State.mapSec_dpx : (s.mapSec f).dpx = s.dpx := rfl
@[simp] theorem State.mapSec_form : (s.mapSec f).form = s.form := rfl
@[simp] theorem State.mapSec_arm : (s.mapSec f).arm = s.arm := rfl
@[simp] theorem State.mapSec_spn : (s.mapSec f).spn = s.spn := rfl
@[simp] theorem State.mapSec_cell : (s.mapSec f).cell = s.cell := rfl
@[simp] theorem State.mapSec_sense : (s.mapSec f).sense = s.sense := rfl
@[simp] theorem State.mapSec_clk : (s.mapSec f).clk = s.clk := rfl
@[simp] theorem State.mapSec_time : (s.mapSec f).time = s.time := rfl
@[simp] theorem State.mapSec_field : (s.mapSec f).field = s.field := rfl
@[simp] theorem State.mapSec_safe : (s.mapSec f).safe = s.safe := rfl
@[simp] theorem State.mapSec_tx : (s.mapSec f).tx = s.tx := rfl
end

section
variable (s : State) (f : FabState → FabState)
@[simp] theorem State.mapFab_pending : (s.mapFab f).pending = s.pending := rfl
@[simp] theorem State.mapFab_now : (s.mapFab f).now = s.now := rfl
@[simp] theorem State.mapFab_tick : (s.mapFab f).tick = s.tick := rfl
@[simp] theorem State.mapFab_k : (s.mapFab f).k = s.k := rfl
@[simp] theorem State.mapFab_edge : (s.mapFab f).edge = s.edge := rfl
@[simp] theorem State.mapFab_extDone : (s.mapFab f).extDone = s.extDone := rfl
@[simp] theorem State.mapFab_refsDone : (s.mapFab f).refsDone = s.refsDone := rfl
@[simp] theorem State.mapFab_lastDone : (s.mapFab f).lastDone = s.lastDone := rfl
@[simp] theorem State.mapFab_freeCount : (s.mapFab f).freeCount = s.freeCount := rfl
@[simp] theorem State.mapFab_device : (s.mapFab f).device = s.device := rfl
@[simp] theorem State.mapFab_station : (s.mapFab f).station = s.station := rfl
@[simp] theorem State.mapFab_objs : (s.mapFab f).objs = s.objs := rfl
@[simp] theorem State.mapFab_stored : (s.mapFab f).stored = s.stored := rfl
@[simp] theorem State.mapFab_commitAt : (s.mapFab f).commitAt = s.commitAt := rfl
@[simp] theorem State.mapFab_fns : (s.mapFab f).fns = s.fns := rfl
@[simp] theorem State.mapFab_hdrs : (s.mapFab f).hdrs = s.hdrs := rfl
@[simp] theorem State.mapFab_masters : (s.mapFab f).masters = s.masters := rfl
@[simp] theorem State.mapFab_ps : (s.mapFab f).ps = s.ps := rfl
@[simp] theorem State.mapFab_mode : (s.mapFab f).mode = s.mode := rfl
@[simp] theorem State.mapFab_recd : (s.mapFab f).recd = s.recd := rfl
@[simp] theorem State.mapFab_sec : (s.mapFab f).sec = s.sec := rfl
@[simp] theorem State.mapFab_fab : (s.mapFab f).fab = f s.fab := rfl
@[simp] theorem State.mapFab_pwr : (s.mapFab f).pwr = s.pwr := rfl
@[simp] theorem State.mapFab_dpx : (s.mapFab f).dpx = s.dpx := rfl
@[simp] theorem State.mapFab_form : (s.mapFab f).form = s.form := rfl
@[simp] theorem State.mapFab_arm : (s.mapFab f).arm = s.arm := rfl
@[simp] theorem State.mapFab_spn : (s.mapFab f).spn = s.spn := rfl
@[simp] theorem State.mapFab_cell : (s.mapFab f).cell = s.cell := rfl
@[simp] theorem State.mapFab_sense : (s.mapFab f).sense = s.sense := rfl
@[simp] theorem State.mapFab_clk : (s.mapFab f).clk = s.clk := rfl
@[simp] theorem State.mapFab_time : (s.mapFab f).time = s.time := rfl
@[simp] theorem State.mapFab_field : (s.mapFab f).field = s.field := rfl
@[simp] theorem State.mapFab_safe : (s.mapFab f).safe = s.safe := rfl
@[simp] theorem State.mapFab_tx : (s.mapFab f).tx = s.tx := rfl
end

section
variable (s : State) (f : PwrState → PwrState)
@[simp] theorem State.mapPwr_pending : (s.mapPwr f).pending = s.pending := rfl
@[simp] theorem State.mapPwr_now : (s.mapPwr f).now = s.now := rfl
@[simp] theorem State.mapPwr_tick : (s.mapPwr f).tick = s.tick := rfl
@[simp] theorem State.mapPwr_k : (s.mapPwr f).k = s.k := rfl
@[simp] theorem State.mapPwr_edge : (s.mapPwr f).edge = s.edge := rfl
@[simp] theorem State.mapPwr_extDone : (s.mapPwr f).extDone = s.extDone := rfl
@[simp] theorem State.mapPwr_refsDone : (s.mapPwr f).refsDone = s.refsDone := rfl
@[simp] theorem State.mapPwr_lastDone : (s.mapPwr f).lastDone = s.lastDone := rfl
@[simp] theorem State.mapPwr_freeCount : (s.mapPwr f).freeCount = s.freeCount := rfl
@[simp] theorem State.mapPwr_device : (s.mapPwr f).device = s.device := rfl
@[simp] theorem State.mapPwr_station : (s.mapPwr f).station = s.station := rfl
@[simp] theorem State.mapPwr_objs : (s.mapPwr f).objs = s.objs := rfl
@[simp] theorem State.mapPwr_stored : (s.mapPwr f).stored = s.stored := rfl
@[simp] theorem State.mapPwr_commitAt : (s.mapPwr f).commitAt = s.commitAt := rfl
@[simp] theorem State.mapPwr_fns : (s.mapPwr f).fns = s.fns := rfl
@[simp] theorem State.mapPwr_hdrs : (s.mapPwr f).hdrs = s.hdrs := rfl
@[simp] theorem State.mapPwr_masters : (s.mapPwr f).masters = s.masters := rfl
@[simp] theorem State.mapPwr_ps : (s.mapPwr f).ps = s.ps := rfl
@[simp] theorem State.mapPwr_mode : (s.mapPwr f).mode = s.mode := rfl
@[simp] theorem State.mapPwr_recd : (s.mapPwr f).recd = s.recd := rfl
@[simp] theorem State.mapPwr_sec : (s.mapPwr f).sec = s.sec := rfl
@[simp] theorem State.mapPwr_fab : (s.mapPwr f).fab = s.fab := rfl
@[simp] theorem State.mapPwr_pwr : (s.mapPwr f).pwr = f s.pwr := rfl
@[simp] theorem State.mapPwr_dpx : (s.mapPwr f).dpx = s.dpx := rfl
@[simp] theorem State.mapPwr_form : (s.mapPwr f).form = s.form := rfl
@[simp] theorem State.mapPwr_arm : (s.mapPwr f).arm = s.arm := rfl
@[simp] theorem State.mapPwr_spn : (s.mapPwr f).spn = s.spn := rfl
@[simp] theorem State.mapPwr_cell : (s.mapPwr f).cell = s.cell := rfl
@[simp] theorem State.mapPwr_sense : (s.mapPwr f).sense = s.sense := rfl
@[simp] theorem State.mapPwr_clk : (s.mapPwr f).clk = s.clk := rfl
@[simp] theorem State.mapPwr_time : (s.mapPwr f).time = s.time := rfl
@[simp] theorem State.mapPwr_field : (s.mapPwr f).field = s.field := rfl
@[simp] theorem State.mapPwr_safe : (s.mapPwr f).safe = s.safe := rfl
@[simp] theorem State.mapPwr_tx : (s.mapPwr f).tx = s.tx := rfl
end

section
variable (s : State) (f : DpxState → DpxState)
@[simp] theorem State.mapDpx_pending : (s.mapDpx f).pending = s.pending := rfl
@[simp] theorem State.mapDpx_now : (s.mapDpx f).now = s.now := rfl
@[simp] theorem State.mapDpx_tick : (s.mapDpx f).tick = s.tick := rfl
@[simp] theorem State.mapDpx_k : (s.mapDpx f).k = s.k := rfl
@[simp] theorem State.mapDpx_edge : (s.mapDpx f).edge = s.edge := rfl
@[simp] theorem State.mapDpx_extDone : (s.mapDpx f).extDone = s.extDone := rfl
@[simp] theorem State.mapDpx_refsDone : (s.mapDpx f).refsDone = s.refsDone := rfl
@[simp] theorem State.mapDpx_lastDone : (s.mapDpx f).lastDone = s.lastDone := rfl
@[simp] theorem State.mapDpx_freeCount : (s.mapDpx f).freeCount = s.freeCount := rfl
@[simp] theorem State.mapDpx_device : (s.mapDpx f).device = s.device := rfl
@[simp] theorem State.mapDpx_station : (s.mapDpx f).station = s.station := rfl
@[simp] theorem State.mapDpx_objs : (s.mapDpx f).objs = s.objs := rfl
@[simp] theorem State.mapDpx_stored : (s.mapDpx f).stored = s.stored := rfl
@[simp] theorem State.mapDpx_commitAt : (s.mapDpx f).commitAt = s.commitAt := rfl
@[simp] theorem State.mapDpx_fns : (s.mapDpx f).fns = s.fns := rfl
@[simp] theorem State.mapDpx_hdrs : (s.mapDpx f).hdrs = s.hdrs := rfl
@[simp] theorem State.mapDpx_masters : (s.mapDpx f).masters = s.masters := rfl
@[simp] theorem State.mapDpx_ps : (s.mapDpx f).ps = s.ps := rfl
@[simp] theorem State.mapDpx_mode : (s.mapDpx f).mode = s.mode := rfl
@[simp] theorem State.mapDpx_recd : (s.mapDpx f).recd = s.recd := rfl
@[simp] theorem State.mapDpx_sec : (s.mapDpx f).sec = s.sec := rfl
@[simp] theorem State.mapDpx_fab : (s.mapDpx f).fab = s.fab := rfl
@[simp] theorem State.mapDpx_pwr : (s.mapDpx f).pwr = s.pwr := rfl
@[simp] theorem State.mapDpx_dpx : (s.mapDpx f).dpx = f s.dpx := rfl
@[simp] theorem State.mapDpx_form : (s.mapDpx f).form = s.form := rfl
@[simp] theorem State.mapDpx_arm : (s.mapDpx f).arm = s.arm := rfl
@[simp] theorem State.mapDpx_spn : (s.mapDpx f).spn = s.spn := rfl
@[simp] theorem State.mapDpx_cell : (s.mapDpx f).cell = s.cell := rfl
@[simp] theorem State.mapDpx_sense : (s.mapDpx f).sense = s.sense := rfl
@[simp] theorem State.mapDpx_clk : (s.mapDpx f).clk = s.clk := rfl
@[simp] theorem State.mapDpx_time : (s.mapDpx f).time = s.time := rfl
@[simp] theorem State.mapDpx_field : (s.mapDpx f).field = s.field := rfl
@[simp] theorem State.mapDpx_safe : (s.mapDpx f).safe = s.safe := rfl
@[simp] theorem State.mapDpx_tx : (s.mapDpx f).tx = s.tx := rfl
end

section
variable (s : State) (f : FormState → FormState)
@[simp] theorem State.mapForm_pending : (s.mapForm f).pending = s.pending := rfl
@[simp] theorem State.mapForm_now : (s.mapForm f).now = s.now := rfl
@[simp] theorem State.mapForm_tick : (s.mapForm f).tick = s.tick := rfl
@[simp] theorem State.mapForm_k : (s.mapForm f).k = s.k := rfl
@[simp] theorem State.mapForm_edge : (s.mapForm f).edge = s.edge := rfl
@[simp] theorem State.mapForm_extDone : (s.mapForm f).extDone = s.extDone := rfl
@[simp] theorem State.mapForm_refsDone : (s.mapForm f).refsDone = s.refsDone := rfl
@[simp] theorem State.mapForm_lastDone : (s.mapForm f).lastDone = s.lastDone := rfl
@[simp] theorem State.mapForm_freeCount : (s.mapForm f).freeCount = s.freeCount := rfl
@[simp] theorem State.mapForm_device : (s.mapForm f).device = s.device := rfl
@[simp] theorem State.mapForm_station : (s.mapForm f).station = s.station := rfl
@[simp] theorem State.mapForm_objs : (s.mapForm f).objs = s.objs := rfl
@[simp] theorem State.mapForm_stored : (s.mapForm f).stored = s.stored := rfl
@[simp] theorem State.mapForm_commitAt : (s.mapForm f).commitAt = s.commitAt := rfl
@[simp] theorem State.mapForm_fns : (s.mapForm f).fns = s.fns := rfl
@[simp] theorem State.mapForm_hdrs : (s.mapForm f).hdrs = s.hdrs := rfl
@[simp] theorem State.mapForm_masters : (s.mapForm f).masters = s.masters := rfl
@[simp] theorem State.mapForm_ps : (s.mapForm f).ps = s.ps := rfl
@[simp] theorem State.mapForm_mode : (s.mapForm f).mode = s.mode := rfl
@[simp] theorem State.mapForm_recd : (s.mapForm f).recd = s.recd := rfl
@[simp] theorem State.mapForm_sec : (s.mapForm f).sec = s.sec := rfl
@[simp] theorem State.mapForm_fab : (s.mapForm f).fab = s.fab := rfl
@[simp] theorem State.mapForm_pwr : (s.mapForm f).pwr = s.pwr := rfl
@[simp] theorem State.mapForm_dpx : (s.mapForm f).dpx = s.dpx := rfl
@[simp] theorem State.mapForm_form : (s.mapForm f).form = f s.form := rfl
@[simp] theorem State.mapForm_arm : (s.mapForm f).arm = s.arm := rfl
@[simp] theorem State.mapForm_spn : (s.mapForm f).spn = s.spn := rfl
@[simp] theorem State.mapForm_cell : (s.mapForm f).cell = s.cell := rfl
@[simp] theorem State.mapForm_sense : (s.mapForm f).sense = s.sense := rfl
@[simp] theorem State.mapForm_clk : (s.mapForm f).clk = s.clk := rfl
@[simp] theorem State.mapForm_time : (s.mapForm f).time = s.time := rfl
@[simp] theorem State.mapForm_field : (s.mapForm f).field = s.field := rfl
@[simp] theorem State.mapForm_safe : (s.mapForm f).safe = s.safe := rfl
@[simp] theorem State.mapForm_tx : (s.mapForm f).tx = s.tx := rfl
end

section
variable (s : State) (f : ArmState → ArmState)
@[simp] theorem State.mapArm_pending : (s.mapArm f).pending = s.pending := rfl
@[simp] theorem State.mapArm_now : (s.mapArm f).now = s.now := rfl
@[simp] theorem State.mapArm_tick : (s.mapArm f).tick = s.tick := rfl
@[simp] theorem State.mapArm_k : (s.mapArm f).k = s.k := rfl
@[simp] theorem State.mapArm_edge : (s.mapArm f).edge = s.edge := rfl
@[simp] theorem State.mapArm_extDone : (s.mapArm f).extDone = s.extDone := rfl
@[simp] theorem State.mapArm_refsDone : (s.mapArm f).refsDone = s.refsDone := rfl
@[simp] theorem State.mapArm_lastDone : (s.mapArm f).lastDone = s.lastDone := rfl
@[simp] theorem State.mapArm_freeCount : (s.mapArm f).freeCount = s.freeCount := rfl
@[simp] theorem State.mapArm_device : (s.mapArm f).device = s.device := rfl
@[simp] theorem State.mapArm_station : (s.mapArm f).station = s.station := rfl
@[simp] theorem State.mapArm_objs : (s.mapArm f).objs = s.objs := rfl
@[simp] theorem State.mapArm_stored : (s.mapArm f).stored = s.stored := rfl
@[simp] theorem State.mapArm_commitAt : (s.mapArm f).commitAt = s.commitAt := rfl
@[simp] theorem State.mapArm_fns : (s.mapArm f).fns = s.fns := rfl
@[simp] theorem State.mapArm_hdrs : (s.mapArm f).hdrs = s.hdrs := rfl
@[simp] theorem State.mapArm_masters : (s.mapArm f).masters = s.masters := rfl
@[simp] theorem State.mapArm_ps : (s.mapArm f).ps = s.ps := rfl
@[simp] theorem State.mapArm_mode : (s.mapArm f).mode = s.mode := rfl
@[simp] theorem State.mapArm_recd : (s.mapArm f).recd = s.recd := rfl
@[simp] theorem State.mapArm_sec : (s.mapArm f).sec = s.sec := rfl
@[simp] theorem State.mapArm_fab : (s.mapArm f).fab = s.fab := rfl
@[simp] theorem State.mapArm_pwr : (s.mapArm f).pwr = s.pwr := rfl
@[simp] theorem State.mapArm_dpx : (s.mapArm f).dpx = s.dpx := rfl
@[simp] theorem State.mapArm_form : (s.mapArm f).form = s.form := rfl
@[simp] theorem State.mapArm_arm : (s.mapArm f).arm = f s.arm := rfl
@[simp] theorem State.mapArm_spn : (s.mapArm f).spn = s.spn := rfl
@[simp] theorem State.mapArm_cell : (s.mapArm f).cell = s.cell := rfl
@[simp] theorem State.mapArm_sense : (s.mapArm f).sense = s.sense := rfl
@[simp] theorem State.mapArm_clk : (s.mapArm f).clk = s.clk := rfl
@[simp] theorem State.mapArm_time : (s.mapArm f).time = s.time := rfl
@[simp] theorem State.mapArm_field : (s.mapArm f).field = s.field := rfl
@[simp] theorem State.mapArm_safe : (s.mapArm f).safe = s.safe := rfl
@[simp] theorem State.mapArm_tx : (s.mapArm f).tx = s.tx := rfl
end

section
variable (s : State) (f : SpnState → SpnState)
@[simp] theorem State.mapSpn_pending : (s.mapSpn f).pending = s.pending := rfl
@[simp] theorem State.mapSpn_now : (s.mapSpn f).now = s.now := rfl
@[simp] theorem State.mapSpn_tick : (s.mapSpn f).tick = s.tick := rfl
@[simp] theorem State.mapSpn_k : (s.mapSpn f).k = s.k := rfl
@[simp] theorem State.mapSpn_edge : (s.mapSpn f).edge = s.edge := rfl
@[simp] theorem State.mapSpn_extDone : (s.mapSpn f).extDone = s.extDone := rfl
@[simp] theorem State.mapSpn_refsDone : (s.mapSpn f).refsDone = s.refsDone := rfl
@[simp] theorem State.mapSpn_lastDone : (s.mapSpn f).lastDone = s.lastDone := rfl
@[simp] theorem State.mapSpn_freeCount : (s.mapSpn f).freeCount = s.freeCount := rfl
@[simp] theorem State.mapSpn_device : (s.mapSpn f).device = s.device := rfl
@[simp] theorem State.mapSpn_station : (s.mapSpn f).station = s.station := rfl
@[simp] theorem State.mapSpn_objs : (s.mapSpn f).objs = s.objs := rfl
@[simp] theorem State.mapSpn_stored : (s.mapSpn f).stored = s.stored := rfl
@[simp] theorem State.mapSpn_commitAt : (s.mapSpn f).commitAt = s.commitAt := rfl
@[simp] theorem State.mapSpn_fns : (s.mapSpn f).fns = s.fns := rfl
@[simp] theorem State.mapSpn_hdrs : (s.mapSpn f).hdrs = s.hdrs := rfl
@[simp] theorem State.mapSpn_masters : (s.mapSpn f).masters = s.masters := rfl
@[simp] theorem State.mapSpn_ps : (s.mapSpn f).ps = s.ps := rfl
@[simp] theorem State.mapSpn_mode : (s.mapSpn f).mode = s.mode := rfl
@[simp] theorem State.mapSpn_recd : (s.mapSpn f).recd = s.recd := rfl
@[simp] theorem State.mapSpn_sec : (s.mapSpn f).sec = s.sec := rfl
@[simp] theorem State.mapSpn_fab : (s.mapSpn f).fab = s.fab := rfl
@[simp] theorem State.mapSpn_pwr : (s.mapSpn f).pwr = s.pwr := rfl
@[simp] theorem State.mapSpn_dpx : (s.mapSpn f).dpx = s.dpx := rfl
@[simp] theorem State.mapSpn_form : (s.mapSpn f).form = s.form := rfl
@[simp] theorem State.mapSpn_arm : (s.mapSpn f).arm = s.arm := rfl
@[simp] theorem State.mapSpn_spn : (s.mapSpn f).spn = f s.spn := rfl
@[simp] theorem State.mapSpn_cell : (s.mapSpn f).cell = s.cell := rfl
@[simp] theorem State.mapSpn_sense : (s.mapSpn f).sense = s.sense := rfl
@[simp] theorem State.mapSpn_clk : (s.mapSpn f).clk = s.clk := rfl
@[simp] theorem State.mapSpn_time : (s.mapSpn f).time = s.time := rfl
@[simp] theorem State.mapSpn_field : (s.mapSpn f).field = s.field := rfl
@[simp] theorem State.mapSpn_safe : (s.mapSpn f).safe = s.safe := rfl
@[simp] theorem State.mapSpn_tx : (s.mapSpn f).tx = s.tx := rfl
end

section
variable (s : State) (f : CellState → CellState)
@[simp] theorem State.mapCellS_pending : (s.mapCellS f).pending = s.pending := rfl
@[simp] theorem State.mapCellS_now : (s.mapCellS f).now = s.now := rfl
@[simp] theorem State.mapCellS_tick : (s.mapCellS f).tick = s.tick := rfl
@[simp] theorem State.mapCellS_k : (s.mapCellS f).k = s.k := rfl
@[simp] theorem State.mapCellS_edge : (s.mapCellS f).edge = s.edge := rfl
@[simp] theorem State.mapCellS_extDone : (s.mapCellS f).extDone = s.extDone := rfl
@[simp] theorem State.mapCellS_refsDone : (s.mapCellS f).refsDone = s.refsDone := rfl
@[simp] theorem State.mapCellS_lastDone : (s.mapCellS f).lastDone = s.lastDone := rfl
@[simp] theorem State.mapCellS_freeCount : (s.mapCellS f).freeCount = s.freeCount := rfl
@[simp] theorem State.mapCellS_device : (s.mapCellS f).device = s.device := rfl
@[simp] theorem State.mapCellS_station : (s.mapCellS f).station = s.station := rfl
@[simp] theorem State.mapCellS_objs : (s.mapCellS f).objs = s.objs := rfl
@[simp] theorem State.mapCellS_stored : (s.mapCellS f).stored = s.stored := rfl
@[simp] theorem State.mapCellS_commitAt : (s.mapCellS f).commitAt = s.commitAt := rfl
@[simp] theorem State.mapCellS_fns : (s.mapCellS f).fns = s.fns := rfl
@[simp] theorem State.mapCellS_hdrs : (s.mapCellS f).hdrs = s.hdrs := rfl
@[simp] theorem State.mapCellS_masters : (s.mapCellS f).masters = s.masters := rfl
@[simp] theorem State.mapCellS_ps : (s.mapCellS f).ps = s.ps := rfl
@[simp] theorem State.mapCellS_mode : (s.mapCellS f).mode = s.mode := rfl
@[simp] theorem State.mapCellS_recd : (s.mapCellS f).recd = s.recd := rfl
@[simp] theorem State.mapCellS_sec : (s.mapCellS f).sec = s.sec := rfl
@[simp] theorem State.mapCellS_fab : (s.mapCellS f).fab = s.fab := rfl
@[simp] theorem State.mapCellS_pwr : (s.mapCellS f).pwr = s.pwr := rfl
@[simp] theorem State.mapCellS_dpx : (s.mapCellS f).dpx = s.dpx := rfl
@[simp] theorem State.mapCellS_form : (s.mapCellS f).form = s.form := rfl
@[simp] theorem State.mapCellS_arm : (s.mapCellS f).arm = s.arm := rfl
@[simp] theorem State.mapCellS_spn : (s.mapCellS f).spn = s.spn := rfl
@[simp] theorem State.mapCellS_cell : (s.mapCellS f).cell = f s.cell := rfl
@[simp] theorem State.mapCellS_sense : (s.mapCellS f).sense = s.sense := rfl
@[simp] theorem State.mapCellS_clk : (s.mapCellS f).clk = s.clk := rfl
@[simp] theorem State.mapCellS_time : (s.mapCellS f).time = s.time := rfl
@[simp] theorem State.mapCellS_field : (s.mapCellS f).field = s.field := rfl
@[simp] theorem State.mapCellS_safe : (s.mapCellS f).safe = s.safe := rfl
@[simp] theorem State.mapCellS_tx : (s.mapCellS f).tx = s.tx := rfl
end

section
variable (s : State) (f : SenseState → SenseState)
@[simp] theorem State.mapSense_pending : (s.mapSense f).pending = s.pending := rfl
@[simp] theorem State.mapSense_now : (s.mapSense f).now = s.now := rfl
@[simp] theorem State.mapSense_tick : (s.mapSense f).tick = s.tick := rfl
@[simp] theorem State.mapSense_k : (s.mapSense f).k = s.k := rfl
@[simp] theorem State.mapSense_edge : (s.mapSense f).edge = s.edge := rfl
@[simp] theorem State.mapSense_extDone : (s.mapSense f).extDone = s.extDone := rfl
@[simp] theorem State.mapSense_refsDone : (s.mapSense f).refsDone = s.refsDone := rfl
@[simp] theorem State.mapSense_lastDone : (s.mapSense f).lastDone = s.lastDone := rfl
@[simp] theorem State.mapSense_freeCount : (s.mapSense f).freeCount = s.freeCount := rfl
@[simp] theorem State.mapSense_device : (s.mapSense f).device = s.device := rfl
@[simp] theorem State.mapSense_station : (s.mapSense f).station = s.station := rfl
@[simp] theorem State.mapSense_objs : (s.mapSense f).objs = s.objs := rfl
@[simp] theorem State.mapSense_stored : (s.mapSense f).stored = s.stored := rfl
@[simp] theorem State.mapSense_commitAt : (s.mapSense f).commitAt = s.commitAt := rfl
@[simp] theorem State.mapSense_fns : (s.mapSense f).fns = s.fns := rfl
@[simp] theorem State.mapSense_hdrs : (s.mapSense f).hdrs = s.hdrs := rfl
@[simp] theorem State.mapSense_masters : (s.mapSense f).masters = s.masters := rfl
@[simp] theorem State.mapSense_ps : (s.mapSense f).ps = s.ps := rfl
@[simp] theorem State.mapSense_mode : (s.mapSense f).mode = s.mode := rfl
@[simp] theorem State.mapSense_recd : (s.mapSense f).recd = s.recd := rfl
@[simp] theorem State.mapSense_sec : (s.mapSense f).sec = s.sec := rfl
@[simp] theorem State.mapSense_fab : (s.mapSense f).fab = s.fab := rfl
@[simp] theorem State.mapSense_pwr : (s.mapSense f).pwr = s.pwr := rfl
@[simp] theorem State.mapSense_dpx : (s.mapSense f).dpx = s.dpx := rfl
@[simp] theorem State.mapSense_form : (s.mapSense f).form = s.form := rfl
@[simp] theorem State.mapSense_arm : (s.mapSense f).arm = s.arm := rfl
@[simp] theorem State.mapSense_spn : (s.mapSense f).spn = s.spn := rfl
@[simp] theorem State.mapSense_cell : (s.mapSense f).cell = s.cell := rfl
@[simp] theorem State.mapSense_sense : (s.mapSense f).sense = f s.sense := rfl
@[simp] theorem State.mapSense_clk : (s.mapSense f).clk = s.clk := rfl
@[simp] theorem State.mapSense_time : (s.mapSense f).time = s.time := rfl
@[simp] theorem State.mapSense_field : (s.mapSense f).field = s.field := rfl
@[simp] theorem State.mapSense_safe : (s.mapSense f).safe = s.safe := rfl
@[simp] theorem State.mapSense_tx : (s.mapSense f).tx = s.tx := rfl
end

section
variable (s : State) (f : FieldState → FieldState)
@[simp] theorem State.mapFieldS_pending : (s.mapFieldS f).pending = s.pending := rfl
@[simp] theorem State.mapFieldS_now : (s.mapFieldS f).now = s.now := rfl
@[simp] theorem State.mapFieldS_tick : (s.mapFieldS f).tick = s.tick := rfl
@[simp] theorem State.mapFieldS_k : (s.mapFieldS f).k = s.k := rfl
@[simp] theorem State.mapFieldS_edge : (s.mapFieldS f).edge = s.edge := rfl
@[simp] theorem State.mapFieldS_extDone : (s.mapFieldS f).extDone = s.extDone := rfl
@[simp] theorem State.mapFieldS_refsDone : (s.mapFieldS f).refsDone = s.refsDone := rfl
@[simp] theorem State.mapFieldS_lastDone : (s.mapFieldS f).lastDone = s.lastDone := rfl
@[simp] theorem State.mapFieldS_freeCount : (s.mapFieldS f).freeCount = s.freeCount := rfl
@[simp] theorem State.mapFieldS_device : (s.mapFieldS f).device = s.device := rfl
@[simp] theorem State.mapFieldS_station : (s.mapFieldS f).station = s.station := rfl
@[simp] theorem State.mapFieldS_objs : (s.mapFieldS f).objs = s.objs := rfl
@[simp] theorem State.mapFieldS_stored : (s.mapFieldS f).stored = s.stored := rfl
@[simp] theorem State.mapFieldS_commitAt : (s.mapFieldS f).commitAt = s.commitAt := rfl
@[simp] theorem State.mapFieldS_fns : (s.mapFieldS f).fns = s.fns := rfl
@[simp] theorem State.mapFieldS_hdrs : (s.mapFieldS f).hdrs = s.hdrs := rfl
@[simp] theorem State.mapFieldS_masters : (s.mapFieldS f).masters = s.masters := rfl
@[simp] theorem State.mapFieldS_ps : (s.mapFieldS f).ps = s.ps := rfl
@[simp] theorem State.mapFieldS_mode : (s.mapFieldS f).mode = s.mode := rfl
@[simp] theorem State.mapFieldS_recd : (s.mapFieldS f).recd = s.recd := rfl
@[simp] theorem State.mapFieldS_sec : (s.mapFieldS f).sec = s.sec := rfl
@[simp] theorem State.mapFieldS_fab : (s.mapFieldS f).fab = s.fab := rfl
@[simp] theorem State.mapFieldS_pwr : (s.mapFieldS f).pwr = s.pwr := rfl
@[simp] theorem State.mapFieldS_dpx : (s.mapFieldS f).dpx = s.dpx := rfl
@[simp] theorem State.mapFieldS_form : (s.mapFieldS f).form = s.form := rfl
@[simp] theorem State.mapFieldS_arm : (s.mapFieldS f).arm = s.arm := rfl
@[simp] theorem State.mapFieldS_spn : (s.mapFieldS f).spn = s.spn := rfl
@[simp] theorem State.mapFieldS_cell : (s.mapFieldS f).cell = s.cell := rfl
@[simp] theorem State.mapFieldS_sense : (s.mapFieldS f).sense = s.sense := rfl
@[simp] theorem State.mapFieldS_clk : (s.mapFieldS f).clk = s.clk := rfl
@[simp] theorem State.mapFieldS_time : (s.mapFieldS f).time = s.time := rfl
@[simp] theorem State.mapFieldS_field : (s.mapFieldS f).field = f s.field := rfl
@[simp] theorem State.mapFieldS_safe : (s.mapFieldS f).safe = s.safe := rfl
@[simp] theorem State.mapFieldS_tx : (s.mapFieldS f).tx = s.tx := rfl
end

section
variable (s : State) (f : SafeState → SafeState)
@[simp] theorem State.mapSafe_pending : (s.mapSafe f).pending = s.pending := rfl
@[simp] theorem State.mapSafe_now : (s.mapSafe f).now = s.now := rfl
@[simp] theorem State.mapSafe_tick : (s.mapSafe f).tick = s.tick := rfl
@[simp] theorem State.mapSafe_k : (s.mapSafe f).k = s.k := rfl
@[simp] theorem State.mapSafe_edge : (s.mapSafe f).edge = s.edge := rfl
@[simp] theorem State.mapSafe_extDone : (s.mapSafe f).extDone = s.extDone := rfl
@[simp] theorem State.mapSafe_refsDone : (s.mapSafe f).refsDone = s.refsDone := rfl
@[simp] theorem State.mapSafe_lastDone : (s.mapSafe f).lastDone = s.lastDone := rfl
@[simp] theorem State.mapSafe_freeCount : (s.mapSafe f).freeCount = s.freeCount := rfl
@[simp] theorem State.mapSafe_device : (s.mapSafe f).device = s.device := rfl
@[simp] theorem State.mapSafe_station : (s.mapSafe f).station = s.station := rfl
@[simp] theorem State.mapSafe_objs : (s.mapSafe f).objs = s.objs := rfl
@[simp] theorem State.mapSafe_stored : (s.mapSafe f).stored = s.stored := rfl
@[simp] theorem State.mapSafe_commitAt : (s.mapSafe f).commitAt = s.commitAt := rfl
@[simp] theorem State.mapSafe_fns : (s.mapSafe f).fns = s.fns := rfl
@[simp] theorem State.mapSafe_hdrs : (s.mapSafe f).hdrs = s.hdrs := rfl
@[simp] theorem State.mapSafe_masters : (s.mapSafe f).masters = s.masters := rfl
@[simp] theorem State.mapSafe_ps : (s.mapSafe f).ps = s.ps := rfl
@[simp] theorem State.mapSafe_mode : (s.mapSafe f).mode = s.mode := rfl
@[simp] theorem State.mapSafe_recd : (s.mapSafe f).recd = s.recd := rfl
@[simp] theorem State.mapSafe_sec : (s.mapSafe f).sec = s.sec := rfl
@[simp] theorem State.mapSafe_fab : (s.mapSafe f).fab = s.fab := rfl
@[simp] theorem State.mapSafe_pwr : (s.mapSafe f).pwr = s.pwr := rfl
@[simp] theorem State.mapSafe_dpx : (s.mapSafe f).dpx = s.dpx := rfl
@[simp] theorem State.mapSafe_form : (s.mapSafe f).form = s.form := rfl
@[simp] theorem State.mapSafe_arm : (s.mapSafe f).arm = s.arm := rfl
@[simp] theorem State.mapSafe_spn : (s.mapSafe f).spn = s.spn := rfl
@[simp] theorem State.mapSafe_cell : (s.mapSafe f).cell = s.cell := rfl
@[simp] theorem State.mapSafe_sense : (s.mapSafe f).sense = s.sense := rfl
@[simp] theorem State.mapSafe_clk : (s.mapSafe f).clk = s.clk := rfl
@[simp] theorem State.mapSafe_time : (s.mapSafe f).time = s.time := rfl
@[simp] theorem State.mapSafe_field : (s.mapSafe f).field = s.field := rfl
@[simp] theorem State.mapSafe_safe : (s.mapSafe f).safe = f s.safe := rfl
@[simp] theorem State.mapSafe_tx : (s.mapSafe f).tx = s.tx := rfl
end

section
variable (s : State) (t : Tx)
@[simp] theorem State.emit_pending : (s.emit t).pending = s.pending := rfl
@[simp] theorem State.emit_now : (s.emit t).now = s.now := rfl
@[simp] theorem State.emit_tick : (s.emit t).tick = s.tick := rfl
@[simp] theorem State.emit_k : (s.emit t).k = s.k := rfl
@[simp] theorem State.emit_edge : (s.emit t).edge = s.edge := rfl
@[simp] theorem State.emit_extDone : (s.emit t).extDone = s.extDone := rfl
@[simp] theorem State.emit_refsDone : (s.emit t).refsDone = s.refsDone := rfl
@[simp] theorem State.emit_lastDone : (s.emit t).lastDone = s.lastDone := rfl
@[simp] theorem State.emit_freeCount : (s.emit t).freeCount = s.freeCount := rfl
@[simp] theorem State.emit_device : (s.emit t).device = s.device := rfl
@[simp] theorem State.emit_station : (s.emit t).station = s.station := rfl
@[simp] theorem State.emit_objs : (s.emit t).objs = s.objs := rfl
@[simp] theorem State.emit_stored : (s.emit t).stored = s.stored := rfl
@[simp] theorem State.emit_commitAt : (s.emit t).commitAt = s.commitAt := rfl
@[simp] theorem State.emit_fns : (s.emit t).fns = s.fns := rfl
@[simp] theorem State.emit_hdrs : (s.emit t).hdrs = s.hdrs := rfl
@[simp] theorem State.emit_masters : (s.emit t).masters = s.masters := rfl
@[simp] theorem State.emit_ps : (s.emit t).ps = s.ps := rfl
@[simp] theorem State.emit_mode : (s.emit t).mode = s.mode := rfl
@[simp] theorem State.emit_recd : (s.emit t).recd = s.recd := rfl
@[simp] theorem State.emit_sec : (s.emit t).sec = s.sec := rfl
@[simp] theorem State.emit_fab : (s.emit t).fab = s.fab := rfl
@[simp] theorem State.emit_pwr : (s.emit t).pwr = s.pwr := rfl
@[simp] theorem State.emit_dpx : (s.emit t).dpx = s.dpx := rfl
@[simp] theorem State.emit_form : (s.emit t).form = s.form := rfl
@[simp] theorem State.emit_arm : (s.emit t).arm = s.arm := rfl
@[simp] theorem State.emit_spn : (s.emit t).spn = s.spn := rfl
@[simp] theorem State.emit_cell : (s.emit t).cell = s.cell := rfl
@[simp] theorem State.emit_sense : (s.emit t).sense = s.sense := rfl
@[simp] theorem State.emit_clk : (s.emit t).clk = s.clk := rfl
@[simp] theorem State.emit_time : (s.emit t).time = s.time := rfl
@[simp] theorem State.emit_field : (s.emit t).field = s.field := rfl
@[simp] theorem State.emit_safe : (s.emit t).safe = s.safe := rfl
@[simp] theorem State.emit_tx : (s.emit t).tx = t :: s.tx := rfl
end

section
variable (s : State)
@[simp] theorem State.drawn_pending : s.drawn.pending = s.pending := rfl
@[simp] theorem State.drawn_now : s.drawn.now = s.now := rfl
@[simp] theorem State.drawn_tick : s.drawn.tick = s.tick := rfl
@[simp] theorem State.drawn_k : s.drawn.k = s.k := rfl
@[simp] theorem State.drawn_edge : s.drawn.edge = s.edge := rfl
@[simp] theorem State.drawn_extDone : s.drawn.extDone = s.extDone := rfl
@[simp] theorem State.drawn_refsDone : s.drawn.refsDone = s.refsDone := rfl
@[simp] theorem State.drawn_lastDone : s.drawn.lastDone = s.lastDone := rfl
@[simp] theorem State.drawn_freeCount : s.drawn.freeCount = s.freeCount + 1 := rfl
@[simp] theorem State.drawn_device : s.drawn.device = s.device := rfl
@[simp] theorem State.drawn_station : s.drawn.station = s.station := rfl
@[simp] theorem State.drawn_objs : s.drawn.objs = s.objs := rfl
@[simp] theorem State.drawn_stored : s.drawn.stored = s.stored := rfl
@[simp] theorem State.drawn_commitAt : s.drawn.commitAt = s.commitAt := rfl
@[simp] theorem State.drawn_fns : s.drawn.fns = s.fns := rfl
@[simp] theorem State.drawn_hdrs : s.drawn.hdrs = s.hdrs := rfl
@[simp] theorem State.drawn_masters : s.drawn.masters = s.masters := rfl
@[simp] theorem State.drawn_ps : s.drawn.ps = s.ps := rfl
@[simp] theorem State.drawn_mode : s.drawn.mode = s.mode := rfl
@[simp] theorem State.drawn_recd : s.drawn.recd = s.recd := rfl
@[simp] theorem State.drawn_sec : s.drawn.sec = s.sec := rfl
@[simp] theorem State.drawn_fab : s.drawn.fab = s.fab := rfl
@[simp] theorem State.drawn_pwr : s.drawn.pwr = s.pwr := rfl
@[simp] theorem State.drawn_dpx : s.drawn.dpx = s.dpx := rfl
@[simp] theorem State.drawn_form : s.drawn.form = s.form := rfl
@[simp] theorem State.drawn_arm : s.drawn.arm = s.arm := rfl
@[simp] theorem State.drawn_spn : s.drawn.spn = s.spn := rfl
@[simp] theorem State.drawn_cell : s.drawn.cell = s.cell := rfl
@[simp] theorem State.drawn_sense : s.drawn.sense = s.sense := rfl
@[simp] theorem State.drawn_clk : s.drawn.clk = s.clk := rfl
@[simp] theorem State.drawn_time : s.drawn.time = s.time := rfl
@[simp] theorem State.drawn_field : s.drawn.field = s.field := rfl
@[simp] theorem State.drawn_safe : s.drawn.safe = s.safe := rfl
@[simp] theorem State.drawn_tx : s.drawn.tx = s.tx := rfl
end

section
variable (s : State) (idx sub chan : Nat) (v : Val)
@[simp] theorem State.setObj_pending : (s.setObj idx sub chan v).pending = s.pending := rfl
@[simp] theorem State.setObj_now : (s.setObj idx sub chan v).now = s.now := rfl
@[simp] theorem State.setObj_tick : (s.setObj idx sub chan v).tick = s.tick := rfl
@[simp] theorem State.setObj_k : (s.setObj idx sub chan v).k = s.k := rfl
@[simp] theorem State.setObj_edge : (s.setObj idx sub chan v).edge = s.edge := rfl
@[simp] theorem State.setObj_extDone : (s.setObj idx sub chan v).extDone = s.extDone := rfl
@[simp] theorem State.setObj_refsDone : (s.setObj idx sub chan v).refsDone = s.refsDone := rfl
@[simp] theorem State.setObj_lastDone : (s.setObj idx sub chan v).lastDone = s.lastDone := rfl
@[simp] theorem State.setObj_freeCount : (s.setObj idx sub chan v).freeCount = s.freeCount := rfl
@[simp] theorem State.setObj_device : (s.setObj idx sub chan v).device = s.device := rfl
@[simp] theorem State.setObj_station : (s.setObj idx sub chan v).station = s.station := rfl
@[simp] theorem State.setObj_objs : (s.setObj idx sub chan v).objs = tput objDefault s.objs (objKey idx sub chan) v := rfl
@[simp] theorem State.setObj_stored : (s.setObj idx sub chan v).stored = s.stored := rfl
@[simp] theorem State.setObj_commitAt : (s.setObj idx sub chan v).commitAt = s.commitAt := rfl
@[simp] theorem State.setObj_fns : (s.setObj idx sub chan v).fns = s.fns := rfl
@[simp] theorem State.setObj_hdrs : (s.setObj idx sub chan v).hdrs = s.hdrs := rfl
@[simp] theorem State.setObj_masters : (s.setObj idx sub chan v).masters = s.masters := rfl
@[simp] theorem State.setObj_ps : (s.setObj idx sub chan v).ps = s.ps := rfl
@[simp] theorem State.setObj_mode : (s.setObj idx sub chan v).mode = s.mode := rfl
@[simp] theorem State.setObj_recd : (s.setObj idx sub chan v).recd = s.recd := rfl
@[simp] theorem State.setObj_sec : (s.setObj idx sub chan v).sec = s.sec := rfl
@[simp] theorem State.setObj_fab : (s.setObj idx sub chan v).fab = s.fab := rfl
@[simp] theorem State.setObj_pwr : (s.setObj idx sub chan v).pwr = s.pwr := rfl
@[simp] theorem State.setObj_dpx : (s.setObj idx sub chan v).dpx = s.dpx := rfl
@[simp] theorem State.setObj_form : (s.setObj idx sub chan v).form = s.form := rfl
@[simp] theorem State.setObj_arm : (s.setObj idx sub chan v).arm = s.arm := rfl
@[simp] theorem State.setObj_spn : (s.setObj idx sub chan v).spn = s.spn := rfl
@[simp] theorem State.setObj_cell : (s.setObj idx sub chan v).cell = s.cell := rfl
@[simp] theorem State.setObj_sense : (s.setObj idx sub chan v).sense = s.sense := rfl
@[simp] theorem State.setObj_clk : (s.setObj idx sub chan v).clk = s.clk := rfl
@[simp] theorem State.setObj_time : (s.setObj idx sub chan v).time = s.time := rfl
@[simp] theorem State.setObj_field : (s.setObj idx sub chan v).field = s.field := rfl
@[simp] theorem State.setObj_safe : (s.setObj idx sub chan v).safe = s.safe := rfl
@[simp] theorem State.setObj_tx : (s.setObj idx sub chan v).tx = s.tx := rfl
end

end Sys2Proof.Machine
end

