-- ==== Sys2Proof/Laws/Table.lean ====
section
/-! SUPPORT. The sparse tables read back: a read after a write gives the value written, and a write leaves every other key
alone. -/
namespace Sys2Proof.Machine

set_option Elab.async false
set_option linter.all false

theorem tget_tins_same {α : Type} (d : Nat → α) (t : List (Nat × α)) (k : Nat) (v : α) : tget d (tins t k v) k = v := by
  induction t with
  | nil => simp [tins, tget]
  | cons x t ih =>
    obtain ⟨k', w⟩ := x
    unfold tins
    split
    · simp [tget]
    · split
      · simp [tget]
      · rename_i h; simp [tget, h, ih]

theorem tget_tins_other {α : Type} (d : Nat → α) (t : List (Nat × α)) {j k : Nat} (v : α) (h : j ≠ k) :
    tget d (tins t k v) j = tget d t j := by
  induction t with
  | nil => simp [tins, tget, Ne.symm h]
  | cons x t ih =>
    obtain ⟨k', w⟩ := x
    unfold tins
    split
    · simp [tget, Ne.symm h]
    · split
      · rename_i h1 h2; subst h2; simp [tget, Ne.symm h]
      · simp [tget, ih]

theorem tget_absent {α : Type} (d : Nat → α) (t : List (Nat × α)) (k : Nat) (h : ∀ e ∈ t, e.1 ≠ k) : tget d t k = d k := by
  induction t with
  | nil => rfl
  | cons x t ih =>
    obtain ⟨k', w⟩ := x
    have h1 : k' ≠ k := h (k', w) (by simp)
    simp [tget, h1, ih (fun e he => h e (by simp [he]))]

theorem tget_tdel_same {α : Type} (d : Nat → α) (t : List (Nat × α)) (k : Nat) (hs : tsorted t = true) :
    tget d (tdel t k) k = d k := by
  induction t with
  | nil => rfl
  | cons x t ih =>
    obtain ⟨k', w⟩ := x
    unfold tdel
    split
    · rename_i h
      subst h
      exact tget_absent d t k' (fun e he => Nat.ne_of_gt (tsorted_head hs e he))
    · rename_i h; simp [tget, h, ih (tsorted_tail hs)]

theorem tget_tdel_other {α : Type} (d : Nat → α) (t : List (Nat × α)) {j k : Nat} (h : j ≠ k) :
    tget d (tdel t k) j = tget d t j := by
  induction t with
  | nil => rfl
  | cons x t ih =>
    obtain ⟨k', w⟩ := x
    unfold tdel
    split
    · rename_i h1; subst h1; simp [tget, Ne.symm h]
    · simp [tget, ih]

/-- A read after a write gives the value written. -/
theorem tget_tput_same {α : Type} [DecidableEq α] (d : Nat → α) (t : List (Nat × α)) (k : Nat) (v : α)
    (hs : tsorted t = true) : tget d (tput d t k v) k = v := by
  unfold tput
  split
  · rename_i h; rw [tget_tdel_same d t k hs, h]
  · exact tget_tins_same d t k v

/-- A write leaves every other key alone. -/
theorem tget_tput_other {α : Type} [DecidableEq α] (d : Nat → α) (t : List (Nat × α)) {j k : Nat} (v : α) (h : j ≠ k) :
    tget d (tput d t k v) j = tget d t j := by
  unfold tput
  split
  · exact tget_tdel_other d t h
  · exact tget_tins_other d t v h

end Sys2Proof.Machine
end

