-- ==== Sys2Proof/Laws/Effects.lean ====
section
/-! SUPPORT. What the operations leave in the fields that the effect lemmas (Effect01 to Effect12) and the frame lemmas
(Frames) speak of. -/
namespace Sys2Proof.Machine

set_option Elab.async false
set_option linter.all false

theorem warnKeep_modes (u : State) (a b : Nat) (c : List Nat) : ∃ w, (u.warnKeep a b c).mode = { u.mode with warns := w } :=
  ⟨_, by rw [show (u.warnKeep a b c).mode = { (u.warn a c).mode with warns := ⟨regionOf a, a, b⟩ :: ((u.warn a c).warnOff a b).mode.warns } from rfl, State.warn_mode]⟩
theorem warnOn_modes (u : State) (a b : Nat) (c : List Nat) : ∃ w, (u.warnOn a b c).mode = { u.mode with warns := w } := by
  unfold State.warnOn
  dsimp only
  split
  · exact ⟨_, rfl⟩
  · exact ⟨_, by dsimp only; rw [State.warn_mode]⟩
theorem warnKeep_mode (u : State) (a b : Nat) (c : List Nat) : (u.warnKeep a b c).mode.mode = u.mode.mode := by
  obtain ⟨w, e⟩ := warnKeep_modes u a b c; rw [e]
theorem warnOn_mode1 (u : State) (a b : Nat) (p : List Nat) : (u.warnOn a b p).mode.mode = u.mode.mode := by
  obtain ⟨w, e⟩ := warnOn_modes u a b p; rw [e]
theorem drain_nil (n : Nat) (s : State) (h : s.ps.queue = []) : State.drain n s = s := by
  cases n with
  | zero => rfl
  | succ n => unfold State.drain; rw [h]; cases s.ps.exec <;> rfl
theorem drain_known (n : Nat) {s : State} {r : Request} {l} (e : s.ps.exec = none) (h : s.ps.queue = r :: l) (h0 : r.session = 0)
    (k : knownCode r.code = true) : State.drain n s = s := by
  cases n with
  | zero => rfl
  | succ n =>
    unfold State.drain; rw [e, h]; dsimp only; rw [h0]
    cases hh : s.session 0 <;> simp [k]
theorem drain_next (n : Nat) {s : State} {r : Request} {x : Session} {l} (e : s.ps.exec = none) (h : s.ps.queue = r :: l)
    (hx : s.session r.session = some x) (hc : x.counter < r.counter) (k : knownCode r.code = true) : State.drain n s = s := by
  cases n with
  | zero => rfl
  | succ n =>
    unfold State.drain; rw [e, h]; dsimp only; rw [hx]
    have : (if r.session = 0 then Fresh.fresh else x.judge r) = .fresh := by split <;> simp [Session.judge, hc]
    simp [this, k]
theorem drain_new (n : Nat) {s : State} {r : Request} {l} (e : s.ps.exec = none) (h : s.ps.queue = r :: l) (h0 : s.newIn r)
    (k : knownCode r.code = true) : State.drain n s = s := by
  rcases h0 with h0 | ⟨x, hx, hc⟩
  · exact drain_known n e h h0 k
  · exact drain_next n e h hx hc k
theorem begin_sole {s : State} {r : Request} {c : Nat} (h : s.sole r c) (k : knownCode c = true) : s.begin c = some (r, s.popHead) := by
  obtain ⟨h1, h2, h3, h4, h5⟩ := h
  subst h4
  unfold State.begin
  rw [drain_new 17 h1 h2 h3 k]
  simp [State.head, h1, h2]
theorem finish_empty {u : State} {r : Request} {key p} (h : u.ps.queue = []) :
    u.finish r key p = ((u.mapPs (fun p => { p with exec := none })).sendResponse r (responseBytes u.device r key p)).executed r
      (responseBytes u.device r key p) := by
  unfold State.finish State.executed
  exact drain_nil 17 _ (by split <;> simp [State.mapSession, h])
theorem executed_zero {r : Request} (h : r.session = 0) (u : State) (d : List Nat) : u.executed r d = u := if_pos h
theorem answered_finish {s u : State} {r : Request} {c p} (h : s.sole r c) (hq : u.ps.queue = []) (ht : u.tx = s.tx)
    (hd : u.device = s.device) (hf : u.fab.netUp = s.fab.netUp) (hh : u.hdrs = s.hdrs) (hw : u.pwr = s.pwr) : answered s (u.finish r r.key p) r p := by
  obtain ⟨h1, h2, h3, h4, h5⟩ := h
  have h6 : (u.mapPs (fun p => { p with exec := none })).netUp r.port = true := by
    unfold State.netUp State.powered State.fenced at *; simp only [State.mapPs_fab, State.mapPs_hdrs, State.mapPs_pwr, hf, hh, hw]; exact h5
  rw [finish_empty hq]
  unfold answered State.sendResponse State.emitNet State.executed
  rw [h6]
  by_cases h0 : r.session = 0
  · simp [h0, hq, ht, hd]
  · simp [h0, hq, ht, hd, State.mapSession]
theorem takeRequest_fresh {s : State} {r : Request} (h0 : r.session = 0) (e : s.ps.exec = none) (q : s.ps.queue = [])
    (k : knownCode r.code = true) : (s.takeRequest r).ps.queue = [r] := by
  have : ∀ u : State, u.ps.exec = none → u.ps.queue = [r] → (State.drain 17 u).ps.queue = [r] := by
    intro u h1 h2; rw [drain_known 17 h1 h2 h0 k]; exact h2
  unfold State.takeRequest
  cases hs : s.session r.session <;> simp [h0, q] <;> exact this _ (by simp [e]) (by simp [q])
theorem takeRequest_next {s : State} {r : Request} {x : Session} (hx : s.session r.session = some x) (hc : x.counter < r.counter)
    (e : s.ps.exec = none) (q : s.ps.queue = []) (k : knownCode r.code = true) : (s.takeRequest r).ps.queue = [r] := by
  have hd : State.drain 17 (s.mapPs (fun p => { p with queue := p.queue ++ [r] })) = s.mapPs (fun p => { p with queue := p.queue ++ [r] }) :=
    drain_next 17 (x := x) e (by simp [q]; rfl) hx hc k
  have : (if r.session = 0 then Fresh.fresh else x.judge r) = .fresh := by split <;> simp [Session.judge, hc]
  unfold State.takeRequest
  rw [hx]
  simp only [this, q, List.length_nil, show ¬ (16 ≤ 0) by decide, if_false, hd]
  simp [q]
theorem mapSession_queue (s : State) (id f) : (s.mapSession id f).ps.queue = s.ps.queue := rfl
theorem mapClient_queue (s : State) (a b f) : (s.mapClient a b f).ps.queue = s.ps.queue := rfl
theorem putCursor_queue (s : State) (c v a) : (s.putCursor c v a).ps.queue = s.ps.queue := by cases c <;> rfl
theorem putSelects_queue (s : State) (c v) : (s.putSelects c v).ps.queue = s.ps.queue := by cases c <;> rfl
theorem readObj_queue (s : State) (c sel idx sub) : (s.readObj c sel idx sub).2.2.ps.queue = s.ps.queue := by
  unfold State.readObj State.readWindow
  dsimp only
  repeat' split
  all_goals first | rfl | exact putCursor_queue ..
theorem readEntry_queue (s : State) (c idx sub b) : (s.readEntry c idx sub b).2.2.ps.queue = s.ps.queue := by
  unfold State.readEntry
  repeat' split
  all_goals first | exact readObj_queue .. | rfl | skip
  dsimp only; split
  · unfold State.putSelect; exact putSelects_queue ..
  · rfl
theorem fitEntry_queue {s : State} {a b : Nat} {x : Nat × List Nat × State} (h : x.2.2.ps.queue = s.ps.queue) :
    (s.fitEntry a b x).2.2.ps.queue = s.ps.queue := by
  unfold State.fitEntry; split
  · exact h
  · rfl
theorem readList_queue (c : Caller) (es : List (Nat × Nat × List Nat)) (pos : Nat) (f out) (s : State) :
    (State.readList c es pos f out s).2.2.ps.queue = s.ps.queue := by
  induction es generalizing pos f out s with
  | nil => rfl
  | cons e es ih => obtain ⟨a, b, d⟩ := e; unfold State.readList; dsimp only; rw [ih, fitEntry_queue (readEntry_queue ..)]
theorem readBlockList_queue (c : Caller) (sel idx) (n sub pos : Nat) (f out) (s : State) :
    (State.readBlockList c sel idx n sub pos f out s).2.2.ps.queue = s.ps.queue := by
  induction n generalizing sub pos f out s with
  | zero => rfl
  | succ n ih => unfold State.readBlockList; dsimp only; rw [ih, fitEntry_queue (readObj_queue ..)]
theorem answered_keeps {m : Nat} {s u v : State} {r : Request} {c p} (h : s.sole r c) (hq : u.ps.queue = []) (k : Keeps m v u)
    (hv1 : v.tx = s.tx) (hv2 : v.device = s.device) (hv3 : v.fab = s.fab) (hv4 : v.hdrs = s.hdrs)
    (hv5 : v.pwr = s.pwr)
    (hm : m.testBit 33 = false ∧ m.testBit 9 = false ∧ m.testBit 21 = false ∧ m.testBit 15 = false ∧ m.testBit 22 = false) :
    answered s (u.finish r r.key p) r p :=
  answered_finish h hq ((k.same .tx hm.1).trans hv1) ((k.same .device hm.2.1).trans hv2)
    (by have := k.same .fab hm.2.2.1; simp only [Part.same] at this; rw [this, hv3]) ((k.same .hdrs hm.2.2.2.1).trans hv4) ((k.same .pwr hm.2.2.2.2).trans hv5)
theorem popHead_queue {s : State} {r : Request} {c} (h : s.sole r c) : s.popHead.ps.queue = [] := by simp [State.popHead, h.2.1]
theorem answered_some {s u : State} {r : Request} {c p a b n} (h : s.sole r c) (hq : u.ps.queue = []) (ht : u.tx = s.tx)
    (hd : u.device = s.device) (hf : u.fab.netUp = s.fab.netUp) (hh : u.hdrs = s.hdrs) (hw : u.pwr = s.pwr) :
    ∃ q, answered s (u.finish r r.key (answerBytes a b n p)) r (answerBytes a b n q) := ⟨p, answered_finish h hq ht hd hf hh hw⟩
@[simp] theorem Fns.get_put (f : Fns) (n : Fn) (x : FnState) : (f.put n x).get n = x := by cases n <;> rfl
theorem Fns.get_put_ne (f : Fns) {n m : Fn} (x : FnState) (h : m ≠ n) : (f.put n x).get m = f.get m := by cases n <;> cases m <;> first | rfl | exact absurd rfl h
@[simp] theorem State.setRun_run (s : State) (n : Fn) (r : Run) : (s.setRun n r).run n = r := by
  unfold State.setRun State.run
  dsimp only
  split
  · rename_i h; simpa using h
  · simp
@[simp] theorem State.setRun_check (s : State) (n : Fn) (r : Run) : ((s.setRun n r).fns.get n).check = (s.fns.get n).check := by
  unfold State.setRun
  dsimp only
  split
  · rfl
  · simp
theorem entry_updAt {α : Type} (f : α → α) (d : α) (l : List α) (i : Nat) (h : i < l.length) : entry (updAt i f l) i d = f (entry l i d) := by
  induction l generalizing i with
  | nil => simp at h
  | cons x l ih =>
    cases i with
    | zero => rfl
    | succ i => simp only [updAt]; simpa [entry] using ih i (by simpa using h)
theorem State.Shape.cells {s : State} (h : s.Shape) : s.cell.cells.length = 256 := by unfold State.Shape State.shape at h; simp_all
theorem State.Shape.trunks {s : State} (h : s.Shape) : s.cell.trunks.length = 8 := by unfold State.Shape State.shape at h; simp_all
theorem State.Shape.pins {s : State} (h : s.Shape) : s.field.pins.length = 32 := by unfold State.Shape State.shape at h; simp_all
theorem State.Shape.ins {s : State} (h : s.Shape) : s.sense.ins.length = 16 := by unfold State.Shape State.shape at h; simp_all
theorem State.Shape.convs {s : State} (h : s.Shape) : s.sense.convs.length = 17 := by unfold State.Shape State.shape at h; simp_all
theorem State.Shape.ints {s : State} (h : s.Shape) : s.sense.ints.length = 8 := by unfold State.Shape State.shape at h; simp_all
theorem State.Shape.sins {s : State} (h : s.Shape) : s.safe.ins.length = 8 := by unfold State.Shape State.shape at h; simp_all
theorem State.Shape.souts {s : State} (h : s.Shape) : s.safe.outs.length = 4 := by unfold State.Shape State.shape at h; simp_all
theorem State.Shape.conns {s : State} (h : s.Shape) : s.safe.conns.length = 8 := by unfold State.Shape State.shape at h; simp_all
theorem State.Shape.hdrs {s : State} (h : s.Shape) : s.hdrs.length = 9 := by unfold State.Shape State.shape at h; simp_all
theorem State.Shape.masters {s : State} (h : s.Shape) : s.masters.length = 7 := by unfold State.Shape State.shape at h; simp_all
theorem State.Shape.sems {s : State} (h : s.Shape) : s.fab.sems.length = 16 := by unfold State.Shape State.shape at h; simp_all
theorem State.Shape.queues {s : State} (h : s.Shape) : s.fab.queues.length = 16 := by unfold State.Shape State.shape at h; simp_all
theorem cellAt_mapCell {s : State} (h : s.Shape) (c : Fin 256) (f : Cell → Cell) : (s.mapCell c.val f).cellAt c.val = f (s.cellAt c.val) :=
  entry_updAt f _ _ _ (by rw [h.cells]; exact c.2)
theorem session_filter (s : State) (id : Nat) (u : State) (h : u.ps.sessions = s.ps.sessions.filter (fun x => x.id != id)) : u.session id = none := by
  unfold State.session
  rw [h]
  simp [List.find?_eq_none]
theorem sessionEnd_session (s : State) (id c : Nat) : (s.sessionEnd id c).session id = none := by
  unfold State.sessionEnd
  split
  · exact session_filter s id _ (by simp)
  · rename_i h; simpa using h
theorem some3 {p q r : Prop} [Decidable p] [Decidable q] [Decidable r] (h : p ∨ q ∨ r) {a b c : Nat} :
    ∃ x, (if p then some a else if q then some b else if r then some c else none) = some x := by
  by_cases hp : p
  · exact ⟨a, by simp [hp]⟩
  · by_cases hq : q
    · exact ⟨b, by simp [hp, hq]⟩
    · exact ⟨c, by simp [hp, hq] at h; simp [hp, hq, h]⟩
theorem bind_of_eq {α β : Type} {o : Option α} {x : α} (h : o = some x) (f : α → Option β) : o.bind f = f x := by subst h; rfl
theorem State.setRun_due' (s : State) (n : Fn) (r : Run) : ((s.setRun n r).fns.get n).due = (s.fns.get n).due := by
  unfold State.setRun
  dsimp only
  split
  · rfl
  · simp
theorem setRun_due (s : State) (n : Fn) (r : Run) : ((s.setRun n r).fns.get n).due = (s.fns.get n).due := State.setRun_due' s n r
theorem setRun_run (s : State) (n : Fn) (r : Run) : (s.setRun n r).run n = r := State.setRun_run s n r
theorem setRun_check (s : State) (n : Fn) (r : Run) : ((s.setRun n r).fns.get n).check = (s.fns.get n).check := State.setRun_check s n r
theorem ain_mapAin {s : State} (h : s.Shape) {c : Nat} (hc : c < 16) (f : AIn → AIn) : (s.mapAin c f).ain c = f (s.ain c) :=
  entry_updAt f _ _ _ (by rw [h.ins]; exact hc)
theorem entry_updAt_ne {α : Type} (f : α → α) (d : α) (l : List α) (i j : Nat) (h : j ≠ i) : entry (updAt i f l) j d = entry l j d := by
  induction l generalizing i j with
  | nil => simp [updAt]
  | cons x l ih =>
    cases i with
    | zero => cases j with
      | zero => exact absurd rfl h
      | succ j => rfl
    | succ i => cases j with
      | zero => rfl
      | succ j => simp only [updAt]; simpa [entry] using ih i j (by simpa using h)
theorem updAt_length {α : Type} (f : α → α) (l : List α) (i : Nat) : (updAt i f l).length = l.length := by
  induction l generalizing i with
  | nil => simp [updAt]
  | cons x l ih => cases i <;> simp [updAt, ih]
theorem cellAt_mapCell_ne (s : State) {c d : Nat} (h : d ≠ c) (f : Cell → Cell) : (s.mapCell c f).cellAt d = s.cellAt d :=
  entry_updAt_ne f _ _ _ _ h
theorem mapCell_populated (s : State) (c d : Nat) (f) : (s.mapCell c f).populated d = s.populated d := rfl
theorem mapCell_linkUp (s : State) (c d : Nat) (f) : (s.mapCell c f).linkUp d = s.linkUp d := rfl
theorem mapCell_Shape {s : State} (h : s.Shape) (c : Nat) (f) : (s.mapCell c f).Shape := by
  unfold State.Shape State.shape State.mapCell at *
  simp only [updAt_length]; exact h
theorem gd_fold (l : List Nat) (s : State) (h : s.Shape) (c : Fin 256) :
    (l.foldl (fun s c => if s.populated c && s.linkUp (c / 32) then s.mapCell c (fun x => { x with due := some .pass }) else s) s).cellAt c.val
      = if l.contains c.val && (s.populated c.val && s.linkUp (c.val / 32)) then { s.cellAt c.val with due := some .pass } else s.cellAt c.val := by
  induction l generalizing s with
  | nil => rfl
  | cons x l ih =>
    simp only [List.foldl_cons]
    by_cases hx : (s.populated x && s.linkUp (x / 32)) = true
    · rw [if_pos hx, ih _ (mapCell_Shape h x _)]
      simp only [mapCell_populated, mapCell_linkUp]
      by_cases he : c.val = x
      · subst he
        rw [cellAt_mapCell h]
        simp only [hx, List.contains_cons, beq_self_eq_true, Bool.true_or, Bool.and_true]
        split <;> rfl
      · rw [cellAt_mapCell_ne _ he]
        have : (x == c.val) = false := by simp [Ne.symm he]
        have h2 : (c.val == x) = false := by simp [he]
        have h3 : (x :: l).contains c.val = l.contains c.val := by rw [List.contains_cons, h2, Bool.false_or]
        rw [h3]
        rfl
    · rw [if_neg hx, ih _ h]
      by_cases he : c.val = x
      · subst he; simp only [Bool.not_eq_true] at hx; simp only [hx, Bool.and_false, Bool.false_eq_true, if_false]
      · have : (c.val == x) = false := by simp [he]
        simp only [List.contains_cons, this, Bool.false_or]
theorem putPll_act (u : State) (i j : Nat) (p : Pll) (h : p.act = (u.clk.pll i).act) (hi : i < 4) : ((u.putPll i p).clk.pll j).act = (u.clk.pll j).act := by
  unfold State.putPll
  match i, hi with
  | 0, _ => match j with | 0 => exact h | 1 => rfl | 2 => rfl | 3 => rfl | _ + 4 => rfl
  | 1, _ => match j with | 0 => rfl | 1 => exact h | 2 => rfl | 3 => rfl | _ + 4 => rfl
  | 2, _ => match j with | 0 => rfl | 1 => rfl | 2 => exact h | 3 => rfl | _ + 4 => rfl
  | 3, _ => match j with | 0 => rfl | 1 => rfl | 2 => rfl | 3 => exact h | _ + 4 => rfl
theorem acquire_act (u : State) (i j : Nat) (hi : i < 4) : ((u.acquire i).clk.pll j).act = (u.clk.pll j).act := by
  unfold State.acquire
  dsimp only
  split
  · rw [State.warnKeep_clk, State.warnOff_clk]; exact putPll_act u i j _ rfl hi
  · rw [State.warnOff_clk, State.warnOff_clk]; exact putPll_act u i j _ rfl hi
theorem putPll_set (u : State) (i j : Nat) (c : PllCfg) (hi : i < 4) : ((u.putPll i { u.clk.pll i with act := c }).clk.pll j).act = if j = i then c else (u.clk.pll j).act := by
  unfold State.putPll
  match i, hi with
  | 0, _ => match j with | 0 => rfl | 1 => rfl | 2 => rfl | 3 => rfl | _ + 4 => rfl
  | 1, _ => match j with | 0 => rfl | 1 => rfl | 2 => rfl | 3 => rfl | _ + 4 => rfl
  | 2, _ => match j with | 0 => rfl | 1 => rfl | 2 => rfl | 3 => rfl | _ + 4 => rfl
  | 3, _ => match j with | 0 => rfl | 1 => rfl | 2 => rfl | 3 => rfl | _ + 4 => rfl
theorem putPll_shadow (u : State) (i j : Nat) (p) : (u.putPll i p).shadow j = u.shadow j := rfl
theorem shadow_objs {u v : State} (h : u.objs = v.objs) (i : Nat) : u.shadow i = v.shadow i := by
  simp only [State.shadow, State.PLL_N, State.PLL_OD0, State.PLL_OD1, State.LOOP_BW, State.BAND_TABLE, State.obj, h]
theorem acquire_shadow (u : State) (i j : Nat) : (u.acquire i).shadow j = u.shadow j := by
  exact shadow_objs ((State.acquire_keeps (s := u) (i := i)).same .objs rfl) j
theorem acquire_commit (u : State) (i : Nat) (hi : i < 4) : (u.acquire i).clk.commit = u.clk.commit := by
  unfold State.acquire
  dsimp only
  split
  · rw [State.warnKeep_clk, State.warnOff_clk]; unfold State.putPll; match i, hi with | 0, _ => rfl | 1, _ => rfl | 2, _ => rfl | 3, _ => rfl
  · rw [State.warnOff_clk, State.warnOff_clk]; unfold State.putPll; match i, hi with | 0, _ => rfl | 1, _ => rfl | 2, _ => rfl | 3, _ => rfl
/-- One PLL of a commit. -/
def commitOne (s : State) (i : Nat) : State :=
  let sh := s.shadow i
  let p := s.clk.pll i
  if p.act == sh then s else (s.putPll i { p with act := sh }).acquire i
theorem commitOne_act (u : State) (i j : Nat) (hi : i < 4) : ((commitOne u i).clk.pll j).act = if j = i then u.shadow i else (u.clk.pll j).act := by
  unfold commitOne
  dsimp only
  split
  · rename_i h
    have : (u.clk.pll i).act = u.shadow i := by simpa using h
    split
    · rename_i e; subst e; exact this
    · rfl
  · rw [acquire_act _ _ _ hi, putPll_set _ _ _ _ hi]
theorem commitOne_shadow (u : State) (i j : Nat) : (commitOne u i).shadow j = u.shadow j := by
  unfold commitOne
  dsimp only
  split
  · rfl
  · rw [acquire_shadow, putPll_shadow]
theorem commitOne_commit (u : State) (i : Nat) (hi : i < 4) : (commitOne u i).clk.commit = u.clk.commit := by
  unfold commitOne
  dsimp only
  split
  · rfl
  · rw [acquire_commit _ _ hi]; unfold State.putPll; match i, hi with | 0, _ => rfl | 1, _ => rfl | 2, _ => rfl | 3, _ => rfl
theorem commitNow_eq (s : State) : ∃ u : State, s.commitNow = (List.range 4).foldl commitOne u ∧ u.objs = s.objs ∧ u.clk.commit = false := by
  unfold State.commitNow
  exact ⟨_, rfl, by dsimp only; split <;> rfl, rfl⟩
theorem commitNow_spec (s : State) : s.commitNow.clk.commit = false ∧ ∀ i < 4, (s.commitNow.clk.pll i).act = s.shadow i := by
  obtain ⟨u, hu, ho, hc⟩ := commitNow_eq s
  have hs : ∀ i, u.shadow i = s.shadow i := by
    exact fun i => shadow_objs ho i
  rw [hu]
  simp only [show List.range 4 = [0, 1, 2, 3] from rfl, List.foldl_cons, List.foldl_nil]
  refine ⟨?_, ?_⟩
  · rw [commitOne_commit _ _ (by decide), commitOne_commit _ _ (by decide), commitOne_commit _ _ (by decide), commitOne_commit _ _ (by decide), hc]
  · intro i hi
    rw [commitOne_act _ _ _ (by decide), commitOne_act _ _ _ (by decide), commitOne_act _ _ _ (by decide), commitOne_act _ _ _ (by decide)]
    simp only [commitOne_shadow, hs]
    match i, hi with | 0, _ => rfl | 1, _ => rfl | 2, _ => rfl | 3, _ => rfl
theorem val_setObj {s : State} (h : s.Canon) (idx sub chan : Nat) (v : Val) : (s.setObj idx sub chan v).val idx sub chan = v :=
  tget_tput_same objDefault s.objs _ v h.1.1
theorem val_objs {s t : State} (h : t.objs = s.objs) (idx sub chan : Nat) : t.val idx sub chan = s.val idx sub chan := by
  unfold State.val; rw [h]
theorem entry_putAt {α : Type} (x d : α) (l : List α) (i : Nat) (h : i < l.length) : entry (putAt i x l) i d = x := entry_updAt _ d l i h
theorem pins_map (f : Nat → Pin) (p : Fin 32) : entry ((List.range 32).map f) p.val {} = f p.val := by
  unfold entry
  simp [List.getD, p.2]
theorem modeStatus_ok {s : State} (h : s.mode.mode = .commission ∨ s.mode.mode = .blocked ∨ s.mode.mode = .forming) : s.modeStatus = stOk := by
  unfold State.modeStatus; rcases h with h | h | h <;> rw [h]
theorem sessionsEnd_none (s : State) (p : Session → Bool) (c : Nat) (x : Session) (hx : x ∈ (s.sessionsEnd p c).ps.sessions) :
    x ∈ s.ps.sessions ∧ (∀ y ∈ s.ps.sessions, p y = true → y.id ≠ x.id) := by
  unfold State.sessionsEnd at hx
  have key : ∀ (l : List Session) (u : State), x ∈ (l.foldl (fun s x => s.sessionEnd x.id c) u).ps.sessions →
      x ∈ u.ps.sessions ∧ ∀ y ∈ l, y ∈ u.ps.sessions → y.id ≠ x.id := by
    intro l
    induction l with
    | nil => intro u h; exact ⟨h, fun y hy => absurd hy (by simp)⟩
    | cons a l ih =>
      intro u h
      simp only [List.foldl_cons] at h
      obtain ⟨h1, h2⟩ := ih _ h
      have hsub : x ∈ u.ps.sessions ∧ ∀ y ∈ u.ps.sessions, y.id ≠ a.id → y ∈ (u.sessionEnd a.id c).ps.sessions := by
        unfold State.sessionEnd at h1 ⊢
        split at h1
        · rename_i hh; rw [if_pos hh]; simp only [State.note_ps, State.mapPs_ps, List.mem_filter] at h1 ⊢
          exact ⟨h1.1, fun y hy hn => ⟨hy, by simpa using hn⟩⟩
        · rename_i hh; rw [if_neg hh]; exact ⟨h1, fun y hy _ => hy⟩
      refine ⟨hsub.1, ?_⟩
      intro y hy hm
      by_cases he : y.id = a.id
      · intro hc
        have hid : x.id = a.id := hc.symm.trans he
        unfold State.sessionEnd at h1
        split at h1
        · simp [hid] at h1
        · rename_i hh
          unfold State.session at hh
          apply hh
          simp only [List.find?_isSome]
          exact ⟨x, hsub.1, by simp [hid]⟩
      · rcases List.mem_cons.1 hy with rfl | hl
        · exact absurd rfl he
        · exact h2 y hl (hsub.2 y hm he)
  obtain ⟨h1, h2⟩ := key _ _ hx
  exact ⟨h1, fun y hy hp => h2 y (List.mem_filter.2 ⟨hy, hp⟩) hy⟩
theorem answer_read {s u : State} (h : s.Shape) (m : Fin 7) (v : Nat) (hm : u.masters = s.masters) :
    (entry (u.answer m.val v).masters m.val {}).readData = v := by
  unfold State.answer
  rw [entry_updAt _ _ _ _ (by rw [hm, h.masters]; exact m.2)]
theorem enterMode_mode (s : State) (m : Mode) (sub : Nat) : (s.enterMode m sub).mode.mode = m ∧ (s.enterMode m sub).mode.sub = sub := by
  unfold State.enterMode
  dsimp only
  split
  · rename_i h; simpa using h
  · simp
theorem setMode_cases (s : State) (m : Mode) (sub : Nat) : s.setMode m sub = s ∨ s.setMode m sub = s.enterMode m sub := by
  unfold State.setMode
  split
  · exact .inr rfl
  · exact .inl rfl
theorem setMode_mode (s : State) (m : Mode) (sub : Nat) (h : s.modeOpen m = true) : (s.setMode m sub).mode.mode = m ∧ (s.setMode m sub).mode.sub = sub := by
  unfold State.setMode
  rw [if_pos h]
  exact enterMode_mode ..
theorem setMode_ne (s : State) (m : Mode) (sub : Nat) (hm : m ≠ .forming) : (s.setMode m sub).mode.mode ≠ .forming := by
  unfold State.setMode
  split
  · rw [(enterMode_mode ..).1]; exact hm
  · rename_i h
    intro e
    apply h
    unfold State.modeOpen
    rw [e]
theorem open_forming {s : State} (h : s.mode.mode = .forming) (m : Mode) : s.modeOpen m = true := by unfold State.modeOpen; rw [h]
theorem open_standby {s : State} (h : s.mode.mode = .standby) (m : Mode) : s.modeOpen m = true := by unfold State.modeOpen; rw [h]
theorem open_safe {s : State} (h : s.mode.mode ≠ .safe) : s.modeOpen .safe = true := by
  unfold State.modeOpen; split
  · contradiction
  · rfl
  · rfl
theorem open_blocked {s : State} (h : s.mode.mode ≠ .safe) (k : s.mode.mode ≠ .boot) (m : Mode) : s.modeOpen m = true := by
  unfold State.modeOpen; split
  · contradiction
  · contradiction
  · rfl
theorem if2_pwr {b c : Bool} {u : State} {k l k' l' : Nat} {p : List Nat} : (if b then u.warnOn k l p else if c then u.warnOff k' l' else u).pwr = u.pwr := by
  split
  · simp
  · split <;> simp
theorem if1_pwr {b : Prop} [Decidable b] {u : State} {k l k' l' : Nat} {p : List Nat} : (if b then u.warnOn k l p else u.warnOff k' l').pwr = u.pwr := by
  split <;> simp
theorem pollOne_mem (s : State) (a w : Nat) : { addr := a, status := w % 65536, misses := 0 } ∈ (s.pollOne a (some w)).pwr.regs := by
  unfold State.pollOne
  simp only [Option.isSome_some, if_true]
  rw [if1_pwr]
  simp
theorem pollOne_pwr (s : State) (a : Nat) (x : Option Nat) : (s.pollOne a x).pwr.pollAt = s.pwr.pollAt ∧ (s.pollOne a x).pwr.pollDue = s.pwr.pollDue := by
  unfold State.pollOne
  dsimp only
  rw [if2_pwr]
  exact ⟨rfl, rfl⟩
theorem poll_fold (f : Nat × Nat → Option Nat) (l : List (Nat × Nat)) (s : State) (g : State → Nat × Nat → Option Nat) :
    (l.foldl (fun s a => s.pollOne a.1 (g s a)) s).pwr.pollAt = s.pwr.pollAt ∧ (l.foldl (fun s a => s.pollOne a.1 (g s a)) s).pwr.pollDue = s.pwr.pollDue := by
  induction l generalizing s with
  | nil => exact ⟨rfl, rfl⟩
  | cons a l ih => simp only [List.foldl_cons]; exact ⟨(ih _).1.trans (pollOne_pwr ..).1, (ih _).2.trans (pollOne_pwr ..).2⟩
theorem slotImage_sec {u v : State} (h : u.sec = v.sec) (i : Nat) : u.slotImage i = v.slotImage i := by
  unfold State.slotImage; rw [h]
theorem runSecure_fw {u : State} {i : Nat} (hi : u.slotCheck i = 0) : (u.runSecure i).sec.fwRun = true := by
  have : ∃ im, u.slotImage i = some im := by
    cases hh : u.slotImage i with
    | some im => exact ⟨im, rfl⟩
    | none => unfold State.slotCheck imageCheck at hi; rw [hh] at hi; split at hi <;> simp at hi
  obtain ⟨im, him⟩ := this
  unfold State.runSecure; rw [him]; rfl
theorem bootImages_fw {s t : State} (h : s.bootImages = (true, t)) : t.sec.fwRun = true := by
  unfold State.bootImages at h
  dsimp only at h
  generalize s.warnOff 0x9003 0 = v at h
  split at h
  · simp at h
  · generalize hi : (if bits v.mode.straps 1 2 = 1 then 1 else 0) = i at h
    have h01 : i = 0 ∨ i = 1 := by rw [← hi]; split <;> simp
    split at h
    · rename_i hc
      injection h with _ h; subst h
      rcases h01 with rfl | rfl
      · exact runSecure_fw hc
      · rw [if_pos rfl, State.warnOn_sec]; exact runSecure_fw hc
    · split at h
      · rename_i hd
        injection h with _ h; subst h
        rcases h01 with rfl | rfl
        · rw [if_pos rfl, State.warnOn_sec]; exact runSecure_fw hd
        · exact runSecure_fw hd
      · simp at h
theorem bootApps_fw (s : State) : s.bootApps.sec.fwRun = s.sec.fwRun := by
  unfold State.bootApps
  simp only [List.foldl_cons, List.foldl_nil]
  have hw : ∀ (u : State) (i : Nat), (if u.slotCheck i = 0 then u.warnOff 0x9004 i else u.warnOn 0x9004 i [i, u.slotCheck i]).sec = u.sec := by
    intro u i; split <;> simp
  have h2 := (hw (if s.slotCheck 2 = 0 then s.warnOff 0x9004 2 else s.warnOn 0x9004 2 [2, s.slotCheck 2]) 3).trans (hw s 2)
  generalize (if (if s.slotCheck 2 = 0 then s.warnOff 0x9004 2 else s.warnOn 0x9004 2 [2, s.slotCheck 2]).slotCheck 3 = 0 then
        (if s.slotCheck 2 = 0 then s.warnOff 0x9004 2 else s.warnOn 0x9004 2 [2, s.slotCheck 2]).warnOff 0x9004 3
      else
        (if s.slotCheck 2 = 0 then s.warnOff 0x9004 2 else s.warnOn 0x9004 2 [2, s.slotCheck 2]).warnOn 0x9004 3
          [3, (if s.slotCheck 2 = 0 then s.warnOff 0x9004 2 else s.warnOn 0x9004 2 [2, s.slotCheck 2]).slotCheck 3]) = v at *
  split
  · rw [State.warnOff_sec]; unfold State.runApp; split <;> simp [h2]
  · simp [h2]
/-- Leaving a mode writes of the mode part only the due sub-state and the warnings of the law. -/
theorem leaveMode_modes (v : State) : ∃ d w, v.leaveMode.mode = { v.mode with subDue := d, warns := w } := by
  unfold State.leaveMode
  split
  · exact ⟨_, _, State.clearForce_keeps.same .mode rfl⟩
  · exact ⟨_, _, rfl⟩
  · exact ⟨_, _, rfl⟩
theorem State.run_fns {u v : State} (h : u.fns = v.fns) (n : Fn) : u.run n = v.run n := by unfold State.run; rw [h]
theorem setRun_other (s : State) {n m : Fn} (r : Run) (h : n ≠ m) : (s.setRun m r).run n = s.run n := by
  unfold State.setRun State.run
  dsimp only
  split
  · rfl
  · simp only [State.offer_fns]; rw [Fns.get_put_ne _ _ h]
theorem isDown_run {u : State} {n : Fn} : u.isDown n = true ↔ u.run n = .stopped ∨ u.run n = .faulted := by
  unfold State.isDown; simp
theorem fnDown_fns (u : State) (m : Fn) : (u.fnDown m).fns = u.fns := State.fnDown_keeps.same .fns rfl
theorem faultOne_run (u : State) (n : Fn) (h : u.isDown n = false) : (u.faultOne n).run n = .faulted := by
  unfold State.faultOne
  rw [if_neg (by simp [h])]
  exact setRun_run ..
theorem faultOne_stay (u : State) (n m : Fn) (h : u.run n = .faulted) : (u.faultOne m).run n = .faulted := by
  unfold State.faultOne
  split
  · exact h
  · rename_i hd
    have hne : n ≠ m := by intro e; subst e; apply hd; rw [isDown_run]; exact .inr h
    dsimp only
    rw [setRun_other _ _ hne]
    refine (State.run_fns (fnDown_fns _ _) n).trans ?_
    split <;> exact h
theorem faultFn_run (u : State) (n : Fn) (h : u.isDown n = false) : (u.faultFn n).run n = .faulted := by
  unfold State.faultFn
  have : ∀ (l : List Fn) (v : State), v.run n = .faulted → (l.foldl (fun s m => s.faultOne m) v).run n = .faulted := by
    intro l
    induction l with
    | nil => intro v h; exact h
    | cons a l ih => intro v h; exact ih _ (faultOne_stay v n a h)
  exact this _ _ (faultOne_run u n h)
theorem bootImages_mode (s : State) : s.bootImages.2.mode.mode = s.mode.mode := by
  have hr : ∀ (u : State) i, (u.runSecure i).mode.mode = u.mode.mode := fun u i => congrArg _ (State.runSecure_keeps.same .mode rfl)
  have hf : (s.warnOff 0x9003 0).mode.mode = s.mode.mode := rfl
  unfold State.bootImages
  dsimp only
  generalize s.warnOff 0x9003 0 = v at *
  rw [← hf]
  generalize (if bits v.mode.straps 1 2 = 1 then 1 else 0) = i
  repeat' split
  all_goals first | exact (warnOn_mode1 ..).trans (hr ..) | exact warnOn_mode1 .. | exact hr ..
theorem subApply_enter (s : State) : (s.subApply).objs = s.objs ∧ (s.subApply).mode.tickLen = s.mode.tickLen := by
  unfold State.subApply
  split
  · split
    · rename_i h
      rcases setMode_cases (s.mapMode (fun m => { m with subDue := none })) .forming _ with e | e <;> rw [e]
      · exact ⟨rfl, rfl⟩
      · have hm : ((s.mapMode (fun m => { m with subDue := none })).mode.mode == Mode.forming) = true := h
        have ho : (s.mapMode (fun m => { m with subDue := none })).objs = s.objs := rfl
        have ht : (s.mapMode (fun m => { m with subDue := none })).mode.tickLen = s.mode.tickLen := rfl
        generalize s.mapMode (fun m => { m with subDue := none }) = v at *
        unfold State.enterMode
        dsimp only
        split
        · exact ⟨ho, ht⟩
        · rw [State.note_objs, State.note_mode]
          exact ⟨ho, ht⟩
    · exact ⟨rfl, rfl⟩
  · exact ⟨rfl, rfl⟩
theorem subApply_objs (s : State) : s.subApply.objs = s.objs := (subApply_enter s).1
theorem subApply_tickLen (s : State) : s.subApply.mode.tickLen = s.mode.tickLen := (subApply_enter s).2
theorem trip_run (u : State) (code : Nat) (n : Fn) (p : List Nat) (h : u.isDown n = false) : (u.trip code n p).run n = .faulted := by
  unfold State.trip
  dsimp only
  refine faultFn_run _ n ?_
  have e : ∀ v : State, v.blockSpan.fns = v.fns := fun v => State.blockSpan_keeps.same .fns rfl
  unfold State.isDown State.run at *
  rw [e]
  simp only [State.offer_fns]
  exact h
theorem fnDown_mode (u : State) (m : Fn) : (u.fnDown m).mode.blockCol = u.mode.blockCol ∧ (u.mode.mode ≠ .forming → (u.fnDown m).mode.mode ≠ .forming) := by
  have hr : ∀ v : State, ∀ a b, (v.releaseSet a b).mode = v.mode := fun v a b => State.releaseSet_keeps.same .mode rfl
  have h2 : ∀ v : State, ∀ a b, (v.sf2Set a b).mode = v.mode := fun v a b => State.sf2Set_keeps.same .mode rfl
  have hl : ∀ v : State, v.leaveMode.mode.blockCol = v.mode.blockCol := fun v => by
    obtain ⟨d, w, e⟩ := leaveMode_modes v; rw [e]
  have hs : ∀ (v : State) (m : Mode) sub, (v.setMode m sub).mode.blockCol = v.mode.blockCol := by
    intro v m sub
    rcases setMode_cases v m sub with e | e <;> rw [e]
    unfold State.enterMode
    dsimp only
    split
    · rfl
    · rw [State.note_mode]
      dsimp only
      split <;> simp [hl]
  have hc : ∀ v : State, v.cancelPending.mode.blockCol = v.mode.blockCol ∧ v.cancelPending.mode.mode = v.mode.mode := by
    intro v
    unfold State.cancelPending
    split
    · exact ⟨rfl, rfl⟩
    · simp
  have h1 : ∀ (v : State) (a b : Nat), (v.sf1Set a b).mode.blockCol = v.mode.blockCol ∧ (v.mode.mode ≠ .forming → (v.sf1Set a b).mode.mode ≠ .forming) := by
    intro v a b
    have hm : ∀ (w : State) (e : Prop) [Decidable e], w.mode.mode = v.mode.mode → w.mode.blockCol = v.mode.blockCol →
        (if e then w.setMode .blocked 0 else w).mode.blockCol = v.mode.blockCol ∧
        (v.mode.mode ≠ .forming → (if e then w.setMode .blocked 0 else w).mode.mode ≠ .forming) := by
      intro w e _ a b
      split
      · exact ⟨by rw [hs, b], fun _ => setMode_ne _ _ _ (by decide)⟩
      · exact ⟨b, fun h => by rw [a]; exact h⟩
    unfold State.sf1Set
    dsimp only
    by_cases hon : ((a != 0) && !v.safe.sf1) = true
    · rw [if_pos hon]
      refine hm _ _ ?_ ?_
      · rw [(hc _).2]; simp
      · rw [(hc _).1]; simp
    · rw [if_neg hon]
      split
      · simp
      · exact ⟨rfl, fun h => h⟩
  unfold State.fnDown
  cases m <;> dsimp only <;> first | exact ⟨rfl, fun h => h⟩ | skip
  unfold State.safetyDown
  simp only [State.mapSafe_mode, h2, (h1 _ _ _).1, hr]
  refine ⟨trivial, fun h => (h1 _ _ _).2 ?_⟩
  rw [hr]; exact h
theorem faultOne_mode (u : State) (m : Fn) : (u.faultOne m).mode.blockCol = u.mode.blockCol ∧ (u.mode.mode ≠ .forming → (u.faultOne m).mode.mode ≠ .forming) := by
  unfold State.faultOne
  split
  · exact ⟨rfl, fun h => h⟩
  · dsimp only
    rw [State.setRun_mode]
    have := fnDown_mode (if m == Fn.trunk then { u with cell := { u.cell with final := u.sending } } else u) m
    have e : (if m == Fn.trunk then { u with cell := { u.cell with final := u.sending } } else u).mode = u.mode := by split <;> rfl
    rw [e] at this
    exact this
theorem faultFn_mode (u : State) (n : Fn) : (u.faultFn n).mode.blockCol = u.mode.blockCol ∧ (u.mode.mode ≠ .forming → (u.faultFn n).mode.mode ≠ .forming) := by
  unfold State.faultFn
  have : ∀ (l : List Fn) (v : State), (l.foldl (fun s m => s.faultOne m) v).mode.blockCol = v.mode.blockCol ∧
      (v.mode.mode ≠ .forming → (l.foldl (fun s m => s.faultOne m) v).mode.mode ≠ .forming) := by
    intro l
    induction l with
    | nil => intro v; exact ⟨rfl, fun h => h⟩
    | cons a l ih => intro v; exact ⟨(ih _).1.trans (faultOne_mode v a).1, fun h => (ih _).2 ((faultOne_mode v a).2 h)⟩
  have a := this n.users (u.faultOne n)
  have b := faultOne_mode u n
  exact ⟨a.1.trans b.1, fun h => a.2 (b.2 h)⟩
theorem blockSpan_mode (u : State) : u.blockSpan.mode.blockCol = true ∧ u.blockSpan.mode.mode ≠ .forming := by
  have hl : ∀ v : State, v.leaveMode.mode.blockCol = v.mode.blockCol := fun v => by
    obtain ⟨d, w, e⟩ := leaveMode_modes v; rw [e]
  have hc : ∀ v : State, v.cancelPending.mode.blockCol = v.mode.blockCol ∧ v.cancelPending.mode.mode = v.mode.mode := by
    intro v
    unfold State.cancelPending
    split
    · exact ⟨rfl, rfl⟩
    · simp
  have hs : ∀ (v : State) (m : Mode) sub, (v.setMode m sub).mode.blockCol = v.mode.blockCol := by
    intro v m sub
    rcases setMode_cases v m sub with e | e <;> rw [e]
    unfold State.enterMode
    dsimp only
    split
    · rfl
    · rw [State.note_mode]
      dsimp only
      split <;> simp [hl]
  unfold State.blockSpan
  dsimp only
  split
  · refine ⟨?_, ?_⟩
    · rw [hs, (hc _).1]
    · exact setMode_ne _ _ _ (by decide)
  · rename_i h
    refine ⟨by rw [(hc _).1], ?_⟩
    simpa using h
theorem trip_tripped (u : State) (code : Nat) (n : Fn) (p : List Nat) (h : u.isDown n = false) : (u.trip code n p).tripped n := by
  refine ⟨trip_run u code n p h, ?_⟩
  unfold State.trip
  dsimp only
  generalize hv : ({ (u.offer code .trip (regionOf code) p) with mode := _ } : State) = v
  have a := blockSpan_mode v
  have b := faultFn_mode v.blockSpan n
  exact ⟨b.1.trans a.1, b.2 a.2⟩
theorem isRun_up {u : State} {n : Fn} (h : u.isRun n = true) : u.isDown n = false := by
  unfold State.isRun at h; unfold State.isDown; simp only [beq_iff_eq] at h; rw [h]; rfl
theorem heard (s : State) (p : Side) (type item h : Nat) (data : List Nat) (ok : Nat → Bool) (f : SpineHdr → State → State)
    (h1 : s.spineUsable type h data = true) (h2 : s.firstCopy (spineParse h) item = true) (h3 : ok (spineParse h).tick = true) :
    ∃ tx seen, s.spineTake p type item h data false ok f = f (spineParse h) { s with tx := tx, spn := { s.spn with seen := seen } } := by
  have : ∃ tx, s.spineForward p h data = { s with tx := tx } := by
    unfold State.spineForward
    dsimp only
    split
    · exact ⟨s.tx, rfl⟩
    · exact ⟨_, rfl⟩
  obtain ⟨tx, ht⟩ := this
  unfold State.spineTake
  simp only [h1, h2, h3, Bool.and_self, Bool.not_true, Bool.false_eq_true, if_false, if_true]
  rw [ht]
  exact ⟨tx, _, rfl⟩
theorem memberJudge_spn (s : State) : ∃ m, s.memberJudge.spn = { s.spn with member := m } ∧ (s.spn.foreign = true ∨ s.spn.locked = false → m = false) := by
  unfold State.memberJudge
  dsimp only
  refine ⟨s.spnActive && !s.spn.foreign && s.spn.locked && s.spn.budget, ?_, fun h => ?_⟩
  · split
    · rw [State.note_spn]; rfl
    · rfl
  · rcases h with h | h <;> simp [h]
theorem lockLost_spec (s : State) : s.lockLost.spn.locked = false ∧ s.lockLost.spn.master = s.spn.master := by
  unfold State.lockLost
  split
  · obtain ⟨m, h, _⟩ := memberJudge_spn ((s.mapSpn (fun n => { n with locked := false, lockRun := 0 })).warnOn 0x5202 0 [])
    rw [h]
    simp
  · rename_i h; exact ⟨by simpa using h, rfl⟩
theorem lockGot_spec (s : State) : s.lockGot.spn.locked = true := by
  unfold State.lockGot
  split
  · rename_i h; exact h
  · obtain ⟨m, h, _⟩ := memberJudge_spn ((s.mapSpn (fun n => { n with locked := true })).warnOff 0x5202 0)
    rw [h]; simp
theorem lockGot_master (s : State) : s.lockGot.spn.isMaster = s.spn.isMaster ∧ s.lockGot.spn.master = s.spn.master := by
  unfold State.lockGot
  split
  · exact ⟨rfl, rfl⟩
  · obtain ⟨m, h, _⟩ := memberJudge_spn ((s.mapSpn (fun n => { n with locked := true })).warnOff 0x5202 0)
    rw [h]; simp
theorem ringJudge_shape (s : State) : ∃ b p e w m, s.ringJudge.spn = { s.spn with budget := b, pathMax := p, east := { s.spn.east with dm := e }, west := { s.spn.west with dm := w }, member := m } := by
  have key : ∀ u : State, (∃ b p e w, u.spn = { s.spn with budget := b, pathMax := p, east := { s.spn.east with dm := e }, west := { s.spn.west with dm := w } }) →
      ∃ b p e w m, u.memberJudge.spn = { s.spn with budget := b, pathMax := p, east := { s.spn.east with dm := e }, west := { s.spn.west with dm := w }, member := m } := by
    rintro u ⟨b, p, e, w, h⟩
    obtain ⟨m, hm, _⟩ := memberJudge_spn u
    exact ⟨b, p, e, w, m, by rw [hm, h]⟩
  unfold State.ringJudge
  dsimp only
  apply key
  have hw : ∀ (c : Prop) [Decidable c] (u : State), (if c then u.warnOff 0x5212 0 else u.warnOn 0x5212 0 []).spn = u.spn := by
    intro c _ u; split <;> simp
  split
  · refine ⟨s.budgetMet s.ring, min 65535 (pathMax s.ring), ?_⟩
    simp only [State.mapSpn_spn, hw]
    exact ⟨_, _, rfl⟩
  · refine ⟨s.budgetMet s.ring, min 65535 (pathMax s.ring), s.spn.east.dm, s.spn.west.dm, ?_⟩
    simp only [State.mapSpn_spn, hw]
theorem ringJudge_port (s : State) (p : Side) : (s.ringJudge.port p).lock = (s.port p).lock ∧ (s.ringJudge.port p).measured = (s.port p).measured := by
  obtain ⟨b, q, e, w, m, h⟩ := ringJudge_shape s
  unfold State.port
  rw [h]
  cases p <;> exact ⟨rfl, rfl⟩
theorem ringJudge_master (s : State) : s.ringJudge.spn.master = s.spn.master ∧ s.ringJudge.spn.isMaster = s.spn.isMaster ∧ s.ringJudge.spn.locked = s.spn.locked := by
  obtain ⟨b, q, e, w, m, h⟩ := ringJudge_shape s
  rw [h]; exact ⟨rfl, rfl, rfl⟩
theorem becomeMaster_spec (s : State) : s.becomeMaster.spn.isMaster = true ∧ s.becomeMaster.spn.master = some s.device ∧ s.becomeMaster.spn.locked = true := by
  unfold State.becomeMaster
  rw [(ringJudge_master _).1, (ringJudge_master _).2.1, (ringJudge_master _).2.2, (lockGot_master _).1, (lockGot_master _).2, lockGot_spec]
  simp
theorem spineSend_active {v : State} (h : v.spnActive = true) (a b : Nat) (c : List Nat) : v.spineSend a b c = v.emit (.spine 3 (spineBytes a v.device v.station b c)) := by
  unfold State.spineSend; rw [if_pos h]
theorem spineSend_spn (s : State) (a b : Nat) (c : List Nat) : (s.spineSend a b c).spn = s.spn := by
  unfold State.spineSend; split <;> rfl
theorem publishMeas_calls (ms : List MeasItem) (s : State) : (ms.foldl State.publishMeas s).spn.calls = s.spn.calls := by
  induction ms generalizing s with
  | nil => rfl
  | cons m ms ih => rw [List.foldl_cons, ih]; unfold State.publishMeas; simp only [State.mapSpn_spn, spineSend_spn]
theorem setpointPublish_calls (s : State) : s.setpointPublish.spn.calls = s.spn.calls := by
  unfold State.setpointPublish
  split
  · rfl
  · dsimp only
    rw [State.mapSpn_spn]
    dsimp only
    rename_i hn; clear hn
    generalize s.spn.toPub = l
    induction l generalizing s with
    | nil => rfl
    | cons w l ih => rw [List.foldl_cons, ih]; simp only [State.mapSpn_spn, spineSend_spn]
/-- the last tick's work holds the device's own roll call (R256) -/
theorem publishAll_call (s : State) (h : s.spnActive = true) : (s.spn.pub.getD s.publication).call ∈ s.publishAll.spn.calls := by
  unfold State.publishAll
  dsimp only
  rw [setpointPublish_calls, publishMeas_calls]
  have : ∀ (v : State) p, (v.spanPublish p).spn.calls = v.spn.calls := by
    intro v p; unfold State.spanPublish; split
    · simp only [State.mapSpn_spn, spineSend_spn]
    · rfl
  rw [this]
  unfold State.rollCall
  dsimp only
  split
  · unfold State.holdCall; simp
  · rename_i hn; exact absurd h hn
theorem lockLost_foreign (s : State) : s.lockLost.spn.foreign = s.spn.foreign := by
  unfold State.lockLost
  split
  · obtain ⟨m, h, _⟩ := memberJudge_spn ((s.mapSpn (fun n => { n with locked := false, lockRun := 0 })).warnOn 0x5202 0 [])
    rw [h]
    simp
  · rfl
theorem memberJudge_keep (s : State) : s.memberJudge.spn.foreign = s.spn.foreign ∧ s.memberJudge.spn.master = s.spn.master := by
  obtain ⟨m, h, _⟩ := memberJudge_spn s
  rw [h]; exact ⟨rfl, rfl⟩
theorem markerPhase_keep (s : State) (p : Side) (a : Int) : (s.markerPhase p a).spn.foreign = s.spn.foreign ∧ (s.markerPhase p a).spn.master = s.spn.master := by
  unfold State.markerPhase
  cases p
  all_goals
    dsimp only
    split
    · exact ⟨rfl, rfl⟩
    · split
      · rw [lockLost_foreign, (lockLost_spec _).2]; exact ⟨rfl, rfl⟩
      · exact ⟨rfl, rfl⟩
theorem toPhase_law (s : State) (sub ph : Nat) (h : s.mode.mode = .forming) :
    (s.toPhase sub ph).law = { s.law with sub := sub, phase := ph, phT := 0 } ∧ (s.toPhase sub ph).mode.mode = .forming :=
  ⟨rfl, h⟩
theorem inPhase_mode {s : State} {a b : Nat} (h : s.inPhase a b = true) : s.mode.mode = .forming ∧ s.isRun .form = true := by
  unfold State.inPhase State.forming at h
  simp only [Bool.and_eq_true, beq_iff_eq] at h
  exact h.1.1
theorem forming_mode {s : State} (h : s.forming = true) : s.mode.mode = .forming ∧ s.isRun .form = true := by
  unfold State.forming at h
  simp only [Bool.and_eq_true, beq_iff_eq] at h
  exact h
/-- A change of sub-state is due at the end of the tick (R75, R79). -/
theorem toPhase_due (s : State) (sub ph : Nat) (h : s.mode.mode = .forming) (hs : s.mode.sub ≠ sub) :
    (s.toPhase sub ph).mode.subDue = some sub := by
  have e : (s.toPhase sub ph).mode.subDue = if s.mode.mode == .forming && s.mode.sub != sub then some sub else none := rfl
  rw [e, h]; simp [hs]
theorem trk_mapTrk {s : State} (h : s.Shape) (q : Fin 8) (f : Trunk → Trunk) : (s.mapTrk q.val f).trk q.val = f (s.trk q.val) :=
  entry_updAt f _ _ _ (by rw [h.trunks]; exact q.2)
theorem mapTrk_Shape {s : State} (h : s.Shape) (c : Nat) (f) : (s.mapTrk c f).Shape := by
  unfold State.Shape State.shape State.mapTrk at *
  simp only [updAt_length]; exact h
theorem mgmtDone_trk {s : State} (h : s.Shape) (q : Fin 8) (ty : Nat) : (s.mgmtDone q.val ty).Shape ∧
    ∃ r, (s.mgmtDone q.val ty).trk q.val = { s.trk q.val with req := r } ∧ ∀ p a, (s.trk q.val).req = some (ty, p, a) → r = none := by
  unfold State.mgmtDone
  split
  · rename_i t p a hr
    split
    · exact ⟨mapTrk_Shape h _ _, none, trk_mapTrk h q _, fun _ _ _ => rfl⟩
    · rename_i hn
      exact ⟨h, (s.trk q.val).req, rfl, fun p' a' he => by rw [hr] at he; injection he with he; injection he with he; exact absurd he hn⟩
  · rename_i hr
    exact ⟨h, (s.trk q.val).req, rfl, fun p' a' he => by rw [hr] at he; cases he⟩
theorem mapCell_trk (s : State) (c q : Nat) (f) : (s.mapCell c f).trk q = s.trk q := rfl
theorem markFail_spec {s : State} (h : s.Shape) (c : Fin 256) (reason : Nat) (hp : s.populated c.val = true) (hf : (s.cellAt c.val).fail = 0) :
    ((s.markFail c.val reason).cellAt c.val).fail = reason ∧ ((s.markFail c.val reason).cellAt c.val).refresh = none := by
  unfold State.markFail
  rw [if_pos (by simp [hp, hf])]
  dsimp only
  have hw : ∀ (u : State) k j l, (u.warnOn k j l).cellAt c.val = u.cellAt c.val := by
    intro u k j l; unfold State.cellAt; simp
  rw [hw]
  have key : ∀ f : Cell → Cell, (f (s.cellAt c.val)).fail = reason ∧ (f (s.cellAt c.val)).refresh = none →
      ∀ (p : Prop) [Decidable p] (n : Nat), (((if p then { s.mapCell c.val f with cell := { (s.mapCell c.val f).cell with promote := n } }
        else s.mapCell c.val f) : State).cellAt c.val).fail = reason ∧ (((if p then { s.mapCell c.val f with
        cell := { (s.mapCell c.val f).cell with promote := n } } else s.mapCell c.val f) : State).cellAt c.val).refresh = none := by
    intro f hf p _ n
    rw [← cellAt_mapCell h c f] at hf
    split <;> exact hf
  exact key _ ⟨rfl, rfl⟩ _ _
theorem abandon_trk (s : State) (q p : Nat) : (s.abandon q).trk p = s.trk p := by
  unfold State.abandon
  have hf : ∀ (l : List Nat) (u : State) (f : Cell → Cell), (l.foldl (fun s c => s.mapCell c f) u).trk p = u.trk p := by
    intro l
    induction l with
    | nil => intro u f; rfl
    | cons a l ih => intro u f; exact ih _ f
  exact hf _ _ _
theorem bringFail_trk {s : State} (h : s.Shape) (q : Fin 8) (code cause : Nat) (p : List Nat) : ((s.bringFail q.val code cause p).trk q.val).st = 6 := by
  unfold State.bringFail
  dsimp only
  have hw : ∀ (u : State) c k l, (u.warnKeep c k l).trk q.val = u.trk q.val := by
    intro u c k l; unfold State.trk; simp
  have hh : ∀ (u : State) c k, (u.warnHold c k).trk q.val = u.trk q.val := by
    intro u c k; unfold State.trk; rw [State.warnHold_keeps.same .cell rfl]
  split
  · rw [hh, abandon_trk, trk_mapTrk h q]
  · rw [hw, abandon_trk, trk_mapTrk h q]
/-- The members of a trunk that no fault of a function changes. -/
def TrunkStays (a b : Trunk) : Prop := a.everUp = b.everUp ∧ a.upTick = b.upTick ∧ a.downs = b.downs
theorem TrunkStays.trans {a b c : Trunk} (h : TrunkStays a b) (k : TrunkStays b c) : TrunkStays a c := ⟨h.1.trans k.1, h.2.1.trans k.2.1, h.2.2.trans k.2.2⟩
theorem trk_cell {u v : State} (h : u.cell = v.cell) (q : Nat) : u.trk q = v.trk q := by unfold State.trk; rw [h]
theorem fnDown_trk (u : State) (n : Fn) (q : Nat) : TrunkStays ((u.fnDown n).trk q) (u.trk q) := by
  cases n
  case trunk =>
    unfold State.fnDown State.trk
    dsimp only
    generalize u.cell.trunks = l
    induction l generalizing q with
    | nil => exact ⟨rfl, rfl, rfl⟩
    | cons a l ih => cases q with
      | zero => exact ⟨rfl, rfl, rfl⟩
      | succ q => exact ih q
  case safety =>
    have hc : u.safetyDown.trk q = u.trk q := trk_cell (State.safetyDown_keeps.same .cell rfl) q
    exact hc ▸ ⟨rfl, rfl, rfl⟩
  all_goals exact ⟨rfl, rfl, rfl⟩
theorem faultOne_trk (u : State) (n : Fn) (q : Nat) : TrunkStays ((u.faultOne n).trk q) (u.trk q) := by
  unfold State.faultOne
  split
  · exact ⟨rfl, rfl, rfl⟩
  · dsimp only
    rw [trk_cell (State.setRun_cell ..)]
    refine (fnDown_trk ..).trans ?_
    split <;> exact ⟨rfl, rfl, rfl⟩
theorem trip_trk (u : State) (code : Nat) (n : Fn) (p : List Nat) (q : Nat) : TrunkStays ((u.trip code n p).trk q) (u.trk q) := by
  unfold State.trip State.faultFn
  dsimp only
  have : ∀ (l : List Fn) (v : State), TrunkStays ((l.foldl (fun s m => s.faultOne m) v).trk q) (v.trk q) := by
    intro l
    induction l with
    | nil => intro v; exact ⟨rfl, rfl, rfl⟩
    | cons a l ih => intro v; exact (ih _).trans (faultOne_trk v a q)
  refine (this _ _).trans ((faultOne_trk _ _ q).trans ?_)
  rw [trk_cell (State.blockSpan_keeps.same .cell rfl)]
  rw [show ∀ (m : ModeState) (v : State), State.trk ({ v with mode := m } : State) q = v.trk q from fun _ _ => rfl]
  rw [trk_cell (State.offer_cell ..)]
  exact ⟨rfl, rfl, rfl⟩
theorem quireLoss_trk (u : State) (q : Nat) : TrunkStays (u.quireLoss.trk q) (u.trk q) ∧ (u.mode.mode ≠ .forming → u.quireLoss.trk q = u.trk q) := by
  unfold State.quireLoss
  split
  · rw [trk_cell (State.warnOff_cell ..)]; exact ⟨⟨rfl, rfl, rfl⟩, fun _ => rfl⟩
  · split
    · exact ⟨⟨rfl, rfl, rfl⟩, fun _ => rfl⟩
    · split
      · rename_i h
        refine ⟨trip_trk .., fun hm => absurd ?_ hm⟩
        simp only [Bool.and_eq_true, beq_iff_eq] at h
        exact h.1
      · rw [trk_cell (State.warnOn_cell ..)]; exact ⟨⟨rfl, rfl, rfl⟩, fun _ => rfl⟩
theorem leaveUp_trk {s : State} (h : s.Shape) (q : Fin 8) (cause : Nat) (h5 : (s.trk q.val).st = 5) :
    ((s.leaveUp q.val cause).trk q.val).st = 6 ∧ ((s.leaveUp q.val cause).trk q.val).downs = incSat 32 (s.trk q.val).downs ∧
    ((s.leaveUp q.val cause).trk q.val).lockDn = (s.trk q.val).lockDn ∧ ((s.leaveUp q.val cause).trk q.val).lockUp = (s.trk q.val).lockUp ∧
    (s.leaveUp q.val cause).mode.mode = s.mode.mode := by
  unfold State.leaveUp
  rw [if_pos h5]
  have hm : ∀ (u : State) a b c, (u.warnKeep a b c).mode.mode = u.mode.mode := warnKeep_mode
  have ha : ∀ (u : State) a, (u.abandon a).mode = u.mode := fun u a => State.abandon_keeps.same .mode rfl
  dsimp only
  rw [trk_cell (State.warnKeep_cell ..), abandon_trk, trk_mapTrk h, hm, ha]
  exact ⟨rfl, rfl, rfl, rfl, rfl⟩
theorem abandon_trunks (s : State) (q : Nat) : (s.abandon q).cell.trunks = s.cell.trunks := by
  unfold State.abandon
  generalize quireCells q = l
  induction l generalizing s with
  | nil => rfl
  | cons a l ih => exact ih _
theorem trk_mapTrk_of {s : State} (h : s.cell.trunks.length = 8) (q : Fin 8) (f : Trunk → Trunk) : (s.mapTrk q.val f).trk q.val = f (s.trk q.val) :=
  entry_updAt f _ _ _ (by rw [h]; exact q.isLt)
theorem mapAin_Shape {s : State} (h : s.Shape) (c : Nat) (f) : (s.mapAin c f).Shape := by
  unfold State.Shape State.shape State.mapAin at *
  simpa [updAt_length] using h
theorem ain_sense {u v : State} (h : u.sense = v.sense) (c : Nat) : u.ain c = v.ain c := by unfold State.ain; rw [h]
theorem Shape_ins {s : State} (h : s.Shape) : s.sense.ins.length = 16 := h.ins
theorem ain_mapAin_of {s : State} (h : s.sense.ins.length = 16) {c : Nat} (hc : c < 16) (f : AIn → AIn) : (s.mapAin c f).ain c = f (s.ain c) :=
  entry_updAt f _ _ _ (by rw [h]; exact hc)
theorem mapAin_len (s : State) (c : Nat) (f) : (s.mapAin c f).sense.ins.length = s.sense.ins.length := updAt_length ..
theorem blockSpan_cmp (u : State) : u.blockSpan.mode.blockCmp = u.mode.blockCmp := by
  unfold State.blockSpan
  dsimp only
  have hs : ∀ (v : State) (m : Mode) sub, (v.setMode m sub).mode.blockCmp = v.mode.blockCmp := by
    have hle : ∀ v : State, v.leaveMode.mode.blockCmp = v.mode.blockCmp := fun v => by
      obtain ⟨d, w, e⟩ := leaveMode_modes v; rw [e]
    intro v m sub
    rcases setMode_cases v m sub with e | e <;> rw [e]
    unfold State.enterMode
    dsimp only
    split
    · rfl
    · rw [State.note_mode]
      dsimp only
      split <;> simp [hle]
  have hk : ∀ v : State, v.cancelPending.mode.blockCmp = v.mode.blockCmp := by
    intro v
    unfold State.cancelPending
    split
    · rfl
    · simp
  split
  · rw [hs, hk]
  · rw [hk]
theorem cross_ain {s : State} (h : s.sense.ins.length = 16) {c : Nat} (hc : c < 16) (thr : Nat) :
    (s.cross c thr).sense.ins.length = 16 ∧ (s.cross c thr).ain c = { s.ain c with
      lCmp := true, cmpOn := (s.ain c).cmpOn || s.CMP_ACTION c == 2 } ∧
    (s.CMP_ACTION c = 2 → (s.cross c thr).mode.blockCmp = true) := by
  have hm := ain_mapAin_of h hc
  have hl := mapAin_len s c
  have ho : ∀ f, (s.mapAin c f).CMP_ACTION c = s.CMP_ACTION c := fun f => rfl
  unfold State.cross
  dsimp only
  rw [ho]
  split
  · rename_i h2
    have e : ∀ (u : State) a b c d, ((u.offer a b c d).blockSpan).sense = u.sense := fun u a b c d => by
      rw [State.blockSpan_keeps.same .sense rfl, State.offer_sense]
    rw [ain_sense (e ..), e]
    refine ⟨(hl (fun a => { a with lCmp := true, cmpOn := a.cmpOn || s.CMP_ACTION c == 2 })).trans h,
      hm (fun a => { a with lCmp := true, cmpOn := a.cmpOn || s.CMP_ACTION c == 2 }), fun _ => ?_⟩
    rw [blockSpan_cmp, State.offer_mode]
  · rename_i h2
    rw [ain_sense (State.warnKeep_sense ..), State.warnKeep_sense, hm]
    exact ⟨by rw [hl, h], rfl, fun h => absurd h h2⟩
theorem blockSpan_objs (s : State) : s.blockSpan.objs = s.objs := by
  unfold State.blockSpan
  dsimp only
  have hc : ∀ v : State, v.cancelPending.objs = v.objs := fun v => State.cancelPending_objs v
  split
  · rename_i hf
    rw [beq_iff_eq] at hf
    refine Eq.trans ?_ (hc ({ s with mode := { s.mode with blockCol := true } }))
    generalize State.cancelPending ({ s with mode := { s.mode with blockCol := true } }) = v at *
    rcases setMode_cases v .blocked 0 with e | e <;> rw [e]
    unfold State.enterMode
    dsimp only
    split
    · rfl
    · rw [State.note_objs]
      dsimp only
      split
      · rfl
      · unfold State.leaveMode
        rw [hf]
  · exact hc _

theorem push_ain {s : State} (h : s.sense.ins.length = 16) {c : Nat} (hc : c < 16) (x : Int) : (s.push c x).sense.ins.length = 16 ∧
    (s.push c x).ain c = { s.ain c with hist := (x :: (s.ain c).hist).take (max 4 (fillOf (s.RESPONSE c))), fill := min (fillOf (s.RESPONSE c)) ((s.ain c).fill + 1), fed := (s.ain c).fed + 1 } :=
  ⟨by rw [← h]; exact mapAin_len .., ain_mapAin_of h hc _⟩
theorem cross_objs (u : State) (c t : Nat) : (u.cross c t).objs = u.objs := by
  unfold State.cross
  dsimp only
  split
  · rw [blockSpan_objs, State.offer_objs]; rfl
  · exact State.warnKeep_objs ..
theorem compare_objs (s : State) (c : Nat) : (s.compare c).objs = s.objs := by
  have h1 : (s.cmpRuns c).objs = s.objs := by
    unfold State.cmpRuns
    dsimp only
    split <;> rfl
  unfold State.compare
  dsimp only
  generalize s.cmpRuns c = u at *
  split
  · rw [cross_objs]; exact h1
  · split
    · rw [cross_objs]; exact h1
    · exact h1
theorem give_objs (s : State) (c : Nat) (x : Int) : (s.give c x).objs = s.objs := by
  have h : ((s.push c x).compare c).objs = s.objs := compare_objs ..
  unfold State.give State.countWindow
  split
  · exact h
  · exact h
theorem cmpRuns_ain {s : State} (h : s.sense.ins.length = 16) {c : Nat} (hc : c < 16) : (s.cmpRuns c).sense.ins.length = 16 ∧
    (s.cmpRuns c).objs = s.objs ∧ ∃ w, (s.cmpRuns c).ain c = { s.ain c with
      within := w
      hiRun := if (s.beyond c (s.ain c)).1 && s.CMP_ACTION c != 0 then (s.ain c).hiRun + 1 else 0
      hiX := ((s.beyond c (s.ain c)).1 && s.CMP_ACTION c != 0) && (s.ain c).hiX
      loRun := if (s.beyond c (s.ain c)).2 && s.CMP_ACTION c != 0 then (s.ain c).loRun + 1 else 0
      loX := ((s.beyond c (s.ain c)).2 && s.CMP_ACTION c != 0) && (s.ain c).loX } := by
  have hm := ain_mapAin_of h hc
  have hl := mapAin_len s c
  unfold State.cmpRuns
  dsimp only
  split
  · rw [ain_sense (State.warnOff_sense ..), State.warnOff_sense, hm, hl]
    exact ⟨h, rfl, _, rfl⟩
  · rw [hm, hl]
    exact ⟨h, rfl, _, rfl⟩
/-- What the comparator of one input does at an edge (R295, R297). -/
theorem compare_ain {s : State} (h : s.sense.ins.length = 16) {c : Nat} (hc : c < 16) : (s.compare c).sense.ins.length = 16 ∧
    ∃ hi lo hx lx l o w, (s.compare c).ain c = { s.ain c with hiRun := hi, loRun := lo, hiX := hx, loX := lx, lCmp := l, cmpOn := o, within := w } ∧
    (s.CMP_ACTION c ≠ 0 → (s.beyond c (s.ain c)).1 = true → s.CMP_CONFIRM c ≤ (s.ain c).hiRun + 1 → (s.ain c).hiX = false →
      l = true ∧ (s.CMP_ACTION c = 2 → o = true ∧ (s.compare c).mode.blockCmp = true)) := by
  obtain ⟨k1, ko, w, k2⟩ := cmpRuns_ain h hc
  have e : ∀ u : State, u.objs = s.objs → u.CMP_CONFIRM c = s.CMP_CONFIRM c ∧ u.CMP_ACTION c = s.CMP_ACTION c := by
    intro u hu; unfold State.CMP_CONFIRM State.CMP_ACTION State.obj; rw [hu]; exact ⟨rfl, rfl⟩
  unfold State.compare
  dsimp only
  rw [(e _ ko).1]
  generalize s.cmpRuns c = u at *
  have hx : ∀ (f : AIn → AIn) t, ((u.mapAin c f).cross c t).sense.ins.length = 16 ∧
      ((u.mapAin c f).cross c t).ain c = { f (u.ain c) with lCmp := true, cmpOn := (f (u.ain c)).cmpOn || s.CMP_ACTION c == 2 } ∧
      (s.CMP_ACTION c = 2 → ((u.mapAin c f).cross c t).mode.blockCmp = true) := by
    intro f t
    have z := cross_ain (s := u.mapAin c f) ((mapAin_len ..).trans k1) hc t
    rw [ain_mapAin_of k1 hc, (e (u.mapAin c f) ko).2] at z
    exact z
  by_cases q1 : ((u.ain c).hiRun != 0 && decide (s.CMP_CONFIRM c ≤ (u.ain c).hiRun) && !(u.ain c).hiX) = true
  · rw [if_pos q1]
    obtain ⟨z1, z2, z3⟩ := hx (fun a => { a with hiX := true }) 1
    refine ⟨z1, _, _, _, _, _, _, _, by rw [z2, k2], fun _ _ _ _ => ⟨rfl, fun a => ⟨by rw [a]; exact Bool.or_true _, z3 a⟩⟩⟩
  · rw [if_neg q1]
    have no : ∀ P : Prop, s.CMP_ACTION c ≠ 0 → (s.beyond c (s.ain c)).1 = true → s.CMP_CONFIRM c ≤ (s.ain c).hiRun + 1 → (s.ain c).hiX = false → P := by
      intro P a b d g
      exfalso
      apply q1
      rw [k2]
      simp [a, b, d, g]
    by_cases q2 : ((u.ain c).loRun != 0 && decide (s.CMP_CONFIRM c ≤ (u.ain c).loRun) && !(u.ain c).loX) = true
    · rw [if_pos q2]
      obtain ⟨z1, z2, z3⟩ := hx (fun a => { a with loX := true }) 2
      exact ⟨z1, _, _, _, _, _, _, _, by rw [z2, k2], fun a b d g => no _ a b d g⟩
    · rw [if_neg q2]
      exact ⟨k1, _, _, _, _, _, _, _, by rw [k2], fun a b d g => no _ a b d g⟩
theorem countWindow_ain {s : State} (h : s.sense.ins.length = 16) {c : Nat} (hc : c < 16) (x : Int) : (s.countWindow c x).sense.ins.length = 16 ∧
    (s.countWindow c x).mode = s.mode ∧ ∃ n hi lo, (s.countWindow c x).ain c = { s.ain c with winN := n, winHi := hi, winLo := lo } ∧
    (saturated x = false → n = (s.ain c).winN + 1) := by
  unfold State.countWindow
  split
  · rename_i hx; exact ⟨h, rfl, _, _, _, rfl, fun z => by rw [z] at hx; contradiction⟩
  · rw [ain_mapAin_of h hc, mapAin_len]; exact ⟨h, rfl, _, _, _, rfl, fun _ => rfl⟩
theorem countSat_ain {s : State} (h : s.sense.ins.length = 16) {c : Nat} (hc : c < 16) (x : Int) : (s.countSat c x).sense.ins.length = 16 ∧
    (s.countSat c x).mode.blockCmp = s.mode.blockCmp ∧
    ∃ b n w g, (s.countSat c x).ain c = { s.ain c with satRun := n, satTick := w, lostSat := b, lLost := g } ∧
    (saturated x = true → n = (s.ain c).satRun + 1 ∧ (s.SAT_COUNT c ≠ 0 → s.SAT_COUNT c ≤ n → b = true)) ∧
    (saturated x = false → n = 0 ∧ b = (s.ain c).lostSat) := by
  have hm := ain_mapAin_of h hc
  have hl := mapAin_len s c
  have hw : ∀ (u : State) a b p, (u.warnOn a b p).mode.blockCmp = u.mode.blockCmp := by
    intro u a b p; obtain ⟨w, e⟩ := warnOn_modes u a b p; rw [e]
  unfold State.countSat
  split
  · rename_i hx
    dsimp only
    have e1 := hm (fun a => { a with satRun := a.satRun + 1, satTick := true })
    have l1 := hl (fun a => { a with satRun := a.satRun + 1, satTick := true })
    have o1 : (s.mapAin c (fun a => { a with satRun := a.satRun + 1, satTick := true })).mode = s.mode := rfl
    have o2 : (s.mapAin c (fun a => { a with satRun := a.satRun + 1, satTick := true })).SAT_COUNT c = s.SAT_COUNT c := rfl
    generalize s.mapAin c (fun a => { a with satRun := a.satRun + 1, satTick := true }) = u at *
    have hu : u.sense.ins.length = 16 := by rw [l1, h]
    split
    · rw [ain_sense (State.warnOn_sense ..), State.warnOn_sense, hw, ain_mapAin_of hu hc, mapAin_len, e1]
      exact ⟨hu, by rw [← o1]; rfl, _, _, _, _, rfl, fun _ => ⟨rfl, fun _ _ => rfl⟩, fun a => by rw [a] at hx; contradiction⟩
    · rename_i hn
      refine ⟨hu, by rw [o1], _, _, _, _, e1, fun _ => ⟨rfl, fun a b => ?_⟩, fun a => by rw [a] at hx; contradiction⟩
      rw [o2, e1] at hn
      simp only [Bool.and_eq_true, bne_iff_ne, decide_eq_true_eq, Bool.not_eq_true', not_and] at hn
      have := hn ⟨a, b⟩
      simpa using this
  · rename_i hx
    rw [hm]
    exact ⟨by rw [hl, h], rfl, _, _, _, _, rfl, fun a => absurd a hx, fun _ => ⟨rfl, rfl⟩⟩
/-- What one sample changes of an input. -/
structure Fed (u s : State) (c : Nat) (x : Int) : Prop where
  len : u.sense.ins.length = 16
  inj : (u.ain c).inj = (s.ain c).inj
  arr : (u.ain c).arriving = (s.ain c).arriving
  fed : (u.ain c).fed = (s.ain c).fed + 1
  fill : (u.ain c).fill = min (fillOf (s.RESPONSE c)) ((s.ain c).fill + 1)
  hist : (u.ain c).hist = (x :: (s.ain c).hist).take (max 4 (fillOf (s.RESPONSE c)))
theorem give_ain {s : State} (h : s.sense.ins.length = 16) {c : Nat} (hc : c < 16) (x : Int) : Fed (s.give c x) s c x ∧
    ((s.give c x).ain c).satRun = (s.ain c).satRun ∧
    (s.CMP_ACTION c ≠ 0 → (s.beyond c ((s.push c x).ain c)).1 = true → s.CMP_CONFIRM c ≤ (s.ain c).hiRun + 1 → (s.ain c).hiX = false →
      ((s.give c x).ain c).lCmp = true ∧ (s.CMP_ACTION c = 2 → ((s.give c x).ain c).cmpOn = true ∧ (s.give c x).mode.blockCmp = true)) := by
  obtain ⟨a1, a2⟩ := push_ain h hc x
  have hp : (s.push c x).CMP_ACTION c = s.CMP_ACTION c ∧ (s.push c x).CMP_CONFIRM c = s.CMP_CONFIRM c := ⟨rfl, rfl⟩
  have hb : (s.push c x).beyond c ((s.push c x).ain c) = s.beyond c ((s.push c x).ain c) := rfl
  unfold State.give
  generalize s.push c x = u at *
  obtain ⟨b1, hi, lo, hx, lx, l, o, w, b2, b3⟩ := compare_ain a1 hc
  rw [hp.1, hp.2, hb, a2] at b3
  rw [a2] at b2 ⊢
  generalize u.compare c = v at *
  obtain ⟨c1, c2, n, ch, cl, c3, _⟩ := countWindow_ain b1 hc x
  rw [c2, c3, b2]
  refine ⟨⟨c1, ?_, ?_, ?_, ?_, ?_⟩, rfl, b3⟩ <;> rw [c3, b2]
/-- One edge of input c with its scheduled sample (R302). -/
theorem feedOne_ain {s : State} (h : s.sense.ins.length = 16) {c : Nat} (hc : c < 16) (x : Int) : Fed (s.feedOne c x) s c x ∧
    (saturated x = true → ((s.feedOne c x).ain c).satRun = (s.ain c).satRun + 1 ∧
      (s.SAT_COUNT c ≠ 0 → s.SAT_COUNT c ≤ (s.ain c).satRun + 1 → ((s.feedOne c x).ain c).lostSat = true)) ∧
    (s.CMP_ACTION c ≠ 0 → (s.beyond c ((s.push c x).ain c)).1 = true → s.CMP_CONFIRM c ≤ (s.ain c).hiRun + 1 → (s.ain c).hiX = false →
      ((s.feedOne c x).ain c).lCmp = true ∧ (s.CMP_ACTION c = 2 → ((s.feedOne c x).ain c).cmpOn = true ∧ (s.feedOne c x).mode.blockCmp = true)) := by
  obtain ⟨a, a1, a2⟩ := give_ain h hc x
  have o : (s.give c x).SAT_COUNT c = s.SAT_COUNT c := by
    unfold State.SAT_COUNT State.obj
    rw [give_objs]
  unfold State.feedOne
  generalize s.give c x = u at *
  obtain ⟨b1, b2, b, n, w, g, b3, b4, _⟩ := countSat_ain a.len hc x
  rw [b2, b3]
  refine ⟨⟨b1, ?_, ?_, ?_, ?_, ?_⟩, fun hx => ?_, fun p q r t => a2 p q r t⟩
  · rw [b3]; exact a.inj
  · rw [b3]; exact a.arr
  · rw [b3]; exact a.fed
  · rw [b3]; exact a.fill
  · rw [b3]; exact a.hist
  · obtain ⟨b5, b6⟩ := b4 hx
    rw [a1] at b5
    rw [o, b5] at b6
    exact ⟨b5, b6⟩
theorem countEdges_ain (s : State) (c k d : Nat) (b : Bool) : (s.countEdges c k b).ain d = s.ain d ∧ (s.countEdges c k b).mode = s.mode ∧
    (s.countEdges c k b).sense.ins = s.sense.ins := by
  unfold State.countEdges
  split
  · exact ⟨rfl, rfl, rfl⟩
  · exact ⟨rfl, rfl, rfl⟩
/-- One edge of an input on which no request is registered. -/
theorem feed_edge {s : State} (h : s.sense.ins.length = 16) {c : Nat} (hc : c < 16) (hv : s.converts c = true) (hf : (s.ain c).fed < s.edges)
    (ha : (s.ain c).arriving = []) (n : Nat) (x : Int) : ∃ s' : State, s'.ain c = s.ain c ∧ s'.sense.ins.length = 16 ∧ s'.objs = s.objs ∧
      s.feed n c [x] = (match (s.ain c).inj with
        | none => (s'.feedOne c (clampI (-32768) 32767 x)).countEdges c 1 true
        | some r =>
          if r.taken then
            if r.leaves ≤ ((s.ain c).fed : Int) + 1 then ((s'.feedOne c (clampI (-32768) 32767 x)).countEdges c 1 true).injLeave c r
            else (s'.feedOne c (clampI (-32768) 32767 x)).countEdges c 1 true
          else if r.due ≤ ((s.ain c).fed : Int) + 1 then (s'.injTake n c ((s.ain c).fed + 1) r (clampI (-32768) 32767 x)).countEdges c 1 false
          else (s'.feedOne c (clampI (-32768) 32767 x)).countEdges c 1 true) := by
  have e := ain_mapAin_of h hc (fun a => { a with arriving := [] })
  have e2 : (s.mapAin c (fun a => { a with arriving := [] })).ain c = s.ain c := by
    rw [e]
    generalize s.ain c = a at *
    cases a
    dsimp only at ha
    rw [ha]
  refine ⟨s.mapAin c (fun a => { a with arriving := [] }), e2, (mapAin_len ..).trans h, rfl, ?_⟩
  unfold State.feed
  rw [if_pos hv]
  obtain ⟨m, hm⟩ : ∃ m, s.edges - (s.ain c).fed = m + 1 := ⟨s.edges - (s.ain c).fed - 1, by omega⟩
  rw [hm, List.take_succ_cons, List.take_nil]
  show s.feedEdge n c (clampI (-32768) 32767 x) = _
  unfold State.feedEdge
  have hd : s.injDue c (((s.ain c).fed : Int) + 1) = s.mapAin c (fun a => { a with arriving := [] }) := by
    unfold State.injDue
    rw [ha]
    rfl
  dsimp only
  rw [hd]
  generalize s.mapAin c (fun a => { a with arriving := [] }) = u at *
  rw [e2] <;> cases (s.ain c).inj <;> rfl
theorem conv_mapConv {v : State} {k : Nat} (hv : v.sense.convs.length = 17) (hk : k < 17) (f : Conv → Conv) : (v.mapConv k f).conv k = f (v.conv k) :=
  entry_updAt f _ _ _ (by rw [hv]; exact hk)
theorem conv_mapConv_ne (v : State) {k j : Nat} (h : j ≠ k) (f : Conv → Conv) : (v.mapConv k f).conv j = v.conv j := entry_updAt_ne f _ _ _ _ h
theorem mapConv_len (v : State) (k : Nat) (f : Conv → Conv) : (v.mapConv k f).sense.convs.length = v.sense.convs.length := updAt_length ..
theorem conv_sense {v w : State} (h : v.sense = w.sense) (k : Nat) : v.conv k = w.conv k := by unfold State.conv; rw [h]
theorem mapConv_ain (v : State) (k c : Nat) (f : Conv → Conv) : (v.mapConv k f).ain c = v.ain c := rfl
theorem mapConv_cal (v : State) (k : Nat) (f : Conv → Conv) : (v.mapConv k f).sense.cal = v.sense.cal ∧ (v.mapConv k f).sense.phase = v.sense.phase := ⟨rfl, rfl⟩
theorem calibrate_eq (v : State) (k : Nat) : ∃ g : SenseState → SenseState, v.calibrate k = (v.mapConv k (fun v => { v with st := 2, input := none })).mapSense g ∧
    (∀ x, (g x).convs = x.convs ∧ (g x).ins = x.ins ∧ (g x).cal = some k ∧ (g x).phase = 2) :=
  ⟨fun x => { x with phase := 2, cal := some k, at_ := v.now, refuse := false }, rfl, fun _ => ⟨rfl, rfl, rfl, rfl⟩⟩
theorem calibrate_spec {v : State} {k : Nat} (hv : v.sense.convs.length = 17) (hk : k < 17) : ((v.calibrate k).conv k).st = 2 ∧
    (v.calibrate k).sense.cal = some k ∧ (v.calibrate k).sense.phase = 2 ∧ (∀ j, j ≠ k → (v.calibrate k).conv j = v.conv j) ∧ ∀ c, (v.calibrate k).ain c = v.ain c := by
  obtain ⟨g, hg, h⟩ := calibrate_eq v k
  have h1 : ∀ j, (v.calibrate k).conv j = (v.mapConv k (fun v => { v with st := 2, input := none })).conv j := by
    intro j; rw [hg]; unfold State.conv State.mapSense; dsimp only; rw [(h _).1]
  have h2 : ∀ c, (v.calibrate k).ain c = v.ain c := by
    intro c
    rw [← mapConv_ain v k c (fun v => { v with st := 2, input := none }), hg]; unfold State.ain State.mapSense; dsimp only; rw [(h _).2.1]
  refine ⟨by rw [h1, conv_mapConv hv hk], by rw [hg]; exact (h _).2.2.1, by rw [hg]; exact (h _).2.2.2, fun j hj => by rw [h1, conv_mapConv_ne v hj], h2⟩
theorem stopRotation_spec {v : State} {k : Nat} (hv : v.sense.convs.length = 17) (hk : k < 17) : ((v.stopRotation k).conv k).st = 4 ∧
    (v.stopRotation k).sense.phase = 3 ∧ (v.stopRotation k).sense.cal = none := by
  have e1 := conv_mapConv hv hk (fun x : Conv => { x with st := 4, input := if x.st = 0 then x.input else none })
  unfold State.stopRotation State.rotationOff State.retire
  dsimp only
  generalize v.mapConv k (fun x : Conv => { x with st := 4, input := if x.st = 0 then x.input else none }) = u at *
  rw [State.warnOn_sense, conv_sense (State.warnOn_sense ..)]
  refine ⟨?_, rfl, rfl⟩
  generalize hw : State.warnOn _ _ _ _ = w
  have hs : w.conv k = u.conv k := by rw [← hw, conv_sense (State.warnOn_sense ..)]; rfl
  show (w.conv k).st = 4
  rw [hs, e1]
/-- Two clock states that differ in their PLLs at most. -/
def ClkSame (a b : ClkState) : Prop := a.ref = b.ref ∧ a.lostAt = b.lostAt ∧ a.losses = b.losses ∧ a.ratio = b.ratio ∧ a.ratioAt = b.ratioAt
theorem putPll_clk (u : State) (i : Nat) (p : Pll) : ClkSame (u.putPll i p).clk u.clk ∧ (i < 5 → (u.putPll i p).clk.pll i = p) ∧
    ∀ j, j < 5 → i < 5 → j ≠ i → (u.putPll i p).clk.pll j = u.clk.pll j := by
  refine ⟨?_, ?_, ?_⟩
  · unfold State.putPll ClkState.put; split <;> exact ⟨rfl, rfl, rfl, rfl, rfl⟩
  · intro h
    match i, h with
    | 0, _ => rfl
    | 1, _ => rfl
    | 2, _ => rfl
    | 3, _ => rfl
    | 4, _ => rfl
  · intro j hj hi hn
    match i, hi, j, hj, hn with
    | 0, _, 0, _, hn => exact absurd rfl hn
    | 0, _, 1, _, _ => rfl
    | 0, _, 2, _, _ => rfl
    | 0, _, 3, _, _ => rfl
    | 0, _, 4, _, _ => rfl
    | 1, _, 1, _, hn => exact absurd rfl hn
    | 1, _, 0, _, _ => rfl
    | 1, _, 2, _, _ => rfl
    | 1, _, 3, _, _ => rfl
    | 1, _, 4, _, _ => rfl
    | 2, _, 2, _, hn => exact absurd rfl hn
    | 2, _, 0, _, _ => rfl
    | 2, _, 1, _, _ => rfl
    | 2, _, 3, _, _ => rfl
    | 2, _, 4, _, _ => rfl
    | 3, _, 3, _, hn => exact absurd rfl hn
    | 3, _, 0, _, _ => rfl
    | 3, _, 1, _, _ => rfl
    | 3, _, 2, _, _ => rfl
    | 3, _, 4, _, _ => rfl
    | 4, _, 4, _, hn => exact absurd rfl hn
    | 4, _, 0, _, _ => rfl
    | 4, _, 1, _, _ => rfl
    | 4, _, 2, _, _ => rfl
    | 4, _, 3, _, _ => rfl
theorem ClkSame.rfl' (a : ClkState) : ClkSame a a := ⟨rfl, rfl, rfl, rfl, rfl⟩
theorem ClkSame.trans {a b c : ClkState} (h : ClkSame a b) (k : ClkSame b c) : ClkSame a c :=
  ⟨h.1.trans k.1, h.2.1.trans k.2.1, h.2.2.1.trans k.2.2.1, h.2.2.2.1.trans k.2.2.2.1, h.2.2.2.2.trans k.2.2.2.2⟩
/-- A PLL that coasts. -/
def Pll.coasted (p : Pll) : Pll :=
  if p.st == .locked || p.st == .acquire || p.st == .relockF || p.st == .relockP then { p with st := .coast, frozen := true, coasts := incSat 32 p.coasts } else p
def Pll.relocked (p : Pll) (now : Nat) : Pll :=
  if p.st == .coast then (if p.out then { p with st := .relockF, at_ := now } else { p with st := .acquire, at_ := now }) else p
def Pll.drifted (p : Pll) : Pll := if p.st == .coast then { p with drift := true, pending := p.pending || !p.backup } else p
theorem coast_clk (u : State) (i : Nat) (h : i < 5) : ClkSame (u.coast i).clk u.clk ∧ (u.coast i).clk.pll i = (u.clk.pll i).coasted ∧
    (∀ j, j < 5 → j ≠ i → (u.coast i).clk.pll j = u.clk.pll j) ∧ (u.coast i).now = u.now := by
  unfold State.coast Pll.coasted
  dsimp only
  split
  · rw [State.warnOn_clk, State.warnOn_now]
    have := putPll_clk u i { u.clk.pll i with st := .coast, frozen := true, coasts := incSat 32 (u.clk.pll i).coasts }
    exact ⟨this.1, this.2.1 h, fun j hj hn => this.2.2 j hj h hn, rfl⟩
  · exact ⟨ClkSame.rfl' _, rfl, fun _ _ _ => rfl, rfl⟩
theorem relock_clk (u : State) (i : Nat) (h : i < 5) : ClkSame (u.relock i).clk u.clk ∧ (u.relock i).clk.pll i = (u.clk.pll i).relocked u.now ∧
    (∀ j, j < 5 → j ≠ i → (u.relock i).clk.pll j = u.clk.pll j) ∧ (u.relock i).now = u.now := by
  unfold State.relock Pll.relocked
  dsimp only
  split
  · have := putPll_clk u i (if (u.clk.pll i).out then { u.clk.pll i with st := .relockF, at_ := u.now } else { u.clk.pll i with st := .acquire, at_ := u.now })
    exact ⟨this.1, this.2.1 h, fun j hj hn => this.2.2 j hj h hn, rfl⟩
  · exact ⟨ClkSame.rfl' _, rfl, fun _ _ _ => rfl, rfl⟩
theorem drifts_clk (u : State) (i : Nat) (h : i < 5) : ClkSame (u.drifts i).clk u.clk ∧ (u.drifts i).clk.pll i = (u.clk.pll i).drifted ∧
    (∀ j, j < 5 → j ≠ i → (u.drifts i).clk.pll j = u.clk.pll j) ∧ (u.drifts i).now = u.now := by
  unfold State.drifts Pll.drifted
  dsimp only
  split
  · have := putPll_clk u i { u.clk.pll i with drift := true, pending := (u.clk.pll i).pending || !(u.clk.pll i).backup }
    exact ⟨this.1, this.2.1 h, fun j hj hn => this.2.2 j hj h hn, rfl⟩
  · exact ⟨ClkSame.rfl' _, rfl, fun _ _ _ => rfl, rfl⟩
/-- One action on each of the five PLLs. -/
theorem plls_fold (f : State → Nat → State) (g : Nat → Pll → Pll)
    (h : ∀ (u : State) i, i < 5 → ClkSame (f u i).clk u.clk ∧ (f u i).clk.pll i = g u.now (u.clk.pll i) ∧
      (∀ j, j < 5 → j ≠ i → (f u i).clk.pll j = u.clk.pll j) ∧ (f u i).now = u.now) (s : State) :
    ClkSame ((List.range 5).foldl f s).clk s.clk ∧ ∀ p, p < 5 → ((List.range 5).foldl f s).clk.pll p = g s.now (s.clk.pll p) := by
  show ClkSame (f (f (f (f (f s 0) 1) 2) 3) 4).clk s.clk ∧ ∀ p, p < 5 → (f (f (f (f (f s 0) 1) 2) 3) 4).clk.pll p = _
  have a := h s 0 (by decide)
  have b := h (f s 0) 1 (by decide)
  have c := h (f (f s 0) 1) 2 (by decide)
  have d := h (f (f (f s 0) 1) 2) 3 (by decide)
  have e := h (f (f (f (f s 0) 1) 2) 3) 4 (by decide)
  have n1 : (f s 0).now = s.now := a.2.2.2
  have n2 := b.2.2.2.trans n1
  have n3 := c.2.2.2.trans n2
  have n4 := d.2.2.2.trans n3
  refine ⟨e.1.trans (d.1.trans (c.1.trans (b.1.trans a.1))), fun p hp => ?_⟩
  match p, hp with
  | 0, _ => rw [e.2.2.1 0 (by decide) (by decide), d.2.2.1 0 (by decide) (by decide), c.2.2.1 0 (by decide) (by decide), b.2.2.1 0 (by decide) (by decide), a.2.1]
  | 1, _ => rw [e.2.2.1 1 (by decide) (by decide), d.2.2.1 1 (by decide) (by decide), c.2.2.1 1 (by decide) (by decide), b.2.1, n1, a.2.2.1 1 (by decide) (by decide)]
  | 2, _ => rw [e.2.2.1 2 (by decide) (by decide), d.2.2.1 2 (by decide) (by decide), c.2.1, n2, b.2.2.1 2 (by decide) (by decide), a.2.2.1 2 (by decide) (by decide)]
  | 3, _ => rw [e.2.2.1 3 (by decide) (by decide), d.2.1, n3, c.2.2.1 3 (by decide) (by decide), b.2.2.1 3 (by decide) (by decide), a.2.2.1 3 (by decide) (by decide)]
  | 4, _ => rw [e.2.1, n4, d.2.2.1 4 (by decide) (by decide), c.2.2.1 4 (by decide) (by decide), b.2.2.1 4 (by decide) (by decide), a.2.2.1 4 (by decide) (by decide)]

theorem testJudge_ain {s : State} (h : s.sense.ins.length = 16) {c : Nat} (hc : c < 16) (x p : Int) :
    ∃ a b d e f, (s.testJudge c x p).ain c = { s.ain c with testBad := a, testGood := b, testFails := d, lostTest := e, lLost := f } := by
  unfold State.testJudge
  dsimp only
  split
  · have k := ain_mapAin_of h hc (fun a => { a with testGood := a.testGood + 1, testBad := 0 })
    have kl := (mapAin_len s c (fun a => { a with testGood := a.testGood + 1, testBad := 0 })).trans h
    generalize s.mapAin c (fun a => { a with testGood := a.testGood + 1, testBad := 0 }) = u at *
    split
    · rw [ain_sense (State.note_sense ..), ain_sense (State.warnOff_sense ..), ain_mapAin_of kl hc, k]
      exact ⟨_, _, _, _, _, rfl⟩
    · rw [k]; exact ⟨_, _, _, _, _, rfl⟩
  · have k := ain_mapAin_of h hc (fun a => { a with testBad := a.testBad + 1, testGood := 0, testFails := incSat 32 a.testFails })
    have kl := (mapAin_len s c (fun a => { a with testBad := a.testBad + 1, testGood := 0, testFails := incSat 32 a.testFails })).trans h
    generalize s.mapAin c (fun a => { a with testBad := a.testBad + 1, testGood := 0, testFails := incSat 32 a.testFails }) = u at *
    split
    · rw [ain_sense (State.warnOn_sense ..), ain_mapAin_of kl hc, k]
      exact ⟨_, _, _, _, _, rfl⟩
    · rw [k]; exact ⟨_, _, _, _, _, rfl⟩
/-- What an injection request of one input leaves of the others. -/
def InjSame (u s : State) : Prop := u.objs = s.objs ∧ u.fns = s.fns ∧ u.tick = s.tick ∧ u.sense.refuse = s.sense.refuse ∧ u.sense.x = s.sense.x ∧
  u.sense.ins.length = s.sense.ins.length
/-- A request that is registered on a later edge is on its way (Table 10-5). -/
theorem arrive_later {s : State} {c : Nat} {r : Arrival} (h : ((s.ain c).fed : Int) < r.reg) :
    s.injArrive c r = if s.converts c then s.mapAin c (fun a => { a with arriving := a.arriving ++ [r] }) else s := by
  unfold State.injArrive
  rw [if_neg (Int.not_le.2 h)]
theorem arrive_same {s : State} {c : Nat} {r : Arrival} (h : ((s.ain c).fed : Int) < r.reg) :
    InjSame (s.injArrive c r) s ∧ ∀ d, d ≠ c → (s.injArrive c r).ain d = s.ain d := by
  rw [arrive_later h]
  split
  · exact ⟨⟨rfl, rfl, rfl, rfl, rfl, mapAin_len ..⟩, fun d hd => entry_updAt_ne _ _ _ _ _ hd⟩
  · exact ⟨⟨rfl, rfl, rfl, rfl, rfl, rfl⟩, fun _ _ => rfl⟩
theorem range16_at : ∀ c < 16, List.range 16 = List.range c ++ c :: (List.range 16).drop (c + 1) ∧ c ∉ (List.range 16).drop (c + 1) := by decide
theorem ite_ind {c : Prop} [Decidable c] {α : Type} {P : α → Prop} {a b : α} (h : P a) (k : P b) : P (if c then a else b) := by split <;> assumption
theorem policed_ind (u : State) (p : Side) (k : Traffic) (c : Nat) (P : Bool × State → Prop)
    (h : ∀ a f, f.netUp = u.fab.netUp → P (a, { u with fab := f })) : P (u.policed p k c) :=
  ite_ind (P := P) (h _ _ rfl) (h _ _ rfl)
theorem ingress_ind (u : State) (p : Side) (rct : Option (Nat × Nat)) (k : Traffic) (c : Nat) (P : Bool × State → Prop)
    (h : ∀ a f, f.netUp = u.fab.netUp → P (a, { u with fab := f })) : P (u.ingress p rct k c) := by
  have hp : ∀ f : FabState, f.netUp = u.fab.netUp → P (State.policed { u with fab := f } p k c) :=
    fun f hf => policed_ind { u with fab := f } p k c P (fun a g hg => h a g (hg.trans hf))
  unfold State.ingress State.prp
  split
  · exact h _ u.fab rfl
  · split
    · rename_i keep v e
      split at e
      · cases e
        rw [if_pos rfl]
        exact hp u.fab rfl
      · rename_i src seq
        dsimp only at e
        split at e
        · cases e
          rw [if_neg (by decide)]
          exact h _ _ rfl
        · cases e
          rw [if_pos rfl]
          exact hp _ rfl
theorem ptpIn_spec (s : State) (p : Side) (d : Nat) : ∃ f, (s.ptpIn p d).2 = { s with fab := f } ∧ f.netUp = s.fab.netUp := by
  unfold State.ptpIn
  split
  · refine ingress_ind s p none .ptp 1 (fun x => ∃ f, (match x with | (ok, s) => (ok && d == s.DOMAIN, s)).2 = { s with fab := f } ∧ f.netUp = s.fab.netUp) ?_
    intro a f hf
    exact ⟨f, rfl, hf⟩
  · exact ⟨s.fab, rfl, rfl⟩
theorem fab_qualified (s : State) (f : FabState) (h : f.netUp = s.fab.netUp) (p : Side) : ({ s with fab := f } : State).qualified p = s.qualified p ∧
    ({ s with fab := f } : State).ptpOn p = s.ptpOn p ∧ ({ s with fab := f } : State).netUp p = s.netUp p := by
  have h1 : ({ s with fab := f } : State).netUp p = s.netUp p := by unfold State.netUp; dsimp only; rw [h]; rfl
  have h2 : ({ s with fab := f } : State).ptpOn p = s.ptpOn p := by unfold State.ptpOn; rw [h1]; rfl
  refine ⟨?_, h2, h1⟩
  have h3 : ({ s with fab := f } : State).ownRank = s.ownRank := by
    unfold State.ownRank State.PRIORITY1 State.PRIORITY2 State.obj; dsimp only
  have h4 : ({ s with fab := f } : State).ROLE = s.ROLE := rfl
  unfold State.qualified
  rw [h2, h3, h4]
theorem port_putPort (s : State) (p : Side) (x : PtpPort) : (s.putPort p x).time.port p = x := by cases p <;> rfl
theorem port_putPort_ne (s : State) {p q : Side} (x : PtpPort) (h : q ≠ p) : (s.putPort p x).time.port q = s.time.port q := by
  cases p <;> cases q <;> first | rfl | exact absurd rfl h
theorem port_time {u v : State} (h : u.time = v.time) (p : Side) : u.time.port p = v.time.port p := by rw [h]
/-- Two ports that differ in their shown state at most. -/
def PortSame (a b : PtpPort) : Prop := ∃ st, a = { b with st := st }
theorem PortSame.refl (a : PtpPort) : PortSame a a := ⟨a.st, rfl⟩
theorem PortSame.trans {a b c : PtpPort} (h : PortSame a b) (k : PortSame b c) : PortSame a c := by
  obtain ⟨x, rfl⟩ := h
  obtain ⟨y, rfl⟩ := k
  exact ⟨x, rfl⟩
theorem showPort_port (s : State) (p q : Side) (st : PortSt) : PortSame ((s.showPort p st).time.port q) (s.time.port q) := by
  unfold State.showPort
  by_cases h : q = p
  · subst h; rw [port_putPort]; exact ⟨_, rfl⟩
  · rw [port_putPort_ne _ _ h]; exact PortSame.refl _
theorem setGm_time (s : State) (id : List Nat) (q : Side) : (s.setGm id).time.port q = s.time.port q := by
  unfold State.setGm
  dsimp only
  split
  · rw [port_time (State.note_time ..)]; cases q <;> rfl
  · cases q <;> rfl
theorem putR_time (u : State) (r : Int) : (u.putR r).time = { u.time with r := r } := by
  unfold State.putR
  dsimp only
  split
  · exact State.warnOn_time ..
  · exact State.warnOff_time ..
theorem servoFree_time (s : State) (h : s.time.servo ≠ .free) : s.servoFree.time =
    { s.time with servo := .free, okRun := 0, r := if s.time.servo == .holdover then s.time.r else 0 } := by
  unfold State.servoFree
  rw [if_neg (by simpa using h)]
  dsimp only
  rw [State.warnOff_time, putR_time]
theorem servoFree_port (s : State) (q : Side) : (s.servoFree).time.port q = s.time.port q := by
  by_cases h : s.time.servo = .free
  · unfold State.servoFree; rw [if_pos (by rw [h]; rfl)]
  · rw [servoFree_time s h]; cases q <;> rfl
theorem takeUtc_port (s : State) (f : Foreign) (q : Side) : (s.takeUtc f).time.port q = s.time.port q := by
  have main : ∀ (b : Bool) (u : State) c l, u.time.port q = s.time.port q → (if b then u.note c l else u).time.port q = s.time.port q := by
    intro b u c l h
    cases b
    · exact h
    · exact (port_time (State.note_time ..) q).trans h
  unfold State.takeUtc
  dsimp only
  refine main _ _ _ _ ?_
  split <;> cases q <;> rfl
theorem setSlave_port (s : State) (p q : Side) : PortSame ((s.setSlave p).time.port q) (s.time.port q) := by
  unfold State.setSlave
  dsimp only
  have k : ∀ u : State, u.time.port q = s.time.port q → PortSame (((u.showPort p .slave).showPort (otherSide p) .passive).time.port q) (s.time.port q) := by
    intro u h
    exact (showPort_port ..).trans (h ▸ showPort_port ..)
  have k2 := k ({ s with time := { s.time with slave := some p, slaveLost := none } }) (by cases q <;> rfl)
  generalize State.showPort (State.showPort _ _ _) _ _ = u at *
  generalize (u.time.port p).fm = o
  cases o with
  | none =>
    split
    · rw [port_time (State.note_time ..)]; exact k2
    · exact k2
  | some f =>
    dsimp only
    split
    · rw [port_time (State.note_time ..), takeUtc_port]; exact k2
    · rw [takeUtc_port]; exact k2
theorem setRoles_port (s : State) (q : Side) : PortSame (s.setRoles.time.port q) (s.time.port q) := by
  unfold State.setRoles
  split
  · rename_i p _
    have main : ∀ u : State, u.time.port q = s.time.port q →
        PortSame ((if u.time.slaveLost.isSome then (u.showPort .a .passive).showPort .b .passive else u.setSlave p).time.port q) (s.time.port q) := by
      intro u hg
      rw [← hg]
      split
      · exact (showPort_port ..).trans (showPort_port ..)
      · exact setSlave_port ..
    cases s.qualified p with
    | none => exact main s rfl
    | some f => exact main _ (setGm_time ..)
  · dsimp only
    obtain ⟨u, hu, he⟩ : ∃ u : State, ({ s with time := { s.time.noGm with slave := none, slaveLost := none } } : State) = u ∧
        u.time.port q = s.time.port q := ⟨_, rfl, by cases q <;> rfl⟩
    rw [hu, ← he]
    split
    · rw [servoFree_port, setGm_time]
      exact (showPort_port ..).trans (showPort_port ..)
    · split
      · rw [servoFree_port]
        exact (showPort_port ..).trans (showPort_port ..)
      · exact (showPort_port ..).trans (showPort_port ..)
theorem emitNet_up {s : State} {p : Side} (h : s.netUp p = true) (t : Tx) : s.emitNet p t = s.emit t := by unfold State.emitNet; rw [if_pos h]
theorem ptpOn_net {s : State} {p : Side} (h : s.ptpOn p = true) : s.netUp p = true := by
  unfold State.ptpOn at h; simp only [Bool.and_eq_true] at h; exact h.1.2
theorem portDiff_servo (s : State) : s.portDiff.time.servo = s.time.servo ∧ s.portDiff.time.onBackup = s.time.onBackup ∧
    ∀ q, (s.portDiff.time.port q).syncs = (s.time.port q).syncs ∧ (s.portDiff.time.port q).off = (s.time.port q).off := by
  unfold State.portDiff
  dsimp only
  split
  · refine ⟨rfl, rfl, fun q => ?_⟩; cases q <;> exact ⟨rfl, rfl⟩
  · split
    · rw [State.warnOn_time]; refine ⟨rfl, rfl, fun q => ?_⟩; cases q <;> exact ⟨rfl, rfl⟩
    · refine ⟨rfl, rfl, fun q => ?_⟩; cases q <;> exact ⟨rfl, rfl⟩
/-- A complete Sync while no SLAVE port is being replaced (R344). -/
theorem syncDone_eq {s : State} (p : Side) (t2 t1 corr : Int) (h : s.time.slaveLost = none) : ∃ u : State,
    s.syncDone p t2 t1 corr = (if u.time.slave == some p then ((u.putPort p { u.time.port p with syncs := incSat 32 (u.time.port p).syncs }).portDiff).servoSync
      (t2 - t1 - (s.time.port p).path - corr - divNearAway (s.ASYM p.code) 1000) else u) ∧ u.time.slave = s.time.slave ∧ u.time.syncAt = s.now ∧
    u.time.servo = s.time.servo ∧ u.time.onBackup = s.time.onBackup ∧
    u.time.port p = { s.time.port p with off := sat32 (t2 - t1 - (s.time.port p).path - corr - divNearAway (s.ASYM p.code) 1000), fresh := true, wait := none } := by
  have k : ∀ x : PtpPort, ∃ u : State, u = { s.putPort p x with time := { (s.putPort p x).time with syncAt := (s.putPort p x).now } } ∧ u.time.slave = s.time.slave ∧ u.time.syncAt = s.now ∧
      u.time.servo = s.time.servo ∧ u.time.onBackup = s.time.onBackup ∧ u.time.port p = x ∧ u.time.slaveLost = s.time.slaveLost := by
    intro x; cases p <;> exact ⟨_, rfl, rfl, rfl, rfl, rfl, rfl, rfl⟩
  obtain ⟨u, hu, h1, h2, h3, h4, h5, h6⟩ := k { s.time.port p with off := sat32 (t2 - t1 - (s.time.port p).path - corr - divNearAway (s.ASYM p.code) 1000), fresh := true, wait := none }
  refine ⟨u, ?_, h1, h2, h3, h4, h5⟩
  have e : s.syncDone p t2 t1 corr = (fun v : State => if v.time.slave == some p then ((v.putPort p { v.time.port p with syncs := incSat 32 (v.time.port p).syncs }).portDiff).servoSync
      (t2 - t1 - (s.time.port p).path - corr - divNearAway (s.ASYM p.code) 1000) else v) (match u.time.slaveLost with
      | some q =>
        if (u.qualified p).isNone then u
        else if p == q then u.setSlave p
        else
          let s := ({ u with time := { u.time with slave := some q } }).setSlave p
          { s with time := { s.time with noStep := true } }
      | none => u) := by rw [hu]; rfl
  rw [e, h6, h]
theorem syncDone_other {s : State} {p : Side} (h1 : s.time.slaveLost = none) (h2 : s.time.slave ≠ some p) (t2 t1 corr : Int) :
    ((s.syncDone p t2 t1 corr).time.port p).off = sat32 (t2 - t1 - (s.time.port p).path - corr - divNearAway (s.ASYM p.code) 1000) ∧
    ((s.syncDone p t2 t1 corr).time.port p).fresh = true ∧ ((s.syncDone p t2 t1 corr).time.port p).wait = none ∧ (s.syncDone p t2 t1 corr).time.syncAt = s.now := by
  obtain ⟨u, e, a, b, c, d, f⟩ := syncDone_eq p t2 t1 corr h1
  rw [e, if_neg (by rw [a]; simpa using h2), f]
  exact ⟨rfl, rfl, rfl, b⟩
theorem syncDone_slave {s : State} {p : Side} (h1 : s.time.slaveLost = none) (h2 : s.time.slave = some p) (h3 : s.time.servo = .free) (h4 : s.time.onBackup = false) (t2 t1 corr : Int) :
    (s.syncDone p t2 t1 corr).time.servo = .acquire ∧ (s.syncDone p t2 t1 corr).time.okRun = 0 := by
  have hs : ∀ (u : State) o, u.time.servo = .free → u.time.onBackup = false → (u.servoSync o).time.servo = .acquire ∧ (u.servoSync o).time.okRun = 0 := by
    intro u o a b
    unfold State.servoSync
    dsimp only
    rw [show ∀ (v : State) c k, (v.warnOff c k).time = v.time from fun _ _ _ => rfl]
    dsimp only
    rw [a]
    dsimp only
    rw [b, if_neg (by decide)]
    exact ⟨rfl, rfl⟩
  obtain ⟨u, e, a, b, c, d, f⟩ := syncDone_eq p t2 t1 corr h1
  rw [e, if_pos (by rw [a, h2]; exact beq_self_eq_true _)]
  have k : ∀ x, (u.putPort p x).time.servo = u.time.servo ∧ (u.putPort p x).time.onBackup = u.time.onBackup := by intro x; cases p <;> exact ⟨rfl, rfl⟩
  exact hs _ _ ((portDiff_servo _).1.trans ((k _).1.trans (c.trans h3))) ((portDiff_servo _).2.1.trans ((k _).2.trans (d.trans h4)))
theorem trip_up (u : State) (code : Nat) (n : Fn) (p : List Nat) : (u.trip code n p).field.up = u.field.up := by
  have h1 : ∀ (v : State) (m : Fn), (v.faultOne m).field.up = v.field.up := by
    intro v m
    have h2 : ∀ (w : State), (w.fnDown m).field.up = w.field.up := by
      intro w
      cases m
      case safety =>
        show w.safetyDown.field.up = _
        rw [State.safetyDown_keeps.same .field rfl]
      all_goals rfl
    unfold State.faultOne
    split
    · rfl
    · dsimp only
      rw [State.setRun_field, h2]
      split <;> rfl
  have h3 : ∀ (l : List Fn) (v : State), (l.foldl (fun s m => s.faultOne m) v).field.up = v.field.up := by
    intro l
    induction l with
    | nil => intro v; rfl
    | cons a l ih => intro v; exact (ih _).trans (h1 v a)
  unfold State.trip State.faultFn
  dsimp only
  rw [h3, h1, State.blockSpan_keeps.same .field rfl, State.offer_field]
theorem pin_putPin {s : State} (h : s.Shape) (p : Fin 32) (x : Pin) : (s.putPin p.val x).pin p.val = x :=
  entry_putAt x {} _ _ (by rw [h.pins]; exact p.isLt)
theorem putPin_Shape {s : State} (h : s.Shape) (p : Nat) (x : Pin) : (s.putPin p x).Shape := by
  unfold State.Shape State.shape State.putPin putAt at *
  simpa [updAt_length] using h
theorem pin_field {u v : State} (h : u.field = v.field) (p : Nat) : u.pin p = v.pin p := by unfold State.pin; rw [h]
theorem portLost_port (s : State) (p : Side) : ((s.portLost p).time.port p).fms = [] ∧ ((s.portLost p).time.port p).wait = none := by
  have main : ∀ u : State, u.time.port p = { s.time.port p with fms := [], wait := none } → (u.setRoles.time.port p).fms = [] ∧ (u.setRoles.time.port p).wait = none := by
    intro u h
    obtain ⟨st, k⟩ := setRoles_port u p
    rw [k, h]
    exact ⟨rfl, rfl⟩
  unfold State.portLost
  dsimp only
  split
  · exact main _ (by cases p <;> rfl)
  · exact main _ (port_putPort ..)
theorem ptpSend_time (u : State) (p : Side) (t : Nat) (l : List Nat) : (u.ptpSend p t l).time = u.time := State.emitNet_time u p _
theorem masterSend_port (s : State) (p : Side) (c : Int) : (∀ q, q ≠ p → (s.masterSend p c).time.port q = s.time.port q) ∧
    ((s.time.port p).st = .master → (∀ t0, (s.time.port p).mAt = some t0 → t0 + secs 1 ≤ s.now) →
      ((s.masterSend p c).time.port p).mseq = ((s.time.port p).mseq + 1) % 65536 ∧ ((s.masterSend p c).time.port p).mAt = some s.now) := by
  unfold State.masterSend
  dsimp only
  rcases hq : (s.time.port p).mAt with _ | t0 <;> dsimp only <;> split
  · rw [ptpSend_time, ptpSend_time, ptpSend_time, port_putPort]
    exact ⟨fun q hq => port_putPort_ne _ _ hq, fun _ _ => ⟨rfl, rfl⟩⟩
  · rename_i hn
    exact ⟨fun _ _ => rfl, fun h hd => absurd (by simp [h]) hn⟩
  · rw [ptpSend_time, ptpSend_time, ptpSend_time, port_putPort]
    exact ⟨fun q hq => port_putPort_ne _ _ hq, fun _ _ => ⟨rfl, rfl⟩⟩
  · rename_i hn
    exact ⟨fun _ _ => rfl, fun h hd => absurd (by simp [h, hd t0 rfl]) hn⟩
theorem masterSend_tx (s : State) (p : Side) (c : Int) : (∀ x ∈ s.tx, x ∈ (s.masterSend p c).tx) ∧ (∀ q, (s.masterSend p c).netUp q = s.netUp q) ∧
    ((s.time.port p).st = .master → (∀ t0, (s.time.port p).mAt = some t0 → t0 + secs 1 ≤ s.now) → s.netUp p = true →
      .ptp p (if s.VLAN = 0 then none else some (s.VLAN, s.VLAN_PCP)) s.DOMAIN 0 (be 2 (((s.time.port p).mseq + 1) % 65536)) ∈ (s.masterSend p c).tx ∧
      .ptp p (if s.VLAN = 0 then none else some (s.VLAN, s.VLAN_PCP)) s.DOMAIN 8 (be 2 (((s.time.port p).mseq + 1) % 65536) ++ ptpTime (s.egressTime p c)) ∈ (s.masterSend p c).tx) := by
  have he : ∀ (u : State) ty l, (∀ x ∈ u.tx, x ∈ (u.ptpSend p ty l).tx) ∧ (∀ q, (u.ptpSend p ty l).netUp q = u.netUp q) ∧
      (u.ptpSend p ty l).objs = u.objs ∧
      (u.netUp p = true → .ptp p (if u.VLAN = 0 then none else some (u.VLAN, u.VLAN_PCP)) u.DOMAIN ty l ∈ (u.ptpSend p ty l).tx) := by
    intro u ty l
    unfold State.ptpSend State.emitNet
    split
    · exact ⟨fun x hx => List.mem_cons_of_mem _ hx, fun _ => rfl, rfl, fun _ => List.mem_cons_self ..⟩
    · rename_i hn
      exact ⟨fun x hx => hx, fun _ => rfl, rfl, fun h => absurd h hn⟩
  have ho : ∀ u v : State, u.objs = v.objs → u.VLAN = v.VLAN ∧ u.VLAN_PCP = v.VLAN_PCP ∧ u.DOMAIN = v.DOMAIN := by
    intro u v h
    unfold State.VLAN State.VLAN_PCP State.DOMAIN State.obj
    rw [h]
    exact ⟨rfl, rfl, rfl⟩
  unfold State.masterSend
  dsimp only
  rcases hq : (s.time.port p).mAt with _ | t0 <;> dsimp only <;> split
  · generalize hu : s.putPort p _ = u
    have hn : ∀ q, u.netUp q = s.netUp q := by intro q; rw [← hu]; rfl
    have ht : u.tx = s.tx := by rw [← hu]; rfl
    have hb : u.objs = s.objs := by rw [← hu]; rfl
    generalize (be 2 s.utcOff ++ _ ++ _ ++ _ ++ _) = ann
    have a := he u 0 (be 2 (((s.time.port p).mseq + 1) % 65536))
    generalize u.ptpSend p 0 (be 2 (((s.time.port p).mseq + 1) % 65536)) = v at *
    have b := he v 8 (be 2 (((s.time.port p).mseq + 1) % 65536) ++ ptpTime (s.egressTime p c))
    generalize v.ptpSend p 8 (be 2 (((s.time.port p).mseq + 1) % 65536) ++ ptpTime (s.egressTime p c)) = w at *
    have d := he w 11 ann
    generalize w.ptpSend p 11 ann = z at *
    obtain ⟨x1, x2, x3⟩ := ho u s hb
    obtain ⟨y1, y2, y3⟩ := ho v s (a.2.2.1.trans hb)
    rw [x1, x2, x3] at a
    rw [y1, y2, y3] at b
    exact ⟨fun x hx => d.1 x (b.1 x (a.1 x (ht ▸ hx))), fun q => (d.2.1 q).trans ((b.2.1 q).trans ((a.2.1 q).trans (hn q))),
      fun _ _ hp => ⟨d.1 _ (b.1 _ (a.2.2.2 ((hn p).trans hp))), d.1 _ (b.2.2.2 ((a.2.1 p).trans ((hn p).trans hp)))⟩⟩
  · rename_i hm
    exact ⟨fun x hx => hx, fun _ => rfl, fun h hd => absurd (by simp [h]) hm⟩
  · generalize hu : s.putPort p _ = u
    have hn : ∀ q, u.netUp q = s.netUp q := by intro q; rw [← hu]; rfl
    have ht : u.tx = s.tx := by rw [← hu]; rfl
    have hb : u.objs = s.objs := by rw [← hu]; rfl
    generalize (be 2 s.utcOff ++ _ ++ _ ++ _ ++ _) = ann
    have a := he u 0 (be 2 (((s.time.port p).mseq + 1) % 65536))
    generalize u.ptpSend p 0 (be 2 (((s.time.port p).mseq + 1) % 65536)) = v at *
    have b := he v 8 (be 2 (((s.time.port p).mseq + 1) % 65536) ++ ptpTime (s.egressTime p c))
    generalize v.ptpSend p 8 (be 2 (((s.time.port p).mseq + 1) % 65536) ++ ptpTime (s.egressTime p c)) = w at *
    have d := he w 11 ann
    generalize w.ptpSend p 11 ann = z at *
    obtain ⟨x1, x2, x3⟩ := ho u s hb
    obtain ⟨y1, y2, y3⟩ := ho v s (a.2.2.1.trans hb)
    rw [x1, x2, x3] at a
    rw [y1, y2, y3] at b
    exact ⟨fun x hx => d.1 x (b.1 x (a.1 x (ht ▸ hx))), fun q => (d.2.1 q).trans ((b.2.1 q).trans ((a.2.1 q).trans (hn q))),
      fun _ _ hp => ⟨d.1 _ (b.1 _ (a.2.2.2 ((hn p).trans hp))), d.1 _ (b.2.2.2 ((a.2.1 p).trans ((hn p).trans hp)))⟩⟩
  · rename_i hm
    exact ⟨fun x hx => hx, fun _ => rfl, fun h hd => absurd (by simp [h, hd t0 rfl]) hm⟩
theorem sf1Set_safe (s : State) (c i : Nat) : (s.sf1Set c i).safe = { s.safe with sf1 := c != 0, cause := c, line := c != 0, sf1Since := if c != 0 then some (s.safe.sf1Since.getD s.now) else none } := by
  have main : ∀ (u : State) (a b : Bool) (p q : List Nat), (if a then (if (u.note 0x6010 p).cancelPending.mode.mode == .forming then ((u.note 0x6010 p).cancelPending).setMode .blocked 0 else (u.note 0x6010 p).cancelPending)
      else if b then u.note 0x6011 q else u).safe = u.safe := by
    intro u a b p q
    cases a
    · cases b <;> simp
    · rw [if_pos rfl]
      split
      · rw [State.setMode_keeps.same .safe rfl, State.cancelPending_safe, State.note_safe]
      · rw [State.cancelPending_safe, State.note_safe]
  exact main _ _ _ _ _
theorem sf2Set_safe (s : State) (c i : Nat) : (s.sf2Set c i).safe = { s.safe with sf2 := c != 0 } := by
  have main : ∀ (u : State) (a b : Bool) (p q : List Nat), (if a then u.note 0x6012 p else if b then u.note 0x6013 q else u).safe = u.safe := by
    intro u a b p q
    cases a <;> cases b <;> simp
  exact main _ _ _ _ _
theorem releaseSet_safe (s : State) (d e : Bool) : (s.releaseSet d e).safe = { s.safe with door := d, earth := e } := by
  unfold State.releaseSet
  split
  · rename_i h
    simp only [Bool.and_eq_true, beq_iff_eq] at h
    rw [h.1, h.2]
  · rw [State.note_safe]
    rfl
/-- The members of the safety functions that their evaluation leaves. -/
def SafeCore (a b : SafeState) : Prop := a.ins = b.ins ∧ a.conns = b.conns ∧ a.prot = b.prot ∧ a.first = b.first ∧ a.reset = b.reset ∧ a.stopped = b.stopped ∧
  a.confirmed = b.confirmed ∧ a.foreign = b.foreign
theorem SafeCore.refl (a : SafeState) : SafeCore a a := ⟨rfl, rfl, rfl, rfl, rfl, rfl, rfl, rfl⟩
theorem SafeCore.trans {a b c : SafeState} (h : SafeCore a b) (k : SafeCore b c) : SafeCore a c := by
  obtain ⟨h1, h2, h3, h4, h5, h6, h7, h8⟩ := h
  obtain ⟨k1, k2, k3, k4, k5, k6, k7, k8⟩ := k
  exact ⟨h1.trans k1, h2.trans k2, h3.trans k3, h4.trans k4, h5.trans k5, h6.trans k6, h7.trans k7, h8.trans k8⟩
theorem sfEval_safe (s : State) : ∀ D E, D = (s.releaseOk (s.sf1Causes != 0 || s.safe.door || s.safe.earth) && bit s.REL_REQ 0 && (s.DOOR_REQ_SI == 255 || !(s.si s.DOOR_REQ_SI).demand)) →
    E = (s.releaseOk (s.sf1Causes != 0 || s.safe.door || s.safe.earth) && bit s.REL_REQ 1) →
    SafeCore s.sfEval.safe s.safe ∧ s.sfEval.safe.door = D ∧ s.sfEval.safe.earth = E ∧
    s.sfEval.safe.sf1 = (s.sf1Causes + (if D || E then 2 ^ 12 else 0) != 0) := by
  intro D E hD hE
  unfold State.sfEval
  dsimp only
  rw [← hD, ← hE, sf2Set_safe, sf1Set_safe, releaseSet_safe]
  exact ⟨⟨rfl, rfl, rfl, rfl, rfl, rfl, rfl, rfl⟩, rfl, rfl, rfl⟩
theorem soCycle_safe (s : State) (n : Nat) : ∃ o, (s.soCycle n).safe = { s.safe with outs := o } := by
  have hf : ∀ c, ∃ o, (s.soFault n c).safe = { s.safe with outs := o } := by
    intro c
    unfold State.soFault
    dsimp only
    rw [State.warnOn_safe]
    exact ⟨_, rfl⟩
  unfold State.soCycle
  dsimp only
  split
  · split
    · exact ⟨_, rfl⟩
    · split
      · exact ⟨_, rfl⟩
      · exact hf 1
  · split
    · exact ⟨_, rfl⟩
    · exact ⟨_, rfl⟩
theorem soCycles_safe (l : List Nat) (s : State) : ∃ o, (l.foldl (fun s n => s.soCycle n) s).safe = { s.safe with outs := o } := by
  induction l generalizing s with
  | nil => exact ⟨_, rfl⟩
  | cons a l ih =>
    obtain ⟨o, h⟩ := ih (s.soCycle a)
    obtain ⟨p, k⟩ := soCycle_safe s a
    exact ⟨o, by rw [List.foldl_cons, h, k]⟩
theorem sfApply_safe (s : State) : ∀ D E, D = (s.releaseOk (s.sf1Causes != 0 || s.safe.door || s.safe.earth) && bit s.REL_REQ 0 && (s.DOOR_REQ_SI == 255 || !(s.si s.DOOR_REQ_SI).demand)) →
    E = (s.releaseOk (s.sf1Causes != 0 || s.safe.door || s.safe.earth) && bit s.REL_REQ 1) →
    SafeCore s.sfApply.safe s.safe ∧ s.sfApply.safe.door = D ∧ s.sfApply.safe.earth = E ∧
    s.sfApply.safe.sf1 = (s.sf1Causes + (if D || E then 2 ^ 12 else 0) != 0) := by
  intro D E hD hE
  obtain ⟨a, b, c, d⟩ := sfEval_safe s D E hD hE
  obtain ⟨o, h⟩ := soCycles_safe (List.range 4) s.sfEval
  have h : s.sfApply.safe = { s.sfEval.safe with outs := o } := h
  generalize s.sfEval.safe = f at *
  generalize s.sfApply.safe = g at *
  subst h
  exact ⟨a, b, c, d⟩
theorem sfApply_core (s : State) : SafeCore s.sfApply.safe s.safe := (sfApply_safe s _ _ rfl rfl).1
theorem protJudge_safe (s : State) (i : Nat) : ∃ p, (s.protJudge i).safe = { s.safe with prot := p } := by
  have main : ∀ (b : Bool) (u : State) k p l, (if b then u.warnOn k p l else u).safe = u.safe := by
    intro b u k p l; cases b <;> simp
  unfold State.protJudge
  dsimp only
  rw [main]
  exact ⟨_, rfl⟩
theorem siCycle_safe (s : State) (i : Nat) (a b : Bool) : (s.siCycle i a b).1.safe = { s.safe with ins := putAt i (s.siJudge i a b).x s.safe.ins } := by
  have main : ∀ (u : State) (x y : Bool) p, (if y then (if x then u.warnOn 0x6020 i p else u) else (if x then u.warnOn 0x6020 i p else u).warnOff 0x6020 i).safe = u.safe := by
    intro u x y p
    cases x <;> cases y <;> simp
  exact main (s.mapSafe (fun f => { f with ins := putAt i (s.siJudge i a b).x f.ins })) _ _ _
theorem so_putSo {s : State} (h : s.Shape) (n : Fin 4) (o : SafeOut) : (s.putSo n.val o).so n.val = o :=
  entry_putAt o {} _ _ (by rw [h.souts]; exact n.isLt)
theorem so_safe {u v : State} (h : u.safe = v.safe) (n : Nat) : u.so n = v.so n := by unfold State.so; rw [h]
theorem soFault_so {s : State} (h : s.Shape) (n : Fin 4) (c : Nat) : ((s.soFault n.val c).so n.val) =
    { (s.so n.val).turnOff with lock := true, shortH := (s.so n.val).shortH || c == 1, readback := (s.so n.val).readback || c == 2, overload := (s.so n.val).overload || c == 3, thermal := (s.so n.val).thermal || c == 4 } := by
  unfold State.soFault
  dsimp only
  rw [so_safe (State.warnOn_safe ..), so_putSo h]
theorem conn_putConn {s : State} (h : s.safe.conns.length = 8) (c : Fin 8) (x : SlConn) : (s.putConn c.val x).conn c.val = x :=
  entry_putAt x {} _ _ (by rw [h]; exact c.isLt)
theorem conn_safe {u v : State} (h : u.safe = v.safe) (n : Nat) : u.conn n = v.conn n := by unfold State.conn; rw [h]
theorem lpJudge_field {u : State} (h : u.fieldSeen = true) : u.lpJudge.field = { u.field with lpState := lpOf u.field.rows } := by
  have hf : ∀ (l : List Nat) (v : State), (l.foldl (fun s i => if (entry s.field.rows i {}).on then s else s.warnOff (lpEvent (lpRowState i)) 0) v).field = v.field := by
    intro l
    induction l with
    | nil => intro v; rfl
    | cons a l ih =>
      intro v
      rw [List.foldl_cons, ih]
      split
      · rfl
      · exact State.warnOff_field ..
  unfold State.lpJudge
  rw [if_neg (by rw [h]; decide)]
  dsimp only
  have hs : ∀ (b : Bool) (v : State), (if b then v.soSupplyOff else v).field = v.field := by
    intro b v; cases b <;> rfl
  rw [hs]
  split
  · rw [hf]
  · split
    · rw [State.note_field, hf]
    · rw [State.warnOn_field, hf]
theorem trip_core (u : State) (code : Nat) (p : List Nat) : (u.trip code .field p).safe.stopped = u.safe.stopped ∧ (u.safe.line = true → (u.trip code .field p).safe.line = true) := by
  have h1 : ∀ (v : State) (m : Fn), (v.faultOne m).safe.stopped = v.safe.stopped ∧ (v.safe.line = true → (v.faultOne m).safe.line = true) := by
    intro v m
    have h2 : ∀ (w : State), (w.fnDown m).safe.stopped = w.safe.stopped ∧ (w.safe.line = true → (w.fnDown m).safe.line = true) := by
      intro w
      cases m
      case safety =>
        show w.safetyDown.safe.stopped = _ ∧ _
        unfold State.fnDown State.safetyDown
        simp only [State.mapSafe_safe, sf2Set_safe, sf1Set_safe, releaseSet_safe]
        exact ⟨rfl, fun _ => rfl⟩
      all_goals exact ⟨rfl, fun h => h⟩
    unfold State.faultOne
    split
    · exact ⟨rfl, fun h => h⟩
    · dsimp only
      rw [State.setRun_safe]
      have := h2 (if m == Fn.trunk then { v with cell := { v.cell with final := v.sending } } else v)
      have e : (if m == Fn.trunk then { v with cell := { v.cell with final := v.sending } } else v).safe = v.safe := by split <;> rfl
      rw [e] at this
      exact this
  unfold State.trip State.faultFn
  dsimp only
  generalize hv : ({ (u.offer code .trip (regionOf code) p) with mode := _ } : State).blockSpan = v
  have e : v.safe = u.safe := by rw [← hv, State.blockSpan_keeps.same .safe rfl]; exact State.offer_safe ..
  have a := h1 v .field
  have b := h1 (v.faultOne .field) .safety
  rw [e] at a
  exact ⟨b.1.trans a.1, fun h => b.2 (a.2 h)⟩
theorem lockstep_stops (s : State) (code : Nat) : (s.lockstepStop code).safe.stopped = true ∧ (s.lockstepStop code).safe.line = true ∧ (s.lockstepStop code).field.up = false := by
  unfold State.lockstepStop
  dsimp only
  generalize hv : State.mapSafe _ _ = v
  have h1 : v.safe.stopped = true ∧ v.safe.line = true := by rw [← hv]; exact ⟨rfl, rfl⟩
  clear hv
  unfold State.barrierDown
  split
  · rw [State.setRun_safe, State.setRun_field]
    have k := trip_core ({ v with field := { v.field with up := false, goodSince := none } } : State) 0x6420 []
    exact ⟨k.1.trans h1.1, k.2 h1.2, by rw [trip_up]⟩
  · rename_i h
    exact ⟨h1.1, h1.2, by simpa using h⟩
theorem putSo_first (s : State) (n : Nat) (o : SafeOut) : (s.putSo n o).safe.first = s.safe.first := rfl
theorem slData_first (s : State) (c : Nat) : (s.slData c).safe.first = s.safe.first := by
  have main : ∀ (b : Bool) (u : State), u.safe.first = s.safe.first → (if b then u.mapSafe (fun f => { f with reset := true }) else u).safe.first = s.safe.first := by
    intro b u h; cases b <;> exact h
  exact main _ _ rfl
theorem foldl_first {α : Type} (f : State → α → State) (h : ∀ u a, (f u a).safe.first = u.safe.first) (l : List α) (s : State) : (l.foldl f s).safe.first = s.safe.first := by
  induction l generalizing s with
  | nil => rfl
  | cons a l ih => exact (ih _).trans (h s a)
theorem foldl_first2 {α : Type} (f : State × Nat → α → State × Nat) (h : ∀ u a, (f u a).1.safe.first = u.1.safe.first) (l : List α) (s : State × Nat) : (l.foldl f s).1.safe.first = s.1.safe.first := by
  induction l generalizing s with
  | nil => rfl
  | cons a l ih => exact (ih _).trans (h s a)
theorem soFault_first (s : State) (n c : Nat) : (s.soFault n c).safe.first = s.safe.first := by
  unfold State.soFault; dsimp only; rw [State.warnOn_safe]; rfl
theorem soCycle_first (s : State) (n : Nat) : (s.soCycle n).safe.first = s.safe.first := by
  unfold State.soCycle
  dsimp only
  split
  · split
    · rfl
    · split
      · rfl
      · exact soFault_first ..
  · split <;> rfl
theorem soWatch_first (s : State) (n : Nat) : (s.soWatch n).safe.first = s.safe.first := by
  have h1 : ∀ u : State, (u.soShort n).safe.first = u.safe.first := by
    intro u; unfold State.soShort; split
    · exact soFault_first ..
    · rfl
  have h2 : ∀ u : State, (u.soReadback n).safe.first = u.safe.first := by
    intro u; unfold State.soReadback; split
    · exact soFault_first ..
    · rfl
  have h3 : ∀ u : State, (u.soOpen n).safe.first = u.safe.first := by
    intro u; unfold State.soOpen; dsimp only; split
    · rw [State.warnOn_safe]; rfl
    · split
      · rw [State.warnOff_safe]; rfl
      · rfl
  unfold State.soWatch
  split
  · rw [h3, h2, h1]; rfl
  · rfl
theorem resetItems_first (s : State) : (s.resetItems).1.safe.first = s.safe.first := by
  have h1 : ∀ u : State, u.protReset.1.safe.first = u.safe.first := by
    intro u
    unfold State.protReset
    dsimp only
    rw [foldl_first]
    · rfl
    · intro v i
      split
      · rw [State.warnOff_safe]
      · rfl
  have h2 : ∀ (u : State) n, (u.soReset n).1.safe.first = u.safe.first := by
    intro u n
    unfold State.soReset
    dsimp only
    split
    · dsimp only
      rw [State.warnOff_safe, State.warnOff_safe, foldl_first]
      · rfl
      · intro v i; rw [State.warnOff_safe]
    · rfl
  have h3 : ∀ (u : State) n, (u.connReset n).1.safe.first = u.safe.first := by
    intro u n
    unfold State.connReset
    dsimp only
    split
    · exact (slData_first ..).trans rfl
    · rfl
  unfold State.resetItems
  dsimp only
  rw [foldl_first2, foldl_first2, h1]
  · intro u a; exact h2 ..
  · intro u a; exact h3 ..
theorem entry_map {α β : Type} (f : α → β) (l : List α) (i : Nat) (d : α) (e : β) (h : i < l.length) : entry (l.map f) i e = f (entry l i d) := by
  induction l generalizing i with
  | nil => exact absurd h (Nat.not_lt_zero _)
  | cons a l ih => cases i with
    | zero => rfl
    | succ i => exact ih i (Nat.lt_of_succ_lt_succ h)
theorem slData_conn {s : State} (h : s.safe.conns.length = 8) (c : Fin 8) : ∃ d r, (s.slData c.val).conn c.val = { s.conn c.val with data := d, rbit := r } ∧
    ((s.conn c.val).st = .run → (s.conn c.val).latched = false → d = (s.conn c.val).raw) ∧ ((s.conn c.val).st ≠ .run → d = 0) ∧
    (s.slData c.val).safe.conns.length = 8 := by
  have main : ∀ (b : Bool) (u : State), (if b then u.mapSafe (fun f => { f with reset := true }) else u).conn c.val = u.conn c.val ∧
      (if b then u.mapSafe (fun f => { f with reset := true }) else u).safe.conns = u.safe.conns := by
    intro b u; cases b <;> exact ⟨rfl, rfl⟩
  unfold State.slData
  dsimp only
  rw [(main _ _).1, (main _ _).2, conn_putConn h]
  refine ⟨_, _, rfl, fun a b => ?_, fun a => ?_, ?_⟩
  · rw [if_pos (by rw [a, b]; rfl)]
  · rw [if_neg (by simp [a])]
  · unfold State.putConn putAt State.mapSafe
    dsimp only
    rw [updAt_length, h]
theorem Shape.conns' {s : State} (h : s.Shape) : s.safe.conns.length = 8 := h.conns
theorem putConn_len (s : State) (c : Nat) (x : SlConn) : (s.putConn c x).safe.conns.length = s.safe.conns.length := by
  unfold State.putConn putAt State.mapSafe
  dsimp only
  rw [updAt_length]
theorem slLost_conn {s : State} (h : s.safe.conns.length = 8) (c : Fin 8) (k : Nat) : ((s.slLost c.val k).conn c.val).st = .lost ∧
    ((s.slLost c.val k).conn c.val).data = 0 ∧ ((s.slLost c.val k).conn c.val).seq = none := by
  unfold State.slLost
  dsimp only
  rw [conn_safe (State.warnOn_safe ..)]
  have hl : (s.putConn c.val { s.conn c.val with st := .lost, raw := 0, good := 0, seq := none }).safe.conns.length = 8 := by rw [putConn_len, h]
  obtain ⟨d, r, e, _, e2, _⟩ := slData_conn hl c
  rw [conn_putConn h] at e e2
  have e2 := e2 (by simp)
  rw [e]
  exact ⟨rfl, e2, rfl⟩
theorem dpxTake_bad {s : State} (h : s.dpxHears = true) (f : State → State) : s.dpxTake false f = s.mapDpx (fun d => { d with errors := incSat 32 d.errors }) := by
  unfold State.dpxTake
  rw [h]
  rfl
theorem dpxTake_ok {s : State} (h : s.dpxHears = true) (f : State → State) : ∃ u : State, s.dpxTake true f = f u ∧ u.dpx = { s.dpx with link := true, lastRx := some s.now } ∧
    u.now = s.now ∧ u.objs = s.objs ∧ u.mode.mode = s.mode.mode ∧ u.mode.sub = s.mode.sub ∧ u.mode.bootStep = s.mode.bootStep ∧ u.safe = s.safe ∧ u.tx = s.tx ∧ u.device = s.device ∧
    u.cell = s.cell ∧ u.pwr = s.pwr ∧ u.hdrs = s.hdrs ∧ u.clk = s.clk := by
  unfold State.dpxTake
  refine ⟨s.dpxAlive, by rw [h]; rfl, ?_⟩
  unfold State.dpxAlive
  dsimp only
  split
  · exact ⟨rfl, rfl, rfl, rfl, rfl, rfl, rfl, rfl, rfl, rfl, rfl, rfl, rfl⟩
  · simp only [State.note_dpx, State.warnOff_dpx, State.note_now, State.warnOff_now, State.note_objs, State.warnOff_objs, State.note_mode, State.note_safe, State.warnOff_safe,
      State.note_tx, State.warnOff_tx, State.note_device, State.warnOff_device, State.note_cell, State.warnOff_cell, State.note_pwr, State.warnOff_pwr, State.note_hdrs, State.warnOff_hdrs,
      State.note_clk, State.warnOff_clk]
    have hm : ∀ (v : State) a b, (v.warnOff a b).mode.mode = v.mode.mode ∧ (v.warnOff a b).mode.sub = v.mode.sub ∧ (v.warnOff a b).mode.bootStep = v.mode.bootStep := by
      intro v a b; unfold State.warnOff; dsimp only; exact ⟨rfl, rfl, rfl⟩
    refine ⟨rfl, rfl, rfl, (hm ..).1, (hm ..).2.1, (hm ..).2.2, rfl, rfl, rfl, rfl, rfl, rfl, rfl⟩
theorem storeRenew_dpx (s : State) : ∃ n, s.storeRenew = { s with dpx := { s.dpx with renewed := n } } ∧ (s.dpx.holder.isSome = true → s.dpx.frozen = false → n = s.now) := by
  unfold State.storeRenew
  split
  · exact ⟨_, rfl, fun _ _ => rfl⟩
  · rename_i h
    exact ⟨s.dpx.renewed, rfl, fun a b => absurd (by rw [a, b]; rfl) h⟩
theorem leaseLost_dpx (s : State) : ∃ l y, s.leaseLost.dpx = { s.dpx with lease := l, yielded := y } ∧
    (s.DPX_ENABLE ≠ 0 → s.dpx.lease = true → l = false ∧ y = some s.now ∧ s.leaseLost.safe.outs = s.safe.outs.map (fun o => o.turnOff)) := by
  unfold State.leaseLost
  split
  · rw [State.warnOn_dpx, State.warnOn_safe]
    exact ⟨false, some s.now, rfl, fun _ _ => ⟨rfl, rfl, rfl⟩⟩
  · rename_i h
    exact ⟨s.dpx.lease, s.dpx.yielded, rfl, fun a b => absurd (by rw [b]; simpa using a) h⟩
theorem hears_enable {s : State} (h : s.dpxHears = true) : s.DPX_ENABLE ≠ 0 := by
  unfold State.dpxHears at h
  simp only [Bool.and_eq_true, beq_iff_eq] at h
  rw [h.2]; decide
theorem ackJudge_dpx (s : State) (b : Nat) : ∃ l y, (s.ackJudge b).dpx = { s.dpx with lease := l, yielded := y } := by
  unfold State.ackJudge
  split
  · obtain ⟨l, y, h, _⟩ := leaseLost_dpx s
    exact ⟨l, y, h⟩
  · exact ⟨_, _, rfl⟩
theorem setMode_dpx (s : State) (m : Mode) (n : Nat) : (s.setMode m n).dpx = s.dpx := State.setMode_keeps.same .dpx rfl
theorem slJudge_run {u : State} {c : Nat} {bs : List Nat} (h1 : (u.conn c).st = .run) (h2 : u.slFields c bs = true) (h3 : (u.conn c).follows (ofLe ((bs.drop 4).take 4)) = true) :
    u.slJudge c bs = (u.putConn c { u.conn c with seq := some (ofLe ((bs.drop 4).take 4)), raw := if bit (entry bs 10 0) 0 then 0 else ofLe ((bs.drop 12).take 4), at_ := u.now }).slData c := by
  unfold State.slJudge
  dsimp only
  rw [h1]
  dsimp only
  rw [if_pos h2, if_pos h3]
theorem dpxSend_hb (v : State) (t i : Nat) (d : List Nat) : (v.dpxSend t i d).dpx.hbB = v.dpx.hbB ∧ (v.dpxSend t i d).dpx.hbEpoch = v.dpx.hbEpoch := by
  unfold State.dpxSend
  split <;> exact ⟨rfl, rfl⟩
theorem mirrorMismatch_mirror (u : State) : u.mirrorMismatch.dpx.mirror = u.dpx.mirror := by
  unfold State.mirrorMismatch; dsimp only; split
  · rw [State.warnOn_dpx]; rfl
  · rfl
theorem mirrorCompare_dpx (s : State) (m : MirrorRec) : (s.mirrorCompare m).dpx.mirror = s.dpx.mirror := by
  have hw : ∀ u : State, u.warmJudge.dpx.mirror = u.dpx.mirror := by
    intro u; unfold State.warmJudge; split
    · rw [State.note_dpx]; rfl
    · rfl
  have ha : ∀ u : State, (u.mirrorApply m).dpx = u.dpx := fun u => State.mirrorApply_keeps.same .dpx rfl
  have hd : ∀ (u : State) f, (∀ d : DpxState, (f d).mirror = d.mirror) → (u.mapDpx f).dpx.mirror = u.dpx.mirror := fun u f h => h _
  unfold State.mirrorCompare
  dsimp only
  split
  · rw [hw]; exact (hd _ _ (fun _ => rfl)).trans (congrArg DpxState.mirror (ha _))
  · split
    · rw [hw]; exact (hd _ _ (fun _ => rfl)).trans (congrArg DpxState.mirror (ha _))
    · rw [mirrorMismatch_mirror, ha]; rfl
theorem mirrorLoad_dpx (s : State) (b : CkptBuf) : (s.mirrorLoad b).dpx.mirror = s.dpx.mirror := by
  have hf : ∀ (l : List MirrorRec) (u : State), (l.foldl (fun s m => s.mirrorApply m) u).dpx = u.dpx := by
    intro l
    induction l with
    | nil => intro u; rfl
    | cons a l ih => intro u; exact (ih _).trans (State.mirrorApply_keeps.same .dpx rfl)
  unfold State.mirrorLoad
  dsimp only
  split
  · rw [State.mapDpx_dpx, hf]; rfl
  · rfl
theorem mirrorIn_dpx (s : State) (m : MirrorRec) : (s.mirrorIn m).dpx.mirror = (m :: (if s.mirrorNext m.tick then s.dpx.mirror else [])).take 200 := by
  have last : ∀ (b : Bool) (u : State), (if b then u.mirrorCompare m else match u.newestCkpt with | some b => u.mirrorLoad b | none => u).dpx.mirror = u.dpx.mirror := by
    intro b u
    cases b
    · rw [if_neg (by decide)]
      split
      · exact mirrorLoad_dpx ..
      · rfl
    · rw [if_pos rfl]; exact mirrorCompare_dpx ..
  have mid : ∀ (b : Bool) (u : State), (if b then u.mirrorMismatch else u).dpx.mirror = u.dpx.mirror := by
    intro b u; cases b
    · rfl
    · exact mirrorMismatch_mirror u
  unfold State.mirrorIn
  dsimp only
  refine (last _ _).trans ?_
  show (m :: (State.dpx _).mirror).take 200 = _
  rw [mid]
  cases s.mirrorNext m.tick <;> rfl
theorem mergeMarks_dpx (s : State) (b : CkptBuf) : (s.mergeMarks b).dpx = s.dpx := State.mergeMarks_keeps.same .dpx rfl
theorem wake_dpx (s : State) (x : BootIn) (a : Bool) (b : Option CkptBuf) : (s.wake x a b).dpx = s.dpx := State.wake_keeps.same .dpx rfl
theorem takeBegin_dpx (s : State) (x : BootIn) (b : CkptBuf) : (s.takeBegin x b).dpx.frozen = s.dpx.frozen ∧ (s.takeBegin x b).dpx.rx = s.dpx.rx ∧
    (s.takeBegin x b).dpx.take = .begun (s.mode.mode != .standby || s.mode.sub == 2) ∧ (s.takeBegin x b).dpx.hbIn = false ∧ (s.takeBegin x b).dpx.mirror = [] := by
  unfold State.takeBegin
  dsimp only
  split
  · rw [mergeMarks_dpx, State.mapDpx_dpx]
    refine ⟨?_, ?_, rfl, rfl, rfl⟩ <;> (dsimp only; rw [State.warnOn_dpx])
  · rw [wake_dpx, State.mapDpx_dpx]
    refine ⟨?_, ?_, rfl, rfl, rfl⟩ <;> (dsimp only; rw [State.warnOn_dpx])
theorem acquireLease_dpx (s : State) (p e : Nat) : (s.acquireLease p e).dpx = { s.dpx with lease := true, epoch := e, stored := some e, ckptSeq := 0, lastTb := none, beats := [], beatAt := none, coldEp := false, partner := none, mirrorOn := false } := by
  unfold State.acquireLease
  rw [State.note_dpx]
  rfl
theorem fenceBlock_hdrs {s : State} {region b : Nat} (cause : Nat) (h1 : b < blocksOf region) (h2 : s.fenced region b = false) :
    ∃ f : RegionHdr → RegionHdr, (s.fenceBlock region b cause).hdrs = updAt region f s.hdrs ∧ ∀ h, (f h).fenced = setBit h.fenced b := by
  refine ⟨fun h => { h with fenced := setBit h.fenced b, err := if region < 8 then setBit h.err 8 else h.err, first := if region < 8 && h.first = 255 then b else h.first }, ?_, fun _ => rfl⟩
  have he : ∀ u : State, (if u.escalation region b = 0 then u else u.escalate (u.escalation region b)).hdrs = u.hdrs := by
    intro u; split
    · rfl
    · exact State.escalate_keeps.same .hdrs rfl
  unfold State.fenceBlock
  rw [if_neg (Nat.not_le.2 h1), if_neg (by rw [h2]; decide)]
  refine (he _).trans ?_
  refine (State.dropRegs_keeps.same .hdrs rfl).trans ?_
  refine (State.dropStaged_keeps.same .hdrs rfl).trans ?_
  refine (State.fenceEffect_keeps.same .hdrs rfl).trans ?_
  unfold State.markFenced State.mapHdr
  dsimp only
  rw [State.fenceEvent_keeps.same .hdrs rfl]
theorem testBit_setBit (w b : Nat) : bit (setBit w b) b = true := by
  unfold setBit
  by_cases h : bit w b = true
  · rw [if_pos h]; exact h
  · rw [if_neg h]
    unfold bit at *
    rw [Nat.add_div_right _ (Nat.two_pow_pos b)]
    simp only [beq_iff_eq, decide_eq_true_eq] at *
    omega
theorem fenceBlock_fenced {s : State} (hs : s.Shape) (region : Fin 9) (b cause : Nat) (h1 : b < blocksOf region.val) (h2 : s.fenced region.val b = false) :
    (s.fenceBlock region.val b cause).fenced region.val b = true := by
  obtain ⟨f, hf, e⟩ := fenceBlock_hdrs cause h1 h2
  unfold State.fenced
  rw [hf, entry_updAt f _ _ _ (by rw [hs.hdrs]; exact region.isLt), e]
  exact testBit_setBit ..
theorem sf1Set_mode (v : State) (a b : Nat) (h : v.mode.mode ≠ .forming) : (v.sf1Set a b).mode.mode = v.mode.mode := by
  have hc : ∀ v : State, v.cancelPending.mode.mode = v.mode.mode := by
    intro v; unfold State.cancelPending; split
    · rfl
    · simp
  unfold State.sf1Set
  dsimp only
  split
  · rw [if_neg]
    · rw [hc, State.note_mode]; rfl
    · rw [hc, State.note_mode]; simpa using h
  · split
    · rw [State.note_mode]; rfl
    · rfl
theorem fnDown_keepsMode (u : State) (m : Fn) (h : u.mode.mode ≠ .forming) : (u.fnDown m).mode.mode = u.mode.mode := by
  have hr : ∀ v : State, ∀ a b, (v.releaseSet a b).mode = v.mode := fun v a b => State.releaseSet_keeps.same .mode rfl
  have h2 : ∀ v : State, ∀ a b, (v.sf2Set a b).mode = v.mode := fun v a b => State.sf2Set_keeps.same .mode rfl
  unfold State.fnDown
  cases m <;> dsimp only <;> first | rfl | skip
  unfold State.safetyDown
  rw [State.mapSafe_mode, h2, sf1Set_mode _ _ _ (by rw [hr]; exact h), hr]
theorem faultOne_keepsMode (u : State) (m : Fn) (h : u.mode.mode ≠ .forming) : (u.faultOne m).mode.mode = u.mode.mode := by
  have e : (if m == Fn.trunk then { u with cell := { u.cell with final := u.sending } } else u).mode = u.mode := by split <;> rfl
  unfold State.faultOne
  split
  · rfl
  · dsimp only
    rw [State.setRun_mode, fnDown_keepsMode _ _ (by rw [e]; exact h), e]
theorem faultFn_keepsMode (u : State) (n : Fn) (h : u.mode.mode ≠ .forming) : (u.faultFn n).mode.mode = u.mode.mode := by
  unfold State.faultFn
  have : ∀ (l : List Fn) (v : State), v.mode.mode ≠ .forming → (l.foldl (fun s m => s.faultOne m) v).mode.mode = v.mode.mode := by
    intro l
    induction l with
    | nil => intro v _; rfl
    | cons a l ih => intro v h; exact (ih _ (by rw [faultOne_keepsMode v a h]; exact h)).trans (faultOne_keepsMode v a h)
  rw [this _ _ (by rw [faultOne_keepsMode u n h]; exact h), faultOne_keepsMode u n h]
theorem enterSafe_mode (s : State) : s.enterSafe.mode.mode = .safe := by
  unfold State.enterSafe
  split
  · rename_i h; simpa using h
  · rename_i h
    dsimp only
    have k : (State.setMode { s with mode := { s.mode with pend := none, blockCol := true } } .safe 0).mode.mode = .safe :=
      (setMode_mode _ _ _ (open_safe (s := { s with mode := { s.mode with pend := none, blockCol := true } }) (by simpa using h))).1
    have e : ∀ u : State, u.spnStop.mode.mode = u.mode.mode := fun _ => rfl
    rw [e, faultFn_keepsMode]
    · exact k
    · rw [k]; decide
theorem escalate_safe {s : State} (h : s.mode.mode ≠ .safe) (i : Nat) : (s.escalate i).mode.mode = .safe ∧ (s.escalate i).fab.escalation = i := by
  unfold State.escalate
  rw [if_neg (by simpa using h)]
  dsimp only
  refine ⟨by unfold State.safeFault; exact enterSafe_mode _, ?_⟩
  rw [State.safeFault_keeps.same .fab rfl]
  rfl
theorem command_putPin {s : State} (hs : s.Shape) (p : Fin 32) (x : Pin) (h : x.cmd = (s.pin p.val).cmd) : (s.putPin p.val x).command p.val = s.command p.val := by
  unfold State.command
  rw [pin_putPin hs, h]
  rfl
theorem drained_same {s : State} (h1 : s.recd.restoring = none) (h2 : s.recd.dropEpisode = 0) : s.drained = s := by
  unfold State.drained
  dsimp only
  rw [if_neg (by rw [h2]; simp)]
  rw [h1]
theorem cellAt_cell {u v : State} (h : u.cell = v.cell) (c : Nat) : u.cellAt c = v.cellAt c := by unfold State.cellAt; rw [h]
theorem frame_push (c d : Nat) (x : Int) {s u : State} (hm : ∀ (u : State) f, u.ain d = s.ain d → (u.mapAin c f).ain d = s.ain d) (k : u.ain d = s.ain d) :
    (u.push c x).ain d = s.ain d := hm _ _ k
theorem frame_compare (c d : Nat) {s u : State} (hm : ∀ (u : State) f, u.ain d = s.ain d → (u.mapAin c f).ain d = s.ain d)
    (hs : ∀ (u v : State), v.sense = u.sense → u.ain d = s.ain d → v.ain d = s.ain d) (k : u.ain d = s.ain d) :
    (u.compare c).ain d = s.ain d := by
  have hx : ∀ (u : State) t, u.ain d = s.ain d → (u.cross c t).ain d = s.ain d := by
    intro u t k
    unfold State.cross
    dsimp only
    split
    · exact hs _ _ ((State.blockSpan_keeps.same .sense rfl).trans (State.offer_sense ..)) (hm _ (fun a => { a with lCmp := true, cmpOn := a.cmpOn || u.CMP_ACTION c == 2 }) k)
    · exact hs _ _ (State.warnKeep_sense ..) (hm _ _ k)
  have hc : (u.cmpRuns c).ain d = s.ain d := by
    unfold State.cmpRuns
    dsimp only
    split
    · exact hs _ _ (State.warnOff_sense ..) (hm _ _ k)
    · exact hm _ _ k
  unfold State.compare
  dsimp only
  generalize u.cmpRuns c = v at *
  split
  · exact hx _ _ (hm _ _ hc)
  · split
    · exact hx _ _ (hm _ _ hc)
    · exact hc
theorem frame_testJudge (c d : Nat) (x p : Int) {s u : State} (hm : ∀ (u : State) f, u.ain d = s.ain d → (u.mapAin c f).ain d = s.ain d)
    (hs : ∀ (u v : State), v.sense = u.sense → u.ain d = s.ain d → v.ain d = s.ain d) (k : u.ain d = s.ain d) :
    (u.testJudge c x p).ain d = s.ain d := by
  unfold State.testJudge
  dsimp only
  split
  · split
    · exact hs _ _ (State.note_sense ..) (hm _ _ (hm _ _ k))
    · exact hm _ _ k
  · split
    · exact hs _ _ (State.warnOn_sense ..) (hm _ _ (hm _ _ k))
    · exact hm _ _ k
theorem foldl_ind {α β : Type} {P : β → Prop} (f : β → α → β) (hf : ∀ b a, P b → P (f b a)) (l : List α) (b : β) (h : P b) : P (l.foldl f b) := by
  induction l generalizing b with
  | nil => exact h
  | cons a l ih => exact ih _ (hf _ _ h)
theorem warnOff_mode1 (u : State) (a b : Nat) : (u.warnOff a b).mode.mode = u.mode.mode := rfl
theorem offs1 (l : List Nat) (s : State) : (l.foldl (fun s k => s.warnOff 0x4032 k) s).mode.mode = s.mode.mode := by
  induction l generalizing s with
  | nil => rfl
  | cons a l ih => rw [List.foldl_cons, ih, warnOff_mode1]
theorem offs2 (l : List Nat) (s : State) :
    (l.foldl (fun s c => ((s.warnOff 0x4020 c).warnOff 0x4021 c).warnOff 0x4023 c) s).mode.mode = s.mode.mode := by
  induction l generalizing s with
  | nil => rfl
  | cons a l ih => rw [List.foldl_cons, ih, warnOff_mode1, warnOff_mode1, warnOff_mode1]
theorem drained_mode (u : State) : u.drained.mode = u.mode := State.drained_keeps.same .mode rfl
theorem putPll_mode (u : State) (i : Nat) (p : Pll) : (u.putPll i p).mode = u.mode := State.putPll_keeps.same .mode rfl
theorem putR_mode1 (u : State) (r : Int) : (u.putR r).mode.mode = u.mode.mode := by
  unfold State.putR
  dsimp only
  split
  · exact warnOn_mode1 ..
  · rfl
theorem acquire_mode1 (u : State) (i : Nat) : (u.acquire i).mode.mode = u.mode.mode := by
  unfold State.acquire
  dsimp only
  split
  · rw [warnKeep_mode, warnOff_mode1, putPll_mode]
  · rw [warnOff_mode1, warnOff_mode1, putPll_mode]
theorem clkCommit_mode1 (u : State) (b : Bool) : (u.clkCommit b).mode.mode = u.mode.mode := by
  unfold State.clkCommit
  dsimp only
  refine ite_ind (P := fun v : State => v.mode.mode = u.mode.mode) ?_ rfl
  unfold State.commitNow
  dsimp only
  refine foldl_ind (P := fun v : State => v.mode.mode = u.mode.mode) _ (fun v i h => ?_) _ _ ?_
  · refine ite_ind (P := fun w : State => w.mode.mode = u.mode.mode) h ?_
    rw [acquire_mode1, State.putPll_keeps.same .mode rfl]; exact h
  · exact congrArg ModeState.mode (ite_ind (P := fun v : State => v.mode = u.mode) rfl rfl)
theorem servoFree_mode1 (u : State) : u.servoFree.mode.mode = u.mode.mode := by
  unfold State.servoFree
  split
  · rfl
  · exact putR_mode1 ..
theorem setRoles_mode1 (u : State) : u.setRoles.mode.mode = u.mode.mode := by
  have hp : ∀ (v : State) p st, (v.showPort p st).mode = v.mode := fun v p st => State.showPort_keeps.same .mode rfl
  have hg : ∀ (v : State) g, (v.setGm g).mode = v.mode := fun v g => State.setGm_keeps.same .mode rfl
  have hs : ∀ (v : State) p, (v.setSlave p).mode = v.mode := fun v p => State.setSlave_keeps.same .mode rfl
  unfold State.setRoles
  split
  · rename_i p _
    have e : ∀ v : State, (if v.time.slaveLost.isSome then (v.showPort .a .passive).showPort .b .passive else v.setSlave p).mode.mode = v.mode.mode := by
      intro v
      split
      · rw [hp, hp]
      · rw [hs]
    refine (e _).trans ?_
    split
    · rw [hg]
    · rfl
  · dsimp only
    split
    · rw [servoFree_mode1, hg, hp, hp]
    · split
      · rw [servoFree_mode1, hp, hp]
      · rw [hp, hp]
theorem trunkWells_mode1 (l : List Nat) (s : State) : (l.foldl (fun s q => s.trunkWell q) s).mode.mode = s.mode.mode := by
  induction l generalizing s with
  | nil => rfl
  | cons a l ih => rw [List.foldl_cons, ih]; rfl
theorem pllLock_mode1 (u : State) (i : Nat) : (u.pllLock i).mode.mode = u.mode.mode := by
  unfold State.pllLock
  dsimp only
  split
  · rw [State.clockSettle_keeps.same .mode rfl, State.note_mode, warnOff_mode1, warnOff_mode1, putPll_mode]
  · rfl
theorem acqNext_mode1 (u : State) (i : Nat) : (u.acqNext i).mode.mode = u.mode.mode := by
  unfold State.acqNext
  dsimp only
  split
  · split
    · exact congrArg ModeState.mode (State.putPll_keeps.same .mode rfl)
    · rw [State.clockSettle_keeps.same .mode rfl, warnKeep_mode, warnOff_mode1, putPll_mode]
  · rfl
theorem acqRun_mode1 (n i : Nat) (u : State) : (u.acqRun i n).mode.mode = u.mode.mode := by
  induction n generalizing u with
  | zero => exact pllLock_mode1 u i
  | succ n ih => exact (ih _).trans (acqNext_mode1 u i)
theorem bringUp_mode1 (u : State) (n : Fn) : (u.bringUp n).mode.mode = u.mode.mode := by
  cases n with
  | form => exact congrArg ModeState.mode (State.formUp_keeps.same .mode rfl)
  | arm =>
    show u.armUp.mode.mode = _
    unfold State.armUp
    rw [State.setRun_mode]; rfl
  | select => exact congrArg ModeState.mode ((State.setRun_keeps.same .mode rfl).trans (State.selectUp_keeps.same .mode rfl))
  | trunk =>
    show (u.trunkUp.setRun .trunk .running).mode.mode = _
    rw [State.setRun_mode]
    unfold State.trunkUp
    dsimp only
    rw [State.trunksTrain_keeps.same .mode rfl, trunkWells_mode1]
  | field => exact congrArg ModeState.mode (State.fieldUp_keeps.same .mode rfl)
  | safety => exact congrArg ModeState.mode (State.safetyUp_keeps.same .mode rfl)
  | time =>
    show u.timeUp.mode.mode = _
    unfold State.timeUp
    dsimp only
    rw [setRoles_mode1]
    refine ite_ind (P := fun v : State => v.mode.mode = u.mode.mode) ?_ (by rw [State.setRun_mode])
    unfold State.timeOnBackup
    refine ite_ind (P := fun v : State => v.mode.mode = u.mode.mode) ?_ (by rw [State.setRun_mode])
    rw [warnOn_mode1]
    exact (servoFree_mode1 _).trans (by rw [State.setRun_mode])
  | clock =>
    show u.clockUp.mode.mode = _
    unfold State.clockUp
    rw [State.clockSettle_keeps.same .mode rfl, clkCommit_mode1]
  | record =>
    show (u.recordUp.setRun .record .running).mode.mode = _
    rw [State.setRun_mode]
    unfold State.recordUp
    dsimp only
    rw [drained_mode]
  | sense =>
    show u.senseUp.mode.mode = _
    unfold State.senseUp
    dsimp only
    rw [State.convsFirst_keeps.same .mode rfl]; rfl
theorem startDone_mode1 (u : State) (n : Fn) (b : Bool) : (u.startDone n b).mode.mode = u.mode.mode := by
  unfold State.startDone
  dsimp only
  refine ite_ind (P := fun v : State => v.mode.mode = u.mode.mode) ?_ rfl
  have hc : ∀ c, (if n == .form then ((u.setDue n false).setCheck n c).noteLimits c else (u.setDue n false).setCheck n c).mode.mode = u.mode.mode := by
    intro c
    refine ite_ind (P := fun v : State => v.mode.mode = u.mode.mode) ?_ ?_
    · rw [State.noteLimits_keeps.same .mode rfl, State.setCheck_keeps.same .mode rfl, State.setDue_keeps.same .mode rfl]
    · rw [State.setCheck_keeps.same .mode rfl, State.setDue_keeps.same .mode rfl]
  refine ite_ind (P := fun v : State => v.mode.mode = u.mode.mode) ?_ ?_
  · rw [bringUp_mode1]; exact hc _
  · rw [State.offer_keeps.same .mode rfl, State.setRun_keeps.same .mode rfl]; exact hc _
theorem retires_mode1 (l : List Nat) (u : State) : (l.foldl (fun s k => s.retire k) u).mode.mode = u.mode.mode := by
  induction l generalizing u with
  | nil => rfl
  | cons a l ih =>
    rw [List.foldl_cons, ih]
    unfold State.retire
    dsimp only
    rw [warnOn_mode1]
    rfl
theorem foreground_mode1 (u : State) (l : List (Option (Int × Int))) : (u.foreground l).mode.mode = u.mode.mode := by
  unfold State.foreground
  dsimp only
  have e : ∀ v : State, (v.note 0x4033 []).senseRuns.mode.mode = v.mode.mode := fun v => by
    rw [State.senseRuns_keeps.same .mode rfl, State.note_mode]
  split
  · rw [e]; rfl
  · unfold State.rotationOff
    rw [warnOn_mode1]
    exact (retires_mode1 ..).trans (e _)
theorem coeffsRead_mode1 (u : State) (t : Int) : (u.coeffsRead t).mode.mode = u.mode.mode := by
  unfold State.coeffsRead
  dsimp only
  split
  · rw [State.senseRuns_keeps.same .mode rfl, State.setCoeffs_keeps.same .mode rfl]; rfl
  · split
    · rfl
    · rw [State.convsFirst_keeps.same .mode rfl]; rfl
theorem bootStart_mode1 (u : State) (x : BootIn) (n : Fn) : (u.bootStart x n).mode.mode = u.mode.mode := by
  unfold State.bootStart
  dsimp only
  refine ite_ind (P := fun v : State => v.mode.mode = u.mode.mode) ?_ rfl
  have e : (((u.setDue n true).setRun n .starting).startDone n x.memOk).mode.mode = u.mode.mode := by
    rw [startDone_mode1, State.setRun_keeps.same .mode rfl, State.setDue_keeps.same .mode rfl]
  generalize ((u.setDue n true).setRun n .starting).startDone n x.memOk = w at *
  cases n with
  | clock => exact foldl_ind (P := fun v : State => v.mode.mode = u.mode.mode) _ (fun b a h => (acqRun_mode1 ..).trans h) _ _ e
  | sense =>
    dsimp only
    have e1 := (coeffsRead_mode1 w x.temp).trans e
    exact ite_ind (P := fun v : State => v.mode.mode = u.mode.mode) (ite_ind (P := fun v : State => v.mode.mode = u.mode.mode) ((foreground_mode1 ..).trans e1) e1) e
  | form => exact e
  | arm => exact e
  | select => exact e
  | trunk => exact e
  | field => exact e
  | safety => exact e
  | time => exact e
  | record => exact e
theorem loadConfig_mode1 (u : State) : u.loadConfig.mode.mode = u.mode.mode := by
  unfold State.loadConfig
  split
  · split <;> rfl
  · rfl
theorem loadProt_mode1 (u : State) : u.loadProt.mode.mode = u.mode.mode := by
  have e : ∀ (l : List Nat) (v : State), (l.foldl (fun s i => s.setObj 0x6200 (i + 1) 0 (.num (entry u.safe.prot.stored i 0))) v).mode = v.mode := by
    intro l
    induction l with
    | nil => intro v; rfl
    | cons a l ih => intro v; rw [List.foldl_cons, ih]; rfl
  unfold State.loadProt
  dsimp only
  split
  · rw [e]
  · rw [warnOn_mode1, e]
theorem wakePlls_mode1 (u : State) (x : BootIn) : (u.wakePlls x).mode.mode = u.mode.mode := by
  have e : ∀ (v : State) (i n : Nat) (p : Pll), ((v.putPll i p).acqRun i n).mode.mode = v.mode.mode := fun v i n p =>
    (acqRun_mode1 ..).trans (congrArg ModeState.mode (State.putPll_keeps.same .mode rfl))
  unfold State.wakePlls
  dsimp only
  rw [e, e, e, e]
theorem wake_mode1 (u : State) (x : BootIn) (a : Bool) (b : Option CkptBuf) : (u.wake x a b).mode.mode = u.mode.mode := by
  unfold State.wake
  dsimp only
  rw [State.mapSpn_keeps.same .mode rfl, State.wakeDelays_keeps.same .mode rfl]
  refine foldl_ind (P := fun v : State => v.mode.mode = u.mode.mode) _ (fun b a h => (bootStart_mode1 ..).trans h) _ _ ?_
  cases b with
  | none =>
    dsimp only
    rw [State.mapFieldS_mode, wakePlls_mode1, loadProt_mode1, loadConfig_mode1, State.powerOn_keeps.same .mode rfl]
  | some b =>
    dsimp only
    rw [State.mergeMarks_keeps.same .mode rfl, State.mapFieldS_mode, wakePlls_mode1, loadProt_mode1, loadConfig_mode1, State.powerOn_keeps.same .mode rfl]
theorem findIdx?_none_at {l : List Bool} (h : l.findIdx? (fun r => !r) = none) (x : Bool) (hx : x ∈ l) : x = true := by
  rw [List.findIdx?_eq_none_iff] at h
  simpa using h x hx
theorem firstFail_zero {l : List Bool} (h : firstFail l = 0) (x : Bool) (hx : x ∈ l) : x = true := by
  unfold firstFail at h
  split at h
  · omega
  · rename_i e
    exact findIdx?_none_at e x hx
theorem handFails_mode {s : State} (h : s.handFails = 0) : s.mode.mode = .blocked ∨ s.mode.mode = .forming := by
  unfold State.handFails at h
  have k := firstFail_zero h ((s.mode.mode == .blocked || (s.mode.mode == .forming && s.mode.sub == 3)) && s.noTrip) (by simp)
  simp only [Bool.and_eq_true, Bool.or_eq_true, beq_iff_eq] at k
  rcases k.1 with k | k
  · exact .inl k
  · exact .inr k.1
theorem val_setObj_other {s : State} {j k d idx sub chan : Nat} (h : objKey j k d ≠ objKey idx sub chan) (v : Val) :
    (s.setObj idx sub chan v).val j k d = s.val j k d := tget_tput_other objDefault s.objs v h
theorem putObj_other {s : State} {j k d : Nat} {e : WEntry} (h : objKey j k d ≠ objKey e.index e.sub e.chan) (c : Caller) :
    (s.putObj c e).val j k d = s.val j k d := by
  unfold State.putObj
  dsimp only
  refine ite_ind (P := fun v : State => v.val j k d = s.val j k d) ?_ (ite_ind (P := fun v : State => v.val j k d = s.val j k d) ?_ (val_setObj_other h _))
  · exact (val_objs (by unfold State.protWritten State.privNote; simp) _ _ _).trans (val_setObj_other (s := s) h e.val)
  · exact (val_objs (by unfold State.safetyWritten; simp) _ _ _).trans (val_setObj_other (s := s) h e.val)
theorem completes_all {c : Instr} {s : State} {α : Type} {P : α → State → Prop} (hx : ∃ t, exec c s = .next t)
    (h : ∀ a, Completes c s (P a)) : Completes c s (fun t => ∀ a, P a t) := by
  obtain ⟨t, e⟩ := hx
  refine ⟨t, e, fun a => ?_⟩
  obtain ⟨u, eu, p⟩ := h a
  rw [e] at eu
  injection eu with eu
  exact eu ▸ p
theorem completes_when {c : Instr} {s : State} {H : Prop} {P : State → Prop} (hx : ∃ t, exec c s = .next t)
    (h : H → Completes c s P) : Completes c s (fun t => H → P t) := by
  obtain ⟨t, e⟩ := hx
  refine ⟨t, e, fun a => ?_⟩
  obtain ⟨u, eu, p⟩ := h a
  rw [e] at eu
  injection eu with eu
  exact eu ▸ p
theorem completes_and {c : Instr} {s : State} {P Q : State → Prop} (h : Completes c s P) (k : Completes c s Q) :
    Completes c s (fun t => P t ∧ Q t) := by
  obtain ⟨t, e, p⟩ := h
  obtain ⟨u, eu, q⟩ := k
  rw [e] at eu
  injection eu with eu
  exact ⟨t, e, p, eu ▸ q⟩

end Sys2Proof.Machine
end

