-- ==== Sys2Proof/Laws/Effect01.lean ====
section
/-! SUPPORT. One lemma per command: that it runs, on which states, and what it leaves. -/
namespace Sys2Proof.Machine

set_option Elab.async false
set_option linter.all false

/-- PS_DATAGRAM (R39). -/
theorem psDatagram_effect :
  ∀ (s : State) (port : Side) (rct : Option (Nat × Nat)) (src sport dst : Nat) (data : List Nat),
    (s.ingress port rct .ps 1).1 = true → s.fenced 4 5 = false → s.datagramOk data = true → s.tagOk data = true → numAt data 0 1 = 1 →
    knownCode (numAt data 1 1) = true → s.ps.exec = none → s.ps.queue = [] →
    (numAt data 8 4 = 0 ∨ ∃ x, s.session (numAt data 8 4) = some x ∧ x.counter < numAt data 12 4) →
    Completes (.psDatagram ⟨port, dst⟩ rct src sport data) s (fun t => ∃ r, t.ps.queue = [r] ∧ r.code = numAt data 1 1 ∧ r.trans = numAt data 2 2 ∧
      r.session = numAt data 8 4 ∧ r.counter = numAt data 12 4 ∧ r.src = src ∧ r.sport = sport ∧ r.dst = dst ∧ r.port = port ∧
      r.payload = sliceOf data 16 (numAt data 6 2)) := by
  intro s port rct src sport dst data h1 h2 h3 h3' h4 h6 h7 h8 h9
  simp only [Completes, exec, execPsDatagram, Host.Outcome.next.injEq, exists_eq_left']
  generalize hi : s.ingress port rct .ps 1 = x at *
  obtain ⟨k, u⟩ := x
  have hu : Keeps 0x280000 s u := Keeps.via (keeps_snd hi State.ingress_keeps) (by decide) Keeps.refl
  have e4 : u.ps = s.ps := hu.same .ps rfl
  have e1 : u.fenced 4 5 = false := by have := hu.same .hdrs rfl; simp only [Part.same] at this; unfold State.fenced at *; rw [this]; exact h2
  have e2 : u.datagramOk data = true := by have := hu.same .device rfl; simp only [Part.same] at this; unfold State.datagramOk at *; rw [this]; exact h3
  have e3 : u.tagOk data = true := by unfold State.tagOk State.session at *; rw [e4]; exact h3'
  have e5 : ∀ i, u.session i = s.session i := fun i => by unfold State.session; rw [e4]
  simp only at h1
  subst h1
  simp only [e1, e2, e3, h4, Bool.not_true, Bool.or_self, if_true, bne_self_eq_false, Bool.false_eq_true, if_false]
  have key : ∀ v : State, v.ps.exec = none → v.ps.queue = [] → (∀ i, v.session i = s.session i) →
      ∃ r, (v.takeRequest (v.requestOf port src sport dst data)).ps.queue = [r] ∧ r.code = numAt data 1 1 ∧ r.trans = numAt data 2 2 ∧
      r.session = numAt data 8 4 ∧ r.counter = numAt data 12 4 ∧ r.src = src ∧ r.sport = sport ∧ r.dst = dst ∧ r.port = port ∧
      r.payload = sliceOf data 16 (numAt data 6 2) := by
    intro v hv1 hv2 hv3
    refine ⟨v.requestOf port src sport dst data, ?_, rfl, rfl, rfl, rfl, rfl, rfl, rfl, rfl, rfl⟩
    rcases h9 with h5 | ⟨x, hx, hc⟩
    · exact takeRequest_fresh h5 hv1 hv2 h6
    · exact takeRequest_next (x := x) ((hv3 _).trans hx) hc hv1 hv2 h6
  by_cases h5 : numAt data 8 4 = 0
  · rw [if_pos h5]
    have hp : (u.touchClient src sport).ps.exec = none ∧ (u.touchClient src sport).ps.queue = [] ∧ (u.touchClient src sport).ps.sessions = s.ps.sessions := by
      unfold State.touchClient State.mapClient; dsimp only; split <;> simp [e4, h7, h8]
    exact key _ hp.1 hp.2.1 (fun i => by unfold State.session; rw [hp.2.2])
  · rw [if_neg h5]
    exact key u (by rw [e4]; exact h7) (by rw [e4]; exact h8) e5

/-- READ (R42). -/
theorem readRequest_effect :
  ∀ (s : State) (r : Request) (es : List (Nat × Nat × List Nat)), s.sole r 1 → entryList r.payload = some es →
    Completes .readRequest s (fun t => answered s t r (readAnswer
      (State.readList r.caller es 0 (stOk, 255) [] s.popHead).1 es.length
      (State.readList r.caller es 0 (stOk, 255) [] s.popHead).2.1)) := by
  intro s r es h e
  simp only [Completes, exec, execReadRequest, begin_sole h (by decide), Host.Outcome.next.injEq, exists_eq_left']
  have hq := (readList_queue r.caller es 0 (stOk, 255) [] s.popHead).trans (popHead_queue h)
  have hk := State.readList_keeps (c := r.caller) (es := es) (pos := 0) (f := (stOk, 255)) (out := []) (s := s.popHead)
  unfold State.doRead
  rw [e]
  dsimp only
  generalize State.readList r.caller es 0 (stOk, 255) [] s.popHead = x at *
  obtain ⟨f, out, u⟩ := x
  exact answered_keeps h hq hk rfl rfl rfl rfl rfl ⟨rfl, rfl, rfl, rfl, rfl⟩

/-- READ_BLOCK (R55). -/
theorem readBlock_effect :
  ∀ (s : State) (r : Request) (idx sub cnt : Nat), s.sole r 3 → blockEntry r.payload = some (idx, sub, cnt, []) →
    Completes .readBlock s (fun t => answered s t r (readAnswer
      (State.readBlockList r.caller r.sel idx cnt sub 0 (stOk, 255) [] s.popHead).1 cnt
      (State.readBlockList r.caller r.sel idx cnt sub 0 (stOk, 255) [] s.popHead).2.1)) := by
  intro s r idx sub cnt h e
  simp only [Completes, exec, execReadBlock, begin_sole h (by decide), Host.Outcome.next.injEq, exists_eq_left']
  have hq := (readBlockList_queue r.caller r.sel idx cnt sub 0 (stOk, 255) [] s.popHead).trans (popHead_queue h)
  have hk := State.readBlockList_keeps (c := r.caller) (sel := r.sel) (idx := idx) (n := cnt) (sub := sub) (pos := 0) (f := (stOk, 255)) (out := []) (s := s.popHead)
  unfold State.doReadBlock
  rw [e]
  dsimp only
  generalize State.readBlockList r.caller r.sel idx cnt sub 0 (stOk, 255) [] s.popHead = x at *
  obtain ⟨f, out, u⟩ := x
  exact answered_keeps h hq hk rfl rfl rfl rfl rfl ⟨rfl, rfl, rfl, rfl, rfl⟩

/-- WRITE (R50). -/
theorem writeRequest_effect :
  ∀ (s u : State) (r : Request) (x : Session) (es : List (Nat × Nat × List Nat)), s.ps.exec = none → s.ps.queue = [r] → r.code = 2 →
    r.session ≠ 0 → s.session r.session = some x → x.counter < r.counter → entryList r.payload = some es →
    s.popHead.writeAll r.caller (s.popHead.levelOf r.caller) none es = (stOk, 255, u, []) → u.ps = s.popHead.ps → u.netUp r.port = true →
    u.mode.mode ≠ .boot → u.stillOwed (namesOf es) = none → (namesOf es).contains (0x9001, 1) = false →
    Completes .writeRequest s (fun t => t.objs = u.objs ∧ t.ps.queue = [] ∧
      t.tx = .service r.port r.dst r.src r.sport (responseBytes u.device r r.key (answerBytes stOk 255 0 [])) :: u.tx) := by
  intro s u r x es h1 h2 h3 h4 h5 h6 e hw hp hn hm ho hk
  have hb : s.begin 2 = some (r, s.popHead) := by
    have hd : State.drain 17 s = s := by
      unfold State.drain; rw [h1, h2]; dsimp only; rw [h5]
      simp [h4, Session.judge, h6, h3, knownCode]
    unfold State.begin; rw [hd]; simp [State.head, h1, h2, h3]
  have hr : wasReset s.popHead u = false := by simp [wasReset, hm]
  have hq : u.ps.queue = [] := by rw [hp]; simp [State.popHead, h2]
  simp only [Completes, exec, execWriteRequest, hb, Host.Outcome.next.injEq, exists_eq_left', e]
  unfold State.doWrite
  dsimp only
  rw [hw]
  dsimp only
  have hn' : (u.mapPs (fun p => { p with exec := none })).netUp r.port = true := hn
  simp only [hr, ho, State.endOwner, hk]
  unfold State.finish State.executed
  simp only [h4, if_false]
  simp only [bne_self_eq_false, List.isEmpty_nil, Bool.not_true, Bool.false_eq_true, if_false]
  unfold State.sendResponse State.emitNet
  simp only [hn', if_true]
  rw [drain_nil _ _ (by simp [State.mapSession, hq])]
  exact ⟨by simp [State.mapSession], by simp [State.mapSession, hq], by simp [State.mapSession]⟩

/-- WRITE_BLOCK (R55). -/
theorem writeBlock_effect :
  ∀ (s u : State) (r : Request) (x : Session) (es : List (Nat × Nat × List Nat)), s.ps.exec = none → s.ps.queue = [r] → r.code = 4 →
    r.session ≠ 0 → s.session r.session = some x → x.counter < r.counter → blockWrites r.payload = some es →
    s.popHead.writeAll r.caller (s.popHead.levelOf r.caller) (some r.sel) es = (stOk, 255, u, []) → u.ps = s.popHead.ps → u.netUp r.port = true →
    u.mode.mode ≠ .boot → u.stillOwed (namesOf es) = none → (namesOf es).contains (0x9001, 1) = false →
    Completes .writeBlock s (fun t => t.objs = u.objs ∧ t.ps.queue = [] ∧
      t.tx = .service r.port r.dst r.src r.sport (responseBytes u.device r r.key (answerBytes stOk 255 0 [])) :: u.tx) := by
  intro s u r x es h1 h2 h3 h4 h5 h6 e hw hp hn hm ho hk
  have hb : s.begin 4 = some (r, s.popHead) := by
    have hd : State.drain 17 s = s := by
      unfold State.drain; rw [h1, h2]; dsimp only; rw [h5]
      simp [h4, Session.judge, h6, h3, knownCode]
    unfold State.begin; rw [hd]; simp [State.head, h1, h2, h3]
  have hr : wasReset s.popHead u = false := by simp [wasReset, hm]
  have hq : u.ps.queue = [] := by rw [hp]; simp [State.popHead, h2]
  simp only [Completes, exec, execWriteBlock, hb, Host.Outcome.next.injEq, exists_eq_left', e]
  unfold State.doWrite
  dsimp only
  rw [hw]
  dsimp only
  have hn' : (u.mapPs (fun p => { p with exec := none })).netUp r.port = true := hn
  simp only [hr, ho, State.endOwner, hk]
  unfold State.finish State.executed
  simp only [h4, if_false]
  simp only [bne_self_eq_false, List.isEmpty_nil, Bool.not_true, Bool.false_eq_true, if_false]
  unfold State.sendResponse State.emitNet
  simp only [hn', if_true]
  rw [drain_nil _ _ (by simp [State.mapSession, hq])]
  exact ⟨by simp [State.mapSession], by simp [State.mapSession, hq], by simp [State.mapSession]⟩

/-- DESCRIBE (R56). -/
theorem describeRequest_effect :
  ∀ (s : State) (r : Request) (idx sub : Nat) (o : ObjRow), s.sole r 5 → describeEntry r.payload = some (idx, sub) →
    findObj idx sub = some o →
    Completes .describeRequest s (fun t => answered s t r (answerBytes stOk 255 1
      (entryBytes stOk (describeBytes o idx sub ((s.selectsOf r.caller).chan idx))))) := by
  intro s r idx sub o h e ho
  simp only [Completes, exec, execDescribeRequest, begin_sole h (by decide), Host.Outcome.next.injEq, exists_eq_left']
  unfold State.doDescribe
  simp only [e, ho]
  exact answered_keeps (m := 0) h (popHead_queue h) (v := s.popHead) Keeps.refl rfl rfl rfl rfl rfl (by decide)

/-- HELLO (R483). -/
theorem helloRequest_effect :
  ∀ (s : State) (r : Request), s.sole r 0x10 → r.session = 0 → s.sessionStatus = stOk → r.payload.length = 128 →
    Completes .helloRequest s (fun t => (∃ p, answered s t r (answerBytes stOk 255 0 p)) ∧ ∃ h ∈ t.ps.hellos,
      h.clientNonce = r.payload.take 32 ∧ h.clientKey = r.payload.drop 32 ∧ h.at_ = s.now) := by
  intro s r h h0 hs hl
  have hs' : s.popHead.sessionStatus = stOk := hs
  simp only [Completes, exec, execHelloRequest, begin_sole h (by decide), Host.Outcome.next.injEq, exists_eq_left']
  unfold State.hello
  simp only [hs', hl, h0, bne_self_eq_false, Bool.false_or, Bool.false_eq_true, if_false, Bool.or_self, Ne, not_true]
  refine ⟨answered_some h ?_ ?_ ?_ ?_ ?_ ?_, ?_⟩
  · simp [State.grantSession, popHead_queue h]
  · simp [State.grantSession, State.popHead]
  · simp [State.grantSession, State.popHead]
  · simp [State.grantSession, State.popHead]
  · simp [State.grantSession, State.popHead]
  · simp [State.grantSession, State.popHead]
  · rw [finish_empty (by simp [State.grantSession, popHead_queue h]), executed_zero h0]
    simp only [State.sendResponse_ps, State.mapPs_ps]
    exact ⟨_, List.mem_append_right _ (List.mem_singleton.2 rfl), rfl, rfl, rfl⟩

/-- OPEN (R484). -/
theorem openSession_effect :
  ∀ (s : State) (r : Request), s.sole r 0x11 → r.session = 0 → s.sessionStatus = stOk → r.payload.length = 368 → s.ps.sessions.length < 8 →
    Completes .openSession s (fun t => ∀ h, s.openCheck r.payload = (0, some h) →
      (∃ p, answered s t r (answerBytes stOk 255 0 p)) ∧ ∃ x, t.ps.sessions = s.ps.sessions ++ [x] ∧
        x.level = numAt (sliceOf r.payload 32 240) 1 1 ∧ x.opened = s.now ∧
        x.expiry = min (numAt (sliceOf r.payload 32 240) 0x20 8) (s.time.sec + 86400)) := by
  intro s r h h0 hs hl hn
  refine completes_all ⟨_, rfl⟩ (fun x => completes_when ⟨_, rfl⟩ (fun hc => ?_))
  have hs' : s.popHead.sessionStatus = stOk := hs
  have hc' : s.popHead.openCheck r.payload = (0, some x) := hc
  have hn' : ¬ (8 ≤ s.popHead.ps.sessions.length) := Nat.not_le.2 hn
  simp only [Completes, exec, execOpenSession, begin_sole h (by decide), Host.Outcome.next.injEq, exists_eq_left']
  unfold State.openNow
  simp only [hs', hc', hl, hn', h0, bne_self_eq_false, Bool.false_or, Bool.false_eq_true, if_false, Bool.or_self, Ne, not_true]
  refine ⟨answered_some h ?_ ?_ ?_ ?_ ?_ ?_, ?_⟩
  · simp [State.grantSession, popHead_queue h]
  · simp [State.grantSession, State.popHead]
  · simp [State.grantSession, State.popHead]
  · simp [State.grantSession, State.popHead]
  · simp [State.grantSession, State.popHead]
  · simp [State.grantSession, State.popHead]
  · rw [finish_empty (by simp [State.grantSession, popHead_queue h]), executed_zero h0]
    simp only [State.sendResponse_ps, State.mapPs_ps]
    exact ⟨_, rfl, rfl, rfl, rfl⟩

/-- CLAIM (R488). -/
theorem claimOwner_effect :
  ∀ (s : State) (r : Request), s.sole r 0x13 → r.session = 0 → s.secUp = true → s.nvOk = true → s.mode.mode = .commission → s.sec.owner = none →
    r.payload.length = 256 → ownerOk r.payload = true →
    Completes .claimOwner s (fun t => answered s t r (answerBytes stOk 255 0 []) ∧ t.sec.owner = some r.payload) := by
  intro s r h h0 h1 h2 h3 h4 h5 h6
  have e1 : s.popHead.secUp = true := h1
  have e2 : s.popHead.nvOk = true := h2
  have e3 : s.popHead.mode.mode = .commission := h3
  have e4 : s.popHead.sec.owner = none := h4
  simp only [Completes, exec, execClaimOwner, begin_sole h (by decide), Host.Outcome.next.injEq, exists_eq_left']
  unfold State.claim
  simp only [e1, e2, e3, e4, h5, h6, h0, bne_self_eq_false, Bool.not_true, Bool.or_self, Bool.false_eq_true, if_false, Option.isSome_none]
  refine ⟨?_, ?_⟩
  · refine answered_finish h ?_ ?_ ?_ ?_ ?_ ?_
    all_goals simp only [State.note_ps, State.note_tx, State.note_device, State.note_fab, State.note_hdrs, State.note_pwr]
    all_goals first | exact popHead_queue h | rfl
  · rw [finish_empty (by simp only [State.note_ps]; exact popHead_queue h), executed_zero h0]
    simp

/-- CLOSE (R486). -/
theorem closeSession_effect :
  ∀ (s : State) (r : Request) (x : Session), s.ps.exec = none → s.ps.queue = [r] → r.code = 0x12 → r.session ≠ 0 →
    s.session r.session = some x → x.counter < r.counter → r.payload = [] → s.netUp r.port = true →
    Completes .closeSession s (fun t => t.session r.session = none ∧ t.ps.queue = [] ∧
      t.tx = .service r.port r.dst r.src r.sport (responseBytes s.device r r.key (answerBytes stOk 255 0 [])) :: s.tx) := by
  intro s r x h1 h2 h3 h4 h5 h6 h7 h8
  have hb : s.begin 0x12 = some (r, s.popHead) := by
    have hd : State.drain 17 s = s := by
      unfold State.drain; rw [h1, h2]; dsimp only; rw [h5]
      simp [h4, Session.judge, h6, h3, knownCode]
    unfold State.begin; rw [hd]; simp [State.head, h1, h2, h3]
  simp only [Completes, exec, execCloseSession, hb, Host.Outcome.next.injEq, exists_eq_left']
  simp only [h4, h7, List.isEmpty_nil, Bool.not_true, Bool.or_false, decide_false, Bool.false_eq_true, if_false]
  generalize hu : s.popHead.sessionEnd r.session 1 = u
  have hq : u.ps.queue = [] := by subst hu; unfold State.sessionEnd; split <;> simp [State.popHead, h2]
  have hs : u.session r.session = none := by subst hu; exact sessionEnd_session ..
  have hkp : Keeps _ s.popHead u := hu ▸ State.sessionEnd_keeps
  have hd : u.device = s.device := hkp.same .device rfl
  have ht : u.tx = s.tx := hkp.same .tx rfl
  have hf : u.fab = s.fab := hkp.same .fab rfl
  have hh : u.hdrs = s.hdrs := hkp.same .hdrs rfl
  have hw : u.pwr = s.pwr := hkp.same .pwr rfl
  have hn : u.netUp r.port = true := by unfold State.netUp State.powered State.fenced at *; rw [hf, hh, hw]; exact h8
  unfold State.finish State.executed
  simp only [h4, if_false]
  have hx : ∀ v : State, v.ps.sessions = u.ps.sessions → ∀ f : Session → Session, (∀ y, (f y).id = y.id) → (v.mapSession r.session f).session r.session = none := by
    intro v hv f hf
    have := hs
    unfold State.session State.mapSession at *
    simp only [State.mapPs_ps, hv]
    rw [List.find?_eq_none] at *
    intro y hy
    obtain ⟨z, hz, rfl⟩ := List.mem_map.1 hy
    have := this z hz
    split <;> simp_all
  have hn' : (u.mapPs (fun p => { p with exec := none })).netUp r.port = true := hn
  rw [drain_nil _ _ (by simp [State.mapSession, hq])]
  refine ⟨hx _ (by simp) _ (fun _ => rfl), by simp [State.mapSession, hq], ?_⟩
  simp only [State.mapSession, State.mapPs_tx]
  unfold State.sendResponse State.emitNet
  rw [hn']
  simp [ht, hd]

/-- STAGED_WRITE_APPLY (R50). -/
theorem stagedWriteApply_effect :
  (∀ (s : State) (r : Request) (ws : List WEntry), s.ps.exec = some ⟨r, .boundary ws⟩ → s.atEnd = true →
    Completes .stagedWriteApply s (fun t => t.edge = true ∧ t.ps.opened = true)) ∧
  (∀ (s u v : State) (r : Request) (ws : List WEntry), s.ps.exec = some ⟨r, .boundary ws⟩ → s.atEnd = true → s.advance.ctlUp = true →
    v = s.advance.boundaryRegs → v.ps.exec = some ⟨r, .boundary ws⟩ → v.published ws = true →
    v.applyStaged r.caller (v.levelOf r.caller) ws = (stOk, 255, u) → u.ps.queue = [] → u.netUp r.port = true → u.mode.mode ≠ .boot →
    u.stillOwed (ws.map (fun e => (e.index, e.sub))) = none → (ws.map (fun e => (e.index, e.sub))).contains (0x9001, 1) = false →
    Completes .stagedWriteApply s (fun t => answered u t r (answerBytes stOk 255 0 []) ∧ t.objs = u.objs)) := by
  refine ⟨fun s r ws h1 h2 => ?_, fun s u v r ws h1 h2 h2' hv h3 h4 h6 h7 h8 h9 h10 h11 => ?_⟩
  · simp only [Completes, exec, execStagedWriteApply, h1, h2, Host.Outcome.next.injEq, exists_eq_left', if_true]
    exact ⟨trivial, rfl⟩
  · have hr : wasReset v u = false := by simp [wasReset, h9]
    have hf : ∀ p, u.finish r r.key p = ((u.mapPs (fun p => { p with exec := none })).sendResponse r (responseBytes u.device r r.key p)).executed r (responseBytes u.device r r.key p) :=
      fun p => finish_empty h7
    simp only [Completes, exec, execStagedWriteApply, h1, h2, Host.Outcome.next.injEq, exists_eq_left', if_true]
    unfold State.openPeriod
    simp only [h2', if_true]
    unfold State.boundaryOpen
    rw [← hv]
    unfold State.stagedApply
    rw [h3]
    dsimp only
    rw [h4, h6]
    dsimp only
    have hn' : (u.mapPs (fun p => { p with exec := none })).netUp r.port = true := h8
    simp only [hr, h10, hf, State.endOwner, h11]
    unfold answered State.sendResponse State.emitNet State.executed
    by_cases h0 : r.session = 0
    · simp [hn', h7, h0]
    · simp [hn', h7, h0, State.mapSession]

/-- CLIENT_STATE_EXPIRY (R52). -/
theorem clientStateExpiry_effect :
  ∀ (s : State) (src sport : Nat),
    Completes (.clientStateExpiry src sport) s (fun t => ∀ c, c ∈ t.ps.clients ↔ c ∈ s.ps.clients ∧
      ¬(c.src = src ∧ c.sport = sport ∧ c.last + secs s.sec.sessionIdle ≤ s.now)) := by
  intro s src sport
  simp only [Completes, exec, execClientStateExpiry, Host.Outcome.next.injEq, exists_eq_left']
  intro c
  simp only [State.mapPs_ps, List.mem_filter, Bool.not_eq_true', ← not_and, and_assoc]
  refine and_congr_right (fun _ => ?_)
  simp

/-- SESSION_CLOSE (R486). -/
theorem sessionClose_effect :
  ∀ (s : State) (level : Nat) (id : BitVec 32), 3 ≤ level → s.mode.mode ≠ .boot → s.mode.mode ≠ .standby → s.mode.mode ≠ .safe →
    s.secUp = true → Completes (.sessionClose level id) s (fun t => t.session id.toNat = none ∧
      ∀ x ∈ s.ps.sessions, x.id ≠ id.toNat → x ∈ t.ps.sessions) := by
  intro s level id h1 h2 h3 h4 h5
  have h6 : s.modeStatus = stOk := by unfold State.modeStatus; cases h : s.mode.mode <;> simp_all
  simp only [Completes, exec, execSessionClose, h6, h5, h1, Host.Outcome.next.injEq, exists_eq_left', decide_true, beq_self_eq_true, Bool.and_self, if_true]
  refine ⟨sessionEnd_session .., ?_⟩
  intro x hx hne
  unfold State.closeNamed State.sessionEnd
  split
  · simp [hx, hne]
  · exact hx

/-- SESSION_TIMEOUT (R486). -/
theorem sessionTimeout_effect :
  ∀ (s : State) (id : BitVec 32) (x : Session), s.session id.toNat = some x →
    (x.last + secs s.sec.sessionIdle ≤ s.now ∨ s.pastEnd x.notAfter = true ∨ x.opened + secs 86400 ≤ s.now) →
    Completes (.sessionTimeout id) s (fun t => t.session id.toNat = none) := by
  intro s id x h1 h2
  have h3 : ∃ c, s.sessionCause x = some c := by
    unfold State.sessionCause
    exact some3 h2
  obtain ⟨c, hc⟩ := h3
  have ho : (s.session id.toNat).bind s.sessionCause = some c := (bind_of_eq h1 _).trans hc
  show ∃ t, execSessionTimeout id s = .next t ∧ _
  unfold execSessionTimeout
  rw [ho]
  exact ⟨_, rfl, sessionEnd_session ..⟩

/-- HELLO_EXPIRY (R484). -/
theorem helloExpiry_effect :
  ∀ (s : State), Completes .helloExpiry s (fun t => ∀ h, h ∈ t.ps.hellos ↔ h ∈ s.ps.hellos ∧ s.now < h.at_ + secs 2) := by
  intro s
  simp only [Completes, exec, execHelloExpiry, Host.Outcome.next.injEq, exists_eq_left']
  intro h
  simp

end Sys2Proof.Machine
end

