-- ==== Sys2Proof/Laws/Effect02.lean ====
section
/-! SUPPORT. One lemma per command: that it runs, on which states, and what it leaves. -/
namespace Sys2Proof.Machine

set_option Elab.async false
set_option linter.all false

/-- RUN_START (R58). -/
theorem runStart_effect :
  ∀ (s : State) (level : Nat) (n : Fn), n.level ≤ level → s.runAllowed n 1 = true → s.isDown n = true →
    (n.needs.all (fun m => s.isRun m)) = true →
    Completes (.runStart level n) s (fun t => t.run n = .starting ∧ (t.fns.get n).due = true) := by
  intro s level n h1 h2 h3 h4
  have h : s.runStatus level n 1 = stOk := by simp [State.runStatus, Nat.not_lt.2 h1, h2, h3, h4]
  simp only [Completes, exec, execRunStart, h, Host.Outcome.next.injEq, exists_eq_left', if_true]
  unfold State.runApply
  simp only [if_true]
  exact ⟨setRun_run .., by rw [setRun_due]; simp [State.setDue]⟩

/-- RUN_STOP (R58). -/
theorem runStop_effect :
  ∀ (s : State) (level : Nat) (n : Fn), n.level ≤ level → s.runAllowed n 2 = true → (s.run n = .starting ∨ s.run n = .running) →
    (n.users.all (fun m => s.isDown m)) = true →
    Completes (.runStop level n) s (fun t => t.run n = .stopping ∧ (t.fns.get n).due = false) := by
  intro s level n h1 h2 h3 h4
  have h : s.runStatus level n 2 = stOk := by
    rcases h3 with h3 | h3 <;> simp [State.runStatus, Nat.not_lt.2 h1, h2, h3, h4]
  simp only [Completes, exec, execRunStop, h, Host.Outcome.next.injEq, exists_eq_left', if_true]
  unfold State.runApply
  simp only [show ¬ (2 = 1) by decide, if_false]
  exact ⟨setRun_run .., by rw [setRun_due]; simp [State.setDue]⟩

/-- START_CHECK_DONE (R59). -/
theorem startCheckDone_effect :
  ∀ (s : State) (n : Fn) (memOk : Bool), s.run n = .starting → (s.fns.get n).due = true →
    (s.checkOf memOk n ≠ 0 → Completes (.startCheckDone n memOk) s (fun t =>
      t.run n = .stopped ∧ (t.fns.get n).check = s.checkOf memOk n)) ∧
    (s.checkOf memOk n = 0 → n ≠ .sense → n ≠ .clock → Completes (.startCheckDone n memOk) s (fun t =>
      t.run n = .running ∧ (t.fns.get n).check = 0)) := by
  intro s n memOk h1 h2
  have hfn : ∀ (u : State) c, (if n == .form then u.noteLimits c else u).fns = u.fns := by
    intro u c; split
    · exact (State.noteLimits_keeps (s := u) (code := c)).same .fns rfl
    · rfl
  simp only [Completes, exec, execStartCheckDone, Host.Outcome.next.injEq, exists_eq_left']
  unfold State.startDone
  simp only [h1, h2, beq_self_eq_true, Bool.and_self, if_true]
  refine ⟨fun h => ?_, fun h ha hb => ?_⟩
  · rw [if_neg h]
    refine ⟨by simp only [State.run, State.offer_fns]; exact setRun_run .., ?_⟩
    simp only [State.offer_fns, setRun_check, hfn]
    simp [State.setCheck]
  · rw [if_pos h]
    have hc : ∀ u : State, (u.fns.get n).check = 0 → (u.bringUp n).run n = .running ∧ ((u.bringUp n).fns.get n).check = 0 := by
      intro u hu
      unfold State.bringUp
      cases n <;> simp only at ha hb ⊢ <;> try contradiction
      · unfold State.formUp; exact ⟨setRun_run .., by rw [setRun_check]; exact hu⟩
      · unfold State.armUp; exact ⟨setRun_run .., by rw [setRun_check]; exact hu⟩
      · exact ⟨setRun_run .., by rw [setRun_check]; exact hu⟩
      · exact ⟨setRun_run .., by rw [setRun_check]; have := (State.trunkUp_keeps (s := u)).same .fns rfl; rw [this]; exact hu⟩
      · unfold State.fieldUp; exact ⟨setRun_run .., by rw [setRun_check]; exact hu⟩
      · unfold State.safetyUp
        have hp : ∀ v : State, v.protStart.fns = v.fns := fun v => (State.protStart_keeps (s := v)).same .fns rfl
        refine ⟨?_, ?_⟩
        · unfold State.run; rw [hp]; exact setRun_run ..
        · rw [hp, setRun_check]; exact hu
      · unfold State.timeUp
        have hp : ∀ v : State, (if v.clk.c.backup then v.timeOnBackup else v).setRoles.fns = v.fns := fun v =>
          ((State.setRoles_keeps (s := _)).same .fns rfl).trans (by
            split
            · exact (State.timeOnBackup_keeps (s := v)).same .fns rfl
            · rfl)
        dsimp only
        refine ⟨?_, ?_⟩
        · unfold State.run; rw [hp]; exact setRun_run ..
        · rw [hp, setRun_check]; exact hu
      · exact ⟨setRun_run .., by rw [setRun_check]; have := (State.recordUp_keeps (s := u)).same .fns rfl; rw [this]; exact hu⟩
    refine hc _ ?_
    rw [hfn]
    simp [State.setCheck, h]

/-- STOP_COMPLETE (R58). -/
theorem stopComplete_effect :
  ∀ (s : State) (n : Fn), s.run n = .stopping → (n = .record → s.recd.margin = []) →
    Completes (.stopComplete n) s (fun t => t.run n = .stopped) := by
  intro s n h1 h2
  have h3 : (n != .record || s.recd.margin.isEmpty || s.recd.memFail) = true := by
    by_cases h : n = .record
    · simp [h2 h]
    · simp [h]
  simp only [Completes, exec, execStopComplete, Host.Outcome.next.injEq, exists_eq_left', State.stopDone, h1, h3, beq_self_eq_true, Bool.and_self, if_true]
  exact setRun_run ..

/-- MODE_REQUEST_COMMISSION (R75). -/
theorem modeRequestCommission_effect :
  ∀ (s : State) (level : Nat), 3 ≤ level → s.mode.mode = .blocked → s.mode.pend = none → s.isDown .form = true → s.isDown .arm = true →
    Completes (.modeRequestCommission level) s (fun t => t.mode.mode = .commission ∧ t.mode.sub = 0 ∧ t.mode.check = 0) := by
  intro s level h1 h2 h3 h4 h5
  have hl : ¬ level < modeLevel 1 := Nat.not_lt.2 h1
  simp only [Completes, exec, execModeRequestCommission, Host.Outcome.next.injEq, exists_eq_left']
  unfold State.modeRequest
  simp [hl, h2, h3, h4, h5, State.setModeCheck, State.setMode, State.modeOpen, State.enterMode, State.leaveMode]

/-- MODE_REQUEST_BLOCKED (R75). -/
theorem modeRequestBlocked_effect :
  ∀ (s : State) (level : Nat), 1 ≤ level →
    (s.mode.mode = .forming ∨ (s.mode.mode = .commission ∧ s.mode.config ≠ 0) →
      Completes (.modeRequestBlocked level) s (fun t => t.mode.mode = .blocked ∧ t.mode.sub = 0 ∧ t.mode.check = 0)) ∧
    (s.mode.mode = .blocked → Completes (.modeRequestBlocked level) s (fun t => t.mode.mode = .blocked ∧ t.mode.pend = none)) := by
  intro s level h1
  have hl : ¬ level < modeLevel 2 := Nat.not_lt.2 h1
  simp only [Completes, exec, execModeRequestBlocked, Host.Outcome.next.injEq, exists_eq_left']
  unfold State.modeRequest
  refine ⟨?_, ?_⟩
  · rintro (h | ⟨h, hc⟩)
    · simp [hl, h, State.setModeCheck, State.setMode, State.modeOpen, State.enterMode, State.leaveMode]
    · have hk : ∀ u : State, u.clearForce.mode = u.mode := fun u => (State.clearForce_keeps (s := u)).same .mode rfl
      simp [hl, h, hc, State.setModeCheck, State.setMode, State.modeOpen, State.enterMode, State.leaveMode, hk]
  · intro h
    simp [hl, h, State.setModeCheck]

/-- MODE_REQUEST_FORMING (R77). -/
theorem modeRequestForming_effect :
  ∀ (s : State) (level : Nat), 2 ≤ level → s.mode.mode = .blocked → s.mode.pend = none →
    (s.formingFails = 0 → Completes (.modeRequestForming level) s (fun t => t.mode.mode = .blocked ∧ t.mode.pend = some ⟨false⟩ ∧
      t.mode.check = 0)) ∧
    (s.formingFails ≠ 0 → Completes (.modeRequestForming level) s (fun t => t.mode.mode = .blocked ∧ t.mode.pend = none ∧
      t.mode.check = s.formingFails ∧ t.recd = ((s.setModeCheck s.formingFails).note 0x0111 [3, s.formingFails]).recd)) := by
  intro s level h1 h2 h3
  have hl : ¬ level < modeLevel 3 := Nat.not_lt.2 h1
  simp only [Completes, exec, execModeRequestForming, Host.Outcome.next.injEq, exists_eq_left']
  unfold State.modeRequest
  refine ⟨fun h => ?_, fun h => ?_⟩
  · simp [hl, h2, h3, h, State.setModeCheck]
  · simp [hl, h2, h3, h, State.setModeCheck, State.modeRefuse]

/-- APPLICATION_RESET_COMMAND (R85). -/
theorem applicationResetCommand_effect :
  ∀ (s : State) (level : Nat), 2 ≤ level → s.mode.mode ≠ .boot → s.mode.mode ≠ .standby → s.mode.mode ≠ .safe →
    Completes (.applicationResetCommand level) s (fun t => t.mode.cause = setBit s.mode.cause 6 ∧ t.mode.mode = s.mode.mode ∧ t.fns = s.fns ∧
      t.objs = s.objs) := by
  intro s level h1 h2 h3 h4
  have h : s.resetStatus level 0x0A01 = stOk := by
    unfold State.resetStatus; cases hm : s.mode.mode <;> simp_all [Nat.not_lt.2 h1]
  simp only [Completes, exec, execApplicationResetCommand, h, Host.Outcome.next.injEq, exists_eq_left', if_true]
  unfold State.resetCommand State.appReset
  dsimp only
  simp only [if_true, show List.range 4 = [0,1,2,3] from rfl, show List.range 12 = [0,1,2,3,4,5,6,7,8,9,10,11] from rfl, List.foldl_cons, List.foldl_nil]
  refine ⟨?_, ?_, ?_, ?_⟩ <;> simp [State.dropSems, bit, setBit]

/-- SYSTEM_RESET_COMMAND (R84). -/
theorem systemResetCommand_effect :
  ∀ (s : State) (level : Nat), 3 ≤ level → s.mode.mode ≠ .boot → s.mode.mode ≠ .standby →
    Completes (.systemResetCommand level) s (fun t => t.mode.mode = .boot ∧ t.mode.cause = s.sysCause 4 ∧ t.objs = [] ∧
      t.fns = {} ∧ t.stored = s.stored ∧ t.dpx.takeovers = s.dpx.takeovers ∧ t.pwr.feedA = s.pwr.feedA) := by
  intro s level h1 h2 h3
  have h : s.resetStatus level 0x0A02 = stOk := by
    unfold State.resetStatus; cases hm : s.mode.mode <;> simp_all [Nat.not_lt.2 h1]
  simp only [Completes, exec, execSystemResetCommand, h, Host.Outcome.next.injEq, exists_eq_left', if_true]
  unfold State.resetCommand
  simp only [show ¬ (0x0A02 = 0x0A01) by decide, if_false]
  exact ⟨rfl, rfl, rfl, rfl, rfl, rfl, rfl⟩

/-- CONFIG_COMMIT (R92). -/
theorem configCommit_effect :
  ∀ (s : State) (level : Nat), 3 ≤ level → (s.mode.mode = .commission ∨ s.mode.mode = .blocked) → bit (entry s.hdrs 0 {}).fenced 2 = false →
    exec (.configCommit level) s = .next { s with commitAt := some s.now } := by
  intro s level h1 h2 h3
  have h : s.configStatus level = stOk := by
    unfold State.configStatus
    rcases h2 with h2 | h2 <;> simp [Nat.not_lt.2 h1, h2, h3]
  simp only [exec, execConfigCommit, h, if_true]
  rfl

/-- CONFIG_COMMIT_DONE (R92). -/
theorem configCommitDone_effect :
  ∀ (s : State), s.commitAt.isSome = true → bit (entry s.hdrs 0 {}).fenced 2 = false →
    Completes .configCommitDone s (fun t => t.commitAt = none ∧ t.stored = some ⟨storedObjs s.objs, true⟩ ∧
      t.mode.config = (if s.safe.confirmed = true then 2 else 1)) := by
  intro s h1 h2
  obtain ⟨a, ha⟩ := Option.isSome_iff_exists.1 h1
  simp only [Completes, exec, execConfigCommitDone, Host.Outcome.next.injEq, exists_eq_left']
  have hk : ∀ u : State, Keeps _ u u.settle := fun u => State.settle_keeps
  have e1 := fun u : State => (hk u).same .commitAt rfl
  have e2 := fun u : State => (hk u).same .stored rfl
  have e3 := fun u : State => (hk u).same .mode rfl
  simp only [Part.same] at e1 e2 e3
  rw [e1, e2, e3]
  unfold State.commitDone
  rw [ha]
  simp [h2]

/-- TICK_LENGTH_WRITE (R93). -/
theorem tickLengthWrite_effect :
  ∀ (s : State) (level : Nat) (v : BitVec 8), 2 ≤ level → (v = 1 ∨ v = 2 ∨ v = 4) → s.mode.mode = .blocked →
    ([Fn.arm, .select, .trunk, .sense].all (fun n => s.run n == .stopped)) = true →
    exec (.tickLengthWrite level v) s = .next { s with mode := { s.mode with tickPend := some v.toNat } } := by
  intro s level v h1 h2 h3 h4
  have h : s.tickLenStatus level v.toNat = stOk := by
    unfold State.tickLenStatus
    rw [h3, h4]
    rcases h2 with h2 | h2 | h2 <;> subst h2 <;> simp [Nat.not_lt.2 h1]
  simp only [exec, execTickLengthWrite, h, if_true]
  rfl

/-- STATION_SETPOINT_WRITE (R101). -/
theorem stationSetpointWrite_effect :
  ∀ (s : State) (level : Nat) (sub : Fin 4) (value : BitVec 32) (o : ObjRow), findObj 0x2002 (sub.val + 1) = some o → o.wl ≤ level →
    o.admits (signed 32 value.toNat) = true → s.fenced 4 0 = false → s.spnActive = true →
    Completes (.stationSetpointWrite level sub value) s (fun t =>
      t.spn.toPub = s.spn.toPub.filter (fun p => p.1 != sub.val + 1) ++ [(sub.val + 1, signed 32 value.toNat)] ∧ t.objs = s.objs) := by
  intro s level sub value o h1 h2 h3 h4 h5
  have h : s.setpointStatus level (sub.val + 1) (signed 32 value.toNat) = stOk := by
    unfold State.setpointStatus
    rw [h1]
    simp [Nat.not_lt.2 h2, h3, h4, h5]
  simp only [Completes, exec, execStationSetpointWrite, h, Host.Outcome.next.injEq, exists_eq_left', if_true]
  exact ⟨rfl, rfl⟩

/-- FAIL_NOW (R195). -/
theorem failNow_effect :
  ∀ (s : State) (level : Nat) (c : Fin 256), s.Shape → 2 ≤ level → s.populated c.val = true →
    Completes (.failNow level c) s (fun t => t.cellAt c.val = { s.cellAt c.val with failNow := true }) := by
  intro s level c hs h1 h2
  simp only [Completes, exec, execFailNow, h1, h2, Host.Outcome.next.injEq, exists_eq_left', decide_true, Bool.and_self, if_true]
  exact cellAt_mapCell hs c _

/-- FAIL_REASON_WRITE (R178). -/
theorem failReasonWrite_effect :
  ∀ (s : State) (level : Nat) (c : Fin 256) (v : BitVec 8), s.Shape → 2 ≤ level → s.isDown .select = true →
    (v = 0 → s.CELL_CLASS c.val ≠ 0 → Completes (.failReasonWrite level c v) s (fun t =>
      (t.cellAt c.val).fail = 0 ∧ (t.cellAt c.val).refresh = none)) ∧
    (v = 7 → s.populated c.val = true → (s.cellAt c.val).fail = 0 → Completes (.failReasonWrite level c v) s (fun t =>
      (t.cellAt c.val).fail = 7 ∧ (t.cellAt c.val).refresh = none)) := by
  intro s level c v hs h1 h2
  refine ⟨fun h3 h4 => ?_, fun h3 h4 h5 => ?_⟩
  · have h : s.failStatus level c.val v.toNat = stOk := by
      unfold State.failStatus; subst h3; simp [Nat.not_lt.2 h1, h2, h4]
    simp only [Completes, exec, execFailReasonWrite, h, Host.Outcome.next.injEq, exists_eq_left', if_true]
    subst h3
    simp only [State.setFail, State.clearFail]
    have hw : ∀ (u : State) a, (u.warnOff a c.val).cellAt c.val = u.cellAt c.val := fun u a => rfl
    rw [if_pos (by decide), hw, hw, cellAt_mapCell hs]
    exact ⟨rfl, rfl⟩
  · have hc : s.CELL_CLASS c.val ≠ 0 := by intro h; simp [State.populated, h] at h4
    have h : s.failStatus level c.val v.toNat = stOk := by
      unfold State.failStatus; subst h3; simp [Nat.not_lt.2 h1, h2, hc]
    simp only [Completes, exec, execFailReasonWrite, h, Host.Outcome.next.injEq, exists_eq_left', if_true]
    subst h3
    unfold State.setFail
    rw [if_neg (by decide)]
    exact markFail_spec hs c 7 h4 h5

/-- GD_VERIFY (R224). -/
theorem gdVerify_effect :
  ∀ (s : State) (level : Nat) (c : Fin 256), s.Shape → 2 ≤ level →
    Completes (.gdVerify level) s (fun t => t.cellAt c.val = if s.populated c.val && s.linkUp (c.val / 32) then
      { s.cellAt c.val with due := some .pass } else s.cellAt c.val) := by
  intro s level c hs h1
  simp only [Completes, exec, execGdVerify, h1, Host.Outcome.next.injEq, exists_eq_left', if_true]
  unfold State.gdVerify
  rw [gd_fold _ _ hs]
  have : (List.range 256).contains c.val = true := by simp [c.2]
  simp only [this, Bool.true_and]

/-- INJ_COMMAND (R287). -/
theorem injCommand_effect :
  ∀ (s : State) (level : Nat) (c : Fin 25), s.Shape → 2 ≤ level → c.val < 16 → s.AIN_ENABLE c.val ≠ 0 → s.isRun .sense = true →
    s.injBusy c.val = false →
    Completes (.injCommand level c) s (fun t => (t.ain c.val).inj = some { mode := s.INJ_MODE c.val, test := false, due :=
      (if (s.ain c.val).preempt = true ∧ ((s.ain c.val).fed : Int) + 3 ≤ s.edges then (s.edges : Int) + 3 else ((s.ain c.val).fed : Int) + 3) } ∧ (t.ain c.val).resOk = false) := by
  intro s level c hs h1 h2 h3 h4 h5
  have h : s.injStatus level c.val = stOk := by
    unfold State.injStatus; simp [Nat.not_lt.2 h1, Nat.not_le.2 h2, h3, h4, h5]
  simp only [Completes, exec, execInjCommand, h, Host.Outcome.next.injEq, exists_eq_left', if_true]
  unfold State.injSoftware State.injRegister
  dsimp only
  rw [ain_mapAin hs h2]
  simp only [Bool.and_eq_true, decide_eq_true_eq]
  trivial

/-- CLK_COMMIT (R317). -/
theorem clkCommit_effect :
  ∀ (s : State) (level : Nat), 3 ≤ level → s.isDown .clock = true →
    (s.clk.ref ≠ .present → Completes (.clkCommit level) s (fun t => t.clk.commit = true ∧ t.clk.a = s.clk.a ∧ t.clk.b = s.clk.b ∧
      t.clk.c = s.clk.c ∧ t.clk.d = s.clk.d)) ∧
    (s.clk.ref = .present → Completes (.clkCommit level) s (fun t => t.clk.commit = false ∧
      ∀ i < 4, (t.clk.pll i).act = s.shadow i)) := by
  intro s level h1 h2
  have h : s.commitStatus level = stOk := by unfold State.commitStatus; simp [Nat.not_lt.2 h1, h2]
  simp only [Completes, exec, execClkCommit, h, Host.Outcome.next.injEq, exists_eq_left', if_true]
  unfold State.clkCommit
  refine ⟨fun h3 => ?_, fun h3 => ?_⟩
  · simp [h3]
  · simp only [h3, beq_self_eq_true, if_true]
    exact commitNow_spec _

end Sys2Proof.Machine
end

