-- ==== Sys2Proof/Laws/Effect03.lean ====
section
/-! SUPPORT. One lemma per command: that it runs, on which states, and what it leaves. -/
namespace Sys2Proof.Machine

set_option Elab.async false
set_option linter.all false

/-- TIME_SET (R353). -/
theorem timeSet_effect :
  ∀ (s : State) (level : Nat) (sec : BitVec 64) (ns : BitVec 32), 2 ≤ level → ns.toNat ≤ 999999999 → s.isDown .time = true →
    Completes (.timeSet level sec ns) s (fun t => t.time.sec = sec.toNat ∧ t.clockNs = ns.toNat) := by
  intro s level sec ns h1 h2 h3
  have h : s.timeSetStatus level ns.toNat = stOk := by simp [State.timeSetStatus, Nat.not_lt.2 h1, Nat.not_lt.2 h2, h3]
  simp only [Completes, exec, execTimeSet, h, Host.Outcome.next.injEq, exists_eq_left', if_true]
  unfold State.setClock State.clockNs
  dsimp only
  omega

/-- OUT_SET (R368). -/
theorem outSet_effect :
  ∀ (s : State) (level : Nat) (mask : BitVec 32), 1 ≤ level → (s.mode.mode = .commission ∨ s.mode.mode = .blocked ∨ s.mode.mode = .forming) →
    s.maskOk mask.toNat = true →
    Completes (.outSet level mask) s (fun t => ∀ p : Fin 32, t.pin p.val =
      if bit mask.toNat p.val then (s.pin p.val).turnOn s.now s.tick else s.pin p.val) := by
  intro s level mask h1 h2 h3
  have h : s.outStatus level mask.toNat = stOk := by simp [State.outStatus, modeStatus_ok h2, Nat.ne_of_gt h1, h3]
  simp only [Completes, exec, execOutSet, h, Host.Outcome.next.injEq, exists_eq_left', if_true]
  intro p
  show entry (List.map _ _) _ _ = _
  rw [pins_map]

/-- OUT_CLEAR (R368). -/
theorem outClear_effect :
  ∀ (s : State) (level : Nat) (mask : BitVec 32), 1 ≤ level → (s.mode.mode = .commission ∨ s.mode.mode = .blocked ∨ s.mode.mode = .forming) →
    s.maskOk mask.toNat = true →
    Completes (.outClear level mask) s (fun t => ∀ p : Fin 32, t.pin p.val =
      if bit mask.toNat p.val then (s.pin p.val).turnOff s.now s.tick else s.pin p.val) := by
  intro s level mask h1 h2 h3
  have h : s.outStatus level mask.toNat = stOk := by simp [State.outStatus, modeStatus_ok h2, Nat.ne_of_gt h1, h3]
  simp only [Completes, exec, execOutClear, h, Host.Outcome.next.injEq, exists_eq_left', if_true]
  intro p
  show entry (List.map _ _) _ _ = _
  rw [pins_map]

/-- PIN_CLEAR (R371). -/
theorem pinClear_effect :
  ∀ (s : State) (level : Nat) (p : Fin 32), s.Shape → 2 ≤ level →
    (s.mode.mode = .commission ∨ s.mode.mode = .blocked ∨ s.mode.mode = .forming) →
    Completes (.pinClear level p) s (fun t => t.pin p.val = { s.pin p.val with latched := false, overload := false, thermal := false }) := by
  intro s level p hs h1 h2
  have h : s.clearPinStatus level = stOk := by simp [State.clearPinStatus, modeStatus_ok h2, Nat.not_lt.2 h1]
  simp only [Completes, exec, execPinClear, h, Host.Outcome.next.injEq, exists_eq_left', if_true]
  exact entry_putAt _ _ _ _ (by rw [hs.pins]; exact p.2)

/-- FORCE_WRITE (R364). -/
theorem forceWrite_effect :
  ∀ (s : State) (level : Nat) (p : Fin 32) (v : Nat), s.Canon → 2 ≤ level → v ≤ 2 → s.mode.mode = .commission → s.FIO_MODE p = 3 →
    s.owner p.val = 0 → s.FORCE p.val ≠ v →
    Completes (.forceWrite level p v) s (fun t => t.val 0x5001 9 p.val = .num v) := by
  intro s level p v hc h1 h2 h3 h4 h5 h6
  have h : s.forceStatus level p.val v = stOk := by simp [State.forceStatus, Nat.not_lt.2 h1, Nat.not_lt.2 h2, h3, h4, h5]
  simp only [Completes, exec, execForceWrite, h, Host.Outcome.next.injEq, exists_eq_left', if_true]
  unfold State.forcePin
  rw [if_neg h6]
  exact (val_objs (by simp) _ _ _).trans (val_setObj hc ..)

/-- SAFE_RESET (R392). -/
theorem safeReset_effect :
  ∀ (s : State) (level : Nat), 1 ≤ level → (s.mode.mode = .commission ∨ s.mode.mode = .blocked ∨ s.mode.mode = .forming) →
    exec (.safeReset level) s = .next { s with safe := { s.safe with reset := true } } := by
  intro s level h1 h2
  have h : s.safeResetStatus level = stOk := by simp [State.safeResetStatus, modeStatus_ok h2, Nat.ne_of_gt h1]
  simp only [exec, execSafeReset, h, if_true]
  rfl

/-- SAFETY_CONFIRM (R402). -/
theorem safetyConfirm_effect :
  ∀ (s : State) (level : Nat) (v : BitVec 32), 3 ≤ level → (s.mode.mode = .commission ∨ s.mode.mode = .blocked) → s.mode.config = 1 →
    s.storedImage = some s.safetyImage → v.toNat = s.safetyCrc →
    Completes (.safetyConfirm level v) s (fun t => t.safe.confirmed = true ∧ t.safe.conf = some v.toNat ∧ t.mode.config = 2) := by
  intro s level v h1 h2 h3 h4 h5
  have h : s.confirmStatus level v.toNat = stOk := by
    rcases h2 with h2 | h2 <;> simp [State.confirmStatus, State.confirmFails, h2, Nat.not_lt.2 h1, h3, h4, h5]
  simp only [Completes, exec, execSafetyConfirm, State.safetyConfirm, h, Host.Outcome.next.injEq, exists_eq_left', if_true]
  simp

/-- SAFETY_SET_WRITE (R400). -/
theorem safetySetWrite_effect :
  ∀ (s : State) (session level idx sub chan : Nat) (value : List Nat) (o : ObjRow), s.Canon → s.inSafetySet idx sub chan = true →
    findObj idx sub = some o → s.writeStatus (.sess session) level idx sub chan value = stOk →
    Completes (.safetySetWrite session level idx sub chan value) s (fun t => t.val idx sub chan = decodeVal o.ty value ∧
      t.safe.confirmed = false ∧ t.mode.config = (if s.mode.config = 2 then 1 else s.mode.config)) := by
  intro s session level idx sub chan value o hc h1 h2 h3
  have hm : idx = 0x6001 ∨ idx = 0x6100 ∨ (0x6110 ≤ idx ∧ idx ≤ 0x6137) ∨ (idx = 0x5011 ∧ sub = 4) ∨ (idx = 0x5001 ∧ sub ≤ 5) := by
    unfold State.inSafetySet State.safetyField at h1
    simp only [Bool.or_eq_true, Bool.and_eq_true, beq_iff_eq, decide_eq_true_eq] at h1
    omega
  have he : ∀ (c : Caller) (e : WEntry), e.index = idx → e.sub = sub → s.writeEffect c level e = s.putObj c e := by
    intro c e e1 e2
    have b1 : 0x5001 ≤ e.index := by omega
    have b2 : e.index ≤ 0x6137 := by omega
    have b3 : e.index ≠ 0x5002 := by omega
    have b4 : e.index ≠ 0x5010 := by omega
    have b5 : e.index ≠ 0x6101 := by omega
    have b6 : e.index = 0x5001 → e.sub ≠ 9 := by omega
    clear hm h1 h2 h3 e1 e2 hc
    unfold State.writeEffect
    dsimp only
    split
    all_goals try (exfalso; omega)
    rfl
  have hn : (idx == 0x6200) = false := by rw [beq_eq_false_iff_ne]; omega
  show ∃ t, execSafetySetWrite session level idx sub chan value s = .next t ∧ _
  unfold execSafetySetWrite
  rw [if_pos h1]
  unfold State.writeObj
  dsimp only
  rw [if_pos h3, he _ _ rfl rfl]
  have hp : ∀ c, s.putObj c (entryOf idx sub chan value 0) = (s.setObj idx sub chan (decodeVal o.ty value)).safetyWritten := by
    intro c
    unfold State.putObj entryOf
    rw [h2]
    dsimp only
    rw [if_neg (by rw [hn]; decide), if_pos h1]
  rw [hp]
  refine ⟨_, rfl, ?_⟩
  unfold State.safetyWritten
  refine ⟨(val_objs (by simp) _ _ _).trans (val_setObj hc ..), ?_, ?_⟩
  · simp
  · simp [State.setObj]
    rfl

/-- PROT_SET_WRITE (R412). -/
theorem protSetWrite_effect :
  ∀ (s : State) (session level sub : Nat) (value : List Nat) (o : ObjRow), s.Canon → findObj 0x6200 sub = some o →
    s.writeStatus (.sess session) level 0x6200 sub 0 value = stOk →
    Completes (.protSetWrite session level sub value) s (fun t => t.val 0x6200 sub 0 = decodeVal o.ty value ∧
      t.safe.prot.run = false ∧ t.safe.prot.starting = false ∧ t.safe.prot.crc = crc32c (protBytes t.safe.prot.stored)) := by
  intro s session level sub value o hc h2 h3
  simp only [Completes, exec, execProtSetWrite, Host.Outcome.next.injEq, exists_eq_left']
  unfold State.writeObj
  simp only [h3, if_true, entryOf, h2]
  have he : ∀ (c : Caller) (e : WEntry), e.index = 0x6200 → s.writeEffect c level e = s.putObj c e := by
    intro c e e1
    unfold State.writeEffect
    dsimp only
    split <;> first | (exfalso; omega) | rfl
  rw [he _ _ rfl]
  unfold State.putObj
  simp only [beq_self_eq_true, if_true]
  unfold State.protWritten State.privNote
  refine ⟨(val_objs (by simp) _ _ _).trans (val_setObj hc ..), ?_, ?_, ?_⟩ <;> simp

/-- PROT_START (R412). -/
theorem protStart_effect :
  ∀ (s : State) (level : Nat), 2 ≤ level → (s.mode.mode = .commission ∨ s.mode.mode = .blocked ∨ s.mode.mode = .forming) →
    Completes (.protStart level) s (fun t => t.safe.prot.check = s.protCheck ∧
      t.safe.prot.starting = (s.protCheck == 0 && !s.safe.prot.run)) := by
  intro s level h1 h2
  have h : s.protStartStatus level = stOk := by simp [State.protStartStatus, modeStatus_ok h2, Nat.not_lt.2 h1]
  simp only [Completes, exec, execProtStart, h, Host.Outcome.next.injEq, exists_eq_left', if_true]
  exact ⟨rfl, rfl⟩

/-- ATTEST_REQUEST (R482). -/
theorem attestRequest_effect :
  ∀ (s : State) (session level : Nat) (nonce : List Nat), 1 ≤ level → nonce.length = 32 →
    (s.mode.mode = .commission ∨ s.mode.mode = .blocked ∨ s.mode.mode = .forming) → s.secUp = true → s.sec.signing = none →
    (s.sec.tokens ≠ 0 → s.lmsOut = false → s.fenced 0 2 = false →
      Completes (.attestRequest session level nonce true true) s (fun t => t.sec.signing = some ⟨session, nonce, s.lmsNext⟩ ∧
        t.sec.tokens = s.sec.tokens - 1 ∧ t.lmsNext = s.lmsNext + 1 ∧ t.sec.lmsB = (s.lmsNext + 1, true))) ∧
    (s.sec.tokens = 0 → ∀ x, s.session session = some x →
      Completes (.attestRequest session level nonce true true) s (fun t => t.sec = s.sec ∧
        ∀ y, t.session session = some y → y.attState = 4)) := by
  intro s session level nonce h1 h2 h3 h4 h5
  refine ⟨fun h6 h7 h8 => ?_, fun h6 x hx => ?_⟩
  · have h : s.attestStatus level nonce = stOk := by
      simp [State.attestStatus, h2, Nat.ne_of_gt h1, modeStatus_ok h3, h4, State.attestBusy, h5, h6, h7]
    simp only [Completes, exec, execAttestRequest, h, Host.Outcome.next.injEq, exists_eq_left', if_true]
    have h8' : ∀ f, (s.mapSec f).fenced 0 2 = false := fun _ => h8
    unfold State.attestBegin State.lmsAdvance
    simp only [h8', Bool.not_false, Bool.and_self, if_true]
    split <;> split <;> simp [State.mapSession, State.lmsNext]
  · have h : s.attestStatus level nonce = stBusy := by
      simp [State.attestStatus, h2, Nat.ne_of_gt h1, modeStatus_ok h3, h4, State.attestBusy, h5, h6]
    simp only [Completes, exec, execAttestRequest, h, Host.Outcome.next.injEq, exists_eq_left']
    rw [if_neg (by decide), if_pos trivial]
    refine ⟨rfl, ?_⟩
    intro y hy
    unfold State.session State.attestRefused State.mapSession at hy
    simp only [State.mapPs_ps] at hy
    have := List.find?_some hy
    obtain ⟨z, hz, rfl⟩ := List.mem_map.1 (List.mem_of_find?_eq_some hy)
    split at this
    · rename_i hh; rw [if_pos hh]; simp [State.attestBusy, h5, h6]
    · rename_i hh; exact absurd this hh

/-- ATTEST_SIGNED (R482). -/
theorem attestSigned_effect :
  ∀ (s : State) (g : Signing), s.sec.signing = some g → s.secUp = true →
    Completes .attestSigned s (fun t => t.sec.signing = none ∧ ∀ x, t.session g.session = some x → x.attState = 2 ∧
      x.attAnswer = s.attestRecord g ++ Config.identityEcdsa (s.attestRecord g) ++ Config.identityLms g.leaf (s.attestRecord g)) := by
  intro s g h1 h2
  simp only [Completes, exec, execAttestSigned, h1, h2, Host.Outcome.next.injEq, exists_eq_left', if_true]
  refine ⟨by simp [State.mapSession], ?_⟩
  intro y hy
  unfold State.session at hy
  simp only [State.note_ps, State.mapSession, State.mapPs_ps, State.mapSec_ps] at hy
  have := List.find?_some hy
  obtain ⟨z, hz, rfl⟩ := List.mem_map.1 (List.mem_of_find?_eq_some hy)
  split at this
  · rename_i hh; rw [if_pos hh]; exact ⟨rfl, rfl⟩
  · rename_i hh; exact absurd this hh

/-- OWNER_KEYS_WRITE (R488). -/
theorem ownerKeysWrite_effect :
  ∀ (s : State) (session level : Nat) (data : List Nat), 3 ≤ level → (s.mode.mode = .commission ∨ s.mode.mode = .blocked) →
    s.secUp = true → s.nvOk = true → ownerOk data = true →
    Completes (.ownerKeysWrite session level data) s (fun t => t.sec.owner = some data ∧ t.ps.sessions = []) := by
  intro s session level data h1 h2 h3 h4 h5
  have hl : data.length = 256 := by unfold ownerOk at h5; simp at h5; exact h5.1.1
  have h : s.ownerStatus level data = stOk := by
    rcases h2 with h2 | h2 <;> simp [State.ownerStatus, Nat.not_lt.2 h1, h2, h3, h4, h5, hl]
  simp only [Completes, exec, execOwnerKeysWrite, h, Host.Outcome.next.injEq, exists_eq_left', if_true]
  have e1 : ∀ u : State, ∀ p c, (u.sessionsEnd p c).sec = u.sec := fun u p c => State.sessionsEnd_keeps.same .sec rfl
  have e2 : ∀ u : State, ∀ i c, (u.sessionEnd i c).sec = u.sec := fun u i c => State.sessionEnd_keeps.same .sec rfl
  refine ⟨by rw [e2]; unfold State.ownerChange; rw [e1]; simp, ?_⟩
  apply List.eq_nil_iff_forall_not_mem.2
  intro x hx
  have hx' : x ∈ (s.ownerChange session data).ps.sessions ∧ x.id ≠ session := by
    generalize s.ownerChange session data = u at hx
    unfold State.sessionEnd at hx
    split at hx
    · simpa using hx
    · rename_i hh
      refine ⟨hx, fun he => hh ?_⟩
      unfold State.session
      simp only [List.find?_isSome]
      exact ⟨x, hx, by simp [he]⟩
  unfold State.ownerChange at hx'
  obtain ⟨hm, hp⟩ := sessionsEnd_none _ _ _ _ hx'.1
  exact hp x hm (by simpa using hx'.2) rfl

/-- CRED_MIN_GEN_WRITE (R486). -/
theorem credMinGenWrite_effect :
  ∀ (s : State) (session level : Nat) (v : BitVec 32), 3 ≤ level →
    (s.mode.mode = .commission ∨ s.mode.mode = .blocked ∨ s.mode.mode = .forming) → s.secUp = true → s.nvOk = true →
    s.sec.credMinGen ≤ v.toNat →
    Completes (.credMinGenWrite session level v) s (fun t => t.sec.credMinGen = v.toNat ∧
      (s.sec.credMinGen < v.toNat → ∀ x ∈ t.ps.sessions, v.toNat ≤ x.gen)) := by
  intro s session level v h1 h2 h3 h4 h5
  have h : s.credGenStatus level v.toNat = stOk := by
    simp [State.credGenStatus, Nat.not_lt.2 h1, modeStatus_ok h2, h3, h4, Nat.not_lt.2 h5]
  simp only [Completes, exec, execCredMinGenWrite, h, Host.Outcome.next.injEq, exists_eq_left', if_true]
  have e1 : ∀ u : State, ∀ p c, (u.sessionsEnd p c).sec = u.sec := fun u p c => State.sessionsEnd_keeps.same .sec rfl
  unfold State.credGen
  dsimp only
  refine ⟨?_, fun hlt => ?_⟩
  · split
    · rw [e1]; simp
    · simp
  · rw [if_pos (by simpa using hlt)]
    intro x hx
    obtain ⟨hm, hp⟩ := sessionsEnd_none _ _ _ _ hx
    apply Classical.byContradiction
    intro hc
    exact hp x hm (by simpa using hc) rfl

/-- FUSE_SVN (R478). -/
theorem fuseSvn_effect :
  ∀ (s : State) (level : Nat) (v : BitVec 16), 3 ≤ level → (s.mode.mode = .commission ∨ s.mode.mode = .blocked ∨ s.mode.mode = .forming) →
    s.secUp = true → v.toNat ≤ 63 → s.sec.fusedSvn ≤ v.toNat → v.toNat ≤ s.sec.secSvn →
    Completes (.fuseSvn level v) s (fun t => s.slotCheck 1 = 0 → v.toNat ≤ ((s.slotImage 1).map Image.svn).getD 0 → t.sec.fusedSvn = v.toNat) := by
  intro s level v k1 k2 k3 k4 k5 k6
  refine completes_when ⟨_, rfl⟩ (fun k7 => completes_when ⟨_, rfl⟩ (fun k8 => ?_))
  have h : s.fuseSvnStatus level v.toNat = stOk := by
    simp [State.fuseSvnStatus, modeStatus_ok k2, Nat.not_lt.2 k1, k3, Nat.not_lt.2 k4, Nat.not_lt.2 k5, Nat.not_lt.2 k6, k7, Nat.not_lt.2 k8]
  simp only [Completes, exec, execFuseSvn, h, Host.Outcome.next.injEq, exists_eq_left', if_true]
  unfold State.fuseSvn
  split
  · rename_i hh; exact hh.symm
  · simp

/-- APP_MIN_SVN_WRITE (R478). -/
theorem appMinSvnWrite_effect :
  ∀ (s : State) (session level : Nat) (v : BitVec 16), 3 ≤ level →
    s.secUp = true → s.nvOk = true → (s.mode.mode = .commission ∨ s.mode.mode = .blocked ∨ s.mode.mode = .forming) → v.toNat ≤ 63 → s.sec.appMinSvn ≤ v.toNat →
    v.toNat ≤ s.sec.appSvn →
    Completes (.appMinSvnWrite session level v) s (fun t => t.sec.appMinSvn = v.toNat) := by
  intro s session level v h1 ha hb h2 h3 h4 h5
  have h : s.appMinStatus level v.toNat = stOk := by
    simp [State.appMinStatus, ha, hb, Nat.not_lt.2 h1, modeStatus_ok h2, Nat.not_lt.2 h3, Nat.not_lt.2 h4, Nat.not_lt.2 h5]
  simp only [Completes, exec, execAppMinSvnWrite, h, Host.Outcome.next.injEq, exists_eq_left', if_true]
  unfold State.appMinSvn
  split
  · rename_i hh; exact hh.symm
  · simp

/-- DEBUG_LOCK_SET (R492). -/
theorem debugLockSet_effect :
  ∀ (s : State) (level : Nat), 3 ≤ level → s.mode.mode = .commission →
    Completes (.debugLockSet level 0x4C4F434B) s (fun t => t.sec.debugLock = true ∧ t.sec.dbg = none ∧ t.sec.dbgNonce = none) := by
  intro s level h1 h2
  have h : s.debugLockStatus level (BitVec.toNat (0x4C4F434B : BitVec 32)) = stOk := by simp [State.debugLockStatus, Nat.not_lt.2 h1, h2]
  simp only [Completes, exec, execDebugLockSet, h, Host.Outcome.next.injEq, exists_eq_left', if_true]
  unfold State.debugLock State.dbgEnd
  split
  · simp
  · rename_i hh; simp at hh; simp [hh]

/-- SWITCHOVER (R443). -/
theorem switchover_effect :
  ∀ (s : State) (level : Nat) (p : PartnerStatus), 2 ≤ level → s.dpx.lease = true → s.dpx.partner = some p → p.state = 4 →
    exec (.switchover level) s = .next { s with dpx := { s.dpx with switchover := true } } := by
  intro s level p h1 h2 h3 h4
  have h : s.switchStatus level = stOk := by simp [State.switchStatus, Nat.not_lt.2 h1, h2, h3, h4]
  simp only [exec, execSwitchover, h, if_true]
  rfl

/-- RECORDER_CLEAR (R464). -/
theorem recorderClear_effect :
  ∀ (s : State) (session level : Nat), 3 ≤ level → s.isRun .record = true → s.recd.memFail = false →
    Completes (.recorderClear session level (s.recd.newest % 4294967296)) s (fun t => t.recd.newest = s.recd.newest + 1 ∧
      t.recd.floor = s.recd.newest + 1 ∧ ∃ f, t.recd.margin = [f] ∧ f.seq = s.recd.newest + 1 ∧ f.code = 0x8001) := by
  intro s session level h1 h2 h3
  have h : s.clearStatus level (s.recd.newest % 4294967296) = stOk := by simp [State.clearStatus, Nat.not_lt.2 h1, h2, h3]
  simp only [Completes, exec, execRecorderClear, h, Host.Outcome.next.injEq, exists_eq_left', if_true]
  exact ⟨rfl, rfl, _, rfl, rfl, rfl⟩

/-- WINDOW_SNAPSHOT (R462). -/
theorem windowSnapshot_effect :
  ∀ (s : State) (m : Fin 7), s.Shape →
    Completes (.windowSnapshot m) s (fun t => let x := entry s.masters m.val {}
      entry t.masters m.val {} = { x with win := (s.recd.window x.cursor x.advance).1, cursor := (s.recd.window x.cursor x.advance).2 }) := by
  intro s m hs
  simp only [Completes, exec, execWindowSnapshot, Host.Outcome.next.injEq, exists_eq_left']
  exact entry_updAt _ _ _ _ (by rw [hs.masters]; exact m.2)

/-- REGISTER_WRITE (R65). -/
theorem registerWrite_effect :
  (∀ (s : State) (m : Fin 7) (w : BitVec 32) (c : Nat), s.Canon → 2 ≤ s.mlevel m.val → m.val ≠ 5 → (entry s.masters m.val {}).sel.ain = c →
    s.regDead m.val 3 0x114 = false →
    s.writeStatus (.master m.val) (s.mlevel m.val) 0x4001 0x0A c (objBytes 0x4001 0x0A (.num w.toNat)) = stOk →
    wrap 32 (s.regCurrent m.val 0x4001 0x0A c).int ≠ w.toNat →
    Completes (.registerWrite m 0x43000114 w) s (fun t => t.val 0x4001 0x0A c = decodeVal .u32 (objBytes 0x4001 0x0A (.num w.toNat)))) ∧
  (∀ (s : State) (m : Fin 7) (w : BitVec 32), s.Shape → m.val ≠ 5 → s.regDead m.val 1 0 = false →
    Completes (.registerWrite m 0x41000000 w) s (fun t => (entry t.hdrs 1 {}).err = setBit (entry s.hdrs 1 {}).err 1 ∧ t.objs = s.objs)) := by
  refine ⟨?_, ?_⟩
  · intro s m w c hc hl h1 h2 h3 h4 h5
    simp only [Completes, exec, execRegisterWrite, Host.Outcome.next.injEq, exists_eq_left']
    unfold State.regWrite
    have ha : BitVec.toNat (0x43000114 : BitVec 32) = 0x43000114 := rfl
    rw [ha]
    dsimp only
    simp only [show 0x43000114 / 0x1000000 - 0x40 = 3 from rfl, show 0x43000114 % 0x1000000 = 0x114 from rfl]
    rw [if_neg (by decide), if_neg (by simp [h1]), if_neg (by simp [h3]), if_neg (by decide)]
    rw [show selectGroup 3 0x114 = none from rfl]
    dsimp only
    rw [show mapFields 3 0x114 = [⟨0, 32, 0x4001, 0x0A, 0, 1⟩] from rfl]
    rw [if_pos (by decide)]
    have hw : bits w.toNat 0 32 = w.toNat := by unfold bits; have := w.isLt; omega
    have hch : ((entry s.masters m.val {}).sel.chan 0x4001) = c := h2
    have hf : (findObj 0x4001 0x0A).map (fun o => (o.ty, o.staged, o.wl)) = some (.u32, false, 2) := by decide
    obtain ⟨o, ho, hot⟩ := Option.map_eq_some_iff.1 hf
    have ht : o.ty = .u32 := congrArg Prod.fst hot
    have hs : o.staged = false := congrArg (fun x => x.2.1) hot
    have hwl : o.wl = 2 := congrArg (fun x => x.2.2) hot
    have hlv : s.fieldLevel ⟨0, 32, 0x4001, 0x0A, 0, 1⟩ c = 2 := by
      unfold State.fieldLevel
      dsimp only
      rw [if_neg (by simp [State.inSafetySet, State.safetyField]), ho]
      exact hwl
    have hv : (⟨0, 32, 0x4001, 0x0A, 0, 1⟩ : MapField).value w.toNat = w.toNat := by
      unfold MapField.value
      dsimp only
      rw [hw, ho]
      dsimp only
      rw [if_neg (show ¬ (o.ty.isSigned = true) by rw [ht]; decide)]
      simp
    have hcd : (⟨0, 32, 0x4001, 0x0A, 0, 1⟩ : MapField).code (s.regCurrent m.val 0x4001 0x0A c) = wrap 32 (s.regCurrent m.val 0x4001 0x0A c).int := by
      unfold MapField.code
      simp
    unfold State.writeFields
    dsimp only [List.foldl_cons, List.foldl_nil]
    rw [if_neg (show ¬ (([⟨0, 32, 0x4001, 0x0A, 0, 1⟩] : List MapField).all (fun f => decide (s.mlevel m.val < s.fieldLevel f ((entry s.masters m.val {}).sel.chan f.idx))) = true) by
      simp only [List.all_cons, List.all_nil, Bool.and_true, decide_eq_true_eq]; rw [hch, hlv]; omega)]
    rw [hv, hch, hcd, hw]
    rw [if_neg (show ¬ ((stOk != stOk || decide (wrap 32 (s.regCurrent m.val 0x4001 0x0A c).int = w.toNat)) = true) by simpa using h5)]
    have hreg : s.regObj m.val 0x4001 0x0A c (.num w.toNat) = (stOk, s.setObj 0x4001 0x0A c (decodeVal .u32 (objBytes 0x4001 0x0A (.num w.toNat)))) := by
      unfold State.regObj
      rw [ho]
      dsimp only
      rw [if_neg (show ¬ (o.staged = true) by rw [hs]; decide)]
      unfold State.writeObj
      dsimp only
      rw [h4, if_pos rfl]
      have he : ∀ (cc : Caller) (l : Nat) (e : WEntry), e.index = 0x4001 → s.writeEffect cc l e = s.putObj cc e := by
        intro cc l e b
        clear h4 h5
        unfold State.writeEffect
        dsimp only
        split
        all_goals try (exfalso; omega)
        rfl
      rw [he _ _ _ rfl]
      unfold State.putObj entryOf
      rw [ho]
      dsimp only
      rw [ht, if_neg (by decide), if_neg (by simp [State.inSafetySet, State.safetyField])]
    rw [hreg]
    simp only [if_true]
    exact val_setObj hc ..
  · intro s m w hs h1 h2
    simp only [Completes, exec, execRegisterWrite, Host.Outcome.next.injEq, exists_eq_left']
    unfold State.regWrite
    have ha : BitVec.toNat (0x41000000 : BitVec 32) = 0x41000000 := rfl
    rw [ha]
    dsimp only
    simp only [show 0x41000000 / 0x1000000 - 0x40 = 1 from rfl, show 0x41000000 % 0x1000000 = 0 from rfl]
    rw [if_neg (by decide), if_neg (by simp [h1]), if_neg (by simp [h2]), if_pos (by decide)]
    unfold State.writeHeader State.readOnly State.errBit
    refine ⟨?_, rfl⟩
    exact (congrArg RegionHdr.err (entry_updAt _ _ _ _ (by rw [hs.hdrs]; decide)))

/-- SELECT_REGISTER_WRITE (R53). -/
theorem selectRegisterWrite_effect :
  ∀ (s : State) (m : Fin 7) (g : Fin 5) (v : BitVec 32), s.Shape → (m.val = 5 → s.dbgReadOnly = false) →
    (2 ≤ s.mlevel m.val → v.toNat ≤ selMax g.val → Completes (.selectRegisterWrite m g v) s (fun t =>
      (entry t.masters m.val {}).sel = (entry s.masters m.val {}).sel.put g.val v.toNat ∧ t.hdrs = s.hdrs)) ∧
    (2 ≤ s.mlevel m.val → selMax g.val < v.toNat → Completes (.selectRegisterWrite m g v) s (fun t => t.masters = s.masters ∧
      (entry t.hdrs (groupRegion g.val) {}).err = setBit (entry s.hdrs (groupRegion g.val) {}).err 3)) ∧
    (s.mlevel m.val < 2 → Completes (.selectRegisterWrite m g v) s (fun t => t.masters = s.masters ∧
      (entry t.hdrs (groupRegion g.val) {}).err = setBit (entry s.hdrs (groupRegion g.val) {}).err 0)) := by
  intro s m g v hs h1
  have h : ((m.val == 5) && s.dbgReadOnly) = false := by
    by_cases hh : m.val = 5
    · simp [h1 hh]
    · simp [hh]
  have h' : ¬ ((decide (m.val = 5) && s.dbgReadOnly) = true) := by
    by_cases hh : m.val = 5
    · simp [h1 hh]
    · simp [hh]
  simp only [Completes, exec, execSelectRegisterWrite, Host.Outcome.next.injEq, exists_eq_left']
  rw [if_neg h']
  unfold State.writeSelect
  have hg : groupRegion g.val < s.hdrs.length := by rw [hs.hdrs]; exact (show ∀ g : Fin 5, groupRegion g.val < 9 by decide) g
  have hb : ∀ b, (entry (s.errBit (groupRegion g.val) b).hdrs (groupRegion g.val) {}).err =
      setBit (entry s.hdrs (groupRegion g.val) {}).err b := by
    intro b; unfold State.errBit; rw [entry_updAt _ _ _ _ hg]
  refine ⟨fun hl h2 => ?_, fun hl h2 => ?_, fun hl => ?_⟩
  · rw [if_neg (Nat.not_lt.2 hl), if_pos h2]
    exact ⟨by rw [entry_updAt _ _ _ _ (by rw [hs.masters]; exact m.2)], rfl⟩
  · rw [if_neg (Nat.not_lt.2 hl), if_neg (Nat.not_le.2 h2)]
    exact ⟨rfl, hb 3⟩
  · rw [if_pos hl]
    exact ⟨rfl, hb 0⟩

/-- ERROR_CLEAR (R513). -/
theorem errorClear_effect :
  ∀ (s : State) (m : Fin 7) (region : Fin 8) (mask : BitVec 32), s.Shape → (if region.val = 7 then 3 else 2) ≤ s.mlevel m.val →
    Completes (.errorClear m region mask) s (fun t =>
      (entry t.hdrs region.val {}).err = (List.range 9).foldl (fun e i => if bit mask.toNat i then clrBit e i else e) (entry s.hdrs region.val {}).err ∧
      (entry t.hdrs region.val {}).first = (if bit mask.toNat 8 then 255 else (entry s.hdrs region.val {}).first) ∧
      (entry t.hdrs region.val {}).fenced = (entry s.hdrs region.val {}).fenced) := by
  intro s m region mask hs h1
  simp only [Completes, exec, execErrorClear, Host.Outcome.next.injEq, exists_eq_left']
  rw [if_neg (Nat.not_lt.2 h1)]
  unfold State.clearError
  simp only
  rw [entry_updAt _ _ _ _ (by rw [hs.hdrs]; omega)]
  exact ⟨rfl, rfl, rfl⟩

/-- UNFENCE (R513). -/
theorem unfence_effect :
  ∀ (s : State) (m : Fin 7) (region : Fin 9) (b : Fin 16), 3 ≤ s.mlevel m.val → s.releasable region.val b.val = true →
    Completes (.unfence m region b) s (fun t => ⟨region.val, b.val⟩ ∈ t.fab.tests ∧ t.hdrs = s.hdrs) := by
  intro s m region b h1 h2
  simp only [Completes, exec, execUnfence, State.unfence, Nat.not_lt.2 h1, h2, Host.Outcome.next.injEq, exists_eq_left', if_true, if_false]
  simp

/-- FENCE_SELFTEST_DONE (R513). -/
theorem fenceSelftestDone_effect :
  ∀ (s : State) (region : Fin 9) (b : Fin 16), s.Shape → s.fab.tests.contains ⟨region.val, b.val⟩ = true →
    Completes (.fenceSelftestDone region b true) s (fun t => (entry t.hdrs region.val {}).fenced = clrBit (entry s.hdrs region.val {}).fenced b.val) ∧
    Completes (.fenceSelftestDone region b false) s (fun t => t.hdrs = s.hdrs ∧ ∀ x, x ∈ t.fab.tests ↔ x ∈ s.fab.tests ∧ x ≠ ⟨region.val, b.val⟩) := by
  intro s region b hs h1
  simp only [Completes, exec, execFenceSelftestDone, h1, Host.Outcome.next.injEq, exists_eq_left', if_true, if_false, Bool.false_eq_true]
  refine ⟨?_, by simp, ?_⟩
  · unfold State.released
    have e1 : ∀ u : State, ∀ a b, (u.workReset a b).hdrs = u.hdrs := fun u a b => State.workReset_keeps.same .hdrs rfl
    have e2 : ∀ u : State, ∀ a b, (u.objsReset a b).hdrs = u.hdrs := fun u a b => State.objsReset_keeps.same .hdrs rfl
    rw [State.offer_hdrs, e1, e2]
    simp only [State.mapMode_hdrs, State.mapFab_hdrs, State.mapHdr]
    rw [entry_updAt _ _ _ _ (by rw [hs.hdrs]; exact region.2)]
  · intro x; simp

/-- SEM_ACQUIRE (R517). -/
theorem semAcquire_effect :
  ∀ (s : State) (m : Fin 7) (sem : Fin 16), s.Shape → s.fenced 0 5 = false →
    ((entry s.fab.sems sem.val {}).holder = none → Completes (.semAcquire m sem) s (fun t =>
      (entry t.fab.sems sem.val {}).holder = some m.val ∧ (entry t.masters m.val {}).readData = semWord (some m.val) m.val)) ∧
    (∀ h, (entry s.fab.sems sem.val {}).holder = some h → Completes (.semAcquire m sem) s (fun t => t.fab = s.fab ∧
      (entry t.masters m.val {}).readData = semWord (some h) m.val)) := by
  intro s m sem hs h1
  simp only [Completes, exec, execSemAcquire, State.semAcquire, h1, Host.Outcome.next.injEq, exists_eq_left', Bool.false_eq_true, if_false]
  refine ⟨fun h2 => ?_, fun h h2 => ?_⟩
  · rw [h2]
    refine ⟨?_, ?_⟩
    · rw [State.answer_fab]; rw [entry_putAt _ _ _ _ (by rw [hs.sems]; exact sem.2)]
    · exact answer_read hs m _ rfl
  · rw [h2]
    exact ⟨State.answer_fab .., answer_read hs m _ rfl⟩

/-- SEM_RELEASE (R517). -/
theorem semRelease_effect :
  ∀ (s : State) (m : Fin 7) (sem : Fin 16), s.Shape → s.fenced 0 5 = false → (entry s.fab.sems sem.val {}).holder = some m.val →
    Completes (.semRelease m sem) s (fun t => (entry t.fab.sems sem.val {}).holder = none) := by
  intro s m sem hs h1 h2
  simp only [Completes, exec, execSemRelease, State.semRelease, h1, h2, Host.Outcome.next.injEq, exists_eq_left', Bool.false_eq_true, if_false, beq_self_eq_true, if_true]
  rw [entry_putAt _ _ _ _ (by rw [hs.sems]; exact sem.2)]

/-- SEM_RENEW (R517). -/
theorem semRenew_effect :
  ∀ (s : State) (m : Fin 7) (sem : Fin 16), s.Shape → s.fenced 0 5 = false → (entry s.fab.sems sem.val {}).holder = some m.val →
    Completes (.semRenew m sem) s (fun t => entry t.fab.sems sem.val {} = ⟨some m.val, s.now⟩) := by
  intro s m sem hs h1 h2
  simp only [Completes, exec, execSemRenew, State.semRenew, h1, h2, Host.Outcome.next.injEq, exists_eq_left', Bool.false_eq_true, if_false, beq_self_eq_true, if_true]
  rw [entry_putAt _ _ _ _ (by rw [hs.sems]; exact sem.2)]

/-- QUEUE_POST (R504). -/
theorem queuePost_effect :
  ∀ (s : State) (m : Fin 7) (q : Fin 16) (w : BitVec 32) (x : MsgQ), s.Shape → s.fenced 0 5 = false → entry s.fab.queues q.val {} = x →
    x.enable = true → x.producer = m.val →
    (x.entries.length < 32 → Completes (.queuePost m q w) s (fun t => entry t.fab.queues q.val {} =
      { x with entries := x.entries ++ [(w.toNat, s.now)] })) ∧
    (32 ≤ x.entries.length → Completes (.queuePost m q w) s (fun t => entry t.fab.queues q.val {} = { x with full := true })) := by
  intro s m q w x hs h1 h2 h3 h4
  simp only [Completes, exec, execQueuePost, State.queuePost, h1, h2, h3, h4, Host.Outcome.next.injEq, exists_eq_left', Bool.false_eq_true, if_false, Bool.not_true, bne_self_eq_false, Bool.or_self]
  refine ⟨fun h => ?_, fun h => ?_⟩
  · rw [if_neg (Nat.not_le.2 h), entry_putAt _ _ _ _ (by rw [hs.queues]; exact q.2)]
  · rw [if_pos h, entry_putAt _ _ _ _ (by rw [hs.queues]; exact q.2)]

/-- QUEUE_TAKE (R504). -/
theorem queueTake_effect :
  ∀ (s : State) (m : Fin 7) (q : Fin 16) (x : MsgQ) (e : Nat × Nat) (l : List (Nat × Nat)), s.Shape → s.fenced 0 5 = false →
    entry s.fab.queues q.val {} = x → x.consumer = m.val → x.entries = e :: l →
    Completes (.queueTake m q) s (fun t => entry t.fab.queues q.val {} = { x with entries := l } ∧
      (entry t.masters m.val {}).readData = e.1) := by
  intro s m q x e l hs h1 h2 h3 h4
  simp only [Completes, exec, execQueueTake, State.queueTake, h1, h2, h3, h4, Host.Outcome.next.injEq, exists_eq_left', Bool.false_eq_true, if_false, bne_self_eq_false]
  refine ⟨?_, answer_read hs m _ rfl⟩
  rw [State.answer_fab, entry_putAt _ _ _ _ (by rw [hs.queues]; exact q.2)]

/-- REC_OFFER (R466). -/
theorem recOffer_effect :
  ∀ (s : State) (core : Fin 4) (code : BitVec 16) (warn : Bool), 0xF000 ≤ code.toNat →
    exec (.recOffer core code warn) s = .next (s.offer code.toNat (if warn then .warn else .note) 8
      ((entry s.masters core.val {}).offerData.flatMap (le 4))) := by
  intro s core code warn h
  have h2 : code.toNat ≤ 0xFFFF := Nat.le_of_lt_succ code.isLt
  simp only [exec, execRecOffer, State.recOffer, h, h2, decide_true, Bool.and_self, if_true]

end Sys2Proof.Machine
end

