-- ==== Sys2Proof/Laws/Effect04.lean ====
section
/-! SUPPORT. One lemma per command: that it runs, on which states, and what it leaves. -/
namespace Sys2Proof.Machine

set_option Elab.async false
set_option linter.all false

/-- TIME_SEC_LO_READ (R338). -/
theorem timeSecLoRead_effect :
  ∀ (s : State) (m : Fin 7), s.Shape → Completes (.timeSecLoRead m) s (fun t =>
    (entry t.masters m.val {}).readData = s.time.sec % 4294967296 ∧
    (entry t.masters m.val {}).time = { sec := s.time.sec, ns := s.clockNs, frac := s.time.nsf % 4294967296 / 65536, tag := s.timeTag }) := by
  intro s m hs
  simp only [Completes, exec, execTimeSecLoRead, State.readTime, Host.Outcome.next.injEq, exists_eq_left']
  rw [entry_updAt _ _ _ _ (by rw [hs.masters]; exact m.2)]
  exact ⟨rfl, rfl⟩

/-- REC_NEWEST_LO_READ (R469). -/
theorem recNewestLoRead_effect :
  ∀ (s : State) (m : Fin 7), s.Shape → Completes (.recNewestLoRead m) s (fun t =>
    (entry t.masters m.val {}).readData = s.recd.newest % 4294967296 ∧ t.recd.newestHi = s.recd.newest / 4294967296) := by
  intro s m hs
  simp only [Completes, exec, execRecNewestLoRead, State.readNewest, Host.Outcome.next.injEq, exists_eq_left']
  rw [entry_updAt _ _ _ _ (by rw [hs.masters]; exact m.2)]
  exact ⟨rfl, trivial⟩

/-- REC_OLDEST_LO_READ (R469). -/
theorem recOldestLoRead_effect :
  ∀ (s : State) (m : Fin 7), s.Shape → Completes (.recOldestLoRead m) s (fun t =>
    (entry t.masters m.val {}).readData = s.recd.oldest % 4294967296 ∧ t.recd.oldestHi = s.recd.oldest / 4294967296) := by
  intro s m hs
  simp only [Completes, exec, execRecOldestLoRead, State.readOldest, Host.Outcome.next.injEq, exists_eq_left']
  rw [entry_updAt _ _ _ _ (by rw [hs.masters]; exact m.2)]
  exact ⟨rfl, trivial⟩

/-- DBG_CHALLENGE (R490). -/
theorem dbgChallenge_effect :
  ∀ (s : State), s.sec.debugLock = false → s.secUp = true → Completes .dbgChallenge s (fun t =>
    ∃ n, t.sec.dbgNonce = some n ∧ n = Config.randomBytes 32 s.sec.draws ∧ t.sec.tdo = n ++ s.serial ++ le 2 s.device) := by
  intro s h1 h2
  simp only [Completes, exec, execDbgChallenge, h1, h2, Host.Outcome.next.injEq, exists_eq_left', Bool.not_true, Bool.or_self, Bool.false_eq_true, if_false]
  exact ⟨_, rfl, rfl, rfl⟩

/-- DBG_RESPONSE (R490). -/
theorem dbgResponse_effect :
  ∀ (s : State) (cred sig n : List Nat), s.sec.debugLock = false → s.secUp = true → s.sec.dbg = none →
    (∀ e, s.sec.dbgLockout = some e → e ≤ s.now) → s.sec.dbgNonce = some n →
    Completes (.dbgResponse cred sig) s (fun t => bit (numAt cred 2 1) 0 = true ∧ s.credCheck cred sig (s.challenge n) = 0 →
      t.sec.dbg = some ⟨numAt cred 1 1, sliceOf cred 8 16, numAt cred 0x20 8, s.now⟩ ∧ t.sec.dbgNonce = none) ∧
    ((bit (numAt cred 2 1) 0 = false ∨ s.credCheck cred sig (s.challenge n) ≠ 0) → Completes (.dbgResponse cred sig) s (fun t =>
      t.sec.dbg = none ∧ t.sec.dbgNonce = none ∧ (2 ≤ (s.sec.dbgFails.filter (fun a => s.now < a + secs 60)).length →
        t.sec.dbgLockout = some (s.now + secs 60)))) := by
  intro s cred sig n h1 h2 h3 h4 h5
  have hr : (match s.sec.dbgLockout with | some t => decide (s.now < t) | none => false) = false := by
    cases h : s.sec.dbgLockout with
    | none => rfl
    | some e => simp [h4 e h]
  have hq : ∀ P Q : State → Prop, (((bit (numAt cred 2 1) 0 = true ∧ s.credCheck cred sig (s.challenge n) = 0) → Completes (.dbgResponse cred sig) s P) ∧ Q s) →
      (Completes (.dbgResponse cred sig) s (fun t => bit (numAt cred 2 1) 0 = true ∧ s.credCheck cred sig (s.challenge n) = 0 → P t) ∧ Q s) :=
    fun P Q h => ⟨completes_when ⟨_, rfl⟩ h.1, h.2⟩
  refine hq _ (fun _ => _) ?_
  show (_ → ∃ t, execDbgResponse cred sig s = .next t ∧ _) ∧ (_ → ∃ t, execDbgResponse cred sig s = .next t ∧ _)
  have he : execDbgResponse cred sig s = .next ((s.dbgJudge cred sig).mapSec (fun x => { x with jtag := .response })) := by
    unfold execDbgResponse
    dsimp only
    rw [h1, h2, h3]
    rw [if_neg]
    simp only [Bool.not_true, Bool.or_self, Bool.false_or, Option.isSome_none]
    rw [Bool.not_eq_true]
    exact hr
  rw [he]
  simp only [Host.Outcome.next.injEq, exists_eq_left']
  unfold State.dbgJudge
  rw [h5]
  refine ⟨fun a => ?_, fun a => ?_⟩
  · simp [a.1, a.2]
  · dsimp only
    rw [if_neg (by rcases a with a | a <;> simp [a])]
    unfold State.dbgFailed
    dsimp only
    split
    · exact ⟨by simp [h3], by simp, fun _ => by simp⟩
    · rename_i hh
      refine ⟨by simp [h3], by simp, fun h => ?_⟩
      exfalso; apply hh; simp only [List.length_cons]; omega

/-- DBG_ACCESS (R491). -/
theorem dbgAccess_effect :
  ∀ (s : State) (d : DebugSession), s.sec.debugLock = false → s.sec.dbg = some d →
    (∀ (addr w : BitVec 32), Completes (.dbgAccess false addr w none) s (fun t => t.sec.dbg = some { d with last := s.now } ∧
      t.sec.tdo = le 4 (entry t.masters 5 {}).readData ∧
      t.masters = ((s.mapSec (fun x => { x with jtag := .access, dbg := x.dbg.map (fun d => { d with last := s.now }) })).regRead 5 addr.toNat).masters)) ∧
    (∀ (addr w : BitVec 32) (c : Fin 4), s.dbgReadOnly = false → Completes (.dbgAccess false addr w (some c)) s (fun t =>
      t.sec.coresHeld = setBit s.sec.coresHeld c.val)) ∧
    (∀ (addr w : BitVec 32) (c : Fin 4), s.dbgReadOnly = true → Completes (.dbgAccess false addr w (some c)) s (fun t =>
      t.sec.coresHeld = s.sec.coresHeld ∧ t.hdrs = (s.errBit 0 0).hdrs)) := by
  intro s d h1 h2
  refine ⟨fun addr w => ?_, fun addr w c h3 => ?_, fun addr w c h3 => ?_⟩
  · simp only [Completes, exec, execDbgAccess, h1, h2, Host.Outcome.next.injEq, exists_eq_left', Option.isNone_some, Bool.or_self, Bool.false_eq_true, if_false, Option.map_some, Option.isSome_none]
    have hk : ∀ u : State, ∀ a, (u.regRead 5 a).sec = u.sec := fun u a => State.regRead_keeps.same .sec rfl
    refine ⟨?_, ?_, ?_⟩
    · simp only [State.mapSec_sec, hk, h2, Option.map_some]
    · simp only [State.mapSec_sec, State.mapSec_masters]
    · simp only [State.mapSec_masters]
  · have h3' : ∀ f, (s.mapSec f).dbgReadOnly = false := fun _ => h3
    simp only [Completes, exec, execDbgAccess, h1, h2, h3', Host.Outcome.next.injEq, exists_eq_left', Option.isNone_some, Bool.or_self, Bool.false_eq_true, if_false, Option.map_some, Option.isSome_some]
    simp
  · have h3' : ∀ f, (s.mapSec f).dbgReadOnly = true := fun _ => h3
    simp only [Completes, exec, execDbgAccess, h1, h2, h3', Host.Outcome.next.injEq, exists_eq_left', Option.isNone_some, Bool.or_self, Bool.false_eq_true, if_false, if_true, Option.map_some, Option.isSome_some]
    exact ⟨rfl, rfl⟩

/-- DBG_RESET (R489). -/
theorem dbgReset_effect :
  ∀ (s : State), 2 ≤ s.dbgLevel →
    (s.dbgReadOnly = false → Completes .dbgReset s (fun t => t.mode.mode = .boot ∧ t.mode.cause = s.sysCause 0x10 ∧ t.fns = {})) ∧
    (s.dbgReadOnly = true → exec .dbgReset s = .next (s.errBit 0 0)) := by
  intro s h1
  refine ⟨fun h2 => ?_, fun h2 => ?_⟩
  · simp only [Completes, exec, execDbgReset, Nat.not_lt.2 h1, h2, Host.Outcome.next.injEq, exists_eq_left', if_false, Bool.false_eq_true]
    exact ⟨rfl, rfl, rfl⟩
  · simp only [exec, execDbgReset, Nat.not_lt.2 h1, h2, if_false, if_true]

/-- DBG_END (R490). -/
theorem dbgEnd_effect :
  ∀ (s : State), s.sec.dbg.isSome = true → Completes .dbgEnd s (fun t => t.sec.dbg = none) := by
  intro s h1
  simp only [Completes, exec, execDbgEnd, h1, State.dbgEnd, Host.Outcome.next.injEq, exists_eq_left', if_true]
  simp

/-- EXTEST (R489). -/
theorem extest_effect :
  ∀ (s : State) (pins tdi : List Bool), s.extestOk = true → Completes (.extest pins tdi) s (fun t => t.sec.tdo = bitsOut pins ∧
    t.sec.boundary = (if tdi.isEmpty then pins else tdi)) := by
  intro s pins tdi h1
  simp only [Completes, exec, execExtest, h1, Host.Outcome.next.injEq, exists_eq_left', if_true]
  exact ⟨rfl, rfl⟩

/-- IDCODE (R489). -/
theorem idcode_effect :
  ∀ (s : State), exec .idcode s = .next { s with sec := { s.sec with jtag := .idcode, tdo := [0x6B, 0x6A, 0x25, 0x29] } } := by
  intro s
  rfl

/-- BYPASS (R489). -/
theorem bypass_effect :
  ∀ (s : State) (tdi : List Bool), Completes (.bypass tdi) s (fun t => t.sec.tdo = bitsOut ((false :: tdi).take tdi.length) ∧
    t.sec.bypassReg = tdi.getLast?.getD false) := by
  intro s tdi
  simp only [Completes, exec, execBypass, Host.Outcome.next.injEq, exists_eq_left']
  exact ⟨rfl, rfl⟩

/-- SAMPLE_PRELOAD (R489). -/
theorem samplePreload_effect :
  ∀ (s : State) (pins tdi : List Bool), Completes (.samplePreload pins tdi) s (fun t => t.sec.tdo = bitsOut pins ∧
    t.sec.boundary = (if tdi.isEmpty then pins else tdi)) := by
  intro s pins tdi
  simp only [Completes, exec, execSamplePreload, Host.Outcome.next.injEq, exists_eq_left']
  exact ⟨rfl, rfl⟩

/-- DBG_LOCKOUT_END (R490). -/
theorem dbgLockoutEnd_effect :
  ∀ (s : State) (e : Nat), s.sec.dbgLockout = some e → e ≤ s.now → Completes .dbgLockoutEnd s (fun t => t.sec.dbgLockout = none) := by
  intro s e h1 h2
  simp only [Completes, exec, execDbgLockoutEnd, h1, h2, Host.Outcome.next.injEq, exists_eq_left', if_true]
  rfl

/-- DBG_IDLE_TIMEOUT (R490). -/
theorem dbgIdleTimeout_effect :
  ∀ (s : State) (d : DebugSession), s.sec.dbg = some d → (d.last + secs 600 ≤ s.now ∨ s.pastEnd d.notAfter = true) →
    Completes .dbgIdleTimeout s (fun t => t.sec.dbg = none) := by
  intro s d h1 h2
  have h : (decide (d.last + secs 600 ≤ s.now) || s.pastEnd d.notAfter) = true := by
    rcases h2 with h2 | h2
    · rw [decide_eq_true h2]; rfl
    · rw [h2, Bool.or_true]
  simp only [Completes, exec, execDbgIdleTimeout, h1, Host.Outcome.next.injEq, exists_eq_left']
  rw [if_pos h]
  simp [State.dbgEnd, h1]

/-- POWER_ON_RESET (R527). -/
theorem powerOnReset_effect :
  ∀ (s : State) (va vb : Nat), va < 2500 → vb < 2500 → Completes (.powerOnReset va vb) s (fun t => t.mode.mode = .boot ∧
    t.mode.cause = 1 ∧ t.objs = [] ∧ t.fns = {} ∧ t.pwr = State.reset.pwr ∧ t.stored = s.stored) := by
  intro s va vb h1 h2
  simp only [Completes, exec, execPowerOnReset, h1, h2, decide_true, Bool.and_self, Host.Outcome.next.injEq, exists_eq_left', if_true]
  exact ⟨rfl, rfl, rfl, rfl, rfl, rfl⟩

/-- SYS_RESET_N (R84). -/
theorem sysResetN_effect :
  ∀ (s : State) (low : Nat), (10000 ≤ low → Completes (.sysResetN low) s (fun t => t.mode.mode = .boot ∧ t.mode.cause = s.sysCause 2 ∧
      t.dpx.takeovers = s.dpx.takeovers)) ∧
    (low < 1000 → exec (.sysResetN low) s = .next s) := by
  intro s low
  refine ⟨fun h => ?_, fun h => ?_⟩
  · simp only [Completes, exec, execSysResetN, h, Host.Outcome.next.injEq, exists_eq_left', if_true]
    exact ⟨rfl, rfl, rfl⟩
  · have : ¬ 10000 ≤ low := by omega
    simp only [exec, execSysResetN, h, this, if_true, if_false]

/-- HK_WATCHDOG_EXPIRY (R84). -/
theorem hkWatchdogExpiry_effect :
  ∀ (s : State), s.powered .hk = true → Completes .hkWatchdogExpiry s (fun t => t.mode.mode = .boot ∧ t.mode.cause = s.sysCause 8 ∧
    t.mode.bootEvent = 0x0013) := by
  intro s h
  simp only [Completes, exec, execHkWatchdogExpiry, h, Host.Outcome.next.injEq, exists_eq_left', if_true]
  exact ⟨rfl, rfl, rfl⟩

/-- APP_WATCHDOG_EXPIRY (R84). -/
theorem appWatchdogExpiry_effect :
  ∀ (s : State) (core : Fin 4), s.powered .app = true → bit s.sec.coresHeld core.val = false →
    Completes (.appWatchdogExpiry core) s (fun t => t.mode.cause = setBit s.mode.cause (8 + core.val) ∧ t.mode.mode = s.mode.mode) := by
  intro s core h1 h2
  simp only [Completes, exec, execAppWatchdogExpiry, h1, h2, Host.Outcome.next.injEq, exists_eq_left', Bool.not_false, Bool.and_self, if_true]
  unfold State.appReset
  dsimp only
  simp only [show List.range 4 = [0,1,2,3] from rfl, show List.range 12 = [0,1,2,3,4,5,6,7,8,9,10,11] from rfl, List.foldl_cons, List.foldl_nil]
  match core with
  | ⟨0, _⟩ => refine ⟨?_, ?_⟩ <;> simp [State.dropSems, bit, setBit]
  | ⟨1, _⟩ => refine ⟨?_, ?_⟩ <;> simp [State.dropSems, bit, setBit]
  | ⟨2, _⟩ => refine ⟨?_, ?_⟩ <;> simp [State.dropSems, bit, setBit]
  | ⟨3, _⟩ => refine ⟨?_, ?_⟩ <;> simp [State.dropSems, bit, setBit]

/-- BOOT_SEQUENCE (R89). -/
theorem bootSequence_effect :
  ∀ (s : State) (x : BootIn), s.mode.mode = .boot → s.mode.bootStep = 0 → s.mode.halted = false →
    Completes (.bootSequence x) s (fun t =>
      (((s.boot12 x).boot3 x).1 = false → t.mode.halted = true ∧ t.pwr.domains = 7) ∧
      (∀ a b c d, (s.boot12 x).boot3 x = (true, a) → a.bootImages = (true, b) → (b.stepDone 4).boot5 x = (true, c) →
        c.boot6 x = (true, d) → t.mode.bootStep = 8 ∧ t.mode.listenAt = t.now ∧ t.mode.streamSeen = false ∧
          t.fns = (d.boot7 x).fns)) := by
  intro s x h1 h2 h3
  have key : ((((s.boot12 x).boot3 x).1 = false) → Completes (.bootSequence x) s (fun t => t.mode.halted = true ∧ t.pwr.domains = 7)) ∧
      (∀ a b c d, ((s.boot12 x).boot3 x = (true, a) ∧ a.bootImages = (true, b) ∧ (b.stepDone 4).boot5 x = (true, c) ∧ c.boot6 x = (true, d)) →
        Completes (.bootSequence x) s (fun t => t.mode.bootStep = 8 ∧ t.mode.listenAt = t.now ∧ t.mode.streamSeen = false ∧ t.fns = (d.boot7 x).fns)) := by
    have hc : ¬ ((s.mode.mode != .boot || s.mode.bootStep != 0 || s.mode.halted) = true) := by simp [h1, h2, h3]
    show (_ → ∃ t, execBootSequence x s = .next t ∧ _) ∧ (∀ a b c d, _ → ∃ t, execBootSequence x s = .next t ∧ _)
    unfold execBootSequence
    rw [if_neg hc]
    simp only [Host.Outcome.next.injEq, exists_eq_left']
    generalize (s.boot12 x).boot3 x = y
    obtain ⟨ok, u⟩ := y
    refine ⟨fun h => ?_, fun a b c d ⟨ha, hb, hcc, hd⟩ => ?_⟩
    · simp only at h
      subst h
      exact ⟨rfl, rfl⟩
    · injection ha with e1 e2
      subst e1; subst e2
      simp only [hb, Bool.not_true, Bool.false_eq_true, if_false, if_true]
      unfold State.bootRest
      simp only [hcc, hd, Bool.not_true, Bool.false_eq_true, if_false]
      generalize d.boot7 x = v
      simp [State.boot8]
  obtain ⟨t, e, p, q⟩ := completes_and (completes_when ⟨_, rfl⟩ key.1) (completes_all ⟨_, rfl⟩ (fun a => completes_all ⟨_, rfl⟩ (fun b =>
    completes_all ⟨_, rfl⟩ (fun c => completes_all ⟨_, rfl⟩ (fun d => completes_when ⟨_, rfl⟩ (key.2 a b c d))))))
  exact ⟨t, e, p, fun a b c d h i j k => q a b c d ⟨h, i, j, k⟩⟩

/-- DPX_LISTEN_WINDOW_END (R91). -/
theorem dpxListenWindowEnd_effect :
  ∀ (s : State), s.mode.mode = .boot → s.mode.bootStep = 8 → s.mode.listenAt + s.listenWindow ≤ s.now →
    Completes .dpxListenWindowEnd s (fun t => t.mode.mode = s.bootMode.1 ∧ t.mode.sub = s.bootMode.2) := by
  intro s h1 h2 h3
  simp only [Completes, exec, execDpxListenWindowEnd, h1, h2, h3, decide_true, beq_self_eq_true, Bool.and_self, Host.Outcome.next.injEq, exists_eq_left', if_true]
  split <;> simp [enterMode_mode]

/-- FIRMWARE_VERIFY (R477). -/
theorem firmwareVerify_effect :
  ∀ (s : State), s.sec.fwRun = false → s.secUp = true → (s.mode.mode = .blocked ∨ s.mode.mode = .forming) →
    Completes .firmwareVerify s (fun t => (s.bootImages.1 = true → t.sec.fwRun = true ∧ t.pwr.domains = setBit s.pwr.domains 3) ∧
      (s.bootImages.1 = false → t.pwr = s.pwr ∧ t.fns = s.fns ∧ t.mode.mode = s.mode.mode)) := by
  intro s h1 h2 h3
  have hq : ∀ (G H : Prop) (P Q : State → Prop), ((G → Completes .firmwareVerify s P) ∧ (H → Completes .firmwareVerify s Q)) →
      Completes .firmwareVerify s (fun t => (G → P t) ∧ (H → Q t)) :=
    fun G H P Q h => completes_and (completes_when ⟨_, rfl⟩ h.1) (completes_when ⟨_, rfl⟩ h.2)
  refine hq _ _ _ _ ?_
  have hc : ¬ ((s.sec.fwRun || !s.secUp || (s.mode.mode != .blocked && s.mode.mode != .forming)) = true) := by
    rcases h3 with h3 | h3 <;> simp [h1, h2, h3]
  have hk := State.bootImages_keeps (s := s)
  show (_ → ∃ t, execFirmwareVerify s = .next t ∧ _) ∧ (_ → ∃ t, execFirmwareVerify s = .next t ∧ _)
  unfold execFirmwareVerify
  rw [if_neg hc]
  simp only [Host.Outcome.next.injEq, exists_eq_left']
  generalize hb : s.bootImages = b at *
  obtain ⟨ok, u⟩ := b
  refine ⟨fun h => ?_, fun h => ?_⟩
  · simp only at h hk
    subst h
    refine ⟨?_, ?_⟩
    · rw [if_pos rfl]; exact (bootApps_fw _).trans (bootImages_fw (t := u) hb)
    · have e1 : ∀ v : State, v.bootApps.pwr = v.pwr := fun v => State.bootApps_keeps.same .pwr rfl
      rw [if_pos rfl, e1]
      have : u.pwr = s.pwr := hk.same .pwr rfl
      rw [this]
  · simp only at h hk
    subst h
    exact ⟨hk.same .pwr rfl, hk.same .fns rfl, by have := bootImages_mode s; rw [hb] at this; exact this⟩

/-- FEED_STATE_CHANGE (R419). -/
theorem feedStateChange_effect :
  ∀ (s : State) (p : Side) (mv : BitVec 16), Completes (.feedStateChange p mv) s (fun t =>
    t.feedOf p = { level := s.feedEnters (s.feedOf p) mv.toNat, volt := mv.toNat }) := by
  intro s p mv
  simp only [Completes, exec, execFeedStateChange, Host.Outcome.next.injEq, exists_eq_left']
  have hn : ∀ u : State, u.neitherJudge.feedOf p = u.feedOf p := by
    intro u
    unfold State.neitherJudge State.feedOf
    dsimp only
    cases p <;> dsimp only <;> split <;> (try split) <;> simp
  have he : ∀ (u : State) (l : FeedLevel), (u.feedEvent p l).feedOf p = u.feedOf p := by
    intro u l
    unfold State.feedEvent State.feedOf
    cases p <;> cases l <;> simp
  have hp : ∀ f : Feed, (s.putFeed p f).feedOf p = f := by intro f; cases p <;> rfl
  split
  · exact hp _
  · rw [hn, he, hp]

/-- VDD_3V3_CHECK (R420). -/
theorem vdd3v3Check_effect :
  ∀ (s : State) (mv : BitVec 16), s.powered .hk = true → s.pwr.vddAt + ms 1 ≤ s.now →
    Completes (.vdd3v3Check mv) s (fun t => t.pwr.vdd33 = mv.toNat ∧
      t.pwr.vdd33Bad = (decide (mv.toNat < 3000) || decide (3600 < mv.toNat)) ∧ t.pwr.vddAt = s.now) := by
  intro s mv h1 h2
  simp only [Completes, exec, execVdd3v3Check, h1, Host.Outcome.next.injEq, exists_eq_left']
  rw [if_pos (by simp only [Bool.true_and]; exact decide_eq_true h2)]
  split <;> simp

/-- PMBUS_POLL (R420). -/
theorem pmbusPoll_effect :
  ∀ (s : State) (ans : List (Option Nat)), s.powered .hk = true → (s.pwr.pollDue = true ∨ s.pwr.pollAt + ms 10 ≤ s.now) →
    Completes (.pmbusPoll ans) s (fun t => t.pwr.pollAt = s.now ∧ t.pwr.pollDue = false) ∧
    (∀ a w, s.PMBUS_DEV = [a] → ans = [some w] → s.fenced 0 3 = false → Completes (.pmbusPoll ans) s (fun t =>
      { addr := a, status := w % 65536, misses := 0 } ∈ t.pwr.regs)) := by
  intro s ans h1 h2
  have hc : (s.powered .hk && (s.pwr.pollDue || decide (s.pwr.pollAt + ms 10 ≤ s.now))) = true := by
    rw [h1, Bool.true_and]
    rcases h2 with h2 | h2
    · rw [h2, Bool.true_or]
    · rw [decide_eq_true h2, Bool.or_true]
  simp only [Completes, exec, execPmbusPoll, hc, Host.Outcome.next.injEq, exists_eq_left', if_true]
  refine ⟨?_, ?_⟩
  · have := poll_fold (fun _ => none) (s.PMBUS_DEV.zipIdx) (s.mapPwr (fun p => { p with
        pollAt := s.now, pollDue := false, regs := p.regs.filter (fun r => s.PMBUS_DEV.contains r.addr) }))
        (fun s a => if s.fenced 0 3 then none else entry ans a.2 none)
    exact this
  · intro a w h3 h4 h5
    have h5' : ∀ f, (s.mapPwr f).fenced 0 3 = false := fun _ => h5
    have h3' : ∀ f, (s.mapPwr f).PMBUS_DEV = [a] := fun _ => h3
    simp only [h3', h3, h4, List.zipIdx_cons, List.zipIdx_nil, List.foldl_cons, List.foldl_nil, h5', Bool.false_eq_true, if_false]
    exact pollOne_mem _ a w

/-- PMB_ALERT (R537). -/
theorem pmbAlert_effect :
  ∀ (s : State), s.powered .hk = true → exec .pmbAlert s = .next { s with pwr := { s.pwr with pollDue := true } } := by
  intro s h
  simp only [exec, execPmbAlert, h, if_true]
  rfl

/-- TICK (R29). -/
theorem tick_effect :
  (∀ (s : State) (codes : List (List Int)), s.edge = false → s.ps.opened = false → (s.tick + 1) % s.fp ≠ 0 → s.k + 2 ≠ s.fp →
    Completes (.tick codes) s (fun t =>
      t.tick = s.tick + 1 ∧ t.k = (s.tick + 1) % s.fp ∧ t.now = s.now + s.tickNs ∧ t.edge = false)) ∧
  (∀ (s : State) (codes : List (List Int)), s.edge = true → s.ps.opened = false → Completes (.tick codes) s (fun t =>
    t.tick = s.tick ∧ t.k = s.k ∧ t.now = s.now ∧ t.edge = false)) := by
  have hp : ∀ (u : State) codes, u.edge = false → (if u.ctlUp then u.tickPoints codes else u).tick = u.tick ∧
      (if u.ctlUp then u.tickPoints codes else u).k = u.k ∧ (if u.ctlUp then u.tickPoints codes else u).now = u.now ∧
      (if u.ctlUp then u.tickPoints codes else u).edge = false := by
    intro u codes he
    split
    · have hk := State.tickPoints_keeps (s := u) (codes := codes)
      exact ⟨hk.same .tick rfl, hk.same .k rfl, hk.same .now rfl, (hk.same .edge rfl).trans he⟩
    · exact ⟨rfl, rfl, rfl, he⟩
  refine ⟨?_, ?_⟩
  · intro s codes h1 h1' h2 h3
    simp only [Completes, exec, execTick, Host.Outcome.next.injEq, exists_eq_left']
    unfold State.tickStep
    have hn : s.nextK ≠ 0 := h2
    simp only [h1, h1', hn, Bool.false_eq_true, if_false]
    have hr : s.refsDue = s := by
      unfold State.refsDue
      simp [h3]
    have hl : s.lastDue = s := by
      unfold State.lastDue
      simp [hn]
    have ha : s.advance.tick = s.tick + 1 ∧ s.advance.k = (s.tick + 1) % s.fp ∧ s.advance.now = s.now + s.tickNs := by
      unfold State.advance
      rw [hr, hl]
      have hsa := State.subApply_keeps (s := s)
      have e0 : s.subApply.tick = s.tick ∧ s.subApply.now = s.now := ⟨hsa.same .tick rfl, hsa.same .now rfl⟩
      have e0' : s.subApply.nextK = (s.tick + 1) % s.fp ∧ s.subApply.tickNs = s.tickNs := by
        have ho := subApply_objs s
        have hm := subApply_tickLen s
        unfold State.nextK State.fp State.tickNs State.FORM_PERIOD State.obj
        rw [e0.1, ho, hm]
        exact ⟨rfl, rfl⟩
      have e1 : ∀ u : State, (u.tickTime.latchTai).tick = u.tick ∧ (u.tickTime.latchTai).k = u.k := by
        intro u
        have a := State.tickTime_keeps (s := u)
        have b := State.latchTai_keeps (s := u.tickTime)
        exact ⟨(b.same .tick rfl).trans (a.same .tick rfl), (b.same .k rfl).trans (a.same .k rfl)⟩
      have e2 : ∀ u : State, (u.tickTime.latchTai).now = u.now + u.tickNs := by
        intro u
        have b := State.latchTai_keeps (s := u.tickTime)
        refine (b.same .now rfl).trans ?_
        unfold State.tickTime
        refine ((State.runClock_keeps (s := _)).same .now rfl).trans ?_
        exact (State.slewPlls_keeps (s := _)).same .now rfl
      have e3 : ∀ u : State, u.slotsFinish.tick = u.tick ∧ u.slotsFinish.k = u.k ∧ u.slotsFinish.now = u.now := by
        intro u
        have a := State.slotsFinish_keeps (s := u)
        exact ⟨a.same .tick rfl, a.same .k rfl, a.same .now rfl⟩
      dsimp only
      rw [e0'.1, if_neg h2]
      have e4 : ∀ k, ({ s.subApply with tick := s.subApply.tick + 1, k := k } : State).tickNs = s.tickNs := fun k => e0'.2
      split
      · rw [(e3 _).1, (e3 _).2.1, (e3 _).2.2, (e1 _).1, (e1 _).2, e2, e4]
        exact ⟨by rw [← e0.1], rfl, by rw [← e0.2]⟩
      · rw [(e1 _).1, (e1 _).2, e2, e4]
        exact ⟨by rw [← e0.1], rfl, by rw [← e0.2]⟩
    have := hp { s.advance.edgeMark with edge := false } codes rfl
    exact ⟨this.1.trans ha.1, this.2.1.trans ha.2.1, this.2.2.1.trans ha.2.2, this.2.2.2⟩
  · intro s codes h1 h2
    simp only [Completes, exec, execTick, Host.Outcome.next.injEq, exists_eq_left']
    unfold State.tickStep
    simp only [h1, h2, if_true, Bool.false_eq_true, if_false]
    exact hp { s with edge := false } codes rfl

/-- FORMING_PERIOD_BOUNDARY (R32). -/
theorem formingPeriodBoundary_effect :
  (∀ (s : State), s.ps.opened = false → s.atEnd = true → s.advance.ctlUp = true → s.advance.boundaryOpen.ctlUp = true →
    exec .formingPeriodBoundary s = .next { s.advance.boundaryOpen.boundaryRest.edgeMark with edge := true }) ∧
  (∀ (s : State), s.ps.opened = true → s.ctlUp = true → exec .formingPeriodBoundary s = .next s.boundaryRest.edgeMark) := by
  refine ⟨fun s h1 h2 h3 h4 => ?_, fun s h1 h2 => ?_⟩
  · simp only [exec, execFormingPeriodBoundary, h1, h2, if_true, Bool.false_eq_true, if_false, State.beginPeriod, State.openPeriod, State.closePeriod, h3, h4]
  · simp only [exec, execFormingPeriodBoundary, h1, h2, if_true, State.closePeriod]

/-- EXT_SLOTS_RUN (R148). -/
theorem extSlotsRun_effect :
  ∀ (s : State), s.forming = true → s.extDone = false → 2 ≤ s.k → s.k + 3 ≤ s.fp →
    Completes .extSlotsRun s (fun t => t.extDone = true) ∧
    (∀ i, s.slotsNow = [i] → s.fenced 1 2 = false →
      Completes .extSlotsRun s (fun t => (Config.microcode (s.IMAGE i) s.form.extIn).2 ≤ s.BUDGET i → t.form.overran = false ∧
        t.law.exOut = putAt i (signed 32 (wrap 32 (Config.microcode (s.IMAGE i) s.form.extIn).1)) s.law.exOut)) := by
  intro s h1 h2 h3 h4
  refine ⟨?_, fun i h7 h5 => completes_when ⟨_, rfl⟩ (fun h6 => ?_)⟩ <;>
    simp only [Completes, exec, execExtSlotsRun, h1, h2, h3, h4, decide_true, Bool.not_false, Bool.and_self, if_true, Host.Outcome.next.injEq, exists_eq_left']
  · unfold State.slotsRun
    dsimp only
    split <;> rfl
  · unfold State.slotsRun
    simp only [h7, h5, List.map_cons, List.map_nil, List.filter_cons, List.filter_nil, Nat.not_lt.2 h6, decide_false, Bool.or_self, Bool.false_eq_true, if_false, List.foldl_cons, List.foldl_nil, List.any_nil]
    exact ⟨rfl, rfl⟩

/-- EXT_SLOT_OVERRUN (R149). -/
theorem extSlotOverrun_effect :
  ∀ (s : State), s.forming = true → s.form.overran = true →
    (s.law.exN = 0 → Completes .extSlotOverrun s (fun t => t.law.exN = 1 ∧ t.form.overran = false ∧
      t.law.exSt = (if s.law.exSt = 2 then 2 else 1))) ∧
    (s.law.exN = 1 → Completes .extSlotOverrun s (fun t => t.law.exSt = 2 ∧ t.law.exN = 2 ∧ t.form.overran = false)) ∧
    (2 ≤ s.law.exN → s.isDown .form = false → Completes .extSlotOverrun s (fun t => t.tripped .form ∧ t.law.rpend = 255)) := by
  intro s h1 h2
  simp only [Completes, exec, execExtSlotOverrun, h1, h2, Bool.and_self, if_true, Host.Outcome.next.injEq, exists_eq_left']
  unfold State.overrunAct
  refine ⟨fun h => ?_, fun h => ?_, fun h h3 => ?_⟩
  · have h' : s.form.b.exN = 0 := h
    simp only [h, State.law]
    by_cases e : s.form.b.exSt = 2 <;> simp [State.mapB, e, State.law, h']
  · simp only [h]
    simp [State.mapB, State.law]
  · dsimp only
    rw [if_neg (by omega), if_neg (by omega)]
    generalize hv : (State.mapB (State.mapForm s _) _) = v
    have hd : v.isDown .form = false := by subst hv; exact h3
    have ht := trip_tripped v 0x1093 .form [] hd
    generalize State.trip v 0x1093 .form [] = u at *
    exact ⟨ht, rfl⟩

/-- EXT_RESTORE_REACHED (R149). -/
theorem extRestoreReached_effect :
  ∀ (s : State), s.restoreDue = true → Completes .extRestoreReached s (fun t => t.law.exSt = 0 ∧ t.law.exRun = 0) := by
  intro s h
  simp only [Completes, exec, execExtRestoreReached, h, if_true, Host.Outcome.next.injEq, exists_eq_left']
  simp [State.extRestore, State.law, State.mapB]

end Sys2Proof.Machine
end

