-- ==== Sys2Proof/Laws/Effect05.lean ====
section
/-! SUPPORT. One lemma per command: that it runs, on which states, and what it leaves. -/
namespace Sys2Proof.Machine

set_option Elab.async false
set_option linter.all false

/-- REFS_SEND (R111). -/
theorem refsSend_effect :
  ∀ (s : State) (r : RefSet), s.k + 2 = s.fp → s.refsDone = false → s.edge = false → s.slotsFinish.form.refs = some r →
    s.slotsFinish.forming = true → s.slotsFinish.spn.leader = some s.slotsFinish.device → s.slotsFinish.holdsLease = true →
    Completes .refsSend s (fun t => t.refsDone = true ∧ t.arm.next = some r ∧
      (s.slotsFinish.spnActive = true → t.tx = .spine 3 (spineBytes 0x31 s.device s.station s.slotsFinish.tick s.slotsFinish.law.payload) ::
        .spine 3 (spineBytes 0x30 s.device s.station s.slotsFinish.tick r.payload) :: s.slotsFinish.tx)) := by
  intro s r h1 h2 h3 h4 h5 h6 h7
  simp only [Completes, exec, execRefsSend, h1, h2, h3, decide_true, Bool.not_false, Bool.and_self, if_true, Host.Outcome.next.injEq, exists_eq_left']
  have hk := State.slotsFinish_keeps (s := s)
  have e1 : s.slotsFinish.device = s.device := hk.same .device rfl
  have e2 : s.slotsFinish.station = s.station := hk.same .station rfl
  generalize s.slotsFinish = u at *
  unfold State.refsSend
  dsimp only
  rw [h4]
  dsimp only
  rw [if_pos (show (State.forming { u with refsDone := true } && u.spn.leader == some u.device && State.holdsLease { u with refsDone := true }) = true from by
    rw [show State.forming { u with refsDone := true } = true from h5, show State.holdsLease { u with refsDone := true } = true from h7, h6]; simp)]
  have hs : ∀ (v : State) a b c, (v.spineSend a b c).refsDone = v.refsDone ∧ (v.spineSend a b c).arm = v.arm ∧ (v.spineSend a b c).spnActive = v.spnActive := by
    intro v a b c; unfold State.spineSend; split <;> exact ⟨rfl, rfl, rfl⟩
  refine ⟨?_, rfl, ?_⟩
  · simp [hs]
  · intro h8
    have h9 : ∀ b, State.spnActive { u with refsDone := b } = true := fun _ => h8
    simp only [State.mapArm_tx]
    rw [spineSend_active (show State.spnActive { u with refsDone := true } = true from h8)]
    rw [spineSend_active (v := State.emit { u with refsDone := true } _) h8]
    simp only [State.emit, e1, e2]
    rfl

/-- PERIOD_LAST_TICK (R256). -/
theorem periodLastTick_effect :
  ∀ (s : State), s.ctlUp = true → s.k + 1 = s.fp → s.lastDone = false → s.edge = false →
    Completes .periodLastTick s (fun t => t.lastDone = true ∧ (s.spnActive = true →
      (s.spn.pub.getD s.publication).call ∈ t.spn.calls)) := by
  intro s h1 h2 h3 h4
  simp only [Completes, exec, execPeriodLastTick, h1, h2, h3, h4, decide_true, Bool.not_false, Bool.and_self, if_true, Host.Outcome.next.injEq, exists_eq_left']
  refine ⟨rfl, fun h => ?_⟩
  have k := publishAll_call s h
  unfold State.lastWork
  generalize s.publishAll = v at *
  have e1 : ∀ u : State, u.shadowCheck.spn = u.spn := fun u => State.shadowCheck_keeps.same .spn rfl
  have e2 : ∀ u : State, u.ckptSend.spn = u.spn := fun u => State.ckptSend_keeps.same .spn rfl
  have e3 : ∀ u : State, u.handSend.spn = u.spn := fun u => State.handSend_keeps.same .spn rfl
  have e4 : ∀ u : State, u.lawShot.spn = u.spn := fun u => State.lawShot_keeps.same .spn rfl
  show _ ∈ (v.shadowCheck.lawShot.ckptSend.handSend).spn.calls
  rw [e3, e2, e4, e1]
  exact k

/-- MARKER (R246). -/
theorem markerMsg_effect :
  ∀ (s : State) (p : Side) (header : BitVec 64) (data : List Nat) (arrival : Int), s.spnActive = true →
    (spineParse header.toNat).type = 0x01 → spineGood header.toNat data = true → (spineParse header.toNat).src ≠ s.device →
    s.firstCopy (spineParse header.toNat) p.code = true →
    ((spineParse header.toNat).station ≠ s.station ∨ entry data 0 0 ≠ s.tickCode → Completes (.markerMsg p header data arrival) s (fun t =>
      t.spn.foreign = true ∧ t.spn.member = false)) ∧
    ((spineParse header.toNat).station = s.station → entry data 0 0 = s.tickCode → s.spn.isMaster = false →
      s.spn.master = some (spineParse header.toNat).src →
      Completes (.markerMsg p header data arrival) s (fun t => t.spn.foreign = false ∧ t.spn.master = s.spn.master)) := by
  intro s p header data arrival h1 h2 h3 h4 h0
  simp only [Completes, exec, execMarkerMsg, Host.Outcome.next.injEq, exists_eq_left']
  have hok : (s.spnActive && (spineParse header.toNat).type == 0x01 && spineGood header.toNat data && (spineParse header.toNat).src != s.device &&
      s.firstCopy (spineParse header.toNat) p.code) = true := by simp [h0, h1, h2, h3, h4]
  have hf : ∃ tx, s.spineForward p header.toNat data = { s with tx := tx } := by
    unfold State.spineForward
    dsimp only
    split
    · exact ⟨s.tx, rfl⟩
    · exact ⟨_, rfl⟩
  obtain ⟨tx, ht⟩ := hf
  rw [ht, hok]
  refine ⟨fun h => ?_, fun h5 h6 h7 h8 => ?_⟩
  · rw [if_neg (by simp), if_pos (by rcases h with h | h <;> simp [h])]
    unfold State.foreignMarker
    generalize hv : State.warnOn _ _ _ _ = v
    have hvf : v.spn.foreign = true := by subst hv; simp
    obtain ⟨m, hm, hz⟩ := memberJudge_spn v
    rw [hm]
    exact ⟨hvf, hz (.inl hvf)⟩
  · rw [if_neg (by simp), if_neg (by simp [h5, h6]), if_neg (by simp [h7]), h8]
    dsimp only
    rw [if_pos (by simp), h5]
    simp only [beq_self_eq_true, Bool.and_self, if_true]
    generalize hv0 : State.mapSpn (State.markCopy _ _ _) _ = v0
    have hm0 : v0.spn.master = some (spineParse header.toNat).src := by subst hv0; exact h8
    clear hv0 ht
    unfold State.goodMarker
    dsimp only
    generalize hv : State.warnOff _ _ _ = v
    have e1 : v.spn.foreign = false := by subst hv; rfl
    have e2 : v.spn.master = some (spineParse header.toNat).src := by subst hv; exact hm0
    have e3 : v.follow (spineParse header.toNat).src = v := by unfold State.follow; rw [if_pos (by rw [e2]; simp)]
    rw [e3]
    split
    · rw [lockLost_foreign, (lockLost_spec _).2]
      exact ⟨e1, e2⟩
    · split
      · exact ⟨e1, e2⟩
      · rw [(memberJudge_keep _).1, (memberJudge_keep _).2, (markerPhase_keep ..).1, (markerPhase_keep ..).2]
        exact ⟨e1, e2⟩

/-- SHARE (R160). -/
theorem shareMsg_effect :
  ∀ (s : State) (p : Side) (header : BitVec 64) (data : List Nat), s.hears 0x10 0 header data s.forThis → s.ARM_LEAD = 0 →
    s.activeOf s.ARM_PARTNER_POS = some (spineParse header.toNat).src →
    Completes (.shareMsg p header data false) s (fun t => t.arm.held = some { tick := s.nextTick, no := ofLe (data.take 2), im := ofLeI ((data.drop 2).take 4), imOk := bit (entry data 6 0) 0, block := bit (entry data 6 0) 1 }) := by
  intro s p header data h h1 h2
  simp only [Completes, exec, execShareMsg, Host.Outcome.next.injEq, exists_eq_left']
  obtain ⟨tx, seen, e⟩ := heard s p _ _ _ _ _ (fun x s =>
    let fl := entry data 6 0
    if s.ARM_LEAD = 0 && s.activeOf s.ARM_PARTNER_POS == some x.src then
      let h : ShareMsg := { tick := s.nextTick, no := ofLe (data.take 2), im := ofLeI ((data.drop 2).take 4)
                            imOk := bit fl 0, block := bit fl 1 }
      s.mapArm (fun a => { a with held := some h })
    else s) h.1 h.2.1 h.2.2
  refine (congrArg (fun t => t.arm.held) e).trans ?_
  dsimp only
  rw [if_pos]
  · rfl
  · have a : State.ARM_LEAD { s with tx := tx, spn := { s.spn with seen := seen } } = 0 := h1
    have b : State.activeOf { s with tx := tx, spn := { s.spn with seen := seen } } (State.ARM_PARTNER_POS { s with tx := tx, spn := { s.spn with seen := seen } }) = some (spineParse header.toNat).src := h2
    rw [a, b]; simp

/-- REPORT (R162). -/
theorem spanReport_effect :
  ∀ (s : State) (p : Side) (header : BitVec 64) (data : List Nat), s.hears 0x11 0 header data s.forLast → s.leads2 = true →
    s.activeOf s.ARM_PARTNER_POS = some (spineParse header.toNat).src →
    (bit (entry data 0 0) 0 = false → Completes (.spanReport p header data false) s (fun t =>
      t.arm.report = some { tick := s.nextTick - 1, block := false, lo := ofLe ((data.drop 2).take 2), hi := ofLe ((data.drop 4).take 2) })) ∧
    (bit (entry data 0 0) 0 = true → s.flagOf (s.nextTick - 1) = some false → s.mode.mode = .forming → s.isRun .arm = true →
      Completes (.spanReport p header data false) s (fun t => t.tripped .arm)) := by
  intro s p header data h h1 h2
  simp only [Completes, exec, execSpanReport, Host.Outcome.next.injEq, exists_eq_left']
  obtain ⟨tx, seen, e⟩ := heard s p _ _ _ _ _ (fun x s =>
    if s.leads2 && s.activeOf s.ARM_PARTNER_POS == some x.src then
      let blk := bit (entry data 0 0) 0
      let n := s.nextTick - 1
      let r : ReportMsg := { tick := n, block := blk, lo := ofLe ((data.drop 2).take 2), hi := ofLe ((data.drop 4).take 2) }
      let s := s.mapArm (fun a => { a with report := some r })
      if blk && s.flagOf n == some false && s.mode.mode == .forming && s.isRun .arm then s.partnerTrip else s
    else s) h.1 h.2.1 h.2.2
  have a : State.leads2 { s with tx := tx, spn := { s.spn with seen := seen } } = true := h1
  have b : State.activeOf { s with tx := tx, spn := { s.spn with seen := seen } } (State.ARM_PARTNER_POS { s with tx := tx, spn := { s.spn with seen := seen } }) = some (spineParse header.toNat).src := h2
  refine ⟨fun h3 => ?_, fun h3 h4 h5 h6 => ?_⟩
  · refine (congrArg (fun t => t.arm.report) e).trans ?_
    dsimp only
    rw [if_pos (by rw [a, b]; simp)]
    simp only [h3, Bool.false_and, Bool.false_eq_true, if_false]
    rfl
  · refine (congrArg (fun t => t.tripped .arm) e).mpr ?_
    dsimp only
    rw [if_pos (by rw [a, b]; simp)]
    rw [if_pos]
    · exact trip_tripped _ _ _ _ (isRun_up h6)
    · have c : State.flagOf (State.mapArm { s with tx := tx, spn := { s.spn with seen := seen } } (fun a => { a with report := some { tick := State.nextTick { s with tx := tx, spn := { s.spn with seen := seen } } - 1, block := bit (entry data 0 0) 0, lo := ofLe ((data.drop 2).take 2), hi := ofLe ((data.drop 4).take 2) } })) (State.nextTick { s with tx := tx, spn := { s.spn with seen := seen } } - 1) = some false := h4
      have d : ∀ f, (State.mapArm { s with tx := tx, spn := { s.spn with seen := seen } } f).isRun .arm = true := fun _ => h6
      rw [c, d, h3]
      simp [h5]

/-- ARM_STATE (R271). -/
theorem armState_effect :
  ∀ (s : State) (p : Side) (header : BitVec 64) (data : List Nat), s.hears 0x12 0 header data s.forLast →
    (Completes (.armState p header data false) s (fun t => entry data 0 0 % 8 < s.spn.arms.length →
      entry t.spn.arms (entry data 0 0 % 8) {} = { seen := (entry s.spn.arms (entry data 0 0 % 8) {}).seen || bit (entry data 1 0) 1, tick := s.nextTick - 1 })) ∧
    (s.ARM_LEAD = 1 → s.mode.mode = .forming → s.isRun .arm = true → entry data 0 0 % 8 ≠ s.ownArm → bit (entry data 1 0) 0 = true →
      bit (entry data 1 0) 1 = true → Completes (.armState p header data false) s (fun t => t.tripped .arm)) := by
  intro s p header data h
  simp only [Completes, exec, execArmState, Host.Outcome.next.injEq, exists_eq_left']
  obtain ⟨tx, seen, e⟩ := heard s p _ _ _ _ _ (fun _ s =>
    let idx := entry data 0 0 % 8
    let fl := entry data 1 0
    let lead := s.ARM_LEAD == 1 && s.mode.mode == .forming && s.isRun .arm
    let s := s.mapSpn (fun n => { n with arms := updAt idx (fun a => { seen := a.seen || bit fl 1, tick := s.nextTick - 1 }) n.arms })
    if lead && idx != s.ownArm && bit fl 0 && bit fl 1 then s.trip 0x5240 .arm [] else s) h.1 h.2.1 h.2.2
  have ht : ∀ (u : State) c q, (u.trip c .arm q).spn = u.spn := fun u c q => State.trip_keeps.same .spn rfl
  refine ⟨fun hl => ?_, fun h1 h2 h3 h4 h5 h6 => ?_⟩
  · refine (congrArg (fun t => entry t.spn.arms (entry data 0 0 % 8) {}) e).trans ?_
    dsimp only
    split
    · rw [ht]; simp only [State.mapSpn_spn]; rw [entry_updAt _ _ _ _ hl]; rfl
    · simp only [State.mapSpn_spn]; rw [entry_updAt _ _ _ _ hl]; rfl
  · refine (congrArg (fun t => t.tripped .arm) e).mpr ?_
    dsimp only
    rw [if_pos]
    · exact trip_tripped _ _ _ _ (isRun_up h3)
    · have a : State.ARM_LEAD { s with tx := tx, spn := { s.spn with seen := seen } } = 1 := h1
      have b : State.isRun { s with tx := tx, spn := { s.spn with seen := seen } } .arm = true := h3
      have c : ∀ f, State.ownArm (State.mapSpn { s with tx := tx, spn := { s.spn with seen := seen } } f) = s.ownArm := fun _ => rfl
      rw [a, b, c]
      simp [h2, h4, h5, h6]

/-- ROLL_CALL (R256). -/
theorem rollCall_effect :
  ∀ (s : State) (p : Side) (header : BitVec 64) (data : List Nat), s.hears 0x20 0 header data s.forPeriod →
    (s.spn.master ≠ some (spineParse header.toNat).src ∨ s.spn.numbered = true) →
    Completes (.rollCall p header data false) s (fun t => RollCall.ofBytes p (spineParse header.toNat) data ∈ t.spn.calls ∧ t.tick = s.tick) := by
  intro s p header data h h1
  have hr : (s.spn.master == some (spineParse header.toNat).src && !s.spn.numbered && !s.edge && !false) = false := by
    rcases h1 with h1 | h1 <;> simp [h1]
  simp only [Completes, exec, execRollCall, Host.Outcome.next.injEq, exists_eq_left', hr, Bool.false_or, Bool.false_eq_true, if_false]
  obtain ⟨tx, seen, e⟩ := heard s p _ _ _ _ _ (fun _ s => s.holdCall (RollCall.ofBytes p (spineParse header.toNat) data)) h.1 h.2.1 h.2.2
  rw [e]
  refine ⟨?_, rfl⟩
  unfold State.holdCall
  simp

/-- SPAN_PUB (R157). -/
theorem spanPub_effect :
  ∀ (s : State) (p : Side) (header : BitVec 64) (data : List Nat), s.hears 0x21 0 header data s.forPeriod →
    Completes (.spanPub p header data false) s (fun t => t.spn.pubs = s.spn.pubs ++ [{ src := (spineParse header.toNat).src, av := ofLe (data.take 2), arm := entry data 2 0, sum := ofLe ((data.drop 4).take 8), sq := ofLe ((data.drop 12).take 8) }]) := by
  intro s p header data h
  simp only [Completes, exec, execSpanPub, Host.Outcome.next.injEq, exists_eq_left']
  obtain ⟨tx, seen, e⟩ := heard s p _ _ _ _ _ (fun x s =>
    s.mapSpn (fun n => { n with pubs := n.pubs ++
      [{ src := x.src, av := ofLe (data.take 2), arm := entry data 2 0, sum := ofLe ((data.drop 4).take 8), sq := ofLe ((data.drop 12).take 8) }] })) h.1 h.2.1 h.2.2
  rw [e]
  rfl

/-- MEAS (R100). -/
theorem measMsg_effect :
  ∀ (s : State) (p : Side) (header : BitVec 64) (data : List Nat) (m : MeasItem),
    s.hears 0x22 (entry data 0 0 + 16 * (if entry data 0 0 = 4 then ofLe ((data.drop 2).take 2) else 0)) header data s.forPeriod →
    MeasItem.ofBytes data = some m →
    Completes (.measMsg p header data false) s (fun t => t.spn.meas = s.spn.meas ++ [((spineParse header.toNat).src, m)]) := by
  intro s p header data m h h1
  simp only [Completes, exec, execMeasMsg, Host.Outcome.next.injEq, exists_eq_left', h1]
  obtain ⟨tx, seen, e⟩ := heard s p _ _ _ _ _ (fun x s => s.mapSpn (fun n => { n with meas := n.meas ++ [(x.src, m)] })) h.1 h.2.1 h.2.2
  rw [e]
  rfl

/-- SETPOINT (R101). -/
theorem setpointMsg_effect :
  ∀ (s : State) (p : Side) (header : BitVec 64) (data : List Nat), s.hears 0x23 (entry data 2 0) header data s.forPeriod →
    ofLe (data.take 2) = 0x2002 →
    Completes (.setpointMsg p header data false) s (fun t => t.objs = s.objs ∧
      t.spn.sets = s.spn.sets ++ [((spineParse header.toNat).src, entry data 2 0, ofLeI ((data.drop 4).take 4))]) := by
  intro s p header data h h1
  simp only [Completes, exec, execSetpointMsg, Host.Outcome.next.injEq, exists_eq_left', h1, if_true]
  obtain ⟨tx, seen, e⟩ := heard s p _ _ _ _ _ (fun x s => s.mapSpn (fun n => { n with sets := n.sets ++ [(x.src, entry data 2 0, ofLeI ((data.drop 4).take 4))] })) h.1 h.2.1 h.2.2
  rw [e]
  exact ⟨rfl, rfl⟩

/-- REFS (R261). -/
theorem refsMsg_effect :
  ∀ (s : State) (p : Side) (header : BitVec 64) (data : List Nat), s.hears 0x30 0 header data s.forRefs →
    (s.spn.leader = some (spineParse header.toNat).src → Completes (.refsMsg p header data false) s (fun t =>
      t.spn.refsMsg = some (RefSet.ofBytes data) ∧ (s.mode.mode = .forming → t.arm.next = some (RefSet.ofBytes data)))) ∧
    (s.spn.leader ≠ some (spineParse header.toNat).src → Completes (.refsMsg p header data false) s (fun t =>
      t.spn.refsMsg = s.spn.refsMsg ∧ t.arm = s.arm)) := by
  intro s p header data h
  simp only [Completes, exec, execRefsMsg, Host.Outcome.next.injEq, exists_eq_left']
  obtain ⟨tx, seen, e⟩ := heard s p _ _ _ _ _ (fun x s =>
    if s.spn.leader != some x.src then (if s.ARM_LEAD = 1 then s.warn 0x5222 [] else s)
    else
      let r := RefSet.ofBytes data
      let s := s.mapSpn (fun n => { n with refsMsg := some r })
      if s.mode.mode == .forming then s.mapArm (fun a => { a with next := some r }) else s) h.1 h.2.1 h.2.2
  rw [e]
  dsimp only
  refine ⟨fun h1 => ?_, fun h1 => ?_⟩
  · rw [if_neg (by simp [h1])]
    refine ⟨?_, fun hm => ?_⟩
    · split <;> rfl
    · rw [if_pos (by simp [hm])]; rfl
  · rw [if_pos (by simpa using h1)]
    split <;> simp

/-- STATE (R266). -/
theorem stateMsg_effect :
  ∀ (s : State) (p : Side) (header : BitVec 64) (data : List Nat), s.hears 0x31 0 header data s.forRefs →
    s.spn.leader = some (spineParse header.toNat).src →
    Completes (.stateMsg p header data false) s (fun t => t.spn.stateMsg = some (LawBlock.ofBytes data) ∧ t.form = s.form) := by
  intro s p header data h h1
  simp only [Completes, exec, execStateMsg, Host.Outcome.next.injEq, exists_eq_left']
  obtain ⟨tx, seen, e⟩ := heard s p _ _ _ _ _ (fun x s =>
    if s.spn.leader == some x.src then s.mapSpn (fun n => { n with stateMsg := some (LawBlock.ofBytes data) }) else s) h.1 h.2.1 h.2.2
  rw [e]
  dsimp only
  rw [if_pos (by simp [h1])]
  exact ⟨rfl, rfl⟩

/-- SPINE_ECHO (R239). -/
theorem spineEcho_effect :
  ∀ (s : State) (p : Side) (header : BitVec 64) (data : List Nat) (hold : BitVec 16), s.spineUsable 0x40 header.toNat data = true →
    s.firstCopy (spineParse header.toNat) (echoItem p data) = true →
    Completes (.spineEcho p header data hold) s (fun t => t.tx = .spine 3
      (spineBytes 0x41 s.device s.station s.tick (data.take 4 ++ le 2 hold.toNat ++ List.replicate 6 0)) :: s.tx) := by
  intro s p header data hold h h2
  have : s.spineForward p header.toNat data = s := by
    unfold State.spineUsable at h
    simp only [Bool.and_eq_true, beq_iff_eq] at h
    unfold State.spineForward State.spineMine
    simp [h.1.1.1.1, h.1.1.1.2]
  have ha : s.spnActive = true := by
    unfold State.spineUsable at h
    simp only [Bool.and_eq_true] at h
    exact h.1.1.1.1
  simp only [Completes, exec, execSpineEcho, h, h2, this, Bool.and_self, Host.Outcome.next.injEq, exists_eq_left', if_true]
  rw [spineSend_active (v := s.markCopy _ _) ha]
  rfl

/-- SPINE_ECHO_REPLY (R239). -/
theorem spineEchoReply_effect :
  ∀ (s : State) (p : Side) (header : BitVec 64) (data : List Nat) (rx : BitVec 32), s.spineUsable 0x41 header.toNat data = true →
    (s.port p).lock = true → s.firstCopy (spineParse header.toNat) (echoItem p data) = true →
    (s.port p).sentAt = some (ofLe (data.take 4)) → (s.port p).echoes.length < 15 →
    Completes (.spineEchoReply p header data rx) s (fun t => (t.port p).echoes =
      ((rx.toNat + 4294967296 - ofLe (data.take 4)) % 4294967296 - ofLe ((data.drop 4).take 2)) :: (s.port p).echoes) := by
  intro s p header data rx h h1 h3 h4 h2
  have : s.spineForward p header.toNat data = s := by
    unfold State.spineUsable at h
    simp only [Bool.and_eq_true, beq_iff_eq] at h
    unfold State.spineForward State.spineMine
    unfold State.port at h4
    cases p <;> simp [h.1.1.1.1, h.1.1.1.2, h4]
  simp only [Completes, exec, execSpineEchoReply, h, h1, h3, h4, this, beq_self_eq_true, Bool.and_self, Host.Outcome.next.injEq, exists_eq_left', if_true]
  have he : ((s.markCopy (spineParse header.toNat) (echoItem p data)).port p).echoes = (s.port p).echoes := by cases p <;> rfl
  rw [he, if_pos (by simp only [List.length_cons]; omega)]
  show (((State.mapPort _ _ _).sendEcho p).port p).echoes = _
  unfold State.sendEcho
  dsimp only
  unfold State.port
  rw [spineSend_spn]
  cases p <;> rfl

/-- SEGMENT_MEASURE (R239). -/
theorem segmentMeasure_effect :
  ∀ (s : State) (p : Side), s.spnActive = true → (s.port p).lock = true → Completes (.segmentMeasure p) s (fun t =>
    (t.port p).echoes = [] ∧ (t.port p).sentAt = some (s.now % 4294967296) ∧
    t.tx = .spine 3 (spineBytes 0x40 s.device s.station s.tick (le 4 s.now)) :: s.tx) := by
  intro s p h1 h2
  simp only [Completes, exec, execSegmentMeasure, State.segMeasure, h1, h2, Bool.and_self, Host.Outcome.next.injEq, exists_eq_left', if_true]
  unfold State.sendEcho
  dsimp only
  rw [spineSend_active (by cases p <;> exact h1)]
  cases p <;> exact ⟨rfl, rfl, rfl⟩

/-- SPINE_PORT_LOCK_LOST (R273). -/
theorem spinePortLockLost_effect :
  ∀ (s : State) (p : Side), (s.port p).lock = true → Completes (.spinePortLockLost p) s (fun t =>
    (t.port p).lock = false ∧ (t.port p).measured = false) := by
  intro s p h1
  simp only [Completes, exec, execSpinePortLockLost, h1, Host.Outcome.next.injEq, exists_eq_left', if_true]
  refine ⟨?_, ?_⟩
  · rw [(ringJudge_port _ p).1]
    cases p <;> simp [State.port, State.mapPort]
  · rw [(ringJudge_port _ p).2]
    cases p <;> simp [State.port, State.mapPort]

/-- SPINE_PORT_RESTORED (R273). -/
theorem spinePortRestored_effect :
  ∀ (s : State) (p : Side), (s.port p).lock = false → Completes (.spinePortRestored p) s (fun t => (t.port p).lock = true) := by
  intro s p h1
  simp only [Completes, exec, execSpinePortRestored, h1, Host.Outcome.next.injEq, exists_eq_left', Bool.false_eq_true, if_false]
  unfold State.segMeasure State.sendEcho
  dsimp only
  split
  · unfold State.port
    rw [spineSend_spn]
    cases p <;> rfl
  · cases p <;> rfl

/-- MARKER_WAIT_EXPIRY (R251). -/
theorem markerWaitExpiry_effect :
  ∀ (s : State), s.spnActive = true → s.TICK_MASTER_EN = 1 → s.spn.heard = false → s.spn.isMaster = false → s.MARKER_WAIT ≤ s.spn.markWait →
    Completes .markerWaitExpiry s (fun t => t.spn.isMaster = true ∧ t.spn.master = some s.device ∧ t.spn.locked = true) := by
  intro s h1 h2 h3 h4 h5
  simp only [Completes, exec, execMarkerWaitExpiry, h1, h2, h3, h4, h5, Host.Outcome.next.injEq, exists_eq_left', Option.isNone_none, Bool.not_false, beq_self_eq_true, decide_true, Bool.and_self, if_true]
  exact becomeMaster_spec s

/-- MARKER_MISSING (R252). -/
theorem markerMissing_effect :
  ∀ (s : State), s.spnActive = true → s.spn.isMaster = false → s.spn.master.isSome = true → s.MARKER_MISS_MAX ≤ s.spn.markMiss →
    (s.nextMaster = none → Completes .markerMissing s (fun t => t.spn.locked = false ∧ t.spn.master = s.spn.master)) ∧
    (s.nextMaster = some s.device → Completes .markerMissing s (fun t => t.spn.isMaster = true ∧ t.spn.master = some s.device)) ∧
    (∀ d, s.nextMaster = some d → d ≠ s.device → Completes .markerMissing s (fun t => t.spn.locked = false ∧ t.spn.master = some d)) := by
  intro s h1 h2 h3 h4
  simp only [Completes, exec, execMarkerMissing, h1, h2, h3, h4, Host.Outcome.next.injEq, exists_eq_left', Bool.not_false, decide_true, Bool.and_self, if_true]
  unfold State.markerMissing
  refine ⟨fun h => ?_, fun h => ?_, fun d h hd => ?_⟩
  · rw [h]; exact lockLost_spec s
  · rw [h]
    dsimp only
    rw [if_pos (by simp)]
    have := becomeMaster_spec (s.note 0x5204 [])
    exact ⟨this.1, by simpa using this.2.1⟩
  · rw [h]
    dsimp only
    rw [if_neg (by simpa using hd)]
    rw [(ringJudge_master _).2.2, (ringJudge_master _).1]
    exact ⟨(lockLost_spec _).1, rfl⟩

/-- MARKER_LOSS_TRIP (R253). -/
theorem markerLossTrip_effect :
  ∀ (s : State), s.mode.mode = .forming → s.spn.isMaster = false → s.MARKER_LOSS_TRIP ≤ s.spn.lossRun → s.isRun .trunk = true →
    Completes .markerLossTrip s (fun t => t.tripped .trunk) := by
  intro s h1 h2 h3 h4
  have k := trip_tripped s 0x5203 .trunk [] (isRun_up h4)
  have e : execMarkerLossTrip s = .next (s.trip 0x5203 .trunk []) := by
    unfold execMarkerLossTrip
    rw [if_pos (by simp [h1, h2, h3, h4])]
  generalize s.trip 0x5203 .trunk [] = u at *
  exact ⟨u, e, k⟩

/-- TICK_LOCK_ACQUIRED (R247). -/
theorem tickLockAcquired_effect :
  ∀ (s : State), s.spnActive = true → s.lockTicks ≤ s.spn.lockRun → Completes .tickLockAcquired s (fun t => t.spn.locked = true) := by
  intro s h1 h2
  simp only [Completes, exec, execTickLockAcquired, h1, h2, Host.Outcome.next.injEq, exists_eq_left', decide_true, Bool.and_self, if_true]
  exact lockGot_spec s

/-- SHARE_MISSING (R161). -/
theorem shareMissing_effect :
  ∀ (s : State), s.ARM_LEAD = 0 → s.mode.mode = .forming → s.isRun .arm = true → s.shareFor s.nextTick = none → s.arm.holdNow = false →
    Completes .shareMissing s (fun t => t.arm.holdNow = true ∧ t.arm.misses = incSat 32 s.arm.misses ∧ t.arm.missRun = satU 8 (s.arm.missRun + 1)) := by
  intro s h1 h2 h3 h4 h5
  have h : s.expectsShare = true := by unfold State.expectsShare; simp [h1, h2, h3]
  simp only [Completes, exec, execShareMissing, h, h4, h5, Host.Outcome.next.injEq, exists_eq_left', Option.isNone_none, Bool.not_false, Bool.and_self, if_true]
  unfold State.missShare
  dsimp only
  split <;> simp

/-- SHARE_MISS_TRIP (R161). -/
theorem shareMissTrip_effect :
  ∀ (s : State), s.ARM_LEAD = 0 → s.mode.mode = .forming → s.isRun .arm = true → s.SHARE_MISS_MAX ≤ s.arm.missRun →
    Completes .shareMissTrip s (fun t => t.tripped .arm) := by
  intro s h1 h2 h3 h4
  have h : s.expectsShare = true := by unfold State.expectsShare; simp [h1, h2, h3]
  simp only [Completes, exec, execShareMissTrip, State.missTrip, h, h4, Host.Outcome.next.injEq, exists_eq_left', decide_true, Bool.and_self, if_true]
  exact trip_tripped _ _ _ _ (isRun_up h3)

/-- REPORT_MISSING_TRIP (R162). -/
theorem reportMissingTrip_effect :
  ∀ (s : State), s.leads2 = true → s.mode.mode = .forming → s.isRun .arm = true → s.SHARE_MISS_MAX ≤ s.arm.repMiss →
    Completes .reportMissingTrip s (fun t => t.tripped .arm) := by
  intro s h1 h2 h3 h4
  simp only [Completes, exec, execReportMissingTrip, h1, h2, h3, h4, Host.Outcome.next.injEq, exists_eq_left', decide_true, beq_self_eq_true, Bool.and_self, if_true]
  exact trip_tripped _ _ _ _ (isRun_up h3)

/-- ARM_STATE_MISSING (R272). -/
theorem armStateMissing_effect :
  ∀ (s : State), s.armSilent = true → Completes .armStateMissing s (fun t => t.tripped .arm) := by
  intro s h
  simp only [Completes, exec, execArmStateMissing, h, Host.Outcome.next.injEq, exists_eq_left', if_true]
  have h3 : s.isRun .arm = true := by unfold State.armSilent at h; simp only [Bool.and_eq_true] at h; exact h.1.2
  exact trip_tripped _ _ _ _ (isRun_up h3)

/-- LEAD_WAIT_EXPIRY (R263). -/
theorem leadWaitExpiry_effect :
  ∀ (s : State), s.mode.mode = .forming → s.isRun .form = true → s.LEAD_WAIT ≤ s.form.leadWait →
    Completes .leadWaitExpiry s (fun t => t.tripped .form) := by
  intro s h1 h2 h3
  have h : s.forming = true := by unfold State.forming; simp [h1, h2]
  simp only [Completes, exec, execLeadWaitExpiry, h, h3, Host.Outcome.next.injEq, exists_eq_left', decide_true, Bool.and_self, if_true]
  exact trip_tripped _ _ _ _ (isRun_up h2)

/-- REFS_LOST_TRIP (R164). -/
theorem refsLostTrip_effect :
  ∀ (s : State), s.arm.extended = true → s.arm.refs.isSome = true → s.arm.next = none → s.k + 1 = s.fp → s.edge = false →
    (s.ARM_LEAD = 0 → Completes .refsLostTrip s (fun t => t.arm.refs = none ∧ t.arm.extended = false ∧ t.fns = s.fns)) ∧
    (s.ARM_LEAD = 1 → s.mode.mode = .forming → s.isRun .arm = true → Completes .refsLostTrip s (fun t => t.tripped .arm)) := by
  intro s h1 h2 h3 h4 h5
  simp only [Completes, exec, execRefsLostTrip, h1, h2, h3, h4, h5, Host.Outcome.next.injEq, exists_eq_left', Option.isNone_none, Bool.not_false, beq_self_eq_true, Bool.and_self, if_true]
  unfold State.refsLost
  dsimp only
  have hu : ∃ u : State, (s.mapArm (fun a => { a with refs := none, extended := false })).warnOff 0x2030 0 = u ∧ u.arm.refs = none ∧ u.arm.extended = false ∧
      u.fns = s.fns ∧ u.mode.mode = s.mode.mode ∧ u.objs = s.objs := ⟨_, rfl, rfl, rfl, rfl, rfl, rfl⟩
  obtain ⟨u, hu, e1, e2, e3, e4, e5⟩ := hu
  rw [hu]
  have hl : u.ARM_LEAD = s.ARM_LEAD := by unfold State.ARM_LEAD State.obj; rw [e5]
  refine ⟨fun a => ?_, fun a b c => ?_⟩
  · rw [if_neg (by rw [hl, a]; simp)]
    exact ⟨e1, e2, e3⟩
  · have c' : u.isRun .arm = true := by unfold State.isRun State.run at *; rw [e3]; exact c
    have k := trip_tripped u 0x2031 .arm [] (isRun_up c')
    rw [if_pos (by rw [hl, a, c', e4, b]; rfl)]
    exact k

/-- SUBSTITUTE_LIMIT_EXPIRY (R168). -/
theorem substituteLimitExpiry_effect :
  ∀ (s : State) (i : Nat), i < 4 → s.mode.mode = .forming → s.isRun .form = true → s.subExpired i = true →
    Completes .substituteLimitExpiry s (fun t => t.tripped .form) := by
  intro s i h1 h2 h3 h4
  have h : s.forming = true := by unfold State.forming; simp [h2, h3]
  simp only [Completes, exec, execSubstituteLimitExpiry, Host.Outcome.next.injEq, exists_eq_left']
  have : ([0, 1, 2, 3].find? (fun i => s.forming && s.subExpired i)).isSome = true := by
    rw [List.find?_isSome]
    refine ⟨i, ?_, by simp [h, h4]⟩
    simp only [List.mem_cons, List.not_mem_nil, or_false]; omega
  obtain ⟨j, hj⟩ := Option.isSome_iff_exists.1 this
  rw [hj]
  exact trip_tripped _ _ _ _ (isRun_up h3)

/-- PRIMARY_RESTORE (R100). -/
theorem primaryRestore_effect :
  ∀ (s : State), s.mode.mode = .forming → s.isRun .form = true → s.form.srcPcc.use = 1 → 16 ≤ s.form.srcPcc.primRun →
    Completes .primaryRestore s (fun t => t.form.srcPcc = { s.form.srcPcc with use := 0 }) := by
  intro s h1 h2 h3 h4
  have h : s.forming = true := by unfold State.forming; simp [h1, h2]
  simp only [Completes, exec, execPrimaryRestore, Host.Outcome.next.injEq, exists_eq_left']
  simp only [State.mapForm_form]
  simp [State.restoreSrc, h, h3, h4]

/-- SHADOW_MISMATCH_LIMIT (R113). -/
theorem shadowMismatchLimit_effect :
  ∀ (s : State), 3 ≤ s.form.mism → s.form.barred = false → Completes .shadowMismatchLimit s (fun t => t.form.barred = true ∧ t.form.matchRun = 0) := by
  intro s h1 h2
  simp only [Completes, exec, execShadowMismatchLimit, State.shadowLimit, h1, h2, decide_true, Bool.not_false, Bool.and_self, Host.Outcome.next.injEq, exists_eq_left', if_true]
  simp

/-- SHADOW_MATCH_RESTORE (R113). -/
theorem shadowMatchRestore_effect :
  ∀ (s : State), s.form.barred = true → 16 ≤ s.form.matchRun → Completes .shadowMatchRestore s (fun t => t.form.barred = false ∧ t.form.valid = true) := by
  intro s h1 h2
  simp only [Completes, exec, execShadowMatchRestore, State.shadowRestore, h1, h2, decide_true, Bool.and_self, Host.Outcome.next.injEq, exists_eq_left', if_true]
  exact ⟨rfl, rfl⟩

/-- SYNC_TIMEOUT (R116). -/
theorem syncTimeout_effect :
  ∀ (s : State), s.syncTimeoutDue = true → s.isDown .form = false → Completes .syncTimeout s (fun t => t.tripped .form) := by
  intro s h1 h2
  simp only [Completes, exec, execSyncTimeout, h1, Host.Outcome.next.injEq, exists_eq_left', if_true]
  exact trip_tripped _ _ _ _ h2

end Sys2Proof.Machine
end

