-- ==== Sys2Proof/Laws/Effect06.lean ====
section
/-! SUPPORT. One lemma per command: that it runs, on which states, and what it leaves. -/
namespace Sys2Proof.Machine

set_option Elab.async false
set_option linter.all false

/-- SYNC_FB_TIMEOUT (R116). -/
theorem syncFbTimeout_effect :
  ∀ (s : State), (s.bsCloseDue = true → Completes .syncFbTimeout s (fun t => t.tripped .form)) ∧
    (s.closeFailed = true → s.SYNC_RETRY < s.law.fails + 1 → Completes .syncFbTimeout s (fun t => t.tripped .form ∧ t.form.close = false)) ∧
    (s.closeFailed = true → s.law.fails + 1 ≤ s.SYNC_RETRY → Completes .syncFbTimeout s (fun t => t.law.sub = 2 ∧ t.law.phase = 2 ∧
      t.law.fails = s.law.fails + 1 ∧ t.form.close = false)) := by
  intro s
  have hx : s.closeFailed = true → s.bsCloseDue = false := by
    intro h
    unfold State.closeFailed State.inPhase at h
    unfold State.bsCloseDue State.inPhase
    simp only [Bool.and_eq_true, beq_iff_eq] at h
    simp [h.1.1.1.2]
  have e1 : (s.warn 0x1021 []).SYNC_RETRY = s.SYNC_RETRY := by
    unfold State.SYNC_RETRY
    unfold State.obj
    rw [State.warn_objs]
  have e2 : (s.warn 0x1021 []).law = s.law := by unfold State.law; simp
  simp only [Completes, exec, execSyncFbTimeout, Host.Outcome.next.injEq, exists_eq_left']
  refine ⟨fun h => ?_, fun h h2 => ?_, fun h h2 => ?_⟩
  · rw [if_pos h]
    unfold State.bsCloseDue at h
    simp only [Bool.and_eq_true] at h
    exact trip_tripped _ _ _ _ (isRun_up (inPhase_mode h.1.1).2)
  · rw [if_neg (by simp [hx h]), if_pos h]
    unfold State.closeFail
    dsimp only
    rw [if_pos (show (s.warn 0x1021 []).SYNC_RETRY < (s.warn 0x1021 []).law.fails + 1 from by rw [e1, e2]; exact h2)]
    have hh := h
    unfold State.closeFailed at hh
    simp only [Bool.and_eq_true] at hh
    refine ⟨?_, rfl⟩
    have := trip_tripped (s.warn 0x1021 []) 0x1022 .form [] (by
      have := isRun_up (inPhase_mode hh.1.1).2
      unfold State.isDown State.run at *
      simpa using this)
    exact (show ∀ u : State, u.tripped .form → (u.mapForm (fun f => { f with close := false })).tripped .form from fun _ h => h) _ this
  · rw [if_neg (by simp [hx h]), if_pos h]
    unfold State.closeFail
    dsimp only
    rw [if_neg (show ¬ (s.warn 0x1021 []).SYNC_RETRY < (s.warn 0x1021 []).law.fails + 1 from by rw [e1, e2]; exact Nat.not_lt.2 h2)]
    have hh := h
    unfold State.closeFailed at hh
    simp only [Bool.and_eq_true] at hh
    have hm := (inPhase_mode hh.1.1).1
    have := (toPhase_law (State.mapB (s.warn 0x1021 []) (fun b => { b with fails := b.fails + 1 })) 2 2 (by simpa [State.mapB] using hm)).1
    unfold State.law at *
    simp only [State.mapForm_form]
    rw [this]
    exact ⟨rfl, rfl, by simp [State.mapB], trivial⟩

/-- SYNC_DWELL_ELAPSED (R116). -/
theorem syncDwellElapsed_effect :
  ∀ (s : State), s.matchDue = true → Completes .syncDwellElapsed s (fun t => t.law.sub = 2 ∧ t.law.phase = 3 ∧ t.law.phT = 0 ∧
    t.form.close = s.toClosing.closeNow) := by
  intro s h
  simp only [Completes, exec, execSyncDwellElapsed, h, Host.Outcome.next.injEq, exists_eq_left', if_true]
  unfold State.matchDue at h
  simp only [Bool.and_eq_true] at h
  have hm := (inPhase_mode h.1.1).1
  have := (toPhase_law (s.note 0x1020 []) 2 3 (by simpa using hm)).1
  unfold State.law at *
  simp only [State.mapForm_form]
  unfold State.toClosing
  rw [this]
  exact ⟨rfl, rfl, rfl, trivial⟩

/-- SYNC_PULSE_END (R116). -/
theorem syncPulseEnd_effect :
  ∀ (s : State), s.inPhase 2 3 = true → s.SYNC_PULSE ≤ s.law.phT → Completes .syncPulseEnd s (fun t => t.form.close = false ∧ t.form.b = s.form.b) := by
  intro s h1 h2
  simp only [Completes, exec, execSyncPulseEnd, h1, h2, Host.Outcome.next.injEq, exists_eq_left', decide_true, Bool.and_self, if_true]
  exact ⟨rfl, rfl⟩

/-- SETTLE_DWELL_ELAPSED (R115). -/
theorem settleDwellElapsed_effect :
  ∀ (s : State), s.settleDue = true →
    (s.brkClosed = true → Completes .settleDwellElapsed s (fun t => t.law.sub = 3 ∧ t.law.phase = 0 ∧ t.mode.mode = .forming ∧
      (s.mode.sub ≠ 3 → t.mode.subDue = some 3))) ∧
    (s.brkClosed = false → Completes .settleDwellElapsed s (fun t => t.law.sub = 2 ∧ t.law.phase = 1 ∧ t.mode.mode = .forming ∧
      (s.mode.sub ≠ 2 → t.mode.subDue = some 2))) := by
  intro s h
  simp only [Completes, exec, execSettleDwellElapsed, h, Host.Outcome.next.injEq, exists_eq_left', if_true]
  unfold State.settleDue at h
  simp only [Bool.and_eq_true] at h
  have hm := (inPhase_mode h.1.1).1
  unfold State.settleExit
  refine ⟨fun hb => ?_, fun hb => ?_⟩
  · rw [if_pos hb]
    unfold State.toRun
    have := toPhase_law (s.mapB (fun b => { b with riT := 0, rideN := 0 })) 3 0 hm
    rw [this.1]
    exact ⟨rfl, rfl, this.2, fun hs => toPhase_due _ _ _ hm hs⟩
  · rw [if_neg (by simp [hb])]
    unfold State.toSync
    have := toPhase_law (s.mapB (fun b => { b with syT := 0, fails := 0 })) 2 1 hm
    rw [this.1]
    exact ⟨rfl, rfl, this.2, fun hs => toPhase_due _ _ _ hm hs⟩

/-- BS_RAMP_COMPLETE (R115). -/
theorem bsRampComplete_effect :
  ∀ (s : State), s.rampDue = true → Completes .bsRampComplete s (fun t => t.law = { s.law with sub := 1, phase := 3, phT := 0 }) := by
  intro s h
  simp only [Completes, exec, execBsRampComplete, h, Host.Outcome.next.injEq, exists_eq_left', if_true]
  unfold State.rampDue at h
  simp only [Bool.and_eq_true] at h
  exact (toPhase_law s 1 3 (inPhase_mode h.1).1).1

/-- BS_STALL_EXPIRY (R115). -/
theorem bsStallExpiry_effect :
  ∀ (s : State), s.bsStallDue = true → Completes .bsStallExpiry s (fun t => t.tripped .form) := by
  intro s h
  simp only [Completes, exec, execBsStallExpiry, h, Host.Outcome.next.injEq, exists_eq_left', if_true]
  unfold State.bsStallDue at h
  simp only [Bool.and_eq_true] at h
  exact trip_tripped _ _ _ _ (isRun_up (inPhase_mode h.1).2)

/-- RIDE_ENTRY (R119). -/
theorem rideEntry_effect :
  ∀ (s : State), s.rideDue = true → Completes .rideEntry s (fun t => t.law.sub = 4 ∧ t.law.phase = 1 ∧ t.law.rideN = 0 ∧
    t.law.riT = (if s.law.sub = 4 then s.law.riT else 0) ∧ t.mode.mode = .forming) := by
  intro s h
  simp only [Completes, exec, execRideEntry, h, Host.Outcome.next.injEq, exists_eq_left', if_true]
  unfold State.rideDue at h
  simp only [Bool.and_eq_true] at h
  unfold State.rideHold
  have := toPhase_law ((s.mapForm (fun f => { f with frozen := f.last })).mapB (fun b => { b with rideN := 0, riT := if b.sub = 4 then b.riT else 0 })) 4 1 (forming_mode h.1.1).1
  rw [this.1]
  exact ⟨rfl, rfl, rfl, rfl, this.2⟩

/-- RIDE_T_CLEAR_ELAPSED (R120). -/
theorem rideTClearElapsed_effect :
  ∀ (s : State), s.clearDue = true →
    (s.T_REC = 0 → Completes .rideTClearElapsed s (fun t => t.law.sub = 3 ∧ t.law.phase = 0 ∧ t.law.riT = 0)) ∧
    (s.T_REC ≠ 0 → Completes .rideTClearElapsed s (fun t => t.law = { s.law with sub := 4, phase := 2, phT := 0 })) := by
  intro s h
  simp only [Completes, exec, execRideTClearElapsed, h, Host.Outcome.next.injEq, exists_eq_left', if_true]
  unfold State.clearDue at h
  simp only [Bool.and_eq_true] at h
  have hm := (inPhase_mode h.1.1).1
  unfold State.holdExit
  refine ⟨fun hb => ?_, fun hb => ?_⟩
  · rw [if_pos hb]
    unfold State.toRun
    rw [(toPhase_law (s.mapB (fun b => { b with riT := 0, rideN := 0 })) 3 0 hm).1]
    exact ⟨rfl, rfl, rfl⟩
  · rw [if_neg hb]
    exact (toPhase_law s 4 2 hm).1

/-- RECOVER_COMPLETE (R108). -/
theorem recoverComplete_effect :
  ∀ (s : State), s.recoverDue = true → Completes .recoverComplete s (fun t => t.law.sub = 3 ∧ t.law.phase = 0 ∧ t.law.riT = 0 ∧
    (s.mode.sub ≠ 3 → t.mode.subDue = some 3)) := by
  intro s h
  simp only [Completes, exec, execRecoverComplete, h, Host.Outcome.next.injEq, exists_eq_left', if_true]
  unfold State.recoverDue at h
  simp only [Bool.and_eq_true] at h
  have hm := (inPhase_mode h.1).1
  unfold State.toRun
  rw [(toPhase_law (s.mapB (fun b => { b with riT := 0, rideN := 0 })) 3 0 hm).1]
  exact ⟨rfl, rfl, rfl, fun hs => toPhase_due _ _ _ hm hs⟩

/-- RIDE_T_MAX_EXPIRY (R120). -/
theorem rideTMaxExpiry_effect :
  ∀ (s : State), s.rideMaxDue = true → Completes .rideTMaxExpiry s (fun t => t.tripped .form) := by
  intro s h
  simp only [Completes, exec, execRideTMaxExpiry, h, Host.Outcome.next.injEq, exists_eq_left', if_true]
  unfold State.rideMaxDue at h
  simp only [Bool.and_eq_true] at h
  exact trip_tripped _ _ _ _ (isRun_up (forming_mode h.1.1).2)

/-- REGION_DWELL_EXPIRY (R138). -/
theorem regionDwellExpiry_effect :
  ∀ (s : State) (c : Nat), s.forming = true → s.law.sub ≠ 4 → s.law.rpend = 255 → s.regionDue = true → s.regionFor = some c →
    (c = s.law.region → Completes .regionDwellExpiry s (fun t => t.law = { s.law with dwell := 0 })) ∧
    (c ≠ s.law.region → Completes .regionDwellExpiry s (fun t => t.law = { s.law with rpend := c })) := by
  intro s c h1 h2 h3 h4 h5
  simp only [Completes, exec, execRegionDwellExpiry, h1, h3, h4, Host.Outcome.next.injEq, exists_eq_left']
  rw [if_pos (by simp [h2])]
  unfold State.regionPick
  rw [h5]
  simp only [Option.getD_some, Option.isNone_some, Bool.false_eq_true, if_false]
  refine ⟨fun h => ?_, fun h => ?_⟩
  · rw [if_pos h]; unfold State.law at *; simp [State.mapB, h3]
  · rw [if_neg h]; unfold State.law; simp [State.mapB]

/-- REFRESH_DUE (R184). -/
theorem refreshDue_effect :
  ∀ (s : State) (c : Fin 256), s.Shape → s.isRun .select = true → (s.cellAt c.val).refresh = none →
    s.ruleOf s.tick c.val (s.stale c.val s.tick) (s.staleness c.val s.tick == 0) = 7 →
    s.refreshDue (s.cellAt c.val) (s.staleness c.val s.tick == 0) = true →
    Completes (.refreshDue c) s (fun t => (t.cellAt c.val).refresh = some (s.tick + 1 + s.APPLY_DELAY) ∧
      t.cell.refreshes = incSat 32 s.cell.refreshes) := by
  intro s c hs h1 h2 h3 h4
  simp only [Completes, exec, execRefreshDue, h1, h2, h3, h4, Host.Outcome.next.injEq, exists_eq_left', Option.isNone_none, beq_self_eq_true, Bool.and_self, if_true]
  refine ⟨?_, rfl⟩
  have := cellAt_mapCell hs c (fun x => { x with refresh := some (s.tick + 1 + s.APPLY_DELAY) })
  exact congrArg Cell.refresh this

/-- BS_RECOVER_TIMEOUT (R185). -/
theorem bsRecoverTimeout_effect :
  ∀ (s : State) (c : Fin 256) (ar : Nat), s.Shape → (s.cellAt c.val).refresh = some ar → s.populated c.val = true → (s.cellAt c.val).fail = 0 →
    ar + s.T_BS_RECOVER + 2 ≤ s.tick → ((s.cellAt c.val).bsGood = false ∨ (s.cellAt c.val).latched ≠ some s.tick) →
    Completes (.bsRecoverTimeout c) s (fun t => (t.cellAt c.val).fail = 6 ∧ (t.cellAt c.val).refresh = none) := by
  intro s c ar hs h1 h2 h3 h4 h5
  simp only [Completes, exec, execBsRecoverTimeout, Host.Outcome.next.injEq, exists_eq_left']
  unfold State.refreshJudge
  dsimp only
  rw [h1]
  dsimp only
  rw [if_neg (by rcases h5 with h5 | h5 <;> simp [h5]), if_pos h4]
  exact markFail_spec hs c 6 h2 h3

/-- DWELL_EXPIRY (R186). -/
theorem dwellExpiry_effect :
  ∀ (s : State) (c : Fin 256) (b : Nat), s.Shape → (s.cellAt c.val).change = some b → b + s.T_DWELL_MIN ≤ s.tick + 1 + s.APPLY_DELAY →
    Completes (.dwellExpiry c) s (fun t => (t.cellAt c.val).change = none) := by
  intro s c b hs h1 h2
  have h : s.dwellHolds (s.cellAt c.val) (s.tick + 1 + s.APPLY_DELAY) = false := by
    unfold State.dwellHolds; rw [h1]; simpa using h2
  simp only [Completes, exec, execDwellExpiry, h, Host.Outcome.next.injEq, exists_eq_left', Bool.false_eq_true, if_false]
  rw [cellAt_mapCell hs]

/-- SW_PERIOD_END (R187). -/
theorem swPeriodEnd_effect :
  ∀ (s : State) (c : Fin 256), s.Shape → s.SW_PERIOD ≤ s.cell.swCount →
    Completes .swPeriodEnd s (fun t => t.cell.swCount = 0 ∧ (t.cellAt c.val).credit = (s.cellAt c.val).credit - 1) := by
  intro s c hs h
  simp only [Completes, exec, execSwPeriodEnd, h, Host.Outcome.next.injEq, exists_eq_left', if_true]
  unfold State.creditBack State.cellAt entry
  refine ⟨rfl, ?_⟩
  have : c.val < s.cell.cells.length := by rw [hs.cells]; exact c.2
  simp [List.getD, this]

/-- TEL_STALE_EXCEEDED (R181). -/
theorem telStaleExceeded_effect :
  ∀ (s : State) (c : Fin 256), s.Shape → s.populated c.val = true →
    Completes (.telStaleExceeded c) s (fun t => (t.cellAt c.val).staleEp = s.stale c.val s.tick) := by
  intro s c hs h
  simp only [Completes, exec, execTelStaleExceeded, h, Host.Outcome.next.injEq, exists_eq_left', if_true]
  unfold State.staleJudge
  dsimp only
  split
  · rename_i hh; exact (beq_iff_eq.1 hh).symm
  · have hw : ∀ (u : State) k l, (u.note k l).cellAt c.val = u.cellAt c.val := by
      intro u k l; unfold State.cellAt; simp
    split
    · rw [hw, cellAt_mapCell hs]
    · rw [cellAt_mapCell hs]

/-- TEL_LOST (R229). -/
theorem telLost_effect :
  ∀ (s : State) (c : Fin 256), s.Shape → s.populated c.val = true → (s.cellAt c.val).fail = 0 → s.TEL_LOST ≤ (s.cellAt c.val).lostRun →
    Completes (.telLost c) s (fun t => (t.cellAt c.val).fail = 4) := by
  intro s c hs h1 h2 h3
  simp only [Completes, exec, execTelLost, State.lostJudge, h3, Host.Outcome.next.injEq, exists_eq_left', if_true]
  exact (markFail_spec hs c 4 h1 h2).1

/-- APPLIED_MISMATCH_LIMIT (R228). -/
theorem appliedMismatchLimit_effect :
  ∀ (s : State) (c : Fin 256), s.Shape → s.populated c.val = true → (s.cellAt c.val).fail = 0 → 16 ≤ (s.cellAt c.val).misRun →
    Completes (.appliedMismatchLimit c) s (fun t => (t.cellAt c.val).fail = 3) := by
  intro s c hs h1 h2 h3
  simp only [Completes, exec, execAppliedMismatchLimit, State.mismatchJudge, h3, Host.Outcome.next.injEq, exists_eq_left', if_true]
  exact (markFail_spec hs c 3 h1 h2).1

/-- UPLINK_FRAME (R208). -/
theorem uplinkFrame_effect :
  ∀ (s : State) (q : Fin 8) (head : List Nat) (words : List (List Nat)), s.Shape → 2 ≤ (s.trk q.val).st → head.length = 8 →
    crc8 (head.take 7) = entry head 7 0 → ofLe head % 16777216 = s.tick % 16777216 →
    Completes (.uplinkFrame q head words) s (fun t => ⟨head, words⟩ ∈ (t.trk q.val).held) := by
  intro s q head words hs h1 h2 h3 h4
  simp only [Completes, exec, execUplinkFrame, Host.Outcome.next.injEq, exists_eq_left']
  have a : (s.trk q.val).st ≠ 0 := by omega
  have b : (s.trk q.val).st ≠ 1 := by omega
  have c : [(s.tick + 16777216 - 1) % 16777216, s.tick % 16777216].contains (ofLe head % 16777216) = true := by
    rw [h4]
    generalize s.tick % 16777216 = x
    generalize (s.tick + 16777216 - 1) % 16777216 = y
    simp
  have d : ((s.trk q.val).st != 0 && decide (head.length = 8) && (crc8 (head.take 7) == entry head 7 0)) = true := by
    simp [a, b, h2, h3]
  rw [if_neg b, if_pos (by rw [d, c]; rfl)]
  rw [trk_mapTrk hs]
  exact List.mem_append_right _ (List.mem_singleton.2 rfl)

/-- TRUNK_ECHO_REPLY (R214). -/
theorem trunkEchoReply_effect :
  ∀ (s : State) (q : Fin 8) (sent : BitVec 32) (hold : BitVec 16) (rt x : Nat), s.Shape → (s.trk q.val).st = 2 →
    (s.trk q.val).req = some (1, le 4 sent.toNat, x) →
    Completes (.trunkEchoReply q sent hold rt) s (fun t => (t.trk q.val).req = none ∧
      (t.trk q.val).echoes = (s.trk q.val).echoes ++ [rt - hold.toNat]) := by
  intro s q sent hold rt x hs h1 h2
  simp only [Completes, exec, execTrunkEchoReply, h1, h2, Host.Outcome.next.injEq, exists_eq_left', beq_self_eq_true, decide_true, Bool.and_self, if_true]
  rw [trk_mapTrk hs]
  exact ⟨rfl, rfl⟩

/-- DELAY_ACK (R214). -/
theorem delayAck_effect :
  ∀ (s : State) (q : Fin 8) (aligned : Bool), s.Shape → (s.trk q.val).st = 3 →
    Completes (.delayAck q aligned) s (fun t => (t.trk q.val).aligned = aligned ∧
      ∀ p a, (s.trk q.val).req = some (2, p, a) → (t.trk q.val).req = none) := by
  intro s q aligned hs h1
  simp only [Completes, exec, execDelayAck, h1, Host.Outcome.next.injEq, exists_eq_left', if_true]
  obtain ⟨h2, r, h3, h4⟩ := mgmtDone_trk hs q 2
  rw [trk_mapTrk h2, h3]
  exact ⟨rfl, h4⟩

/-- CELL_DELAYS (R214). -/
theorem cellDelays_effect :
  ∀ (s : State) (q : Fin 8) (ds : List Nat), s.Shape → (s.trk q.val).st ≠ 0 →
    Completes (.cellDelays q ds) s (fun t => (t.trk q.val).gotDelays = true ∧
      (t.trk q.val).tCell = maxN 0 ((padTo 32 ds).filter (fun d => d < 255))) := by
  intro s q ds hs h1
  simp only [Completes, exec, execCellDelays, h1, Host.Outcome.next.injEq, exists_eq_left', if_false]
  have hf : ∀ (l : List Nat) (u : State) (g : Nat → Nat) (f : Nat → Cell → Cell), (l.foldl (fun s w => s.mapCell (g w) (f w)) u).trk q.val = u.trk q.val := by
    intro l
    induction l with
    | nil => intro u g f; rfl
    | cons a l ih => intro u g f; exact ih _ g f
  have := hf (List.range 32) ((s.mgmtDone q.val 3).mapTrk q.val (fun t => { t with
        gotDelays := true, tCell := maxN 0 ((padTo 32 ds).filter (fun d => d < 255)) })) (fun w => 32 * q.val + w) (fun w x => { x with delay := entry (padTo 32 ds) w 0 })
  rw [this]
  obtain ⟨h2, r, h3, h4⟩ := mgmtDone_trk hs q 3
  rw [trk_mapTrk h2, h3]
  exact ⟨rfl, rfl⟩

/-- INFO (R214). -/
theorem hubInfo_effect :
  ∀ (s : State) (q : Fin 8) (data : List Nat), s.Shape → (s.trk q.val).st ≠ 0 →
    Completes (.hubInfo q data) s (fun t => (t.trk q.val).gotInfo = true ∧ (t.trk q.val).info = padTo 12 data) := by
  intro s q data hs h1
  simp only [Completes, exec, execHubInfo, h1, Host.Outcome.next.injEq, exists_eq_left', if_false]
  obtain ⟨h2, r, h3, h4⟩ := mgmtDone_trk hs q 4
  rw [trk_mapTrk h2]
  exact ⟨rfl, rfl⟩

/-- ALARM (R228). -/
theorem hubAlarm_effect :
  ∀ (s : State) (q : Fin 8) (code : BitVec 8) (detail : BitVec 32), s.Shape → (s.trk q.val).st ≠ 0 →
    Completes (.hubAlarm q code detail) s (fun t => (t.trk q.val).almEv = code.toNat) := by
  intro s q code detail hs h1
  simp only [Completes, exec, execHubAlarm, h1, Host.Outcome.next.injEq, exists_eq_left', if_false]
  unfold State.alarmChange
  split
  · rename_i h; exact h
  · dsimp only
    have hw : ∀ (u : State) k j l, (u.warnOn k j l).trk q.val = u.trk q.val := by
      intro u k j l; unfold State.trk; simp
    have hw2 : ∀ (u : State) k j, (u.warnOff k j).trk q.val = u.trk q.val := fun _ _ _ => rfl
    split
    · rw [hw2, trk_mapTrk hs]
    · rw [hw, hw2, trk_mapTrk hs]

/-- MGMT_REQUEST_TIMEOUT (R209). -/
theorem mgmtRequestTimeout_effect :
  ∀ (s : State) (q : Fin 8) (ty sent : Nat) (p : List Nat), s.Shape → (s.trk q.val).req = some (ty, p, sent) → sent + 8 ≤ s.tick →
    Completes (.mgmtRequestTimeout q) s (fun t => (t.trk q.val).req = some (ty, p, s.tick) ∧ t.tx.length = s.tx.length + 1) := by
  intro s q ty sent p hs h1 h2
  simp only [Completes, exec, execMgmtRequestTimeout, Host.Outcome.next.injEq, exists_eq_left']
  unfold State.mgmtAgain
  rw [h1]
  dsimp only
  rw [if_pos h2]
  unfold State.mgmtSend
  refine ⟨?_, rfl⟩
  exact congrArg Trunk.req (trk_mapTrk hs q (fun t => { t with seq := ((s.trk q.val).seq + 1) % 256, req := some (ty, p, s.tick) }))

/-- TRUNK_TRAIN_COMPLETE (R214). -/
theorem trunkTrainComplete_effect :
  ∀ (s : State) (q : Fin 8), s.Shape → (s.trk q.val).st = 1 →
    Completes (.trunkTrainComplete q true) s (fun t => (t.trk q.val).st = (if s.wokenHeld then 3 else 2) ∧ (t.trk q.val).lockDn = true ∧
      (t.trk q.val).lockUp = true) ∧
    ((s.trk q.val).at_ + ms 2 ≤ s.now → Completes (.trunkTrainComplete q false) s (fun t => (t.trk q.val).st = 6)) := by
  intro s q hs h1
  simp only [Completes, exec, execTrunkTrainComplete, h1, Host.Outcome.next.injEq, exists_eq_left', if_true, Bool.false_eq_true, if_false]
  refine ⟨?_, fun h => ?_⟩
  · rw [trk_mapTrk hs]; exact ⟨rfl, rfl, rfl⟩
  · rw [if_pos h]
    exact bringFail_trk hs q _ _ _

/-- TRUNK_MEASURE_COMPLETE (R214). -/
theorem trunkMeasureComplete_effect :
  ∀ (s : State) (q : Fin 8) (lo hi mean : Nat), s.Shape → (s.trk q.val).st = 2 → 64 ≤ (s.trk q.val).echoes.length →
    (s.trk q.val).echoes.foldl Nat.min ((s.trk q.val).echoes.headD 0) = lo → maxN 0 (s.trk q.val).echoes = hi →
    (divNearUp (sumN (s.trk q.val).echoes) 128).toNat = mean →
    (hi ≤ lo + 8 → mean ≤ 760 → Completes (.trunkMeasureComplete q) s (fun t => (t.trk q.val).st = 3 ∧ (t.trk q.val).tTrk = mean)) ∧
    (lo + 8 < hi ∨ 760 < mean → Completes (.trunkMeasureComplete q) s (fun t => (t.trk q.val).st = 6)) := by
  intro s q lo hi mean hs h1 h2 h3 h4 h5
  simp only [Completes, exec, execTrunkMeasureComplete, h1, h2, h3, h4, h5, Host.Outcome.next.injEq, exists_eq_left', if_true]
  refine ⟨fun a b => ?_, fun h => ?_⟩
  · rw [if_neg (by simp; omega), trk_mapTrk hs]; exact ⟨rfl, rfl⟩
  · rw [if_pos (by simpa using h)]
    exact bringFail_trk (mapTrk_Shape hs _ _) q _ _ _

/-- TRUNK_ALIGN_COMPLETE (R214). -/
theorem trunkAlignComplete_effect :
  ∀ (s : State) (q : Fin 8), s.Shape → (s.trk q.val).st = 3 → (s.trk q.val).aligned = true → (s.trk q.val).gotInfo = true →
    (s.trk q.val).gotDelays = true →
    ((s.trk q.val).tCell ≤ 155 → 1278 + (s.trk q.val).tTrk + (s.trk q.val).tCell ≤ s.APPLY_DELAY * s.tickNs → s.holdsLease = true →
      s.mode.mode ≠ .standby → Completes (.trunkAlignComplete q) s (fun t => (t.trk q.val).st = 4 ∧
        (t.trk q.val).dMin = max 2 ((1278 + (s.trk q.val).tTrk + (s.trk q.val).tCell + s.tickNs - 1) / s.tickNs))) ∧
    (155 < (s.trk q.val).tCell ∨ s.APPLY_DELAY * s.tickNs < 1278 + (s.trk q.val).tTrk + (s.trk q.val).tCell →
      Completes (.trunkAlignComplete q) s (fun t => (t.trk q.val).st = 6)) := by
  intro s q hs h1 h2 h3 h4
  simp only [Completes, exec, execTrunkAlignComplete, h1, h2, h3, h4, Host.Outcome.next.injEq, exists_eq_left', decide_true, Bool.and_self, if_true]
  refine ⟨fun a b c d => ?_, fun h => ?_⟩
  · rw [if_neg (by omega)]
    rw [if_neg (show ¬ (State.APPLY_DELAY (State.mapTrk s _ _) * State.tickNs (State.mapTrk s _ _) < _) from Nat.not_lt.2 b)]
    split
    · rw [trk_mapTrk_of (by rw [abandon_trunks]; exact (mapTrk_Shape hs _ _).trunks), abandon_trk, trk_mapTrk hs]
      exact ⟨rfl, rfl⟩
    · rename_i hn
      exfalso
      apply hn
      rw [show ∀ f, State.holdsLease (State.mapTrk s q.val f) = true from fun _ => c]
      rw [Bool.true_and, bne_iff_ne]
      exact d
  · split
    · exact bringFail_trk (mapTrk_Shape hs _ _) q _ _ _
    · rename_i hh
      rcases h with h | h
      · exact absurd h hh
      · rw [if_pos (show (State.APPLY_DELAY (State.mapTrk s _ _) * State.tickNs (State.mapTrk s _ _) < _) from h)]
        exact bringFail_trk (mapTrk_Shape hs _ _) q _ _ _

end Sys2Proof.Machine
end

