-- ==== Sys2Proof/Laws/Effect07.lean ====
section
/-! SUPPORT. One lemma per command: that it runs, on which states, and what it leaves. -/
namespace Sys2Proof.Machine

set_option Elab.async false
set_option linter.all false

/-- TRUNK_VERIFY_COMPLETE (R223). -/
theorem trunkVerifyComplete_effect :
  ∀ (s : State) (q : Fin 8), s.Shape → s.verifyOver q.val = true →
    Completes (.trunkVerifyComplete q) s (fun t => (t.trk q.val).everUp = true ∧ (t.trk q.val).upTick = some s.tick ∧
      (s.mode.mode ≠ .forming → (t.trk q.val).st = 5 ∧ (t.trk q.val).verified = (s.trk q.val).verified)) := by
  intro s q hs h
  have hl : (s.abandon q.val).cell.trunks.length = 8 := by rw [abandon_trunks]; exact hs.trunks
  have ha : (s.abandon q.val).mode = s.mode ∧ (s.abandon q.val).tick = s.tick := ⟨State.abandon_keeps.same .mode rfl, State.abandon_keeps.same .tick rfl⟩
  have hq : ∀ u : State, ∀ a b c d, TrunkStays (((((u.trunkWell q.val).note a b).note c d).quireLoss).trk q.val) (u.trk q.val) ∧
      (u.mode.mode ≠ .forming → ((((u.trunkWell q.val).note a b).note c d).quireLoss).trk q.val = u.trk q.val) := by
    intro u a b c d
    have k := quireLoss_trk (((u.trunkWell q.val).note a b).note c d) q.val
    have e : (((u.trunkWell q.val).note a b).note c d).trk q.val = u.trk q.val := trk_cell (by rw [State.note_cell, State.note_cell]; rfl) _
    rw [e] at k
    exact ⟨k.1, fun h => k.2 (by rw [State.note_mode, State.note_mode]; exact h)⟩
  obtain ⟨u, hu⟩ : ∃ u, u = (s.abandon q.val).mapTrk q.val (fun t => { t with st := 5, at_ := (s.abandon q.val).now, ticks := 0, upTick := some (s.abandon q.val).tick, everUp := true, causes := [], dlRun := 0, unbound := 0, vCount := 0, turns := [] }) := ⟨_, rfl⟩
  have e : execTrunkVerifyComplete q s = .next ((((u.trunkWell q.val).note 0x3030 (le 2 q.val ++ le 4 (s.trk q.val).verified)).note 0x3001 (le 2 q.val)).quireLoss) := by
    unfold execTrunkVerifyComplete State.verifyDone
    rw [if_pos h, hu]
  have ht := trk_mapTrk_of hl q (fun t => { t with st := 5, at_ := (s.abandon q.val).now, ticks := 0, upTick := some (s.abandon q.val).tick, everUp := true, causes := [], dlRun := 0, unbound := 0, vCount := 0, turns := [] })
  have ht := hu ▸ ht
  have hm : u.mode.mode = s.mode.mode := by rw [hu, ← ha.1]; rfl
  clear hu
  have k := hq u 0x3030 (le 2 q.val ++ le 4 (s.trk q.val).verified) 0x3001 (le 2 q.val)
  generalize (((u.trunkWell q.val).note 0x3030 (le 2 q.val ++ le 4 (s.trk q.val).verified)).note 0x3001 (le 2 q.val)).quireLoss = w at *
  refine ⟨w, e, ?_⟩
  rw [ht] at k
  refine ⟨k.1.1, k.1.2.1.trans (by rw [ha.2]), fun h => ?_⟩
  have k2 := k.2 (by rw [hm]; exact h)
  have k3 := congrArg Trunk.st k2
  have k4 := congrArg Trunk.verified k2
  rw [abandon_trk] at k4
  exact ⟨k3, k4⟩

/-- TRUNK_RETRY_EXPIRY (R214). -/
theorem trunkRetryExpiry_effect :
  ∀ (s : State) (q : Fin 8), s.Shape → (s.trk q.val).st = 6 → (s.trk q.val).at_ + ms 100 ≤ s.now →
    Completes (.trunkRetryExpiry q) s (fun t => t.trk q.val = { s.trk q.val with st := 1, at_ := s.now, ticks := 0, lockDn := false, lockUp := false }) := by
  intro s q hs h1 h2
  simp only [Completes, exec, execTrunkRetryExpiry, h1, h2, decide_true, Bool.and_self, if_true, Host.Outcome.next.injEq, exists_eq_left']
  exact trk_mapTrk hs _ _

/-- TRUNK_BLOCK_LOCK_LOST (R215). -/
theorem trunkBlockLockLost_effect :
  ∀ (s : State) (q : Fin 8) (down : Bool), s.Shape →
    ((s.trk q.val).st = 5 → Completes (.trunkBlockLockLost q down) s (fun t => (t.trk q.val).downs = incSat 32 (s.trk q.val).downs ∧
      (s.mode.mode ≠ .forming → (t.trk q.val).st = 6 ∧ (if down then (t.trk q.val).lockDn else (t.trk q.val).lockUp) = false))) ∧
    ((s.trk q.val).st = 2 ∨ (s.trk q.val).st = 3 ∨ (s.trk q.val).st = 4 →
      Completes (.trunkBlockLockLost q down) s (fun t => (t.trk q.val).st = 6)) ∧
    ((s.trk q.val).st ≤ 1 ∨ 6 ≤ (s.trk q.val).st → Completes (.trunkBlockLockLost q down) s (fun t => t.trk q.val =
      if down then { s.trk q.val with lockDn := false } else { s.trk q.val with lockUp := false })) := by
  intro s q down hs
  have e := trk_mapTrk hs q (fun t => if down then { t with lockDn := false } else { t with lockUp := false })
  have es : ∀ x : Trunk, (if down then { x with lockDn := false } else { x with lockUp := false }).st = x.st := by intro x; split <;> rfl
  have ed : ∀ x : Trunk, (if down then { x with lockDn := false } else { x with lockUp := false }).downs = x.downs := by intro x; split <;> rfl
  simp only [Completes, exec, execTrunkBlockLockLost, Host.Outcome.next.injEq, exists_eq_left']
  have hsh := mapTrk_Shape hs q.val (fun t => if down then { t with lockDn := false } else { t with lockUp := false })
  have hm : (s.mapTrk q.val (fun t => if down then { t with lockDn := false } else { t with lockUp := false })).mode = s.mode := rfl
  generalize s.mapTrk q.val (fun t => if down then { t with lockDn := false } else { t with lockUp := false }) = u at *
  have e5 : (u.trk q.val).st = (s.trk q.val).st := by rw [e, es]
  rw [e5]
  refine ⟨fun h => ?_, fun h => ?_, fun h => ?_⟩
  · rw [if_pos h]
    have k := leaveUp_trk hsh q 3 (e5.trans h)
    have j := quireLoss_trk (u.leaveUp q.val 3) q.val
    refine ⟨by rw [j.1.2.2, k.2.1, e, ed], fun hn => ?_⟩
    rw [j.2 (by rw [k.2.2.2.2, hm]; exact hn)]
    refine ⟨k.1, ?_⟩
    rw [k.2.2.1, k.2.2.2.1, e]
    cases down <;> rfl
  · rw [if_neg (by omega), if_pos (by simp [← or_assoc] at *; omega)]
    exact bringFail_trk hsh q _ _ _
  · rw [if_neg (by omega), if_neg (by simp; omega)]
    exact e

/-- TRUNK_LEAVES_UP (R215). -/
theorem trunkLeavesUp_effect :
  ∀ (s : State) (q : Fin 8), s.Shape → (s.trk q.val).st = 5 → s.LINK_MISS_MAX ≤ (s.trk q.val).missRun ∨
    s.LINK_MISS_MAX ≤ (s.trk q.val).dlRun ∨ s.LINK_MISS_MAX ≤ (s.trk q.val).unbound →
    Completes (.trunkLeavesUp q) s (fun t => (t.trk q.val).downs = incSat 32 (s.trk q.val).downs ∧ (s.mode.mode ≠ .forming → (t.trk q.val).st = 6)) := by
  intro s q hs h5 h
  simp only [Completes, exec, execTrunkLeavesUp, Host.Outcome.next.injEq, exists_eq_left']
  have : ∃ c, s.leaveJudge q.val = s.leaveUp q.val c := by
    unfold State.leaveJudge
    dsimp only
    rw [if_pos h5]
    split
    · exact ⟨_, rfl⟩
    · split
      · exact ⟨_, rfl⟩
      · rw [if_pos (by omega)]; exact ⟨_, rfl⟩
  obtain ⟨c, hc⟩ := this
  rw [hc]
  have k := leaveUp_trk hs q c h5
  have j := quireLoss_trk (s.leaveUp q.val c) q.val
  refine ⟨by rw [j.1.2.2, k.2.1], fun hn => ?_⟩
  rw [j.2 (by rw [k.2.2.2.2]; exact hn)]
  exact k.1

/-- MAILBOX_READ_TIMEOUT (R221). -/
theorem mailboxReadTimeout_effect :
  ∀ (s : State) (c : Fin 256) (m : MailTx), s.Shape → (s.cellAt c.val).mail = some m → m.again = true → m.sent + 16 ≤ s.tick →
    s.populated c.val = true → (s.cellAt c.val).fail = 0 →
    Completes (.mailboxReadTimeout c) s (fun t => (t.cellAt c.val).fail = 5 ∧ (t.cellAt c.val).refresh = none) := by
  intro s c m hs h1 h2 h3 h4 h5
  simp only [Completes, exec, execMailboxReadTimeout, State.mailLate, h1, h2, h3, decide_true, Bool.and_self, if_true, Host.Outcome.next.injEq, exists_eq_left']
  unfold State.mailFail
  dsimp only
  have k := markFail_spec (s := s.mapCell c.val (fun x => { x with gd := 3, mail := none })) (mapCell_Shape hs _ _) c 5 h4 (by rw [cellAt_mapCell hs]; exact h5)
  split
  · exact k
  · rw [show ∀ (u : State) a b, (u.warnKeep a c.val b).cellAt c.val = u.cellAt c.val from fun u a b => by unfold State.cellAt; simp]; exact k

/-- PERIODIC_READBACK (R224). -/
theorem periodicReadback_effect :
  ∀ (s : State) (q : Fin 8) (w : Nat), s.Shape → (s.trk q.val).st = 5 → s.VERIFY_T ≠ 0 → s.VERIFY_T ≤ (s.trk q.val).vCount →
    ((List.range 32).map (fun i => ((s.trk q.val).pos + i) % 32)).find? (fun w => s.populated (32 * q.val + w)) = some w →
    Completes (.periodicReadback q) s (fun t => (t.trk q.val).vCount = 0 ∧ (t.trk q.val).pos = (w + 1) % 32 ∧
      (t.cellAt (32 * q.val + w)).due = some ((s.cellAt (32 * q.val + w)).due.getD .periodic)) := by
  intro s q w hs h1 h2 h3 h4
  have hw : 32 * q.val + w < 256 := by
    have := List.mem_of_find?_eq_some h4
    simp only [List.mem_map, List.mem_range] at this
    obtain ⟨i, _, e⟩ := this
    have := q.isLt
    omega
  simp only [Completes, exec, execPeriodicReadback, h1, h2, h3, h4, bne_iff_ne, ne_eq, not_false_iff, decide_true, Bool.and_self, Bool.and_true, if_true, Host.Outcome.next.injEq, exists_eq_left', not_true_eq_false]
  rw [if_pos (by simp [h2])]
  rw [mapCell_trk, trk_mapTrk hs]
  have hc := cellAt_mapCell (mapTrk_Shape hs q.val (fun t => { t with vCount := 0, pos := (w + 1) % 32 })) ⟨32 * q.val + w, hw⟩ (fun x => { x with due := some (x.due.getD .periodic) })
  exact ⟨rfl, rfl, by rw [hc]; rfl⟩

/-- SENSE_CALIBRATION_DONE (R281). -/
theorem senseCalibrationDone_effect :
  ∀ (s : State) (temp : Int) (cal : List (Option (Int × Int))) (t0 : Nat), s.sense.calSince = some t0 → s.run .sense = .starting →
    (s.storedUsable temp = true → Completes (.senseCalibrationDone temp cal) s (fun t => t.run .sense = .running ∧ t.sense.source = 1 ∧
      t.sense.calSince = none)) ∧
    (s.storedUsable temp = false → s.sense.calFg = true → t0 + 1310720 ≤ s.now → Completes (.senseCalibrationDone temp cal) s (fun t =>
      t.run .sense = .running ∧ t.sense.source = 0 ∧ t.sense.calSince = none)) ∧
    (s.storedUsable temp = false → s.sense.calFg = true → s.now < t0 + 1310720 → Completes (.senseCalibrationDone temp cal) s (fun t =>
      t.run .sense = .starting ∧ t.sense.calSince = some t0)) ∧
    (s.storedUsable temp = false → s.sense.calFg = false → Completes (.senseCalibrationDone temp cal) s (fun t =>
      t.run .sense = .starting ∧ t.sense.calFg = true ∧ t.sense.calSince = some s.now)) := by
  intro s temp cal t0 h1 h2
  have hr : ∀ v : State, v.senseRuns.run .sense = .running ∧ v.senseRuns.sense.source = v.sense.source ∧ v.senseRuns.sense.calSince = none :=
    fun v => ⟨setRun_run .., by unfold State.senseRuns; rw [State.setRun_sense]; rfl, by unfold State.senseRuns; rw [State.setRun_sense]; rfl⟩
  have hret : ∀ (v : State) k, (v.retire k).run .sense = v.run .sense ∧ (v.retire k).sense.source = v.sense.source ∧ (v.retire k).sense.calSince = v.sense.calSince := by
    intro v k
    unfold State.retire
    dsimp only
    exact ⟨State.run_fns (State.warnOn_fns ..) _, by rw [State.warnOn_sense]; rfl, by rw [State.warnOn_sense]; rfl⟩
  have hoff : ∀ v : State, v.rotationOff.run .sense = v.run .sense ∧ v.rotationOff.sense.source = v.sense.source ∧ v.rotationOff.sense.calSince = v.sense.calSince := by
    intro v
    unfold State.rotationOff
    exact ⟨State.run_fns (State.warnOn_fns ..) _, by rw [State.warnOn_sense]; rfl, by rw [State.warnOn_sense]; rfl⟩
  have hfold : ∀ (l : List Nat) (v : State), (l.foldl (fun s k => s.retire k) v).run .sense = v.run .sense ∧
      (l.foldl (fun s k => s.retire k) v).sense.source = v.sense.source ∧ (l.foldl (fun s k => s.retire k) v).sense.calSince = v.sense.calSince := by
    intro l
    induction l with
    | nil => intro v; exact ⟨rfl, rfl, rfl⟩
    | cons a l ih =>
      intro v
      rw [List.foldl_cons]
      obtain ⟨a1, a2, a3⟩ := ih (v.retire a)
      obtain ⟨b1, b2, b3⟩ := hret v a
      exact ⟨a1.trans b1, a2.trans b2, a3.trans b3⟩
  have hfg : ∀ v : State, (v.foreground cal).run .sense = .running ∧ (v.foreground cal).sense.source = 0 ∧ (v.foreground cal).sense.calSince = none := by
    intro v
    unfold State.foreground
    dsimp only
    generalize hw : State.note _ 0x4033 [] = w
    have hs : w.sense.source = 0 := by rw [← hw, State.note_sense]; rfl
    obtain ⟨r1, r2, r3⟩ := hr w
    split
    · exact ⟨r1, r2.trans hs, r3⟩
    · obtain ⟨o1, o2, o3⟩ := hoff (((List.range 17).filter (fun k => (entry cal k none).isNone)).foldl (fun s k => s.retire k) w.senseRuns)
      obtain ⟨f1, f2, f3⟩ := hfold ((List.range 17).filter (fun k => (entry cal k none).isNone)) w.senseRuns
      exact ⟨o1.trans (f1.trans r1), o2.trans (f2.trans (r2.trans hs)), o3.trans (f3.trans r3)⟩
  obtain ⟨N, hN, hpos⟩ : ∃ N : Nat, 1310720 = N ∧ 0 < N := ⟨_, rfl, by decide⟩
  rw [hN]
  have hx : ∀ P : State → Prop, P (if (s.coeffsRead temp).run .sense == .starting && (s.coeffsRead temp).sense.calFg &&
      (s.coeffsRead temp).sense.calSince.any (fun t => t + N ≤ (s.coeffsRead temp).now) then (s.coeffsRead temp).foreground cal else s.coeffsRead temp) →
      Completes (.senseCalibrationDone temp cal) s P := by
    intro P hP
    refine ⟨_, ?_, hP⟩
    show execSenseCalibrationDone temp cal s = _
    unfold execSenseCalibrationDone
    rw [if_pos (by rw [h1, h2]; rfl), hN]
  have hu : ∃ u : State, u = s.mapSense (fun x => { x with ints := updAt 5 (fun k => { k with value := temp, ok := true }) x.ints }) ∧
      u.storedUsable temp = s.storedUsable temp ∧ u.now = s.now ∧ u.sense.calSince = some t0 ∧ u.sense.calFg = s.sense.calFg ∧ u.run .sense = .starting :=
    ⟨_, rfl, rfl, rfl, h1, rfl, h2⟩
  obtain ⟨u, e0, e1, e2, e3, e4, e5⟩ := hu
  have hc : s.coeffsRead temp = if u.storedUsable temp then (u.setCoeffs ((u.sense.stored.map (·.list)).getD [])).senseRuns
      else if u.sense.calFg then u else u.convsFirst true := by rw [e0]; rfl
  refine ⟨fun a => hx _ ?_, fun a b c => hx _ ?_, fun a b c => hx _ ?_, fun a b => hx _ ?_⟩
  · rw [hc, e1, if_pos a]
    obtain ⟨r1, r2, r3⟩ := hr (u.setCoeffs ((u.sense.stored.map (·.list)).getD []))
    rw [if_neg (by rw [r1, r3]; simp)]
    exact ⟨r1, r2, r3⟩
  · have hc := hc.trans ((if_neg (by simp [e1, a])).trans (if_pos (e4.trans b)))
    rw [hc, e4, e3, e5, e2, b]
    rw [if_pos (by simp [c])]
    exact hfg u
  · have hc := hc.trans ((if_neg (by simp [e1, a])).trans (if_pos (e4.trans b)))
    rw [hc, e4, e3, e5, e2, b]
    rw [if_neg (by simp; omega)]
    exact ⟨e5, e3⟩
  · have hc := hc.trans ((if_neg (by simp [e1, a])).trans (if_neg (by simp [e4, b])))
    rw [hc]
    have g1 : (u.convsFirst true).sense.calSince = some s.now := by rw [← e2]; rfl
    have g2 : (u.convsFirst true).now = s.now := e2
    have g3 : (u.convsFirst true).run .sense = .starting := e5
    have g4 : (u.convsFirst true).sense.calFg = true := rfl
    generalize u.convsFirst true = w at *
    rw [g1, g2]
    rw [if_neg (by simp; omega)]
    exact ⟨g3, g4, g1⟩

/-- HISTORY_FILLED (R94). -/
theorem historyFilled_effect :
  ∀ (s : State) (c : Fin 16) (x : Int), s.Shape → s.converts c.val = true → (s.ain c.val).fed < s.edges → -32768 ≤ x → x ≤ 32767 →
    (s.ain c.val).inj = none → (s.ain c.val).arriving = [] →
    Completes (.historyFilled c [x]) s (fun t => (t.ain c.val).fed = (s.ain c.val).fed + 1 ∧
      (t.ain c.val).fill = min (fillOf (s.RESPONSE c.val)) ((s.ain c.val).fill + 1) ∧
      (t.ain c.val).hist = (x :: (s.ain c.val).hist).take (max 4 (fillOf (s.RESPONSE c.val)))) := by
  intro s c x hs h1 h2 h3 h4 h5 h6
  simp only [Completes, exec, execHistoryFilled, Host.Outcome.next.injEq, exists_eq_left']
  obtain ⟨u, u1, u2, u3, u4⟩ := feed_edge hs.ins c.isLt h1 h2 h6 s.sampleTick x
  rw [u4, h5, show clampI (-32768) 32767 x = x from by unfold clampI; omega, (countEdges_ain ..).1]
  obtain ⟨k, _⟩ := feedOne_ain u2 c.isLt x
  have hr : u.RESPONSE c.val = s.RESPONSE c.val := by unfold State.RESPONSE State.obj; rw [u3]
  have k1 := k.fed; have k2 := k.fill; have k3 := k.hist
  rw [hr] at k2 k3
  rw [u1] at k1 k2 k3
  exact ⟨k1, k2, k3⟩

/-- COMPARATOR_CROSSING (R295). -/
theorem comparatorCrossing_effect :
  ∀ (s : State) (c : Fin 16) (x y z w : Int) (l : List Int), s.Shape → s.converts c.val = true → (s.ain c.val).fed < s.edges →
    -32768 ≤ x → x ≤ 32767 → (s.ain c.val).inj = none → (s.ain c.val).arriving = [] →
    (s.ain c.val).hist = y :: z :: w :: l → 4 * s.CMP_HI c.val < x + y + z + w →
    s.CMP_CONFIRM c.val ≤ (s.ain c.val).hiRun + 1 → (s.ain c.val).hiX = false →
    (s.CMP_ACTION c.val ≠ 0 → Completes (.comparatorCrossing c [x]) s (fun t => (t.ain c.val).lCmp = true ∧ (t.ain c.val).fed = (s.ain c.val).fed + 1)) ∧
    (s.CMP_ACTION c.val = 2 → Completes (.comparatorCrossing c [x]) s (fun t => (t.ain c.val).lCmp = true ∧ (t.ain c.val).cmpOn = true ∧
      t.mode.blockCmp = true ∧ (t.ain c.val).fed = (s.ain c.val).fed + 1)) := by
  intro s c x y z w l hs h1 h2 h3 h4 h8 h9 h5 h6 h7 h10
  simp only [Completes, exec, execComparatorCrossing, Host.Outcome.next.injEq, exists_eq_left']
  obtain ⟨u, u1, u2, u3, u4⟩ := feed_edge hs.ins c.isLt h1 h2 h9 s.sampleTick x
  rw [u4, h8, show clampI (-32768) 32767 x = x from by unfold clampI; omega]
  dsimp only
  rw [(countEdges_ain ..).1, (countEdges_ain _ _ _ 0 _).2.1]
  obtain ⟨k, _, kc⟩ := feedOne_ain u2 c.isLt x
  have ho : u.CMP_ACTION c.val = s.CMP_ACTION c.val ∧ u.CMP_CONFIRM c.val = s.CMP_CONFIRM c.val ∧ u.CMP_HI c.val = s.CMP_HI c.val := by
    unfold State.CMP_ACTION State.CMP_CONFIRM State.CMP_HI State.obj; rw [u3]; exact ⟨rfl, rfl, rfl⟩
  have hb : (u.beyond c.val ((u.push c.val x).ain c.val)).1 = true := by
    rw [(push_ain u2 c.isLt x).2, u1]
    unfold State.beyond AIn.sum4
    dsimp only
    rw [h5, ho.2.2]
    obtain ⟨m, hm⟩ : ∃ m, max 4 (fillOf (u.RESPONSE c.val)) = m + 4 := ⟨max 4 (fillOf (u.RESPONSE c.val)) - 4, by omega⟩
    rw [hm]
    simp only [List.take_succ_cons]
    exact decide_eq_true h6
  have kf := k.fed
  rw [u1] at kf kc
  rw [ho.1, ho.2.1] at kc
  refine ⟨fun h => ⟨(kc h hb h7 h10).1, kf⟩, fun h => ?_⟩
  obtain ⟨z1, z2⟩ := kc (by omega) hb h7 h10
  exact ⟨z1, (z2 h).1, (z2 h).2, kf⟩

/-- SATURATION_LOST (R299). -/
theorem saturationLost_effect :
  ∀ (s : State) (c : Fin 16) (x : Int), s.Shape → s.converts c.val = true → (s.ain c.val).fed < s.edges → x = 32767 ∨ x = -32768 →
    (s.ain c.val).inj = none → (s.ain c.val).arriving = [] →
    Completes (.saturationLost c [x]) s (fun t => (t.ain c.val).satRun = (s.ain c.val).satRun + 1 ∧
      (s.SAT_COUNT c.val ≠ 0 → s.SAT_COUNT c.val ≤ (s.ain c.val).satRun + 1 → (t.ain c.val).lostSat = true)) := by
  intro s c x hs h1 h2 h3 h5 h6
  simp only [Completes, exec, execSaturationLost, Host.Outcome.next.injEq, exists_eq_left']
  obtain ⟨u, u1, u2, u3, u4⟩ := feed_edge hs.ins c.isLt h1 h2 h6 s.sampleTick x
  rw [u4, h5, show clampI (-32768) 32767 x = x from by unfold clampI; omega, (countEdges_ain ..).1]
  obtain ⟨_, k, _⟩ := feedOne_ain u2 c.isLt x
  have hr : u.SAT_COUNT c.val = s.SAT_COUNT c.val := by unfold State.SAT_COUNT State.obj; rw [u3]
  rw [hr, u1] at k
  exact k (by unfold saturated; rcases h3 with h | h <;> simp [h])

/-- ROTATION_HANDOVER (R282). -/
theorem rotationHandover_effect :
  ∀ (s : State), s.Shape → s.isRun .sense = true → s.sense.phase = 0 → s.ROT_STEP ≠ 0 → s.tick % s.ROT_STEP = 0 → s.sense.spare < 17 →
    Completes .rotationHandover s (fun t => t.sense.phase = 1 ∧ t.sense.x = (s.sense.spare + 1) % 17 ∧ t.sense.at_ = s.now ∧
      t.sense.excess = 0 ∧ (t.conv s.sense.spare).st = 3) := by
  intro s hs h1 h2 h3 h4 h5
  simp only [Completes, exec, execRotationHandover, h1, h2, h4, bne_iff_ne, Host.Outcome.next.injEq, exists_eq_left', beq_self_eq_true, decide_true, Bool.and_true, Bool.true_and]
  rw [if_pos (by simpa using h3)]
  have e := conv_mapConv hs.convs h5 (fun v : Conv => { v with st := 3 })
  refine ⟨rfl, rfl, rfl, rfl, ?_⟩
  exact congrArg Conv.st e

/-- SWITCH_EDGE (R290). -/
theorem switchEdge_effect :
  ∀ (s : State) (sumX sumS : Int), s.Shape → s.switchNow = true → s.sense.spare < 17 → s.sense.x < 17 → s.sense.x ≠ s.sense.spare →
    (absI (sumS - sumX) ≤ 256 * s.CAL_MATCH → s.rotInput < 16 → Completes (.switchEdge sumX sumS) s (fun t => (t.ain s.rotInput).conv = some s.sense.spare ∧
      (t.conv s.sense.spare).st = 0 ∧ (t.conv s.sense.spare).input = some s.rotInput ∧ (t.conv s.sense.x).st = 2 ∧ t.sense.cal = some s.sense.x ∧
      t.sense.phase = 2)) ∧
    (256 * s.CAL_MATCH < absI (sumS - sumX) → (s.conv s.sense.spare).fails < 2 → Completes (.switchEdge sumX sumS) s (fun t =>
      (t.conv s.sense.spare).st = 2 ∧ t.sense.cal = some s.sense.spare ∧ t.sense.phase = 2)) ∧
    (256 * s.CAL_MATCH < absI (sumS - sumX) → 2 ≤ (s.conv s.sense.spare).fails → Completes (.switchEdge sumX sumS) s (fun t =>
      (t.conv s.sense.spare).st = 4 ∧ t.sense.phase = 3)) := by
  intro s sumX sumS hs h1 h5 h6 h7
  simp only [Completes, exec, execSwitchEdge, h1, if_true, Host.Outcome.next.injEq, exists_eq_left']
  refine ⟨fun h hc => ?_, fun h hf => ?_, fun h hf => ?_⟩
  · rw [if_neg (Int.not_lt.2 h)]
    have k := conv_mapConv hs.convs h5 (fun v => { v with st := 0, input := some s.rotInput, fails := 0 })
    have kl := (mapConv_len s s.sense.spare (fun v => { v with st := 0, input := some s.rotInput, fails := 0 })).trans hs.convs
    have ka : (s.mapConv s.sense.spare (fun v => { v with st := 0, input := some s.rotInput, fails := 0 })).sense.ins.length = 16 := hs.ins
    generalize s.mapConv s.sense.spare (fun v => { v with st := 0, input := some s.rotInput, fails := 0 }) = u0 at *
    have ku : ∃ u, u0.warnOff 0x4031 s.sense.spare = u ∧ u.sense = u0.sense := ⟨_, rfl, rfl⟩
    obtain ⟨u, ku, ks⟩ := ku
    rw [ku]
    clear ku
    rw [← ks] at kl ka
    rw [← conv_sense ks] at k
    have kk : (u.mapAin s.rotInput (fun a => { a with conv := some s.sense.spare })).conv s.sense.spare = u.conv s.sense.spare := rfl
    have km := ain_mapAin_of ka hc (fun a => { a with conv := some s.sense.spare })
    have kc : (u.mapAin s.rotInput (fun a => { a with conv := some s.sense.spare })).sense.convs.length = 17 := kl
    generalize u.mapAin s.rotInput (fun a => { a with conv := some s.sense.spare }) = w at *
    obtain ⟨z1, z2, z3, z4, z5⟩ := calibrate_spec kc h6
    rw [z5, z4 _ h7.symm, km, kk, k]
    exact ⟨rfl, rfl, rfl, z1, z2, z3⟩
  · rw [if_pos h]
    have k := conv_mapConv hs.convs h5 (fun v => { v with fails := v.fails + 1 })
    have kl := (mapConv_len s s.sense.spare (fun v => { v with fails := v.fails + 1 })).trans hs.convs
    generalize s.mapConv s.sense.spare (fun v => { v with fails := v.fails + 1 }) = u at *
    rw [if_neg (by rw [conv_sense (State.warnKeep_sense ..), k]; dsimp only; omega)]
    obtain ⟨z1, z2, z3, _⟩ := calibrate_spec (v := u.warnKeep 0x4031 s.sense.spare (le 2 s.sense.x ++ le 2 s.sense.spare)) (by rw [State.warnKeep_sense]; exact kl) h5
    exact ⟨z1, z2, z3⟩
  · rw [if_pos h]
    have k := conv_mapConv hs.convs h5 (fun v => { v with fails := v.fails + 1 })
    have kl := (mapConv_len s s.sense.spare (fun v => { v with fails := v.fails + 1 })).trans hs.convs
    generalize s.mapConv s.sense.spare (fun v => { v with fails := v.fails + 1 }) = u at *
    rw [if_pos (by rw [conv_sense (State.warnKeep_sense ..), k]; dsimp only; omega)]
    obtain ⟨z1, z2, _⟩ := stopRotation_spec (v := u.warnKeep 0x4031 s.sense.spare (le 2 s.sense.x ++ le 2 s.sense.spare)) (by rw [State.warnKeep_sense]; exact kl) h5
    exact ⟨z1, z2⟩

/-- HANDOVER_DEFERRAL_LIMIT (R290). -/
theorem handoverDeferralLimit_effect :
  ∀ (s : State), s.sense.phase = 1 → s.sense.refuse = false → 1024 < s.sense.excess →
    Completes .handoverDeferralLimit s (fun t => t.sense = { s.sense with refuse := true }) := by
  intro s h1 h2 h3
  simp only [Completes, exec, execHandoverDeferralLimit, h1, h2, Host.Outcome.next.injEq, exists_eq_left']
  rw [if_pos (by simpa using h3), State.note_sense]

/-- CALIBRATE_COMPLETE (R282). -/
theorem calibrateComplete_effect :
  ∀ (s : State) (offset gain : Int) (k : Nat), s.Shape → s.sense.cal = some k → k < 17 → s.sense.phase = 2 → s.sense.at_ + 1310720 ≤ s.now →
    Completes (.calibrateComplete offset gain true) s (fun t => (t.conv k).offset = offset ∧ (t.conv k).gain = gain ∧ (t.conv k).st = 1 ∧
      t.sense.spare = k ∧ t.sense.phase = 0 ∧ t.sense.cal = none) ∧
    Completes (.calibrateComplete offset gain false) s (fun t => (t.conv k).st = 4 ∧ t.sense.phase = 3 ∧ t.sense.cal = none) := by
  intro s offset gain k hs h1 hk h2 h3
  have hx : ∀ (c : Bool) P, (P (if c then (let s := s.mapConv k (fun v => { v with st := 1, input := none, offset := offset, gain := gain, cals := incSat 32 v.cals, last := (s.time.sec, s.clockNs) })
          let s := s.mapSense (fun v => { v with phase := 0, cal := none, spare := k, steps := incSat 32 v.steps, at_ := s.now, pass := 0, passAt := s.now })
          if s.sense.steps % 17 = 0 then s.storeCoeffs else s) else s.stopRotation k)) → Completes (.calibrateComplete offset gain c) s P := by
    intro c P hP
    refine ⟨_, ?_, hP⟩
    show execCalibrateComplete offset gain c s = _
    unfold execCalibrateComplete
    rw [h1]
    dsimp only
    rw [if_pos (by rw [decide_eq_true h2, decide_eq_true h3]; rfl)]
  clear h3
  refine ⟨hx _ _ ?_, hx _ _ ?_⟩
  · dsimp only
    rw [if_pos rfl]
    have q := conv_mapConv hs.convs hk (fun v => { v with st := 1, input := none, offset := offset, gain := gain, cals := incSat 32 v.cals, last := (s.time.sec, s.clockNs) })
    clear hx
    generalize s.mapConv k (fun v => { v with st := 1, input := none, offset := offset, gain := gain, cals := incSat 32 v.cals, last := (s.time.sec, s.clockNs) }) = u at *
    obtain ⟨w, hw⟩ : ∃ w, w = u.mapSense (fun v => { v with phase := 0, cal := none, spare := k, steps := incSat 32 v.steps, at_ := u.now, pass := 0, passAt := u.now }) := ⟨_, rfl⟩
    have w1 : w.conv k = u.conv k := by rw [hw]; rfl
    have w2 : w.sense.spare = k ∧ w.sense.phase = 0 ∧ w.sense.cal = none := by rw [hw]; exact ⟨rfl, rfl, rfl⟩
    rw [← hw]
    have hst : w.storeCoeffs.conv k = w.conv k ∧ w.storeCoeffs.sense.spare = k ∧ w.storeCoeffs.sense.phase = 0 ∧ w.storeCoeffs.sense.cal = none := by
      unfold State.storeCoeffs
      split
      · exact ⟨rfl, w2⟩
      · exact ⟨rfl, w2⟩
    have hi : ∀ (b : Prop) [Decidable b], (if b then w.storeCoeffs else w).conv k = w.conv k ∧ (if b then w.storeCoeffs else w).sense.spare = k ∧
        (if b then w.storeCoeffs else w).sense.phase = 0 ∧ (if b then w.storeCoeffs else w).sense.cal = none := by
      intro b _
      split
      · exact hst
      · exact ⟨rfl, w2⟩
    have z := hi (w.sense.steps % 17 = 0)
    rw [z.1, w1, q]
    exact ⟨rfl, rfl, rfl, z.2⟩
  · rw [if_neg (by decide)]
    exact stopRotation_spec hs.convs hk

/-- INTERNAL_CHANNEL_CONVERTED (R285). -/
theorem internalChannelConverted_effect :
  ∀ (s : State) (ch : Fin 8) (v : Int), s.Shape → s.isRun .sense = true → s.sense.phase = 0 → s.sense.pass = ch.val → s.sense.passAt + 3200 ≤ s.now →
    (ch.val < 5 → Completes (.internalChannelConverted ch v) s (fun t => (entry t.sense.ints ch.val {}).value = v ∧
      (entry t.sense.ints ch.val {}).ok = true ∧ t.sense.pass = ch.val + 1 ∧ t.sense.passAt = s.sense.passAt + 3200)) ∧
    (5 ≤ ch.val → v ≤ s.TJ_TRIP * 16 → Completes (.internalChannelConverted ch v) s (fun t => (entry t.sense.ints ch.val {}).value = v ∧
      (entry t.sense.ints ch.val {}).ok = true ∧ (entry t.sense.ints ch.val {}).trips = 0)) ∧
    (5 ≤ ch.val → s.TJ_TRIP * 16 < v → (entry s.sense.ints ch.val {}).trips = 1 →
      Completes (.internalChannelConverted ch v) s (fun t => t.run .sense = .faulted)) := by
  intro s ch v hs h1 h2 h3 h4
  have he : ∀ v0 : State, v0.passEnd.sense = v0.sense ∧ v0.passEnd.fns = v0.fns := by
    intro v0
    unfold State.passEnd
    have : ∀ (l : List Nat) (w : State), (l.foldl (fun s i => if (entry s.sense.ints i {}).inside then s.warnOff (if i = 0 then 0x4051 else if i < 5 then 0x4050 else 0x4052) (17 + i) else s) w).sense = w.sense ∧
        (l.foldl (fun s i => if (entry s.sense.ints i {}).inside then s.warnOff (if i = 0 then 0x4051 else if i < 5 then 0x4050 else 0x4052) (17 + i) else s) w).fns = w.fns := by
      intro l
      induction l with
      | nil => intro w; exact ⟨rfl, rfl⟩
      | cons a l ih =>
        intro w
        rw [List.foldl_cons, (ih _).1, (ih _).2]
        split
        · exact ⟨rfl, rfl⟩
        · exact ⟨rfl, rfl⟩
    exact this _ _
  have hx : ∀ P : State → Prop, (∀ u : State, entry u.sense.ints ch.val {} = { entry s.sense.ints ch.val {} with value := v, ok := true } →
      u.sense.ints.length = 8 → u.TJ_TRIP = s.TJ_TRIP → u.isRun .sense = true → u.sense.pass = (ch.val + 1) % 8 → u.sense.passAt = s.sense.passAt + 3200 →
      (∀ w : State, w.sense = (u.intJudge ch.val v).sense → w.fns = (u.intJudge ch.val v).fns → P w)) →
      Completes (.internalChannelConverted ch v) s P := by
    intro P hP
    have k := entry_updAt (fun x : IntCh => { x with value := v, ok := true }) {} s.sense.ints ch.val (by rw [hs.ints]; exact ch.isLt)
    have kl : (updAt ch.val (fun x : IntCh => { x with value := v, ok := true }) s.sense.ints).length = 8 := by rw [updAt_length]; exact hs.ints
    obtain ⟨u, hu⟩ : ∃ u, u = s.mapSense (fun x => { x with
        pass := (ch.val + 1) % 8, passAt := x.passAt + 3200
        ints := updAt ch.val (fun k => { k with value := v, ok := true }) x.ints }) := ⟨_, rfl⟩
    have q := hP u (by rw [hu]; exact k) (by rw [hu]; exact kl) (by rw [hu]; rfl) (by rw [hu]; exact h1) (by rw [hu]; rfl) (by rw [hu]; rfl)
    refine ⟨_, ?_, q (if ch.val = 7 then (u.intJudge ch.val v).passEnd else u.intJudge ch.val v) ?_ ?_⟩
    · show execInternalChannelConverted ch v s = _
      unfold execInternalChannelConverted
      rw [if_pos (by simp [h1, h2, h3, h4]), hu]
    · split
      · exact (he _).1
      · rfl
    · split
      · exact (he _).2
      · rfl
  refine ⟨fun h => hx _ (fun u ku kn kt kr kp ka w ws wf => ?_), fun h h5 => hx _ (fun u ku kn kt kr kp ka w ws wf => ?_),
    fun h h5 h6 => hx _ (fun u ku kn kt kr kp ka w ws wf => ?_)⟩
  all_goals
    clear hx
  · rw [ws]
    unfold State.intJudge
    dsimp only
    rw [if_neg (show ¬ ((if (decide (5 ≤ ch.val) && decide (u.TJ_TRIP * 16 < v)) = true then (entry u.sense.ints ch.val {}).trips + 1 else 0) = 2) by
      rw [if_neg (by simp; omega)]; decide)]
    have e := entry_updAt (fun k : IntCh => { k with inside := !(u.intOut ch.val v).1, trips := if (decide (5 ≤ ch.val) && decide (u.TJ_TRIP * 16 < v)) = true then (entry u.sense.ints ch.val {}).trips + 1 else 0 }) {} u.sense.ints ch.val (by rw [kn]; exact ch.isLt)
    have hw : ∀ (b : Bool) (z : State) c k p, (if b then z.warnOn c k p else z).sense = z.sense := by intro b z c k p; cases b; rfl; exact State.warnOn_sense ..
    rw [hw]
    show (entry (updAt ch.val _ u.sense.ints) ch.val {}).value = v ∧ (entry (updAt ch.val _ u.sense.ints) ch.val {}).ok = true ∧ u.sense.pass = ch.val + 1 ∧ u.sense.passAt = _
    rw [e, ku]
    exact ⟨rfl, rfl, by omega, ka⟩
  · rw [ws]
    unfold State.intJudge
    dsimp only
    rw [kt]
    rw [if_neg (show ¬ ((if (decide (5 ≤ ch.val) && decide (s.TJ_TRIP * 16 < v)) = true then (entry u.sense.ints ch.val {}).trips + 1 else 0) = 2) by
      rw [if_neg (by simp; omega)]; decide)]
    rw [if_neg (show ¬ ((decide (5 ≤ ch.val) && decide (s.TJ_TRIP * 16 < v)) = true) by simp; omega)]
    have e := entry_updAt (fun k : IntCh => { k with inside := !(u.intOut ch.val v).1, trips := 0 }) {} u.sense.ints ch.val (by rw [kn]; exact ch.isLt)
    have hw : ∀ (b : Bool) (z : State) c k p, (if b then z.warnOn c k p else z).sense = z.sense := by intro b z c k p; cases b; rfl; exact State.warnOn_sense ..
    rw [hw]
    show (entry (updAt ch.val _ u.sense.ints) ch.val {}).value = v ∧ (entry (updAt ch.val _ u.sense.ints) ch.val {}).ok = true ∧ (entry (updAt ch.val _ u.sense.ints) ch.val {}).trips = 0
    rw [e, ku]
    exact ⟨rfl, rfl, rfl⟩
  · have wr : w.run .sense = (u.intJudge ch.val v).run .sense := State.run_fns wf _
    rw [wr]
    unfold State.intJudge
    dsimp only
    rw [kt]
    rw [if_pos (show ((if (decide (5 ≤ ch.val) && decide (s.TJ_TRIP * 16 < v)) = true then (entry u.sense.ints ch.val {}).trips + 1 else 0) = 2) by
      rw [if_pos (by simp [h, h5]), ku]; show (entry s.sense.ints ch.val {}).trips + 1 = 2; omega)]
    have hw : ∀ (b : Bool) (z : State) c k p, (if b then z.warnOn c k p else z).fns = z.fns := by intro b z c k p; cases b; rfl; exact State.warnOn_fns ..
    exact trip_run _ _ _ _ (isRun_up (by unfold State.isRun State.run at *; rw [hw]; exact kr))

end Sys2Proof.Machine
end

