-- ==== Sys2Proof/Laws/Effect08.lean ====
section
/-! SUPPORT. One lemma per command: that it runs, on which states, and what it leaves. -/
namespace Sys2Proof.Machine

set_option Elab.async false
set_option linter.all false

/-- COMPARATOR_RELEASE (R297). -/
theorem comparatorRelease_effect :
  ∀ (s : State) (c : Fin 16), s.Shape → s.edges ≤ (s.ain c.val).fed → (s.ain c.val).cmpOn = true → (s.ain c.val).within = true →
    Completes (.comparatorRelease c) s (fun t => t.ain c.val = { s.ain c.val with cmpOn := false }) := by
  intro s c hs h1 h2 h3
  simp only [Completes, exec, execComparatorRelease, State.cmpRelease, Host.Outcome.next.injEq, exists_eq_left']
  rw [if_pos h1, if_pos (by rw [h2, h3]; rfl)]
  exact ain_mapAin hs c.isLt _

/-- FROZEN_WINDOW_END (R298). -/
theorem frozenWindowEnd_effect :
  ∀ (s : State) (c : Fin 16), s.Shape → s.edges ≤ (s.ain c.val).fed → (s.ain c.val).ended = false → s.FROZEN_WIN c.val ≠ 0 →
    s.FROZEN_WIN c.val ≤ (s.ain c.val).winT + 1 → 2 ≤ (s.ain c.val).winN →
    Completes (.frozenWindowEnd c) s (fun t => (t.ain c.val).winT = 0 ∧ (t.ain c.val).winN = 0 ∧ (t.ain c.val).ended = true ∧
      (t.ain c.val).frozen = decide ((s.ain c.val).winHi - (s.ain c.val).winLo ≤ 2)) := by
  intro s c hs h1 h2 h3 h4 h5
  simp only [Completes, exec, execFrozenWindowEnd, h1, h2, h4, bne_iff_ne, decide_true, Bool.and_true, Bool.true_and, Bool.not_false, Host.Outcome.next.injEq, exists_eq_left']
  rw [if_pos (by simpa using h3)]
  unfold State.frozenDecide
  dsimp only
  rw [if_neg (Nat.not_lt.2 h5)]
  have k := ain_mapAin hs c.isLt (fun a => { a with winT := 0, winN := 0 })
  have kl := (mapAin_len s c.val (fun a => { a with winT := 0, winN := 0 })).trans hs.ins
  generalize s.mapAin c.val (fun a => { a with winT := 0, winN := 0 }) = u at *
  have done : ∀ v : State, v.sense.ins.length = 16 → (v.ain c.val).winT = 0 → (v.ain c.val).winN = 0 →
      (v.ain c.val).frozen = decide ((s.ain c.val).winHi - (s.ain c.val).winLo ≤ 2) →
      ((v.mapAin c.val (fun a => { a with ended := true })).ain c.val).winT = 0 ∧ ((v.mapAin c.val (fun a => { a with ended := true })).ain c.val).winN = 0 ∧
      ((v.mapAin c.val (fun a => { a with ended := true })).ain c.val).ended = true ∧
      ((v.mapAin c.val (fun a => { a with ended := true })).ain c.val).frozen = decide ((s.ain c.val).winHi - (s.ain c.val).winLo ≤ 2) := by
    intro v hv a b d
    rw [ain_mapAin_of hv c.isLt]
    exact ⟨a, b, rfl, d⟩
  have ku : (u.ain c.val).frozen = (s.ain c.val).frozen := by rw [k]
  split
  · rename_i hw
    split
    · rename_i hf
      refine done u kl (by rw [k]) (by rw [k]) ?_
      rw [ku, hf, decide_eq_true hw]
    · refine done _ ?_ ?_ ?_ ?_ <;> (first | rw [State.warnOn_sense, mapAin_len, kl] | rw [ain_sense (State.warnOn_sense ..), ain_mapAin_of kl c.isLt, k])
      exact (decide_eq_true hw).symm
  · rename_i hw
    split
    · refine done _ ?_ ?_ ?_ ?_ <;> (first | rw [State.note_sense, State.warnOff_sense, mapAin_len, kl] | rw [ain_sense (State.note_sense ..), ain_sense (State.warnOff_sense ..), ain_mapAin_of kl c.isLt, k])
      exact (decide_eq_false hw).symm
    · rename_i hf
      refine done u kl (by rw [k]) (by rw [k]) ?_
      rw [ku, decide_eq_false hw]
      simpa using hf

/-- SATURATION_CLEAR (R299). -/
theorem saturationClear_effect :
  ∀ (s : State) (c : Fin 16), s.Shape → s.edges ≤ (s.ain c.val).fed → (s.ain c.val).lostSat = true → (s.ain c.val).satTick = false →
    Completes (.saturationClear c) s (fun t => t.ain c.val = { s.ain c.val with lostSat := false }) := by
  intro s c hs h1 h2 h3
  simp only [Completes, exec, execSaturationClear, State.satClear, Host.Outcome.next.injEq, exists_eq_left']
  rw [if_pos h1, if_pos (by rw [h2, h3]; rfl)]
  rw [ain_sense (State.note_sense ..), ain_sense (State.warnOff_sense ..), ain_mapAin hs c.isLt]

/-- TEST_INJECTION (R300). -/
theorem testInjection_effect :
  ∀ (s : State) (c : Fin 16), s.Shape → s.TEST_T c.val ≠ 0 → s.sampleTick % s.TEST_T c.val = 0 → s.converts c.val = true →
    ((s.ain c.val).fed < 50 → Completes (.testInjection c) s (fun t =>
      (t.ain c.val).arriving = (s.ain c.val).arriving ++ [⟨50, 1, true⟩] ∧ (t.ain c.val).inj = (s.ain c.val).inj)) ∧
    (50 ≤ (s.ain c.val).fed → s.injBusy c.val = false → Completes (.testInjection c) s (fun t =>
      (t.ain c.val).resOk = false ∧ ∃ due, (t.ain c.val).inj = some { mode := 1, test := true, due := due } ∧
      ((s.ain c.val).preempt = false → due = (s.ain c.val).fed + 3))) ∧
    (50 ≤ (s.ain c.val).fed → s.injBusy c.val = true → Completes (.testInjection c) s (fun t => (t.ain c.val).inj = (s.ain c.val).inj ∧
      (t.ain c.val).overruns = incSat 32 (s.ain c.val).overruns ∧ (t.ain c.val).lInj = true)) := by
  intro s c hs h1 h2 h3
  have hx : execTestInjection c s = .next (s.injArrive c.val ⟨max 50 (s.ain c.val).fed, 1, true⟩) := by
    unfold execTestInjection
    rw [if_pos (by simp [h1, h2])]
  refine ⟨fun h => ⟨_, hx, ?_⟩, fun h h4 => ⟨_, hx, ?_⟩, fun h h4 => ⟨_, hx, ?_⟩⟩
  · have e : (max 50 ((s.ain c.val).fed : Int)) = 50 := by omega
    rw [e, arrive_later (by dsimp only; omega), if_pos h3]
    dsimp only
    rw [ain_mapAin hs c.isLt]
    exact ⟨rfl, rfl⟩
  all_goals
    have e : (max 50 ((s.ain c.val).fed : Int)) = (s.ain c.val).fed := by omega
    rw [e]
    unfold State.injArrive
    rw [if_pos h3, if_pos (Int.le_refl _)]
    unfold State.injRequest
    rw [h4]
  · dsimp only
    rw [if_neg (by decide)]
    unfold State.injRegister
    dsimp only
    rw [ain_mapAin hs c.isLt]
    exact ⟨rfl, _, rfl, fun hp => by rw [hp]; rfl⟩
  · dsimp only
    rw [if_pos rfl]
    unfold State.injOverrun
    dsimp only
    have k := ain_mapAin hs c.isLt (fun a => { a with overruns := incSat 32 a.overruns, lInj := true, ovrTick := true })
    split
    · rw [k]; exact ⟨rfl, rfl, rfl⟩
    · rw [ain_sense (State.note_sense ..), k]; exact ⟨rfl, rfl, rfl⟩

/-- REFERENCE_LOST (R324). -/
theorem referenceLost_effect :
  ∀ (s : State), s.clk.ref ≠ .lost → Completes .referenceLost s (fun t => t.clk.ref = .lost ∧ t.clk.lostAt = some s.now ∧
    t.clk.losses = incSat 32 s.clk.losses ∧ ∀ p, p < 5 → (s.clk.pll p).st = .locked → (t.clk.pll p).st = .coast ∧ (t.clk.pll p).frozen = true ∧
      (t.clk.pll p).coasts = incSat 32 (s.clk.pll p).coasts) := by
  intro s h
  simp only [Completes, exec, execReferenceLost, State.refLost, Host.Outcome.next.injEq, exists_eq_left']
  rw [if_neg (by simpa using h)]
  have main : ∀ u : State, u.clk.ref = .lost → u.clk.lostAt = some s.now → u.clk.losses = incSat 32 s.clk.losses → (∀ p, u.clk.pll p = s.clk.pll p) →
      ((List.range 5).foldl (fun s i => s.coast i) u).clk.ref = .lost ∧ ((List.range 5).foldl (fun s i => s.coast i) u).clk.lostAt = some s.now ∧
      ((List.range 5).foldl (fun s i => s.coast i) u).clk.losses = incSat 32 s.clk.losses ∧ ∀ p, p < 5 → (s.clk.pll p).st = .locked →
      (((List.range 5).foldl (fun s i => s.coast i) u).clk.pll p).st = .coast ∧ (((List.range 5).foldl (fun s i => s.coast i) u).clk.pll p).frozen = true ∧
      (((List.range 5).foldl (fun s i => s.coast i) u).clk.pll p).coasts = incSat 32 (s.clk.pll p).coasts := by
    intro u a b c d
    have k := plls_fold State.coast (fun _ => Pll.coasted) (fun u i hi => coast_clk u i hi) u
    obtain ⟨⟨k1, k2, k3, _⟩, k4⟩ := k
    generalize (List.range 5).foldl (fun s i => s.coast i) u = w at *
    refine ⟨k1.trans a, k2.trans b, k3.trans c, fun p hp hl => ?_⟩
    have e := k4 p hp
    rw [d] at e
    unfold Pll.coasted at e
    rw [if_pos (by rw [hl]; rfl)] at e
    exact ⟨congrArg Pll.st e, congrArg Pll.frozen e, congrArg Pll.coasts e⟩
  have e : ∀ u : State, ((u.warnOff 0x0202 0).warnOn 0x0202 0 []).clk = u.clk := fun u => by rw [State.warnOn_clk, State.warnOff_clk]
  generalize hv : State.warnOn _ _ _ _ = v
  have k : v.clk = { s.clk with ref := .lost, lostAt := some s.now, losses := incSat 32 s.clk.losses } := by rw [← hv, e]
  exact main v (by rw [k]) (by rw [k]) (by rw [k]) (fun p => by rw [k]; unfold ClkState.pll; rfl)

/-- REFERENCE_PRESENT (R324). -/
theorem referencePresent_effect :
  ∀ (s : State), s.clk.ref = .qualifying → Completes .referencePresent s (fun t => t.clk.ref = .present ∧ t.clk.lostAt = none ∧
    ∀ p, p < 5 → (s.clk.pll p).st = .coast → (t.clk.pll p).st = (if (s.clk.pll p).out then .relockF else .acquire) ∧ (t.clk.pll p).at_ = s.now) := by
  intro s h
  simp only [Completes, exec, execReferencePresent, State.refPresent, h, beq_self_eq_true, if_true, Host.Outcome.next.injEq, exists_eq_left']
  have main : ∀ u : State, u.clk.ref = .present → u.clk.lostAt = none → u.now = s.now → (∀ p, u.clk.pll p = s.clk.pll p) →
      ((List.range 5).foldl (fun s i => s.relock i) u).clk.ref = .present ∧ ((List.range 5).foldl (fun s i => s.relock i) u).clk.lostAt = none ∧
      ∀ p, p < 5 → (s.clk.pll p).st = .coast → (((List.range 5).foldl (fun s i => s.relock i) u).clk.pll p).st = (if (s.clk.pll p).out then .relockF else .acquire) ∧
      (((List.range 5).foldl (fun s i => s.relock i) u).clk.pll p).at_ = s.now := by
    intro u a b c d
    have k := plls_fold State.relock (fun n p => p.relocked n) (fun u i hi => relock_clk u i hi) u
    refine ⟨k.1.1.trans a, k.1.2.1.trans b, fun p hp hl => ?_⟩
    have e := k.2 p hp
    rw [d, c] at e
    unfold Pll.relocked at e
    rw [if_pos (by rw [hl]; rfl)] at e
    refine ⟨(congrArg Pll.st e).trans ?_, (congrArg Pll.at_ e).trans ?_⟩ <;> split <;> rfl
  refine main _ ?_ ?_ ?_ ?_
  · rw [State.note_clk, State.warnOff_clk]
  · rw [State.note_clk, State.warnOff_clk]
  · rw [State.note_now, State.warnOff_now]
  · intro p
    rw [State.note_clk, State.warnOff_clk]
    unfold ClkState.pll
    rfl

/-- PLL_LOCK (R315). -/
theorem pllLock_effect :
  ∀ (s : State) (p : Fin 5), (s.clk.pll p.val).st = .acquire →
    Completes (.pllLock p) s (fun t => (t.clk.pll p.val).st = .locked ∧ (t.clk.pll p.val).out = true ∧ (t.clk.pll p.val).tries = []) := by
  intro s p h
  simp only [Completes, exec, execPllLock, State.pllLock, h, beq_self_eq_true, if_true, Host.Outcome.next.injEq, exists_eq_left']
  have hc : ∀ u : State, u.clockSettle.clk = u.clk := fun u => State.clockSettle_keeps.same .clk rfl
  rw [hc, State.note_clk]
  have k := (putPll_clk s p.val { s.clk.pll p.val with st := .locked, out := true, tries := [], frozen := false }).2.1 p.isLt
  generalize s.putPll p.val { s.clk.pll p.val with st := .locked, out := true, tries := [], frozen := false } = u at *
  show (u.clk.pll p.val).st = _ ∧ (u.clk.pll p.val).out = _ ∧ (u.clk.pll p.val).tries = _
  rw [k]
  exact ⟨rfl, rfl, rfl⟩

/-- PLL_LOCK_LOST (R325). -/
theorem pllLockLost_effect :
  ∀ (s : State) (p : Fin 5), (s.clk.pll p.val).st = .locked → s.clk.ref = .present →
    Completes (.pllLockLost p) s (fun t => (t.clk.pll p.val).st = (if (s.clk.pll p.val).out then .relockF else .acquire) ∧
      (t.clk.pll p.val).at_ = s.now ∧ (t.clk.pll p.val).coasts = incSat 32 (s.clk.pll p.val).coasts ∧ (t.clk.pll p.val).frozen = true) := by
  intro s p h h2
  simp only [Completes, exec, execPllLockLost, h, h2, beq_self_eq_true, Bool.and_self, if_true, Host.Outcome.next.injEq, exists_eq_left']
  have a := coast_clk s p.val p.isLt
  have b := relock_clk (s.coast p.val) p.val p.isLt
  have e1 : (s.coast p.val).clk.pll p.val = { s.clk.pll p.val with st := .coast, frozen := true, coasts := incSat 32 (s.clk.pll p.val).coasts } := by
    rw [a.2.1]; unfold Pll.coasted; rw [if_pos (by rw [h]; rfl)]
  rw [b.2.1, e1, a.2.2.2]
  unfold Pll.relocked
  rw [if_pos (by rfl)]
  dsimp only
  split <;> exact ⟨rfl, rfl, rfl, rfl⟩

/-- ACQUISITION_TIMEOUT (R315). -/
theorem acquisitionTimeout_effect :
  ∀ (s : State) (p : Fin 5), (s.clk.pll p.val).st = .acquire → (s.clk.pll p.val).at_ + us 200 ≤ s.now →
    (∀ e rest, (s.clk.pll p.val).tries = e :: rest → Completes (.acquisitionTimeout p) s (fun t => t.clk.pll p.val =
      { s.clk.pll p.val with bandIx := some e, tries := rest, at_ := s.now })) ∧
    ((s.clk.pll p.val).tries = [] → Completes (.acquisitionTimeout p) s (fun t => t.clk.pll p.val = { s.clk.pll p.val with st := .unlocked, bandIx := none })) := by
  intro s p h1 h2
  simp only [Completes, exec, execAcquisitionTimeout, State.acqTimeout, State.acqNext, h1, h2, beq_self_eq_true, decide_true, Bool.and_self, if_true, Host.Outcome.next.injEq, exists_eq_left']
  refine ⟨fun e rest h => ?_, fun h => ?_⟩
  · rw [h]; exact (putPll_clk ..).2.1 p.isLt
  · have hc : ∀ u : State, u.clockSettle.clk = u.clk := fun u => State.clockSettle_keeps.same .clk rfl
    have k := (putPll_clk s p.val { s.clk.pll p.val with st := .unlocked, bandIx := none }).2.1 p.isLt
    split
    · rename_i hh; rw [h] at hh; contradiction
    · rw [hc, State.warnKeep_clk]
      exact k

/-- FREQ_MONITOR_WINDOW (R326). -/
theorem freqMonitorWindow_effect :
  ∀ (s : State) (p : Fin 5) (err : Int), (absI err ≤ 50000 → Completes (.freqMonitorWindow p err) s (fun t => t.clk.pll p.val =
      { s.clk.pll p.val with ferr := sat32 err })) ∧
    (50000 < absI err → (s.clk.pll p.val).st = .coast → Completes (.freqMonitorWindow p err) s (fun t => t.clk.pll p.val =
      { s.clk.pll p.val with ferr := sat32 err, drift := true, pending := (s.clk.pll p.val).pending || !(s.clk.pll p.val).backup })) := by
  intro s p err
  simp only [Completes, exec, execFreqMonitorWindow, Host.Outcome.next.injEq, exists_eq_left']
  have k := (putPll_clk s p.val { s.clk.pll p.val with ferr := sat32 err }).2.1 p.isLt
  refine ⟨fun h => ?_, fun h h2 => ?_⟩
  · rw [if_neg (Int.not_lt.2 h)]; exact k
  · rw [if_pos h, (drifts_clk _ p.val p.isLt).2.1, k]
    unfold Pll.drifted
    rw [if_pos (by rw [h2]; rfl)]

/-- REFERENCE_LOSS_10S (R326). -/
theorem referenceLoss10s_effect :
  ∀ (s : State) (t0 : Nat), s.clk.lostAt = some t0 → t0 + secs 10 ≤ s.now → Completes .referenceLoss10s s (fun t =>
    ∀ p, p < 5 → (s.clk.pll p).st = .coast → (t.clk.pll p).drift = true ∧ ((s.clk.pll p).backup = false → (t.clk.pll p).pending = true)) := by
  intro s t0 h1 h2
  simp only [Completes, exec, execReferenceLoss10s, h1, h2, if_true, Host.Outcome.next.injEq, exists_eq_left']
  have k := plls_fold State.drifts (fun _ p => p.drifted) (fun u i hi => drifts_clk u i hi) s
  intro p hp hc
  rw [k.2 p hp]
  unfold Pll.drifted
  rw [if_pos (by rw [hc]; rfl)]
  exact ⟨rfl, fun hb => by simp [hb]⟩

/-- BACKUP_SWITCH_DONE (R327). -/
theorem backupSwitchDone_effect :
  ∀ (s : State) (p : Fin 5), (s.clk.pll p.val).pending = true → Completes (.backupSwitchDone p) s (fun t =>
    t.clk.pll p.val = { s.clk.pll p.val with pending := false, backup := true } ∧
    (p.val < 2 → s.mode.mode = .forming → s.isRun .clock = true → t.tripped .clock)) := by
  intro s p h
  simp only [Completes, exec, execBackupSwitchDone, h, if_true, Host.Outcome.next.injEq, exists_eq_left']
  have hc : ∀ (u : State) i, (u.onBackup i).clk = u.clk := fun u i => State.onBackup_keeps.same .clk rfl
  refine ⟨by rw [hc, State.warnOn_clk, (putPll_clk ..).2.1 p.isLt], fun hp hm hr => ?_⟩
  unfold State.onBackup
  have hu : ∀ (u : State), u.mode.mode = .forming → u.isRun .clock = true → (if u.mode.mode == .forming && u.isRun .clock then u.trip 0x0205 .clock (pllName p.val) else u).tripped .clock := by
    intro u a b
    rw [if_pos (by rw [a, b]; rfl)]
    exact trip_tripped _ _ _ _ (isRun_up b)
  have hw : ∀ (v : State) a b c, (v.warnOn a b c).mode.mode = v.mode.mode := by
    intro v a b c; unfold State.warnOn; dsimp only; split <;> simp
  have k := hu ((s.putPll p.val { s.clk.pll p.val with pending := false, backup := true }).warnOn 0x0204 p.val (pllName p.val)) (by rw [hw]; exact hm)
    (by unfold State.isRun State.run at *; rw [State.warnOn_fns]; exact hr)
  have h2 : p.val = 0 ∨ p.val = 1 := by omega
  rcases h2 with h2 | h2 <;> rw [h2] at k ⊢ <;> exact k

/-- BACKUP_TRIM (R327). -/
theorem backupTrim_effect :
  ∀ (s : State) (p : Fin 5), s.clk.ref = .present → (s.clk.pll p.val).trimmed + ms 1 ≤ s.now →
    Completes (.backupTrim p) s (fun t => t.clk.pll p.val = { s.clk.pll p.val with trimmed := s.now }) := by
  intro s p h1 h2
  simp only [Completes, exec, execBackupTrim, h1, h2, beq_self_eq_true, decide_true, Bool.and_self, if_true, Host.Outcome.next.injEq, exists_eq_left']
  exact (putPll_clk ..).2.1 p.isLt

/-- MONITOR_RATIO_MEASURE (R326). -/
theorem monitorRatioMeasure_effect :
  ∀ (s : State) (ppm : Int), s.clk.ref = .present → s.clk.ratioAt + ms 1 ≤ s.now →
    Completes (.monitorRatioMeasure ppm) s (fun t => t.clk = { s.clk with ratio := ppm, ratioAt := s.now }) := by
  intro s ppm h1 h2
  simp only [Completes, exec, execMonitorRatioMeasure, h1, h2, beq_self_eq_true, decide_true, Bool.and_self, if_true, Host.Outcome.next.injEq, exists_eq_left']

/-- RELOCK_F_DONE (R329). -/
theorem relockFDone_effect :
  ∀ (s : State) (p : Fin 5) (err : Int), (s.clk.pll p.val).st = .relockF →
    Completes (.relockFDone ⟨p, err⟩) s (fun t => t.clk.pll p.val =
      { s.clk.pll p.val with st := .relockP, at_ := s.now, frozen := false, offset := shortPhase err }) := by
  intro s p err h
  simp only [Completes, exec, execRelockFDone, h, beq_self_eq_true, if_true, Host.Outcome.next.injEq, exists_eq_left']
  exact (putPll_clk ..).2.1 p.isLt

/-- AIN_TRIG_EDGE (R287). -/
theorem ainTrigEdge_effect :
  ∀ (s : State) (rising : Bool) (c : Nat), s.Shape → c < 16 → s.converts c = true →
    (s.INJ_SOURCE c = 3 ∨ s.INJ_SOURCE c = (if rising then 1 else 2) → Completes (.ainTrigEdge rising) s (fun t =>
      (t.ain c).arriving = (s.ain c).arriving ++ [⟨(s.ain c).fed + 2, s.INJ_MODE c, false⟩] ∧ (t.ain c).inj = (s.ain c).inj)) ∧
    (s.INJ_SOURCE c ≠ 3 → s.INJ_SOURCE c ≠ (if rising then 1 else 2) → Completes (.ainTrigEdge rising) s (fun t => t.ain c = s.ain c)) := by
  intro s rising c hs hc hv
  simp only [Completes, exec, execAinTrigEdge, Host.Outcome.next.injEq, exists_eq_left']
  have hsrc : ∀ u : State, u.objs = s.objs → ∀ d, u.INJ_SOURCE d = s.INJ_SOURCE d ∧ u.INJ_MODE d = s.INJ_MODE d := by
    intro u h d; unfold State.INJ_SOURCE State.INJ_MODE State.obj; rw [h]; exact ⟨rfl, rfl⟩
  obtain ⟨g, hg⟩ : ∃ g : State → Nat → State, g = fun u d => if u.INJ_SOURCE d = 3 || (u.INJ_SOURCE d = 1 && rising) || (u.INJ_SOURCE d = 2 && !rising) then
      u.injArrive d ⟨(u.ain d).fed + 2, u.INJ_MODE d, false⟩ else u := ⟨_, rfl⟩
  rw [show (fun (u : State) (d : Nat) => (have src := u.INJ_SOURCE d; if src = 3 || (src = 1 && rising) || (src = 2 && !rising) then
      u.injArrive d ⟨(u.ain d).fed + 2, u.INJ_MODE d, false⟩ else u)) = g from hg.symm]
  have one : ∀ (u : State) (d : Nat), InjSame (g u d) u ∧ ∀ e, e ≠ d → (g u d).ain e = u.ain e := by
    intro u d
    rw [hg]
    dsimp only
    split
    · exact arrive_same (by dsimp only; omega)
    · exact ⟨⟨rfl, rfl, rfl, rfl, rfl, rfl⟩, fun _ _ => rfl⟩
  have many : ∀ (l : List Nat) (u : State), InjSame (l.foldl g u) u ∧ (c ∉ l → (l.foldl g u).ain c = u.ain c) := by
    intro l
    induction l with
    | nil => intro u; exact ⟨⟨rfl, rfl, rfl, rfl, rfl, rfl⟩, fun _ => rfl⟩
    | cons a l ih =>
      intro u
      obtain ⟨⟨i1, i2, i3, i4, i5, i6⟩, i7⟩ := ih (g u a)
      obtain ⟨⟨j1, j2, j3, j4, j5, j6⟩, j7⟩ := one u a
      refine ⟨⟨i1.trans j1, i2.trans j2, i3.trans j3, i4.trans j4, i5.trans j5, i6.trans j6⟩, fun h => ?_⟩
      rw [List.mem_cons, not_or] at h
      exact (i7 h.2).trans (j7 c h.1)
  obtain ⟨split16, hn⟩ := range16_at c hc
  rw [split16, List.foldl_append, List.foldl_cons]
  obtain ⟨⟨a1, a2, a3, a4, a5, a6⟩, a7⟩ := many (List.range c) s
  have a8 := a7 (by simp)
  clear a7
  generalize (List.range c).foldl g s = u at *
  have hu : u.converts c = true := by
    have : u.converts c = s.converts c := by
      unfold State.converts State.isRun State.run State.AIN_ENABLE State.obj; rw [a1, a2]
    rw [this, hv]
  refine ⟨fun h => ?_, fun h1 h2 => ?_⟩
  · rw [(many _ _).2 hn, hg]
    dsimp only
    rw [if_pos, arrive_later (by dsimp only; omega), if_pos hu, ain_mapAin_of (a6.trans hs.ins) hc, a8, (hsrc u a1 c).2]
    · exact ⟨rfl, rfl⟩
    · rw [(hsrc u a1 c).1]
      rcases h with h | h
      · simp [h]
      · cases rising <;> simp [h]
  · rw [(many _ _).2 hn, hg]
    dsimp only
    rw [if_neg, a8]
    rw [(hsrc u a1 c).1]
    clear many one hsrc split16
    cases rising <;> simp at h2 <;> simp [h1, h2]

/-- INJECTED_SAMPLE_DONE (R288). -/
theorem injectedSampleDone_effect :
  ∀ (s : State) (c : Fin 16) (x : Int) (r : InjReq), s.Shape → s.converts c.val = true → (s.ain c.val).fed < s.edges →
    (s.ain c.val).arriving = [] → (s.ain c.val).inj = some r → -32768 ≤ x → x ≤ 32767 →
    (r.taken = false → r.due ≤ ((s.ain c.val).fed : Int) + 1 → Completes (.injectedSampleDone c [] x) s (fun t =>
      (t.ain c.val).preempt = true ∧ (t.ain c.val).fed = (s.ain c.val).fed + 1 ∧ ∃ q, (t.ain c.val).inj = some q ∧ q.mode = r.mode ∧ q.test = r.test ∧
      q.taken = true ∧ q.code = x ∧ q.leaves = ((s.ain c.val).fed : Int) + 1 + 12)) ∧
    (r.taken = true → r.leaves ≤ ((s.ain c.val).fed : Int) + 1 → Completes (.injectedSampleDone c [] x) s (fun t =>
      (t.ain c.val).inj = none ∧ (t.ain c.val).res = r.code ∧ (t.ain c.val).resMode = r.mode ∧ (t.ain c.val).resEdge = r.edge ∧
      (t.ain c.val).resTick = r.tick ∧ (t.ain c.val).resOk = true ∧ (t.ain c.val).fed = (s.ain c.val).fed + 1)) := by
  intro s c x r hs h1 h2 h3 h4 h5 h6
  simp only [Completes, exec, execInjectedSampleDone, List.nil_append, Host.Outcome.next.injEq, exists_eq_left']
  obtain ⟨u, u1, u2, u3, u4⟩ := feed_edge hs.ins c.isLt h1 h2 h3 s.sampleTick x
  rw [u4, h4, show clampI (-32768) 32767 x = x from by unfold clampI; omega]
  dsimp only
  refine ⟨fun a b => ?_, fun a b => ?_⟩
  · rw [if_neg (by rw [a]; decide), if_pos b, (countEdges_ain ..).1]
    unfold State.injTake State.feedRepeat
    dsimp only
    obtain ⟨k, _⟩ := give_ain u2 c.isLt ((u.ain c.val).hist.headD 0)
    rw [ain_mapAin_of k.len c.isLt]
    have k1 := k.fed
    rw [u1] at k1 ⊢
    exact ⟨rfl, k1, _, rfl, rfl, rfl, rfl, rfl, rfl⟩
  · rw [if_pos a, if_pos b]
    obtain ⟨k, _⟩ := feedOne_ain u2 c.isLt x
    have kf := k.fed
    rw [u1] at kf
    generalize u.feedOne c.val x = v at *
    have v1 := (countEdges_ain v c.val 1 c.val true).1
    have v2 : (v.countEdges c.val 1 true).sense.ins.length = 16 := by rw [(countEdges_ain v c.val 1 c.val true).2.2]; exact k.len
    generalize v.countEdges c.val 1 true = w at *
    unfold State.injLeave
    dsimp only
    have m := ain_mapAin_of v2 c.isLt (fun a => { a with inj := none, res := r.code, resMode := r.mode, resEdge := r.edge, resTick := r.tick, resOk := true })
    have ml := (mapAin_len w c.val (fun a => { a with inj := none, res := r.code, resMode := r.mode, resEdge := r.edge, resTick := r.tick, resOk := true })).trans v2
    generalize w.mapAin c.val _ = z at *
    split
    · obtain ⟨_, _, _, _, _, y⟩ := testJudge_ain ml c.isLt r.code r.prev
      rw [y, m, v1]
      exact ⟨rfl, rfl, rfl, rfl, rfl, rfl, kf⟩
    · rw [m, v1]
      exact ⟨rfl, rfl, rfl, rfl, rfl, rfl, kf⟩

end Sys2Proof.Machine
end

