-- ==== Sys2Proof/Laws/Effect09.lean ====
section
/-! SUPPORT. One lemma per command: that it runs, on which states, and what it leaves. -/
namespace Sys2Proof.Machine

set_option Elab.async false
set_option linter.all false

/-- RELOCK_P_DONE (R329). -/
theorem relockPDone_effect :
  ∀ (s : State) (p : Fin 5), (s.clk.pll p.val).st = .relockP → (s.clk.pll p.val).offset = 0 →
    Completes (.relockPDone p) s (fun t => t.clk.pll p.val = { s.clk.pll p.val with st := .locked, out := true }) := by
  intro s p h h2
  refine ⟨_, rfl, ?_⟩
  dsimp only
  rw [if_pos (by rw [h, h2]; rfl)]
  rw [show ∀ u : State, u.clockSettle.clk = u.clk from fun u => State.clockSettle_keeps.same .clk rfl, State.note_clk]
  exact (putPll_clk s p.val { s.clk.pll p.val with st := .locked, out := true }).2.1 p.isLt

/-- BACKUP_RETURN (R330). -/
theorem backupReturn_effect :
  ∀ (s : State) (p : Fin 5), (s.clk.pll p.val).backup = true → (s.clk.pll p.val).st = .locked →
    Completes (.backupReturn p) s (fun t => t.clk.pll p.val = { s.clk.pll p.val with backup := false } ∧ (p.val = 2 → t.time.onBackup = false)) := by
  intro s p h1 h2
  refine ⟨_, rfl, ?_⟩
  dsimp only
  rw [if_pos (by rw [h1, h2]; rfl)]
  have k : ∀ (u : State) a b c d, ((u.warnOff a b).note c d).clk = u.clk := by intro u a b c d; rw [State.note_clk]; rfl
  have k2 := (putPll_clk s p.val { s.clk.pll p.val with backup := false }).2.1 p.isLt
  rw [← k _ 0x0204 p.val 0x0206 (pllName p.val)] at k2
  generalize State.note (State.warnOff _ 0x0204 p.val) 0x0206 (pllName p.val) = u at *
  by_cases hp : p.val = 2
  · rw [if_pos hp]
    exact ⟨k2, fun _ => rfl⟩
  · rw [if_neg hp]
    split
    · exact ⟨k2, fun h => absurd h hp⟩
    · exact ⟨k2, fun h => absurd h hp⟩

/-- HELD_COMMIT_APPLY (R319). -/
theorem heldCommitApply_effect :
  ∀ (s : State), s.clk.commit = true → s.clk.ref = .present → (∀ i < 4, (s.clk.pll i).pending = false) →
    Completes .heldCommitApply s (fun t => t.clk.commit = false ∧ ∀ i < 4, (t.clk.pll i).act = s.shadow i) := by
  intro s h1 h2 h3
  simp only [Completes, exec, execHeldCommitApply, Host.Outcome.next.injEq, exists_eq_left']
  rw [if_pos]
  · rw [show ∀ u : State, u.clockSettle.clk = u.clk from fun u => State.clockSettle_keeps.same .clk rfl]
    exact commitNow_spec s
  · rw [h1, h2]
    simp only [beq_self_eq_true, Bool.and_self, Bool.true_and, List.all_eq_true, List.mem_range]
    intro i hi
    rw [h3 i hi]; rfl

/-- PTP_SYNC (R344). -/
theorem ptpSync_effect :
  ∀ (s : State) (p : Side) (domain seq : Nat) (two : Bool) (t1 capture corr : Int), (s.ptpIn p domain).1 = true → s.qualified p ≠ none →
    s.fenced 4 3 = false →
    (two = true → Completes (.ptpSync p domain seq two t1 capture corr) s (fun t => (t.time.port p).wait =
      some ⟨seq, s.ingressTime p capture, corr⟩)) ∧
    (two = false → s.time.slaveLost = none → s.time.slave ≠ some p → Completes (.ptpSync p domain seq two t1 capture corr) s (fun t =>
      (t.time.port p).off = sat32 (s.ingressTime p capture - t1 - (s.time.port p).path - corr - divNearAway (s.ASYM p.code) 1000) ∧
      (t.time.port p).wait = none ∧ t.time.syncAt = s.now)) ∧
    (two = false → s.time.slaveLost = none → s.time.slave = some p → s.time.servo = .free → s.time.onBackup = false →
      Completes (.ptpSync p domain seq two t1 capture corr) s (fun t => t.time.servo = .acquire ∧ t.time.okRun = 0)) := by
  intro s p domain seq two t1 capture corr h1 h2 h3
  obtain ⟨f, hf, hn⟩ := ptpIn_spec s p domain
  have hx : exec (.ptpSync p domain seq two t1 capture corr) s = .next (if two then State.putPort { s with fab := f } p { s.time.port p with wait := some ⟨seq, s.ingressTime p capture, corr⟩ }
      else State.syncDone { s with fab := f } p (s.ingressTime p capture) t1 corr) := by
    show execPtpSync p domain seq two t1 capture corr s = _
    unfold execPtpSync
    have : s.ptpIn p domain = (true, { s with fab := f }) := Prod.ext h1 hf
    rw [this]
    dsimp only
    rw [if_pos]
    · rfl
    · rw [(fab_qualified s f hn p).1, Option.isSome_iff_ne_none.2 h2]
      show (true && true && !(s.fenced 4 3)) = true
      rw [h3]; rfl
  unfold Completes
  rw [hx]
  refine ⟨fun h => ⟨_, rfl, ?_⟩, fun h a b => ⟨_, rfl, ?_⟩, fun h a b c d => ⟨_, rfl, ?_⟩⟩ <;> dsimp only
  · rw [if_pos h, port_putPort]
  · rw [if_neg (by rw [h]; decide)]
    have k := syncDone_other (s := { s with fab := f }) a b (s.ingressTime p capture) t1 corr
    exact ⟨k.1, k.2.2.1, k.2.2.2⟩
  · rw [if_neg (by rw [h]; decide)]
    exact syncDone_slave (s := { s with fab := f }) a b c d _ _ _

/-- PTP_FOLLOW_UP (R344). -/
theorem ptpFollowUp_effect :
  ∀ (s : State) (p : Side) (domain : Nat) (t1 corr : Int) (w : SyncWait), (s.ptpIn p domain).1 = true → (s.time.port p).wait = some w →
    s.fenced 4 3 = false →
    (s.time.slaveLost = none → s.time.slave ≠ some p → Completes (.ptpFollowUp p domain w.seq t1 corr) s (fun t =>
      (t.time.port p).off = sat32 (w.t2 - t1 - (s.time.port p).path - (w.corr + corr) - divNearAway (s.ASYM p.code) 1000) ∧
      (t.time.port p).wait = none ∧ t.time.syncAt = s.now)) ∧
    (s.time.slaveLost = none → s.time.slave = some p → s.time.servo = .free → s.time.onBackup = false →
      Completes (.ptpFollowUp p domain w.seq t1 corr) s (fun t => t.time.servo = .acquire ∧ t.time.okRun = 0)) := by
  intro s p domain t1 corr w h1 h2 h3
  obtain ⟨f, hf, hn⟩ := ptpIn_spec s p domain
  have hx : exec (.ptpFollowUp p domain w.seq t1 corr) s = .next (State.syncDone { s with fab := f } p w.t2 t1 (w.corr + corr)) := by
    show execPtpFollowUp p domain w.seq t1 corr s = _
    unfold execPtpFollowUp
    have : s.ptpIn p domain = (true, { s with fab := f }) := Prod.ext h1 hf
    rw [this]
    dsimp only
    rw [if_pos (by show (true && !(s.fenced 4 3)) = true; rw [h3]; rfl), h2]
    dsimp only
    rw [if_pos rfl]
  unfold Completes
  rw [hx]
  refine ⟨fun a b => ⟨_, rfl, ?_⟩, fun a b c d => ⟨_, rfl, ?_⟩⟩
  · have k := syncDone_other (s := { s with fab := f }) a b w.t2 t1 (w.corr + corr)
    exact ⟨k.1, k.2.2.1, k.2.2.2⟩
  · exact syncDone_slave (s := { s with fab := f }) a b c d _ _ _

/-- PTP_ANNOUNCE (R341). -/
theorem ptpAnnounce_effect :
  ∀ (s : State) (p : Side) (domain : Nat) (f : Foreign), (s.ptpIn p domain).1 = true →
    Completes (.ptpAnnounce p domain f) s (fun t => (f, s.now) ∈ (t.time.port p).fms) := by
  intro s p domain f h1
  obtain ⟨g, hf, hn⟩ := ptpIn_spec s p domain
  have this : s.ptpIn p domain = (true, { s with fab := g }) := Prod.ext h1 hf
  simp only [Completes, exec, execPtpAnnounce, this, if_true, Host.Outcome.next.injEq, exists_eq_left']
  have k := setRoles_port (State.putPort { s with fab := g } p ((s.time.port p).hear f s.now)) p
  rw [port_putPort] at k
  have e : ∀ v : State, (v.takeLeap p f).time.port p = v.time.port p := by
    intro v; unfold State.takeLeap; split
    · cases p <;> rfl
    · rfl
  rw [e]
  show (f, s.now) ∈ ((State.putPort { s with fab := g } p ((s.time.port p).hear f s.now)).setRoles.time.port p).fms
  obtain ⟨st, k⟩ := k
  rw [k]
  exact List.mem_append_right _ (List.mem_singleton.2 rfl)

/-- PTP_PDELAY (R339). -/
theorem ptpPdelay_effect :
  ∀ (s : State) (p : Side) (domain seq : Nat) (capture : Int), (s.ptpIn p domain).1 = true →
    (∀ egress : Int, Completes (.ptpPdelay p domain (.req seq capture egress)) s (fun t => t.tx =
      .ptp p (if s.VLAN = 0 then none else some (s.VLAN, s.VLAN_PCP)) s.DOMAIN 10 (be 2 seq ++ ptpTime (s.egressTime p egress)) ::
      .ptp p (if s.VLAN = 0 then none else some (s.VLAN, s.VLAN_PCP)) s.DOMAIN 3 (be 2 seq ++ ptpTime (s.ingressTime p capture)) :: s.tx)) ∧
    (∀ turn corr t1 : Int, (s.time.port p).preq = some (seq, t1) →
      Completes (.ptpPdelay p domain (.resp seq capture turn corr)) s (fun t => (t.time.port p).preq = none ∧
        (t.time.port p).pdelays = ((s.ingressTime p capture - t1 - turn - corr) / 2 :: (s.time.port p).pdelays).take 64 ∧
        (t.time.port p).path = s.meanDelay (((s.ingressTime p capture - t1 - turn - corr) / 2 :: (s.time.port p).pdelays).take 64))) := by
  intro s p domain seq capture h1
  obtain ⟨g, hf, hn⟩ := ptpIn_spec s p domain
  have this : s.ptpIn p domain = (true, { s with fab := g }) := Prod.ext h1 hf
  have on : s.ptpOn p = true := by
    unfold State.ptpIn at h1
    cases hc : s.ptpOn p
    · rw [hc] at h1; exact absurd h1 (by simp)
    · rfl
  have up := (fab_qualified s g hn p).2.2.trans (ptpOn_net on)
  simp only [Completes, exec, execPtpPdelay, this, if_true, Host.Outcome.next.injEq, exists_eq_left']
  refine ⟨fun egress => ?_, fun turn corr t1 h => ?_⟩
  · unfold State.ptpSend
    rw [emitNet_up up]
    rw [emitNet_up (by exact up)]
    rfl
  · rw [h]
    dsimp only
    rw [if_pos rfl, port_putPort]
    exact ⟨rfl, rfl, rfl⟩

/-- PDELAY_REQ_SEND (R339). -/
theorem pdelayReqSend_effect :
  ∀ (s : State) (p : Side) (capture : Int), s.ptpOn p = true → (∀ t0, (s.time.port p).pdAt = some t0 → t0 + secs 1 ≤ s.now) →
    Completes (.pdelayReqSend p capture) s (fun t => (t.time.port p).pseq = ((s.time.port p).pseq + 1) % 65536 ∧
      (t.time.port p).preq = some (((s.time.port p).pseq + 1) % 65536, s.egressTime p capture) ∧ (t.time.port p).pdAt = some s.now ∧
      t.tx = .ptp p (if s.VLAN = 0 then none else some (s.VLAN, s.VLAN_PCP)) s.DOMAIN 2 (be 2 (((s.time.port p).pseq + 1) % 65536)) :: s.tx) := by
  intro s p capture h1 h2
  refine ⟨_, rfl, ?_⟩
  dsimp only
  have hd : ∀ b : Bool, (∀ t0, (s.time.port p).pdAt = some t0 → b = decide (t0 + secs 1 ≤ s.now)) → ((s.time.port p).pdAt = none → b = true) → b = true := by
    intro b h h'
    cases hq : (s.time.port p).pdAt with
    | none => exact h' hq
    | some t0 => rw [h t0 hq]; exact decide_eq_true (h2 t0 hq)
  rw [h1, Bool.true_and, if_pos (hd _ (fun t0 h => by rw [h]) (fun h => by rw [h]))]
  have e : ∀ x, (s.putPort p x).netUp p = true := fun x => by cases p <;> exact ptpOn_net h1
  unfold State.ptpSend
  rw [emitNet_up (e _)]
  unfold State.emit
  dsimp only
  rw [port_putPort]
  exact ⟨rfl, rfl, rfl, rfl⟩

/-- PTP_MASTER_SEND (R342). -/
theorem ptpMasterSend_effect :
  ∀ (s : State) (ca cb : Int) (p : Side), (s.time.port p).st = .master →
    (∀ t0, (s.time.port p).mAt = some t0 → t0 + secs 1 ≤ s.now) → Completes (.ptpMasterSend ca cb) s (fun t =>
    (t.time.port p).mseq = ((s.time.port p).mseq + 1) % 65536 ∧ (t.time.port p).mAt = some s.now ∧
    (s.netUp p = true → .ptp p (if s.VLAN = 0 then none else some (s.VLAN, s.VLAN_PCP)) s.DOMAIN 0 (be 2 (((s.time.port p).mseq + 1) % 65536)) ∈ t.tx ∧
      .ptp p (if s.VLAN = 0 then none else some (s.VLAN, s.VLAN_PCP)) s.DOMAIN 8 (be 2 (((s.time.port p).mseq + 1) % 65536) ++ ptpTime (s.egressTime p (if p = .a then ca else cb))) ∈ t.tx)) := by
  intro s ca cb p h hd
  refine ⟨_, rfl, ?_⟩
  dsimp only
  have a1 := masterSend_port s .a ca
  have b1 := masterSend_port (s.masterSend .a ca) .b cb
  have a2 := masterSend_tx s .a ca
  have b2 := masterSend_tx (s.masterSend .a ca) .b cb
  have ho : (s.masterSend .a ca).objs = s.objs := State.masterSend_keeps.same .objs rfl
  have hnow : (s.masterSend .a ca).now = s.now := State.masterSend_keeps.same .now rfl
  have eg : (∀ x, (s.masterSend .a ca).egressTime .b x = s.egressTime .b x) ∧ (s.masterSend .a ca).VLAN = s.VLAN ∧
      (s.masterSend .a ca).VLAN_PCP = s.VLAN_PCP ∧ (s.masterSend .a ca).DOMAIN = s.DOMAIN := by
    unfold State.egressTime State.PHY_TX_LAT State.VLAN State.VLAN_PCP State.DOMAIN State.obj
    rw [ho]
    exact ⟨fun _ => rfl, rfl, rfl, rfl⟩
  cases p
  · refine ⟨?_, ?_, fun hn => ?_⟩
    · rw [b1.1 .a (by decide), (a1.2 h hd).1]
    · rw [b1.1 .a (by decide), (a1.2 h hd).2]
    · have := a2.2.2 h hd hn
      exact ⟨b2.1 _ this.1, b2.1 _ this.2⟩
  · have e := a1.1 .b (by decide)
    rw [e, hnow] at b1 b2
    refine ⟨?_, ?_, fun hn => ?_⟩
    · rw [(b1.2 h hd).1]
    · rw [(b1.2 h hd).2]
    · have := b2.2.2 h hd ((a2.2.1 .b).trans hn)
      rw [eg.1, eg.2.1, eg.2.2.1, eg.2.2.2] at this
      exact this

/-- ANNOUNCE_TIMEOUT (R342). -/
theorem announceTimeout_effect :
  ∀ (s : State) (p : Side), Completes (.announceTimeout p) s (fun t =>
    (t.time.port p).fms = (s.time.port p).fms.filter (fun e => decide (s.now < e.2 + secs 3)) ∧
    ((s.time.port p).fms ≠ [] → (t.time.port p).fms = [] → (t.time.port p).wait = none)) := by
  intro s p
  refine ⟨_, rfl, ?_⟩
  dsimp only
  generalize hl : (s.time.port p).fms.filter (fun e => decide (s.now < e.2 + secs 3)) = l
  split
  · rename_i h
    have : l = (s.time.port p).fms := by
      rw [← hl] at h ⊢
      exact List.filter_eq_self.2 (List.length_filter_eq_length_iff.1 h)
    exact ⟨this.symm, fun a b => absurd b a⟩
  · rename_i h
    split
    · rename_i h2
      have k := portLost_port s p
      rw [List.isEmpty_iff.1 h2]
      exact ⟨k.1, fun _ _ => k.2⟩
    · rename_i h2
      obtain ⟨st, k⟩ := setRoles_port (s.putPort p { s.time.port p with fms := l }) p
      rw [port_putPort] at k
      rw [k]
      exact ⟨rfl, fun _ b => by rw [List.isEmpty_iff] at h2; exact absurd b h2⟩

/-- SYNC_LOSS (R345). -/
theorem syncLoss_effect :
  ∀ (s : State), s.isRun .time = true → s.time.syncAt + secs 3 ≤ s.now →
    (s.time.servo = .locked → Completes .syncLoss s (fun t => t.time.servo = .holdover ∧ t.time.holdAt = s.now ∧ t.time.okRun = 0 ∧
      (s.time.rates ≠ [] → t.time.r = sumI s.time.rates / (s.time.rates.length : Int)))) ∧
    (s.time.servo = .acquire → Completes .syncLoss s (fun t => t.time.servo = .free ∧ t.time.okRun = 0 ∧ t.time.r = 0)) := by
  intro s h1 h2
  simp only [Completes, exec, execSyncLoss, h1, h2, decide_true, Bool.and_self, if_true, Host.Outcome.next.injEq, exists_eq_left']
  refine ⟨fun h => ?_, fun h => ?_⟩
  · rw [h]
    dsimp only
    rw [State.warnOn_time, putR_time]
    refine ⟨rfl, rfl, rfl, fun hr => ?_⟩
    exact if_neg (by simpa using hr)
  · rw [h]
    dsimp only
    have k := servoFree_time s (by rw [h]; decide)
    rw [k, h]
    exact ⟨rfl, rfl, rfl⟩

/-- HOLDOVER_EXPIRY (R345). -/
theorem holdoverExpiry_effect :
  ∀ (s : State), s.time.servo = .holdover → s.time.holdAt + secs s.TIME_HOLD_T ≤ s.now →
    Completes .holdoverExpiry s (fun t => t.time.servo = .free ∧ t.time.r = s.time.r ∧ t.time.okRun = 0) := by
  intro s h1 h2
  refine ⟨_, rfl, ?_⟩
  dsimp only
  rw [if_pos (by rw [h1, decide_eq_true h2]; rfl), State.warnOn_time, servoFree_time s (by rw [h1]; decide), h1]
  exact ⟨rfl, rfl, rfl⟩

/-- SECOND_ROLLOVER (R352). -/
theorem secondRollover_effect :
  ∀ (s : State), s.time.rolled = true → Completes .secondRollover s (fun t => t.time =
    { s.time with rolled := false, taiTick := s.tick, tai := (s.time.sec, s.clockNs) }) := by
  intro s h
  refine ⟨_, rfl, ?_⟩
  dsimp only
  unfold State.latchTai
  rw [if_pos h]

/-- MDIO_LINK_POLL (R536). -/
theorem mdioLinkPoll_effect :
  ∀ (s : State) (p : Side) (up : Bool), Completes (.mdioLinkPoll p up) s (fun t => t.fab.netUp = putAt p.code up s.fab.netUp ∧
    (s.isRun .time = true → up = false → (t.time.port p).fms = [])) := by
  intro s p up
  refine ⟨_, rfl, ?_⟩
  dsimp only
  have h1 : ∀ u : State, u.setRoles.fab = u.fab := fun u => State.setRoles_keeps.same .fab rfl
  have h2 : ∀ (u : State) q, (u.portLost q).fab = u.fab := fun u q => State.portLost_keeps.same .fab rfl
  split
  · split
    · rw [h1]; rename_i hh; exact ⟨rfl, fun _ h => by rw [h] at hh; exact absurd hh (by decide)⟩
    · rw [h2]
      exact ⟨rfl, fun _ _ => (portLost_port _ p).1⟩
  · rename_i hn
    exact ⟨rfl, fun h => absurd h hn⟩

/-- PRP_SUPERVISION_SEND (R536). -/
theorem prpSupervisionSend_effect :
  ∀ (s : State), (∀ t0, s.fab.superAt = some t0 → t0 + ms 2000 ≤ s.now) → s.powered .net = true → Completes .prpSupervisionSend s (fun t =>
    t.fab.superAt = some s.now ∧ (s.netUp .a = true → s.netUp .b = true →
    t.tx = .prp .b ([0x01, 0x15, 0x4E, 0x00, 0x01, 0x00] ++ Config.macAddress ++ [0x88, 0xFB, 20]) ::
      .prp .a ([0x01, 0x15, 0x4E, 0x00, 0x01, 0x00] ++ Config.macAddress ++ [0x88, 0xFB, 20]) :: s.tx)) := by
  intro s h h2
  refine ⟨_, rfl, ?_⟩
  dsimp only
  have hd : ∀ b : Bool, (∀ t0, s.fab.superAt = some t0 → b = decide (t0 + ms 2000 ≤ s.now)) → (s.fab.superAt = none → b = true) → b = true := by
    intro b h0 h'
    cases hq : s.fab.superAt with
    | none => exact h' hq
    | some t0 => rw [h0 t0 hq]; exact decide_eq_true (h t0 hq)
  rw [if_pos (by rw [h2, Bool.and_true]; exact hd _ (fun t0 h => by rw [h]) (fun h => by rw [h]))]
  have k : ∀ (u : State) p t, (u.emitNet p t).fab.superAt = u.fab.superAt := by intro u p t; unfold State.emitNet; split <;> rfl
  rw [k, k]
  refine ⟨rfl, fun a b => ?_⟩
  have ha : State.netUp ({ s with fab := { s.fab with superAt := some s.now } } : State) .a = true := a
  rw [emitNet_up ha, emitNet_up (p := .b) (by exact b)]
  rfl

/-- PRP_SUPERVISION_RECEIVED (R536). -/
theorem prpSupervisionReceived_effect :
  ∀ (s : State) (src : Nat), Completes (.prpSupervisionReceived src) s (fun t =>
    t.fab.nodes = ((src, s.now) :: s.fab.nodes.filter (fun n => s.now < n.2 + secs 60 && n.1 != src)).take 256) := by
  intro s src
  exact ⟨_, rfl, rfl⟩

/-- BARRIER_FRAME (R358). -/
theorem barrierFrame_effect :
  ∀ (s : State) (levels : List Nat) (volts : List Int) (amps : List Nat) (so : List (Int × Int)) (crc : BitVec 32), s.masterRuns = true →
    (crc32 ((s.dieSamples levels).dieFrame volts amps so) = crc.toNat → Completes (.barrierFrame levels volts amps so crc) s (fun t =>
      t.field.missRun = 0 ∧ t.field.lastOk = s.slotTime ∧ t.field.slots = s.field.slots + 1 ∧
      ∀ p : Fin 32, t.pin p.val = ((s.dieSamples levels).pin p.val).take (entry volts p.val 0) (entry amps p.val 0))) ∧
    (crc32 ((s.dieSamples levels).dieFrame volts amps so) ≠ crc.toNat → Completes (.barrierFrame levels volts amps so crc) s (fun t =>
      t.field.errors = incSat 32 s.field.errors ∧ t.field.missRun = s.field.missRun + 1 ∧ t.field.goodSince = none ∧
      t.field.pins = (s.dieSamples levels).field.pins)) := by
  intro s levels volts amps so crc h
  have hp : s.powered .fld = true := by unfold State.masterRuns at h; simp only [Bool.and_eq_true] at h; exact h.1.1
  have hm : (s.dieSamples levels).masterRuns = true := h
  refine ⟨fun hc => ⟨_, rfl, ?_⟩, fun hc => ⟨_, rfl, ?_⟩⟩ <;> dsimp only
  · rw [if_pos hp, if_neg (by rw [hm]; decide), if_pos hc]
    refine ⟨rfl, rfl, rfl, fun p => ?_⟩
    generalize s.dieSamples levels = u
    exact pins_map (fun q => (u.pin q).take (entry volts q 0) (entry amps q 0)) p
  · rw [if_pos hp, if_neg (by rw [hm]; decide), if_neg hc]
    exact ⟨rfl, rfl, rfl, rfl⟩

/-- BARRIER_LINK_DOWN (R359). -/
theorem barrierLinkDown_effect :
  ∀ (s : State), 8 ≤ s.field.missRun ∨ s.field.lastOk + us 8 ≤ s.slotTime → s.field.up = true →
    Completes .barrierLinkDown s (fun t => t.field.up = false ∧ t.run .field = .faulted) := by
  intro s h h2
  refine ⟨_, rfl, ?_⟩
  dsimp only
  rw [if_pos (by simpa using h)]
  unfold State.barrierDown
  rw [if_pos h2]
  refine ⟨?_, setRun_run ..⟩
  rw [State.setRun_field, trip_up]

/-- BARRIER_LINK_RESTORED (R359). -/
theorem barrierLinkRestored_effect :
  ∀ (s : State) (t0 : Nat), s.field.goodSince = some t0 → t0 + ms 1 ≤ s.slotTime → s.slotTime < s.field.lastOk + us 8 → s.masterRuns = true →
    Completes .barrierLinkRestored s (fun t => t.field = { s.field with up := true }) := by
  intro s t0 h1 h2 h3 h4
  simp only [Completes, exec, execBarrierLinkRestored, h1, h2, h3, h4, decide_true, Bool.and_self, if_true, Host.Outcome.next.injEq, exists_eq_left']

/-- INPUT_DEBOUNCE_CHANGE (R366). -/
theorem inputDebounceChange_effect :
  ∀ (s : State) (p : Fin 32), s.Shape → s.mode.mode ≠ .boot → (s.pin p.val).lvl ≠ (s.pin p.val).dieDeb → 4 * s.DEBOUNCE p.val < (s.pin p.val).run →
    Completes (.inputDebounceChange p) s (fun t => t.pin p.val = { s.pin p.val with dieDeb := (s.pin p.val).lvl }) := by
  intro s p hs h0 h1 h2
  refine ⟨_, rfl, ?_⟩
  dsimp only
  rw [if_pos (by unfold State.inputsOn; simp [h0, h1, h2])]
  exact pin_putPin hs p _

/-- OUTPUT_OVERLOAD (R371). -/
theorem outputOverload_effect :
  ∀ (s : State) (p : Fin 32), s.Shape → s.pinOn p.val = true → Completes (.outputOverload p) s (fun t => (t.pin p.val).overload = true ∧
    (s.FAULT_MODE p.val = 1 → (t.pin p.val).retryAt = some (s.now + ms (s.RETRY_T p.val))) ∧
    (s.FAULT_MODE p.val ≠ 1 → (t.pin p.val).latched = true)) := by
  intro s p hs h
  refine ⟨_, rfl, ?_⟩
  dsimp only
  rw [if_pos h]
  rw [pin_field (State.warnOn_field ..)]
  unfold State.pinTrip
  dsimp only
  rw [pin_putPin (putPin_Shape hs _ _), pin_putPin hs]
  split
  · rename_i hm; exact ⟨rfl, fun _ => rfl, fun hn => absurd (by simpa using hm) hn⟩
  · rename_i hm; exact ⟨rfl, fun hn => absurd (by simpa using hn) hm, fun _ => rfl⟩

/-- OUTPUT_THERMAL (R371). -/
theorem outputThermal_effect :
  ∀ (s : State) (p : Fin 32), s.Shape → s.pinOn p.val = true → Completes (.outputThermal p) s (fun t => (t.pin p.val).thermal = true ∧
    (t.pin p.val).hot = true ∧ (s.FAULT_MODE p.val = 1 → (t.pin p.val).retryAt = some (s.now + ms (s.RETRY_T p.val))) ∧
    (s.FAULT_MODE p.val ≠ 1 → (t.pin p.val).latched = true)) := by
  intro s p hs h
  refine ⟨_, rfl, ?_⟩
  dsimp only
  rw [if_pos h]
  rw [pin_field (State.warnOn_field ..)]
  unfold State.pinTrip
  dsimp only
  rw [pin_putPin (putPin_Shape hs _ _), pin_putPin hs]
  split
  · rename_i hm; exact ⟨rfl, rfl, fun _ => rfl, fun hn => absurd (by simpa using hm) hn⟩
  · rename_i hm; exact ⟨rfl, rfl, fun hn => absurd (by simpa using hn) hm, fun _ => rfl⟩

/-- OUTPUT_RETRY (R371). -/
theorem outputRetry_effect :
  ∀ (s : State) (p : Fin 32) (t0 : Nat), s.Shape → (s.pin p.val).retryAt = some t0 → t0 ≤ s.now → (s.pin p.val).hot = false →
    s.command p.val = true → s.fieldSeen = true → Completes (.outputRetry p) s (fun t => t.pin p.val = { s.pin p.val with retryAt := none }) := by
  intro s p t0 hs h1 h2 h3 h4 h5
  refine ⟨_, rfl, ?_⟩
  dsimp only
  unfold State.pinRetry
  dsimp only
  rw [h1]
  dsimp only
  rw [if_pos (by rw [decide_eq_true h2, h3, h4, h5]; rfl), pin_field (State.note_field ..), pin_putPin hs]

/-- OVERLOAD_FLAG_CLEAR (R371). -/
theorem overloadFlagClear_effect :
  ∀ (s : State) (p : Fin 32), s.Shape → s.pinOn p.val = true → Completes (.overloadFlagClear p) s (fun t => t.pin p.val =
    { s.pin p.val with overload := false, thermal := false }) := by
  intro s p hs h
  refine ⟨_, rfl, ?_⟩
  dsimp only
  rw [if_pos h, pin_field (State.warnOff_field ..), pin_field (State.warnOff_field ..), pin_putPin hs]

end Sys2Proof.Machine
end

