-- ==== Sys2Proof/Laws/Effect10.lean ====
section
/-! SUPPORT. One lemma per command: that it runs, on which states, and what it leaves. -/
namespace Sys2Proof.Machine

set_option Elab.async false
set_option linter.all false

/-- WIRE_BREAK (R372). -/
theorem wireBreak_effect :
  ∀ (s : State) (p : Fin 32), s.Shape → s.FIO_MODE p.val = 1 ∨ s.FIO_MODE p.val = 2 → bit (s.DIAG_EN p.val) 0 = true →
    s.monitorMode = false → s.fieldSeen = true →
    (s.readsOn p.val = false → (s.pin p.val).wire = false → Completes (.wireBreak p true) s (fun t => t.pin p.val = { s.pin p.val with wire := true })) ∧
    ((s.pin p.val).wire = true → Completes (.wireBreak p false) s (fun t => t.pin p.val = { s.pin p.val with wire := false })) := by
  intro s p hs h1 h2 h3 h4
  have hc : ((s.FIO_MODE p.val == 1 || s.FIO_MODE p.val == 2) && bit (s.DIAG_EN p.val) 0 && !s.monitorMode && s.fieldSeen) = true := by
    rw [h2, h3, h4]; rcases h1 with h1 | h1 <;> rw [h1] <;> rfl
  refine ⟨fun a b => ⟨_, rfl, ?_⟩, fun b => ⟨_, rfl, ?_⟩⟩ <;> dsimp only
  · rw [if_pos hc, if_pos (by rw [a, b]; rfl), pin_field (State.warnOn_field ..), pin_putPin hs]
  · rw [if_pos hc, if_neg (by simp), if_pos (by rw [b]; rfl), pin_field (State.note_field ..), pin_field (State.warnOff_field ..), pin_putPin hs]

/-- OUTPUT_DIAG_TIMER (R373). -/
theorem outputDiagTimer_effect :
  ∀ (s : State) (p : Fin 32) (d : Fin 4) (b en code : Nat) (on : Bool), s.Shape → diagRow d.val = (b, en, on, code) → s.FIO_MODE p.val = 3 →
    bit (s.DIAG_EN p.val) en = true → s.suppressed p.val = false → s.fieldSeen = true →
    (s.pinOn p.val = on → (s.pin p.val).flag b = false → Completes (.outputDiagTimer p d true) s (fun t => t.pin p.val = (s.pin p.val).setFlag b true)) ∧
    ((s.pin p.val).flag b = true → Completes (.outputDiagTimer p d false) s (fun t => t.pin p.val = (s.pin p.val).setFlag b false)) := by
  intro s p d b en code on hs h0 h1 h2 h3 h4
  have hx : ∀ pr, exec (.outputDiagTimer p d pr) s = .next (if s.FIO_MODE p.val == 3 && bit (s.DIAG_EN p.val) en && !(s.suppressed p.val) && s.fieldSeen then
      if pr && s.pinOn p.val == on && !((s.pin p.val).flag b) then (s.putPin p.val ((s.pin p.val).setFlag b true)).warnOn code (p.val + 32 * b) (le 2 p.val)
      else if !pr && (s.pin p.val).flag b then ((s.putPin p.val ((s.pin p.val).setFlag b false)).warnOff code (p.val + 32 * b)).note 0x6407 (le 2 p.val ++ [b])
      else s else s) := by
    intro pr
    show execOutputDiagTimer p d pr s = _
    unfold execOutputDiagTimer
    rw [h0]
  have hc : (s.FIO_MODE p.val == 3 && bit (s.DIAG_EN p.val) en && !(s.suppressed p.val) && s.fieldSeen) = true := by rw [h1, h2, h3, h4]; rfl
  unfold Completes
  refine ⟨fun a c => ⟨_, hx true, ?_⟩, fun c => ⟨_, hx false, ?_⟩⟩ <;> dsimp only
  · rw [if_pos hc, if_pos (by rw [a, c]; simp), pin_field (State.warnOn_field ..), pin_putPin hs]
  · rw [if_pos hc, if_neg (by simp), if_pos (by rw [c]; rfl), pin_field (State.note_field ..), pin_field (State.warnOff_field ..), pin_putPin hs]

/-- PIN_REVERSED (R374). -/
theorem pinReversed_effect :
  ∀ (s : State) (p : Fin 32) (low : Bool), s.Shape → s.FIO_MODE p.val ≠ 0 → s.fieldSeen = true → low ≠ (s.pin p.val).reversed →
    Completes (.pinReversed p low) s (fun t => t.pin p.val = { s.pin p.val with reversed := low }) := by
  intro s p low hs h1 h2 h3
  refine ⟨_, rfl, ?_⟩
  rw [if_pos (by rw [h2]; simp [h1, h3])]
  dsimp only
  split
  · rw [pin_field (State.warnOn_field ..), pin_putPin hs]
  · rw [pin_field (State.warnOff_field ..), pin_putPin hs]

/-- LP_SAMPLE (R376). -/
theorem lpSample_effect :
  ∀ (s : State) (mv : Int), s.fieldSeen = true → Completes (.lpSample mv) s (fun t => t.field.lp = (mv :: s.field.lp).take 4 ∧
    t.field.lpMean = sumI ((mv :: s.field.lp).take 4) / (((mv :: s.field.lp).take 4).length : Int) ∧
    (3 ≤ s.field.lp.length → t.field.lpState = lpOf t.field.rows)) := by
  intro s mv h
  have hp : s.powered .fld = true := by unfold State.fieldSeen at h; simp only [Bool.and_eq_true] at h; exact h.1
  have k : ∀ u : State, u.fieldSeen = true → u.lpJudge.field = { u.field with lpState := lpOf u.field.rows } := fun u => lpJudge_field
  refine ⟨_, rfl, ?_⟩
  rw [if_pos hp]
  dsimp only
  rw [if_pos h]
  split
  · rename_i hl
    refine ⟨rfl, rfl, fun h3 => ?_⟩
    exfalso
    rw [List.length_take, List.length_cons] at hl
    omega
  · rw [k _ (by exact h)]
    exact ⟨rfl, rfl, fun _ => rfl⟩

/-- LP_RESTORE (R376). -/
theorem lpRestore_effect :
  ∀ (s : State), Completes .lpRestore s (fun t => (s.fieldSeen = true → t.field.lpState = lpOf t.field.rows) ∧
    ∀ i r t0, entry s.field.rows i {} = r → i < s.field.rows.length → r.since = some t0 → (entry t.field.rows i {}).on = (r.on && !(t0 + ms s.LP_RESTORE_T ≤ s.now))) := by
  intro s
  refine ⟨_, rfl, ?_⟩
  dsimp only
  have e : ∀ i r t0, entry s.field.rows i {} = r → i < s.field.rows.length → r.since = some t0 →
      (entry (s.field.rows.map (fun r : LpRow => match r.since with | some t => if t + ms s.LP_RESTORE_T ≤ s.now then ({ on := false, since := none } : LpRow) else r | none => r)) i {}).on =
      (r.on && !(t0 + ms s.LP_RESTORE_T ≤ s.now)) := by
    intro i r t0 h1 h2 h3
    have e : entry (s.field.rows.map (fun r : LpRow => match r.since with | some t => if t + ms s.LP_RESTORE_T ≤ s.now then ({ on := false, since := none } : LpRow) else r | none => r)) i {} =
        (fun r : LpRow => match r.since with | some t => if t + ms s.LP_RESTORE_T ≤ s.now then ({ on := false, since := none } : LpRow) else r | none => r) (entry s.field.rows i {}) := entry_map _ _ _ _ _ h2
    refine (congrArg LpRow.on e).trans ?_
    rw [h1]
    dsimp only
    rw [h3]
    dsimp only
    split
    · rename_i hh; rw [decide_eq_true hh]; simp
    · rename_i hh; rw [decide_eq_false hh]; simp
  by_cases hs : s.fieldSeen = true
  · rw [lpJudge_field (by exact hs)]
    exact ⟨fun _ => rfl, e⟩
  · refine ⟨fun h => absurd h hs, ?_⟩
    unfold State.lpJudge
    rw [if_pos (by show (!s.fieldSeen) = true; simpa using hs)]
    exact e

/-- SAFETY_CYCLE (R386). -/
theorem safetyCycle_effect :
  ∀ (s : State), s.isRun .safety = true → Completes .safetyCycle s (fun t => t.safe.first = false) := by
  intro s h
  have h1 : ∀ u : State, ((List.range 4).foldl (fun s n => (s.soWatch n).soCycle n) u.sfEval).safe.first = u.safe.first := by
    intro u
    rw [foldl_first _ (fun v n => by rw [soCycle_first, soWatch_first])]
    exact (sfEval_safe u _ _ rfl rfl).1.2.2.2.1
  have h2 : ∀ u : State, u.protCycle.safe.first = u.safe.first := by
    intro u
    have hj : ∀ v : State, ([1, 2, 3, 4, 5, 6].foldl (fun s i => s.protJudge i) v).safe.first = v.safe.first :=
      fun v => foldl_first _ (fun w i => by obtain ⟨p, hp⟩ := protJudge_safe w i; rw [hp]) _ _
    have hi : ∀ v : State, v.safe.first = u.safe.first → (if v.safe.prot.run then [1, 2, 3, 4, 5, 6].foldl (fun s i => s.protJudge i) v else v).safe.first = u.safe.first := by
      intro v hv
      split
      · exact (hj v).trans hv
      · exact hv
    unfold State.protCycle
    refine hi _ ?_
    split
    · rw [State.warnOff_safe, State.note_safe]; rfl
    · rfl
  have fin : ∀ (X : State) z, X.resetItems = z → X.safe.first = false → z.1.safe.first = false := by
    intro X z hz hX
    rw [← hz, resetItems_first, hX]
  have h3 : ∀ (u : State) m, (u.note 0x6021 m).safe.first = u.safe.first := fun u m => by rw [State.note_safe]
  simp only [Completes, exec, execSafetyCycle, Host.Outcome.next.injEq, exists_eq_left']
  unfold State.safetyCycle
  rw [if_pos h]
  rw [h1]
  split
  · generalize hz : State.resetItems _ = z
    have k := fin _ z hz
    rw [h2, foldl_first2 _ (fun u a => by dsimp only; rw [siCycle_safe])] at k
    replace k := k rfl
    obtain ⟨a, b⟩ := z
    dsimp only
    rw [h3]
    exact k
  · rw [h2, foldl_first2 _ (fun u a => by dsimp only; rw [siCycle_safe])]
    rfl

/-- PROT_ITEM_LATCH (R411). -/
theorem protItemLatch_effect :
  ∀ (s : State) (i : Fin 6), s.isRun .safety = true → s.safe.prot.run = true → s.PROT_N ≤ entry s.safe.prot.counts i.val 0 + 1 →
    (s.protItem (i.val + 1)).1 = true → bit s.safe.prot.latched i.val = false →
    Completes (.protItemLatch i) s (fun t => t.safe.prot.latched = setBit s.safe.prot.latched i.val) := by
  intro s i h1 h2 h3 h4 h5
  refine ⟨_, rfl, ?_⟩
  dsimp only
  rw [if_pos (by rw [h1, h2, decide_eq_true h3, h4]; rfl), (sfApply_core _).2.2.1]
  unfold State.protJudge
  simp only [Nat.add_sub_cancel]
  rw [h4]
  rw [if_pos rfl, if_pos (by rw [decide_eq_true h3, h5]; rfl), State.warnOn_safe]
  show (if _ then _ else _) = _
  rw [if_pos (by rw [decide_eq_true h3, h5]; rfl)]

/-- DISCREPANCY_TIMEOUT (R390). -/
theorem discrepancyTimeout_effect :
  ∀ (s : State) (i : Fin 8), s.Shape → s.isRun .safety = true → s.safe.first = false → (s.siJudge i.val false false).newFault = true →
    Completes (.discrepancyTimeout i) s (fun t => t.si i.val = (s.siJudge i.val false false).x) := by
  intro s i hs h1 h2 h3
  refine ⟨_, rfl, ?_⟩
  dsimp only
  rw [if_pos (by rw [h1, h2, h3]; rfl)]
  have k := (sfApply_core (s.siCycle i.val false false).1).1
  rw [siCycle_safe] at k
  unfold State.si
  rw [k]
  exact entry_putAt _ _ _ _ (by rw [hs.sins]; exact i.isLt)

/-- INTLK_DWELL_ELAPSED (R399). -/
theorem intlkDwellElapsed_effect :
  ∀ (s : State) (t0 : Nat) (door earth : Bool), s.safe.sf1Since = some t0 → s.isRun .safety = true → s.safe.first = false → t0 + secs s.INTLK_DWELL ≤ s.now →
    door = (s.releaseOk (s.sf1Causes != 0 || s.safe.door || s.safe.earth) && bit s.REL_REQ 0 && (s.DOOR_REQ_SI == 255 || !(s.si s.DOOR_REQ_SI).demand)) →
    earth = (s.releaseOk (s.sf1Causes != 0 || s.safe.door || s.safe.earth) && bit s.REL_REQ 1) →
    Completes .intlkDwellElapsed s (fun t => t.safe.door = door ∧ t.safe.earth = earth ∧
      t.safe.sf1 = (s.sf1Causes + (if door || earth then 2 ^ 12 else 0) != 0)) := by
  intro s t0 D E h1 h2 h3 h4 h5 h6
  simp only [Completes, exec, execIntlkDwellElapsed, h1, h2, h3, h4, decide_true, Bool.not_false, Bool.and_self, if_true, Host.Outcome.next.injEq, exists_eq_left']
  exact (sfApply_safe s D E h5 h6).2

/-- LOCKSTEP_MISMATCH (R388). -/
theorem lockstepMismatch_effect :
  ∀ (s : State), s.powered .safe = true → Completes .lockstepMismatch s (fun t => t.safe.stopped = true ∧ t.safe.line = true ∧ t.field.up = false) := by
  intro s h
  refine ⟨_, rfl, ?_⟩
  rw [if_pos h]
  exact lockstep_stops s 0x6001

/-- LOCKSTEP_SELFTEST_FAIL (R388). -/
theorem lockstepSelftestFail_effect :
  ∀ (s : State), s.powered .safe = true → Completes .lockstepSelftestFail s (fun t => t.safe.stopped = true ∧ t.safe.line = true ∧ t.field.up = false) := by
  intro s h
  refine ⟨_, rfl, ?_⟩
  rw [if_pos h]
  exact lockstep_stops s 0x6002

/-- SO_SWITCH_ON_STEP (R394). -/
theorem soSwitchOnStep_effect :
  ∀ (s : State) (n : Fin 4) (t0 : Nat), s.Shape → (s.so n.val).step = some t0 → t0 + us 100 ≤ s.now →
    ((s.so n.val).low = true → Completes (.soSwitchOnStep n) s (fun t => (t.so n.val).h = true ∧ (t.so n.val).step = none ∧ (t.so n.val).onSince = some s.now)) ∧
    ((s.so n.val).low = false → Completes (.soSwitchOnStep n) s (fun t => (t.so n.val).lock = true ∧ (t.so n.val).shortH = true ∧ (t.so n.val).h = false)) := by
  intro s n t0 hs h1 h2
  refine ⟨fun h => ⟨_, rfl, ?_⟩, fun h => ⟨_, rfl, ?_⟩⟩ <;> (unfold State.soStep; dsimp only; rw [h1]; dsimp only; rw [if_pos h2])
  · rw [if_pos h]
    split
    · rw [so_safe (State.note_safe ..), so_putSo hs]; exact ⟨rfl, rfl, rfl⟩
    · rw [so_putSo hs]; exact ⟨rfl, rfl, rfl⟩
  · rw [if_neg (by rw [h]; decide), soFault_so hs]
    exact ⟨rfl, by simp, rfl⟩

/-- SO_TEST_PULSE_DUE (R395). -/
theorem soTestPulseDue_effect :
  ∀ (s : State) (n : Fin 4) (t0 : Nat), s.Shape → (s.so n.val).onSince = some t0 → t0 + ms (s.SO_TEST_T n.val) ≤ s.now → (s.so n.val).h = true →
    (s.so n.val).l = true → (s.so n.val).pulse = none →
    Completes (.soTestPulseDue n) s (fun t => (t.so n.val).pulse = some (!(s.so n.val).nextL, s.now) ∧
      (t.so n.val).h = (s.so n.val).nextL ∧ (t.so n.val).l = !(s.so n.val).nextL) := by
  intro s n t0 hs h1 h2 h3 h4 h5
  refine ⟨_, rfl, ?_⟩
  dsimp only
  rw [h1]
  dsimp only
  rw [if_pos (by rw [decide_eq_true h2, h3, h4, h5]; rfl), so_putSo hs, h3, h4]
  cases (s.so n.val).nextL <;> exact ⟨rfl, rfl, rfl⟩

/-- SO_PULSE_END (R395). -/
theorem soPulseEnd_effect :
  ∀ (s : State) (n : Fin 4) (onH : Bool) (t0 : Nat), s.Shape → (s.so n.val).pulse = some (onH, t0) → t0 + us (s.SO_PULSE n.val) ≤ s.now →
    ((s.so n.val).spoiled = true ∨ (s.so n.val).cmd = false → Completes (.soPulseEnd n) s (fun t => (t.so n.val).pulse = none ∧ (t.so n.val).spoiled = false)) ∧
    ((s.so n.val).spoiled = false → (s.so n.val).cmd = true → s.pulsePasses (s.so n.val) onH = true → Completes (.soPulseEnd n) s (fun t =>
      (t.so n.val).pulse = none ∧ (t.so n.val).h = true ∧ (t.so n.val).l = true ∧ (t.so n.val).nextL = onH ∧ (t.so n.val).tests = incSat 32 (s.so n.val).tests)) ∧
    ((s.so n.val).spoiled = false → (s.so n.val).cmd = true → s.pulsePasses (s.so n.val) onH = false → Completes (.soPulseEnd n) s (fun t =>
      (t.so n.val).lock = true ∧ (t.so n.val).h = false ∧ (t.so n.val).l = false ∧ (t.so n.val).cmd = false ∧ (t.so n.val).tests = incSat 32 (s.so n.val).tests ∧
      (if onH then (t.so n.val).testH else (t.so n.val).testL) = true)) := by
  intro s n onH t0 hs h1 h2
  refine ⟨fun h => ⟨_, rfl, ?_⟩, fun a b c => ⟨_, rfl, ?_⟩, fun a b c => ⟨_, rfl, ?_⟩⟩ <;> (unfold State.pulseEnd; dsimp only; rw [h1]; dsimp only; rw [if_pos h2])
  · rw [if_pos (by simpa using h), so_putSo hs]; exact ⟨rfl, rfl⟩
  · rw [if_neg (by simp [a, b]), if_pos c, so_putSo hs]; exact ⟨rfl, rfl, rfl, rfl, rfl⟩
  · rw [if_neg (by simp [a, b]), if_neg (by simp [c]), so_safe (State.warnOn_safe ..), so_putSo hs]
    refine ⟨rfl, rfl, rfl, rfl, rfl, ?_⟩
    cases onH <;> simp [SafeOut.turnOff]

/-- SO_DIAG_TIMER (R394). -/
theorem soDiagTimer_effect :
  ∀ (s : State) (n : Fin 4) (pr : Bool), s.Shape → s.fieldSeen = true → s.isRun .safety = true →
    (lasted (s.so n.val).highAt (ms 1) s.now = true → (s.so n.val).shortH = false →
      Completes (.soDiagTimer n 0 pr) s (fun t => (t.so n.val).lock = true ∧ (t.so n.val).shortH = true)) ∧
    (lasted (s.so n.val).devAt (ms 1) s.now = true → (s.so n.val).readback = false →
      Completes (.soDiagTimer n 1 pr) s (fun t => (t.so n.val).lock = true ∧ (t.so n.val).readback = true ∧ (t.so n.val).h = false)) ∧
    ((s.so n.val).h = true ∨ (s.so n.val).l = true →
      Completes (.soDiagTimer n 2 true) s (fun t => (t.so n.val).lock = true ∧ (t.so n.val).overload = true ∧ (t.so n.val).h = false) ∧
      Completes (.soDiagTimer n 3 true) s (fun t => (t.so n.val).lock = true ∧ (t.so n.val).thermal = true ∧ (t.so n.val).h = false)) ∧
    Completes (.soDiagTimer n 3 false) s (fun t => (t.so n.val).thermal = false) ∧
    (lasted (s.so n.val).openAt (ms 10) s.now = true → (s.so n.val).open_ = false →
      Completes (.soDiagTimer n 4 pr) s (fun t => t.so n.val = { s.so n.val with open_ := true })) ∧
    (lasted (s.so n.val).openAt (ms 10) s.now = false → lasted (s.so n.val).loadAt (ms 10) s.now = true → (s.so n.val).open_ = true →
      Completes (.soDiagTimer n 4 pr) s (fun t => t.so n.val = { s.so n.val with open_ := false })) := by
  intro s n pr hs h hr
  have hx : ∀ w pr, execSoDiagTimer n w pr s = .next (match w with
    | 0 => s.soShort n.val
    | 1 => s.soReadback n.val
    | 2 => if pr && ((s.so n.val).h || (s.so n.val).l) then s.soFault n.val 3 else s
    | 3 => if pr then (if (s.so n.val).h || (s.so n.val).l then s.soFault n.val 4 else s)
           else (s.putSo n.val { s.so n.val with thermal := false }).warnOff 0x6031 (n.val * 8 + 4)
    | 4 => s.soOpen n.val) := by
    intro w pr
    unfold execSoDiagTimer
    dsimp only
    refine (congrArg Host.Outcome.next (if_neg (show ¬ ((!(s.fieldSeen) || !(s.isRun .safety)) = true) by rw [h, hr]; decide))).trans ?_
    obtain ⟨w, hw⟩ := w
    match w, hw with
    | 0, _ => rfl
    | 1, _ => rfl
    | 2, _ => rfl
    | 3, _ => rfl
    | 4, _ => rfl
  refine ⟨fun a b => ⟨_, hx 0 pr, ?_⟩, fun a b => ⟨_, hx 1 pr, ?_⟩, fun a => ⟨⟨_, hx 2 true, ?_⟩, ⟨_, hx 3 true, ?_⟩⟩, ⟨_, hx 3 false, ?_⟩,
    fun a b => ⟨_, hx 4 pr, ?_⟩, fun a b c => ⟨_, hx 4 pr, ?_⟩⟩ <;> dsimp only
  · unfold State.soShort; rw [if_pos (by rw [a, b]; rfl), soFault_so hs]; exact ⟨rfl, by simp⟩
  · unfold State.soReadback; rw [if_pos (by rw [a, b]; rfl), soFault_so hs]; exact ⟨rfl, by simp, rfl⟩
  · rw [if_pos (by rcases a with a | a <;> rw [a] <;> simp), soFault_so hs]; exact ⟨rfl, by simp, rfl⟩
  · rw [if_pos rfl, if_pos (by rcases a with a | a <;> rw [a] <;> simp), soFault_so hs]; exact ⟨rfl, by simp, rfl⟩
  · rw [if_neg (by decide), so_safe (State.warnOff_safe ..), so_putSo hs]
  · unfold State.soOpen; dsimp only; rw [if_pos (by rw [a, b]; rfl), so_safe (State.warnOn_safe ..), so_putSo hs]
  · unfold State.soOpen; dsimp only; rw [if_neg (by rw [a]; simp), if_pos (by rw [b, c]; rfl), so_safe (State.warnOff_safe ..), so_putSo hs]

end Sys2Proof.Machine
end

