-- ==== Sys2Proof/Laws/Effect11.lean ====
section
/-! SUPPORT. One lemma per command: that it runs, on which states, and what it leaves. -/
namespace Sys2Proof.Machine

set_option Elab.async false
set_option linter.all false

/-- SAFETY_FRAME (R407). -/
theorem safetyFrame_effect :
  ∀ (s : State) (p : Side) (rct : Option (Nat × Nat)) (src : Nat) (bytes : List Nat), (s.ingress p rct .sl 1).1 = true → s.isRun .safety = true →
    s.fenced 4 6 = false →
    ((List.range 8).filter (fun c => s.consumes c && s.SL_PEER c == be 16 src) = [] → Completes (.safetyFrame p rct src bytes) s (fun t =>
      t.safe.foreign = incSat 32 s.safe.foreign ∧ t.safe.foreignEp = true)) ∧
    (∀ c : Fin 8, s.Shape → (List.range 8).filter (fun c => s.consumes c && s.SL_PEER c == be 16 src) = [c.val] → (s.conn c.val).st = .run →
      s.slFields c.val bytes = true → (s.conn c.val).follows (ofLe ((bytes.drop 4).take 4)) = true →
      Completes (.safetyFrame p rct src bytes) s (fun t => (t.conn c.val).st = .run ∧ (t.conn c.val).seq = some (ofLe ((bytes.drop 4).take 4)) ∧
        (t.conn c.val).at_ = s.now ∧ ((s.conn c.val).latched = false → (t.conn c.val).data = if bit (entry bytes 10 0) 0 then 0 else ofLe ((bytes.drop 12).take 4)))) := by
  intro s p rct src bytes h1 h2 h3
  have hx : ∃ f, exec (.safetyFrame p rct src bytes) s = .next (State.slDatagram { s with fab := f } src bytes) := by
    show ∃ f, execSafetyFrame p rct src bytes s = _
    unfold execSafetyFrame
    revert h1
    refine ingress_ind s p rct .sl 1 (fun r : Bool × State => r.1 = true → ∃ f : FabState, (match r with | (pass, s) => (Host.Outcome.next (if pass && s.isRun .safety && !(s.fenced 4 6) then s.slDatagram src bytes else s) : Host.Outcome State Fault Refusal)) = .next (State.slDatagram { s with fab := f } src bytes)) ?_
    intro a f _ ha
    refine ⟨f, ?_⟩
    dsimp only at ha ⊢
    rw [if_pos]
    rw [ha]
    show (true && s.isRun .safety && !(s.fenced 4 6)) = true
    rw [h2, h3]; rfl
  obtain ⟨f, hx⟩ := hx
  unfold Completes
  rw [hx]
  refine ⟨fun h => ⟨_, rfl, ?_⟩, fun c hs h a b d => ⟨_, rfl, ?_⟩⟩
  · unfold State.slDatagram
    dsimp only
    rw [show (List.range 8).filter (fun c => State.consumes ({ s with fab := f } : State) c && State.SL_PEER ({ s with fab := f } : State) c == be 16 src) = [] from h]
    rw [if_pos (by rfl)]
    rw [State.warnOn_safe]; exact ⟨rfl, rfl⟩
  · unfold State.slDatagram
    dsimp only
    rw [show (List.range 8).filter (fun c => State.consumes ({ s with fab := f } : State) c && State.SL_PEER ({ s with fab := f } : State) c == be 16 src) = [c.val] from h]
    rw [if_neg (by simp)]
    rw [List.foldl_cons, List.foldl_nil]
    have key : ∀ u : State, u.safe.conns.length = 8 → u.conn c.val = s.conn c.val → u.slFields c.val bytes = s.slFields c.val bytes → u.now = s.now →
        ((u.slJudge c.val bytes).conn c.val).st = .run ∧ ((u.slJudge c.val bytes).conn c.val).seq = some (ofLe ((bytes.drop 4).take 4)) ∧
        ((u.slJudge c.val bytes).conn c.val).at_ = s.now ∧ ((s.conn c.val).latched = false → ((u.slJudge c.val bytes).conn c.val).data = if bit (entry bytes 10 0) 0 then 0 else ofLe ((bytes.drop 12).take 4)) := by
      intro u k1 k2 k3 k4
      rw [slJudge_run (by rw [k2]; exact a) (by rw [k3]; exact b) (by rw [k2]; exact d), k2, k4]
      obtain ⟨dd, r, e, e1, _, _⟩ := slData_conn (s := u.putConn c.val { s.conn c.val with seq := some (ofLe ((bytes.drop 4).take 4)), raw := if bit (entry bytes 10 0) 0 then 0 else ofLe ((bytes.drop 12).take 4), at_ := s.now }) (by rw [putConn_len]; exact k1) c
      rw [conn_putConn k1] at e e1
      exact ⟨(congrArg SlConn.st e).trans a, congrArg SlConn.seq e, congrArg SlConn.at_ e, fun hl => (congrArg SlConn.data e).trans (e1 a hl)⟩
    exact key _ hs.conns rfl rfl rfl

/-- SL_PRODUCE (R406). -/
theorem slProduce_effect :
  ∀ (s : State) (c : Fin 8), s.Shape → s.isRun .safety = true → s.SL_DIR c.val = 2 → (∀ t0, (s.conn c.val).txAt = some t0 → t0 + ms (s.SL_CYCLE c.val) ≤ s.now) →
    Completes (.slProduce c) s (fun t => (t.conn c.val).txSeq = ((s.conn c.val).txSeq + 1) % 4294967296 ∧ (t.conn c.val).txAt = some s.now ∧
      (t.conn c.val).data = (if s.safe.confirmed then s.slProduced else 0) ∧
      (s.fenced 4 6 = false → t.tx = .safety c (s.slFrame c.val (((s.conn c.val).txSeq + 1) % 4294967296)) :: s.tx)) := by
  intro s c hs h1 h2 h3
  have hd : ∀ b : Bool, (∀ t0, (s.conn c.val).txAt = some t0 → b = decide (t0 + ms (s.SL_CYCLE c.val) ≤ s.now)) → ((s.conn c.val).txAt = none → b = true) → b = true := by
    intro b h h'
    cases hq : (s.conn c.val).txAt with
    | none => exact h' hq
    | some t0 => rw [h t0 hq]; exact decide_eq_true (h3 t0 hq)
  unfold Completes
  have hx : ∃ x : SlConn, exec (.slProduce c) s = .next (if s.fenced 4 6 then s.putConn c.val x else (s.putConn c.val x).emit (.safety c.val (s.slFrame c.val (((s.conn c.val).txSeq + 1) % 4294967296)))) ∧
      x.txSeq = ((s.conn c.val).txSeq + 1) % 4294967296 ∧ x.txAt = some s.now ∧ x.data = (if s.safe.confirmed then s.slProduced else 0) := by
    refine ⟨_, congrArg Host.Outcome.next (if_pos ?_), rfl, rfl, rfl⟩
    rw [h1, h2, show ((2 : Nat) == 2) = true from rfl, Bool.true_and, Bool.true_and]
    exact hd _ (fun t0 h => by rw [h]) (fun h => by rw [h])
  obtain ⟨x, hx, x1, x2, x3⟩ := hx
  rw [hx, ← x1]
  refine ⟨_, rfl, ?_⟩
  split
  · rename_i h; rw [conn_putConn hs.conns]; exact ⟨rfl, x2, x3, fun h' => by rw [h] at h'; exact absurd h' (by decide)⟩
  · unfold State.emit
    rw [show ∀ (u : State) l, State.conn ({ u with tx := l } : State) c.val = u.conn c.val from fun _ _ => rfl, conn_putConn hs.conns]
    exact ⟨rfl, x2, x3, fun _ => rfl⟩

/-- SL_WATCHDOG_EXPIRY (R408). -/
theorem slWatchdogExpiry_effect :
  ∀ (s : State) (c : Fin 8), s.Shape → s.consumes c.val = true → (s.conn c.val).st = .run → (s.conn c.val).at_ + ms (s.SL_WATCHDOG c.val) ≤ s.now →
    Completes (.slWatchdogExpiry c) s (fun t => (t.conn c.val).st = .lost ∧ (t.conn c.val).data = 0) := by
  intro s c hs h1 h2 h3
  refine ⟨_, rfl, ?_⟩
  dsimp only
  rw [if_pos (by rw [h1, h2, decide_eq_true h3]; rfl)]
  have k := slLost_conn hs.conns c 1
  exact ⟨k.1, k.2.1⟩

/-- BEAT_SEND (R424). -/
theorem beatSend_effect :
  ∀ (s : State), s.beatDue = true → Completes .beatSend s (fun t => t.dpx.beatAt = some s.now ∧
    ∃ n, t.tx = .dpx 0x01 n (dpxFrame 0x01 n (le 8 s.tick ++ le 2 s.dpx.epoch ++ le 2 s.device ++
      [s.modeByte, b2n s.dpx.mirrorOn + 2 * b2n (s.dpx.hbB != 0)] ++ [0, 0])) :: s.tx) := by
  intro s h
  have hs : s.dpxSends = true := by unfold State.beatDue at h; simp only [Bool.and_eq_true] at h; exact h.1.1.2
  refine ⟨_, rfl, ?_⟩
  rw [if_pos h]
  unfold State.dpxSend
  rw [if_pos hs]
  exact ⟨rfl, (entry s.dpx.txSeq 0 0 + 1) % 65536, rfl⟩

/-- BEAT (R433). -/
theorem beatMsg_effect :
  ∀ (s : State) (seq : BitVec 16) (tick : BitVec 64) (epoch : BitVec 16) (dev : Fin 512) (mode flags : BitVec 8) (crc : BitVec 32), s.dpxHears = true →
    (dpxGood 0x01 seq.toNat (le 8 tick.toNat ++ le 2 epoch.toNat ++ le 2 dev.val ++ [mode.toNat, flags.toNat, 0, 0]) crc.toNat = false → Completes (.beatMsg seq tick epoch dev mode flags crc) s (fun t => t.dpx = { s.dpx with errors := incSat 32 s.dpx.errors })) ∧
    (dpxGood 0x01 seq.toNat (le 8 tick.toNat ++ le 2 epoch.toNat ++ le 2 dev.val ++ [mode.toNat, flags.toNat, 0, 0]) crc.toNat = true → Completes (.beatMsg seq tick epoch dev mode flags crc) s (fun t => t.dpx.beatRx = some (seq.toNat, s.now) ∧ t.dpx.link = true ∧
      (s.dpx.lease = true → newer epoch.toNat s.dpx.epoch = true → t.dpx.lease = false ∧ t.dpx.yielded = some s.now) ∧
      (s.dpx.holder = some (dev.val, epoch.toNat) → s.dpx.frozen = false → t.dpx.renewed = s.now))) := by
  intro s seq tick epoch dev mode flags crc h
  refine ⟨fun hg => ⟨_, rfl, ?_⟩, fun hg => ?_⟩
  · rw [hg, dpxTake_bad h]; rfl
  · refine ⟨_, rfl, ?_⟩
    rw [hg]
    obtain ⟨u, hu, hd, hn, ho, _⟩ := dpxTake_ok h (fun s =>
      let e := epoch.toNat
      let s := s.mapDpx (fun d => { d with beatRx := some (seq.toNat, s.now) })
      let s := if s.dpx.holder == some (dev.val, e) then s.storeRenew
        else if s.grantable e then s.storeGrant dev.val e else s
      if s.dpx.lease && (newer e s.dpx.epoch || (e == s.dpx.epoch && s.dpxRole == 1)) then s.leaseLost else s)
    rw [hu]
    dsimp only
    have hb : (u.mapDpx (fun d => { d with beatRx := some (seq.toNat, u.now) })).dpx = { s.dpx with link := true, lastRx := some s.now, beatRx := some (seq.toNat, s.now) } := by
      unfold State.mapDpx; dsimp only; rw [hd, hn]
    have hb1 := congrArg DpxState.beatRx hb
    have hb2 := congrArg DpxState.link hb
    have hb3 := congrArg DpxState.lease hb
    have hb4 := congrArg DpxState.epoch hb
    dsimp only at hb1 hb2 hb3 hb4
    have hbn : (u.mapDpx (fun d => { d with beatRx := some (seq.toNat, u.now) })).now = s.now := hn
    have hbo : (u.mapDpx (fun d => { d with beatRx := some (seq.toNat, u.now) })).objs = s.objs := ho
    generalize u.mapDpx (fun d => { d with beatRx := some (seq.toNat, u.now) }) = v at *
    have hv : ∃ w : State, (if v.dpx.holder == some (dev.val, epoch.toNat) then v.storeRenew else if v.grantable epoch.toNat then v.storeGrant dev.val epoch.toNat else v) = w ∧
        w.dpx.beatRx = some (seq.toNat, s.now) ∧ w.dpx.link = true ∧ w.dpx.lease = s.dpx.lease ∧ w.dpx.epoch = s.dpx.epoch ∧ w.now = s.now ∧ w.objs = s.objs ∧
        (s.dpx.holder = some (dev.val, epoch.toNat) → s.dpx.frozen = false → w.dpx.renewed = s.now) := by
      refine ⟨_, rfl, ?_⟩
      split
      · obtain ⟨n, e, en⟩ := storeRenew_dpx v
        rw [e]
        refine ⟨hb1, hb2, hb3, hb4, hbn, hbo, fun a b => ?_⟩
        rw [hb] at en
        rw [← hbn]
        exact en (by rw [a]; rfl) b
      · rename_i hh
        have hno : ∀ P : Prop, s.dpx.holder = some (dev.val, epoch.toNat) → P := by
          intro P a
          rw [hb] at hh
          exact absurd (by rw [a]; exact beq_self_eq_true _) hh
        split
        · unfold State.storeGrant
          exact ⟨hb1, hb2, hb3, hb4, hbn, hbo, fun a _ => hno _ a⟩
        · exact ⟨hb1, hb2, hb3, hb4, hbn, hbo, fun a _ => hno _ a⟩
    obtain ⟨w, hw, w1, w2, w3, w4, w5, w6, w7⟩ := hv
    rw [hw]
    have hen : w.DPX_ENABLE ≠ 0 := by
      have := hears_enable h
      unfold State.DPX_ENABLE State.obj at *
      rw [w6]; exact this
    split
    · obtain ⟨l, y, e, ey⟩ := leaseLost_dpx w
      rw [e]
      refine ⟨w1, w2, fun a _ => ?_, w7⟩
      have := ey hen (w3.trans a)
      exact ⟨this.1, this.2.1.trans (by rw [w5])⟩
    · rename_i hn2
      refine ⟨w1, w2, fun a b => ?_, w7⟩
      exact absurd (by rw [w3, a, w4, b]; rfl) hn2

/-- CKPT (R428). -/
theorem ckpt_effect :
  ∀ (s : State) (seq : BitVec 32) (idx : Fin 32) (data : List Nat) (n : BitVec 16) (crc : BitVec 32), s.dpxHears = true →
    (dpxGood 0x02 n.toNat (le 4 seq.toNat ++ [idx.val, 0, 0, 0] ++ data) crc.toNat = false → Completes (.ckpt ⟨n, crc⟩ seq idx data) s (fun t => t.dpx = { s.dpx with errors := incSat 32 s.dpx.errors })) ∧
    (dpxGood 0x02 n.toNat (le 4 seq.toNat ++ [idx.val, 0, 0, 0] ++ data) crc.toNat = true → (s.listens = true → s.dpx.frozen = false →
      (idx.val = 0 → s.dpx.rx = none → Completes (.ckpt ⟨n, crc⟩ seq idx data) s (fun t => t.dpx.rx = some { seq := seq.toNat, segs := [(0, data)] } ∧
        t.dpx.errors = s.dpx.errors)) ∧
      (idx.val = 0 → s.dpx.rx ≠ none → Completes (.ckpt ⟨n, crc⟩ seq idx data) s (fun t => t.dpx.rx = some { seq := seq.toNat, segs := [(0, data)] } ∧
        t.dpx.errors = incSat 32 s.dpx.errors)) ∧
      (∀ r : CkptRx, idx.val ≠ 0 → s.dpx.rx = some r → r.seq = seq.toNat → (r.segs.filter (fun p => p.1 != idx.val)).length < 31 →
        Completes (.ckpt ⟨n, crc⟩ seq idx data) s (fun t => t.dpx.rx = some { r with segs := r.segs.filter (fun p => p.1 != idx.val) ++ [(idx.val, data)] })) ∧
      (∀ r : CkptRx, idx.val ≠ 0 → s.dpx.rx = some r → r.seq ≠ seq.toNat →
        Completes (.ckpt ⟨n, crc⟩ seq idx data) s (fun t => t.dpx.rx = none ∧ t.dpx.errors = incSat 32 s.dpx.errors)))) := by
  intro s seq idx data n crc h
  refine ⟨fun hg => ⟨_, rfl, ?_⟩, fun hg hl hf => ?_⟩
  · rw [hg, dpxTake_bad h]; rfl
  · obtain ⟨u, hu, hd, hn, ho, hm, hsb, hbs, _⟩ := dpxTake_ok h (fun s =>
      let s := s.storeRenew
      if !s.listens || s.dpx.frozen then s
      else if idx.val = 0 then
        let s := if s.dpx.rx.isSome then s.ckptDrop else s
        s.ckptOpen seq.toNat data
      else s.ckptMore seq.toNat idx.val data)
    have hx : exec (.ckpt ⟨n, crc⟩ seq idx data) s = .next (s.dpxTake true (fun s =>
      let s := s.storeRenew
      if !s.listens || s.dpx.frozen then s
      else if idx.val = 0 then
        let s := if s.dpx.rx.isSome then s.ckptDrop else s
        s.ckptOpen seq.toNat data
      else s.ckptMore seq.toNat idx.val data)) := by
        show execCkpt .. = _
        unfold execCkpt
        rw [hg]
    obtain ⟨n0, hr, _⟩ := storeRenew_dpx u
    have hll : u.storeRenew.listens = true := by
      rw [hr]
      unfold State.listens at *
      dsimp only
      rw [hm, hbs, hd]
      exact hl
    have hrx : u.storeRenew.dpx.rx = s.dpx.rx ∧ u.storeRenew.dpx.errors = s.dpx.errors ∧ u.storeRenew.dpx.frozen = s.dpx.frozen := by rw [hr]; dsimp only; rw [hd]; exact ⟨rfl, rfl, rfl⟩
    have hdr : ∀ v : State, v.ckptDrop.dpx.rx = none ∧ v.ckptDrop.dpx.errors = incSat 32 v.dpx.errors := by
      intro v
      unfold State.ckptDrop
      dsimp only
      rw [State.warnOn_dpx]
      exact ⟨rfl, rfl⟩
    unfold Completes
    rw [hx, hu]
    dsimp only
    generalize u.storeRenew = w at *
    rw [hll, hrx.2.2, hf]
    rw [if_neg (by decide)]
    refine ⟨fun a b => ⟨_, rfl, ?_⟩, fun a b => ⟨_, rfl, ?_⟩, fun r a b c d => ⟨_, rfl, ?_⟩, fun r a b c => ⟨_, rfl, ?_⟩⟩
    · rw [if_pos a, hrx.1, b, if_neg (by decide)]; exact ⟨rfl, hrx.2.1⟩
    · rw [if_pos a, hrx.1, if_pos (Option.isSome_iff_ne_none.2 b)]
      exact ⟨rfl, (hdr w).2.trans (by rw [hrx.2.1])⟩
    · rw [if_neg a]
      unfold State.ckptMore
      rw [hrx.1, b]
      dsimp only
      rw [if_neg (by simp [c]), if_neg (by rw [List.length_append]; simp only [List.length_cons, List.length_nil]; omega)]
      rfl
    · rw [if_neg a]
      unfold State.ckptMore
      rw [hrx.1, b]
      dsimp only
      rw [if_pos (by simpa using c)]
      exact ⟨(hdr w).1, (hdr w).2.trans (by rw [hrx.2.1])⟩

/-- HANDBACK (R444). -/
theorem handback_effect :
  ∀ (s : State) (b : BitVec 64) (epoch : BitVec 16) (n : BitVec 16) (crc : BitVec 32), s.dpxHears = true → dpxGood 0x04 n.toNat (le 8 b.toNat ++ le 2 epoch.toNat ++ [0, 0]) crc.toNat = true →
    (b.toNat = 0 → s.dpx.hbIn = true → Completes (.handback ⟨n, crc⟩ b epoch) s (fun t => t.dpx.hbIn = false ∧ t.dpx.yielded = some s.now ∧
      t.safe.outs = s.safe.outs.map (fun o => o.turnOff))) ∧
    (b.toNat = 0 → s.dpx.hbIn = false → Completes (.handback ⟨n, crc⟩ b epoch) s (fun t => t.dpx.hbB = if s.dpx.lease then s.dpx.hbB else 0)) ∧
    (b.toNat ≠ 0 → s.mode.mode = .standby → s.mode.sub = 2 → s.dpx.take = .idle → Completes (.handback ⟨n, crc⟩ b epoch) s (fun t =>
      t.dpx.hbB = (if s.dpx.warm then b.toNat else 0) ∧ t.dpx.hbEpoch = epoch.toNat)) := by
  intro s b epoch n crc h hg
  obtain ⟨u, hu, hd, hn, ho, hm, hsb, hbs, hsf, _⟩ := dpxTake_ok h (fun s =>
    let s := s.storeRenew
    if b.toNat = 0 then
      if s.dpx.hbIn then s.handYield else s.mapDpx (fun d => { d with hbB := if d.lease then d.hbB else 0 })
    else if s.mode.mode == .standby && s.mode.sub == 2 && s.dpx.take == .idle then
      let yes := s.dpx.warm
      let s := s.mapDpx (fun d => { d with hbB := if yes then b.toNat else 0, hbEpoch := epoch.toNat })
      s.dpxSend 0x84 5 (le 8 b.toNat ++ [b2n yes, 0, 0, 0])
    else s)
  have hx : exec (.handback ⟨n, crc⟩ b epoch) s = .next (s.dpxTake true (fun s =>
    let s := s.storeRenew
    if b.toNat = 0 then
      if s.dpx.hbIn then s.handYield else s.mapDpx (fun d => { d with hbB := if d.lease then d.hbB else 0 })
    else if s.mode.mode == .standby && s.mode.sub == 2 && s.dpx.take == .idle then
      let yes := s.dpx.warm
      let s := s.mapDpx (fun d => { d with hbB := if yes then b.toNat else 0, hbEpoch := epoch.toNat })
      s.dpxSend 0x84 5 (le 8 b.toNat ++ [b2n yes, 0, 0, 0])
    else s)) := by
        show execHandback .. = _
        unfold execHandback
        rw [hg]
  obtain ⟨n0, hr, _⟩ := storeRenew_dpx u
  have hw : u.storeRenew.dpx.hbIn = s.dpx.hbIn ∧ u.storeRenew.dpx.lease = s.dpx.lease ∧ u.storeRenew.dpx.hbB = s.dpx.hbB ∧ u.storeRenew.dpx.warm = s.dpx.warm ∧
      u.storeRenew.dpx.take = s.dpx.take := by rw [hr]; dsimp only; rw [hd]; exact ⟨rfl, rfl, rfl, rfl, rfl⟩
  have hw2 : u.storeRenew.mode.mode = s.mode.mode ∧ u.storeRenew.mode.sub = s.mode.sub ∧ u.storeRenew.now = s.now ∧ u.storeRenew.safe = s.safe := by
    rw [hr]; exact ⟨hm, hsb, hn, hsf⟩
  unfold Completes
  rw [hx, hu]
  dsimp only
  generalize u.storeRenew = w at *
  refine ⟨fun a c => ⟨_, rfl, ?_⟩, fun a c => ⟨_, rfl, ?_⟩, fun a c d e => ⟨_, rfl, ?_⟩⟩
  · rw [if_pos a, if_pos (hw.1.trans c)]
    unfold State.handYield
    dsimp only
    rw [State.warnOn_dpx, State.warnOn_safe]
    exact ⟨rfl, by rw [← hw2.2.2.1], by rw [← hw2.2.2.2]⟩
  · rw [if_pos a, if_neg (by rw [hw.1, c]; decide)]
    show (if w.dpx.lease then w.dpx.hbB else 0) = _
    rw [hw.2.1, hw.2.2.1]
  · rw [if_neg a, if_pos (by rw [hw2.1, hw2.2.1, hw.2.2.2.2, c, d, e]; rfl), hw.2.2.2.1]
    exact ⟨(dpxSend_hb ..).1, (dpxSend_hb ..).2⟩

/-- STATUS_SEND (R441). -/
theorem statusSend_effect :
  ∀ (s : State), (s.mode.mode = .standby ∧ s.mode.sub = 2) ∨ s.dpx.hbIn = true → s.dpxSends = true →
    (∀ t0, s.dpx.statusAt = some t0 → t0 + us 10 ≤ s.now) →
    Completes .statusSend s (fun t => t.dpx.statusAt = some s.now ∧ ∃ n data, t.tx = .dpx 0x81 n data :: s.tx) := by
  intro s h1 h2 h3
  have hd : ∀ b : Bool, (∀ t0, s.dpx.statusAt = some t0 → b = decide (t0 + us 10 ≤ s.now)) → (s.dpx.statusAt = none → b = true) → b = true := by
    intro b h h'
    cases hq : s.dpx.statusAt with
    | none => exact h' hq
    | some t0 => rw [h t0 hq]; exact decide_eq_true (h3 t0 hq)
  refine ⟨_, rfl, ?_⟩
  have h1' : ((s.mode.mode == .standby && s.mode.sub == 2) || s.dpx.hbIn) = true := by rcases h1 with h1 | h1 <;> simp [h1]
  rw [if_pos (by rw [h1', h2]; exact hd _ (fun t0 h => by first | (rw [h]; done) | (rw [h]; rfl)) (fun h => by first | (rw [h]; done) | (rw [h]; rfl)))]
  generalize (match s.dpx.beatRx with | some b => (b.1, min 65535 (s.now - b.2)) | none => (0, 0)) = z
  have hz : ∀ z : Nat × Nat, ∃ bs hold, z = (bs, hold) := fun z => ⟨z.1, z.2, rfl⟩
  split
  rename_i bs hold _
  dsimp only
  unfold State.dpxSend
  rw [if_pos h2]
  exact ⟨rfl, _, _, rfl⟩

/-- STATUS (R431). -/
theorem statusMsg_effect :
  ∀ (s : State) (state flags : BitVec 8) (beat hold : BitVec 16) (ckpt run cfg : BitVec 32) (dev : Fin 512) (n : BitVec 16) (crc : BitVec 32), s.dpxHears = true →
    (dpxGood 0x81 n.toNat ([state.toNat, flags.toNat] ++ le 2 beat.toNat ++ le 2 hold.toNat ++ le 4 ckpt.toNat ++ le 4 run.toNat ++
      le 4 cfg.toNat ++ le 2 dev.val ++ [0, 0]) crc.toNat = false → Completes (.statusMsg ⟨n, crc⟩ state flags beat hold ckpt run cfg dev) s (fun t => t.dpx = { s.dpx with errors := incSat 32 s.dpx.errors })) ∧
    (dpxGood 0x81 n.toNat ([state.toNat, flags.toNat] ++ le 2 beat.toNat ++ le 2 hold.toNat ++ le 4 ckpt.toNat ++ le 4 run.toNat ++
      le 4 cfg.toNat ++ le 2 dev.val ++ [0, 0]) crc.toNat = true → (s.dpx.lease = true → Completes (.statusMsg ⟨n, crc⟩ state flags beat hold ckpt run cfg dev) s (fun t =>
      t.dpx.partner = some { state := state.toNat, mismatch := bit flags.toNat 0, ckpt := ckpt.toNat, run := run.toNat, cfg := cfg.toNat, dev := dev.val } ∧
      t.dpx.delay = s.dpxDelay beat.toNat hold.toNat ∧ t.dpx.mirrorOn = (s.dpx.mirrorOn || (3 ≤ state.toNat && state.toNat ≤ 5))))) := by
  intro s state flags beat hold ckpt run cfg dev n crc h
  refine ⟨fun hg => ⟨_, rfl, ?_⟩, fun hg hl => ?_⟩
  · rw [hg, dpxTake_bad h]; rfl
  · obtain ⟨u, hu, hd, hn, _⟩ := dpxTake_ok h (fun s =>
      if !s.dpx.lease then s
      else
        let st := state.toNat
        let p : PartnerStatus := { state := st, mismatch := bit flags.toNat 0, ckpt := ckpt.toNat, run := run.toNat, cfg := cfg.toNat
                                   dev := dev.val }
        let delay := s.dpxDelay beat.toNat hold.toNat
        let s := s.mapDpx (fun d => { d with
          partner := some p, delay := delay, mirrorOn := d.mirrorOn || (3 ≤ st && st ≤ 5) })
        s.ackJudge beat.toNat)
    refine ⟨_, rfl, ?_⟩
    rw [hg, hu]
    dsimp only
    have e1 : u.dpx.lease = true := by rw [hd]; exact hl
    have e2 : u.dpxDelay beat.toNat hold.toNat = s.dpxDelay beat.toNat hold.toNat := by unfold State.dpxDelay; rw [hd, hn]
    have e3 : u.dpx.mirrorOn = s.dpx.mirrorOn := by rw [hd]
    rw [if_neg (by rw [e1]; decide), e2]
    obtain ⟨l, y, e⟩ := ackJudge_dpx (u.mapDpx (fun d => { d with
          partner := some { state := state.toNat, mismatch := bit flags.toNat 0, ckpt := ckpt.toNat, run := run.toNat, cfg := cfg.toNat, dev := dev.val }, delay := s.dpxDelay beat.toNat hold.toNat, mirrorOn := d.mirrorOn || (3 ≤ state.toNat && state.toNat ≤ 5) })) beat.toNat
    rw [e]
    refine ⟨rfl, rfl, ?_⟩
    show (u.dpx.mirrorOn || _) = _
    rw [e3]

/-- HB_ACK (R444). -/
theorem hbAck_effect :
  ∀ (s : State) (b : BitVec 64) (result : BitVec 8) (n : BitVec 16) (crc : BitVec 32), s.dpxHears = true →
    (dpxGood 0x84 n.toNat (le 8 b.toNat ++ [result.toNat, 0, 0, 0]) crc.toNat = false → Completes (.hbAck ⟨n, crc⟩ b result) s (fun t => t.dpx = { s.dpx with errors := incSat 32 s.dpx.errors })) ∧
    (dpxGood 0x84 n.toNat (le 8 b.toNat ++ [result.toNat, 0, 0, 0]) crc.toNat = true → (s.dpx.lease = true → s.dpx.hbB ≠ 0 → s.dpx.hbB = b.toNat →
      (result.toNat = 1 → Completes (.hbAck ⟨n, crc⟩ b result) s (fun t => t.dpx.hbAck = true ∧ t.dpx.hbB = s.dpx.hbB)) ∧
      (result.toNat ≠ 1 → Completes (.hbAck ⟨n, crc⟩ b result) s (fun t => t.dpx.hbAck = false ∧ t.dpx.hbB = 0)))) := by
  intro s b result n crc h
  refine ⟨fun hg => ⟨_, rfl, ?_⟩, fun hg h1 h2 h3 => ?_⟩
  · rw [hg, dpxTake_bad h]; rfl
  · obtain ⟨u, hu, hd, hn, _⟩ := dpxTake_ok h (fun s =>
      if s.dpx.lease && s.dpx.hbB != 0 && s.dpx.hbB == b.toNat then
        if result.toNat = 1 then s.mapDpx (fun d => { d with hbAck := true }) else s.mapDpx (fun d => { d with hbB := 0, hbAck := false })
      else s)
    have hx : exec (.hbAck ⟨n, crc⟩ b result) s = .next (s.dpxTake true (fun s =>
      if s.dpx.lease && s.dpx.hbB != 0 && s.dpx.hbB == b.toNat then
        if result.toNat = 1 then s.mapDpx (fun d => { d with hbAck := true }) else s.mapDpx (fun d => { d with hbB := 0, hbAck := false })
      else s)) := by
        show execHbAck .. = _
        unfold execHbAck
        rw [hg]
    unfold Completes
    rw [hx, hu]
    dsimp only
    have e : (u.dpx.lease && u.dpx.hbB != 0 && u.dpx.hbB == b.toNat) = true := by
      rw [hd]; dsimp only; rw [h1, ← h3]; simpa using h2
    rw [if_pos e]
    refine ⟨fun a => ⟨_, rfl, ?_⟩, fun a => ⟨_, rfl, ?_⟩⟩
    · rw [if_pos a]; refine ⟨rfl, ?_⟩; show u.dpx.hbB = _; rw [hd]
    · rw [if_neg a]; exact ⟨rfl, rfl⟩

/-- DPX_LINK_DOWN (R425). -/
theorem dpxLinkDown_effect :
  ∀ (s : State) (t0 : Nat), s.dpx.lastRx = some t0 → s.dpx.link = true → t0 + us 100 ≤ s.now →
    Completes .dpxLinkDown s (fun t => t.dpx = { s.dpx with link := false, mirrorOn := false }) := by
  intro s t0 h1 h2 h3
  refine ⟨_, rfl, ?_⟩
  rw [h1]
  dsimp only
  rw [if_pos (by rw [h2, decide_eq_true h3]; rfl)]
  unfold State.dpxLinkLost
  rw [if_pos h2]
  exact State.warnOn_dpx ..

/-- HOLDER_LEASE_EXPIRY (R431). -/
theorem holderLeaseExpiry_effect :
  ∀ (s : State) (beat : BitVec 16), s.DPX_ENABLE ≠ 0 → s.dpx.lease = true → s.ackOld beat.toNat = true →
    Completes (.holderLeaseExpiry beat) s (fun t => t.dpx.lease = false ∧ t.dpx.yielded = some s.now ∧ t.safe.outs = s.safe.outs.map (fun o => o.turnOff)) := by
  intro s beat h1 h2 h3
  refine ⟨_, rfl, ?_⟩
  unfold State.ackJudge
  rw [if_pos (by rw [h2, h3]; rfl)]
  obtain ⟨l, y, e, ey⟩ := leaseLost_dpx s
  have := ey h1 h2
  rw [e]
  exact ⟨this.1, this.2.1, this.2.2⟩

end Sys2Proof.Machine
end

