-- ==== Sys2Proof/Laws/Effect12.lean ====
section
/-! SUPPORT. One lemma per command: that it runs, on which states, and what it leaves. -/
namespace Sys2Proof.Machine

set_option Elab.async false
set_option linter.all false

/-- MIRROR (R442). -/
theorem mirror_effect :
  ∀ (s : State) (n : BitVec 16) (tick : BitVec 64) (target count nc : BitVec 16) (im out : BitVec 32) (words : List Nat) (crc : BitVec 32) (m : MirrorRec) (data : List Nat), s.dpxHears = true →
    m = { tick := tick.toNat, target := target.toNat, count := count.toNat, nc := signed 16 nc.toNat, im := signed 32 im.toNat, out := out.toNat, words := (padTo 256 words).map (fun w => w % 4) } →
    data = le 8 tick.toNat ++ le 2 target.toNat ++ le 2 count.toNat ++ le 2 nc.toNat ++ le 4 im.toNat ++ le 4 out.toNat ++ mirrorBytes words ++ [0, 0] →
    (dpxGood 0x03 n.toNat data crc.toNat = false → Completes (.mirror ⟨n, crc⟩ tick target count nc im out words) s (fun t => t.dpx = { s.dpx with errors := incSat 32 s.dpx.errors })) ∧
    (dpxGood 0x03 n.toNat data crc.toNat = true →
    (s.mode.mode = .standby ∧ s.mode.sub = 2 ∧ s.dpx.take = .idle) ∨ s.dpx.hbIn = true → s.dpx.yielded = none →
    Completes (.mirror ⟨n, crc⟩ tick target count nc im out words) s (fun t => t.dpx.mirror = (m :: (if s.mirrorNext m.tick then s.dpx.mirror else [])).take 200)) := by
  intro s n tick target count nc im out words crc m data h hm hd0
  subst hd0
  refine ⟨fun hg => ⟨_, rfl, ?_⟩, fun hg h1 h2 => ?_⟩
  · dsimp only; rw [show dpxGood 0x03 n.toNat (le 8 tick.toNat ++ le 2 target.toNat ++ le 2 count.toNat ++ le 2 nc.toNat ++ le 4 im.toNat ++ le 4 out.toNat ++ mirrorBytes words ++ [0, 0]) crc.toNat = false from hg, dpxTake_bad h]; rfl
  obtain ⟨u, hu, hd, hn, ho, hmm, hsb, hbs, hsf, _⟩ := dpxTake_ok h (fun s =>
    let s := s.storeRenew
    if ((s.mode.mode == .standby && s.mode.sub == 2 && s.dpx.take == .idle) || s.dpx.hbIn) && s.dpx.yielded.isNone then
      s.mirrorIn m
    else s)
  have hx : exec (.mirror ⟨n, crc⟩ tick target count nc im out words) s = .next (s.dpxTake true (fun s =>
    let s := s.storeRenew
    if ((s.mode.mode == .standby && s.mode.sub == 2 && s.dpx.take == .idle) || s.dpx.hbIn) && s.dpx.yielded.isNone then
      s.mirrorIn m
    else s)) := by
    rw [hm]
    show execMirror .. = _
    unfold execMirror
    dsimp only
    rw [show dpxGood 0x03 n.toNat (le 8 tick.toNat ++ le 2 target.toNat ++ le 2 count.toNat ++ le 2 nc.toNat ++ le 4 im.toNat ++ le 4 out.toNat ++ mirrorBytes words ++ [0, 0]) crc.toNat = true from hg]
  obtain ⟨n0, hr, _⟩ := storeRenew_dpx u
  have e1 : u.storeRenew.mode.mode = s.mode.mode ∧ u.storeRenew.mode.sub = s.mode.sub ∧ u.storeRenew.dpx.take = s.dpx.take ∧ u.storeRenew.dpx.hbIn = s.dpx.hbIn ∧
      u.storeRenew.dpx.yielded = s.dpx.yielded ∧ u.storeRenew.dpx.mirror = s.dpx.mirror := by
    rw [hr]; dsimp only; rw [hd]; exact ⟨hmm, hsb, rfl, rfl, rfl, rfl⟩
  refine ⟨_, hx, ?_⟩
  rw [hu]
  dsimp only
  generalize u.storeRenew = w at *
  rw [if_pos]
  · rw [mirrorIn_dpx, e1.2.2.2.2.2]
    unfold State.mirrorNext
    rw [e1.2.2.2.2.2]
  · rw [e1.1, e1.2.1, e1.2.2.1, e1.2.2.2.1, e1.2.2.2.2.1, h2]
    rcases h1 with h1 | h1
    · rw [h1.1, h1.2.1, h1.2.2]; rfl
    · rw [h1]; simp

/-- YIELD_RESET (R433). -/
theorem yieldReset_effect :
  ∀ (s : State) (t0 : Nat), s.dpx.yielded = some t0 → t0 + ms 1 ≤ s.now → Completes .yieldReset s (fun t => t.mode.mode = .boot ∧
    t.mode.cause = s.sysCause 0 ∧ t.dpx.yielded = none ∧ t.dpx.lease = false) := by
  intro s t0 h1 h2
  refine ⟨_, rfl, ?_⟩
  rw [h1]
  dsimp only
  rw [if_pos h2]
  exact ⟨rfl, rfl, rfl, rfl⟩

/-- STORE_LEASE_EXPIRY (R436). -/
theorem storeLeaseExpiry_effect :
  ∀ (s : State) (x : BootIn), s.dpx.holder ≠ none → s.dpx.frozen = false → s.dpx.renewed + us 50 ≤ s.now →
    Completes (.storeLeaseExpiry x) s (fun t => t.dpx.frozen = true ∧ t.dpx.rx = none ∧
      (s.newestCkpt ≠ none → s.mode.mode = .standby ∨ s.dpx.hbIn = true → s.dpx.yielded = none → s.mode.mode ≠ .safe →
        t.dpx.take = .begun (s.mode.mode != .standby || s.mode.sub == 2))) := by
  intro s x h1 h2 h3
  refine ⟨_, rfl, ?_⟩
  rw [if_pos (by rw [Option.isSome_iff_ne_none.2 h1, h2, decide_eq_true h3]; rfl)]
  dsimp only
  have e : (s.mapDpx (fun d => { d with frozen := true, rx := none })).newestCkpt = s.newestCkpt := rfl
  rw [e]
  split
  · rename_i b hb
    split
    · have k := takeBegin_dpx (s.mapDpx (fun d => { d with frozen := true, rx := none })) x b
      exact ⟨k.1, k.2.1, fun _ _ _ _ => k.2.2.1⟩
    · rename_i hc
      refine ⟨rfl, rfl, fun _ a c d => absurd ?_ hc⟩
      show ((s.mode.mode == .standby || s.dpx.hbIn) && s.dpx.yielded.isNone && s.mode.mode != .safe) = true
      rw [c]
      rcases a with a | a <;> simp [a, d]
  · rename_i hn
    exact ⟨rfl, rfl, fun a => absurd hn a⟩

/-- LIVENESS_CHECK (R437). -/
theorem livenessCheck_effect :
  ∀ (s : State) (prep : Bool), s.mode.mode ≠ .safe → s.mode.mode ≠ .boot → s.dpx.take = .begun prep → s.alignedTrunks.any (fun q => (entry s.dpx.live q (0, true)).1 < 4) = false →
    (s.alignedTrunks.any (fun q => (entry s.dpx.live q (0, true)).2) = true → Completes .livenessCheck s (fun t => t.dpx.take = .abandoned ∧
      t.mode.mode = .standby ∧ t.mode.sub = 2 ∧ t.dpx.lease = s.dpx.lease)) ∧
    (s.alignedTrunks.any (fun q => (entry s.dpx.live q (0, true)).2) = false → s.nvOk = true → Completes .livenessCheck s (fun t =>
      t.dpx.take = .live prep ∧ t.dpx.lease = true ∧ t.dpx.epoch = nextEpoch (s.newestEpoch (s.newestCkpt.map CkptBuf.epoch)))) := by
  intro s prep hs hb h1 h2
  have ht : s.takeNow = s.dpx.take := by unfold State.takeNow; rw [if_neg (by simpa using hs)]
  refine ⟨fun h => ⟨_, rfl, ?_⟩, fun h h3 => ⟨_, rfl, ?_⟩⟩ <;> (rw [ht, h1]; dsimp only; rw [if_neg (by rw [h2]; decide)])
  · rw [if_pos h]
    unfold State.takeAbandon
    dsimp only
    have e : ((s.warnOff 0x7020 0).warnOn 0x7022 0 []).mode.mode = s.mode.mode := warnOn_mode1 ..
    have k := setMode_mode ((s.warnOff 0x7020 0).warnOn 0x7022 0 []) .standby 2 (open_blocked (by rw [e]; exact hs) (by rw [e]; exact hb) _)
    refine ⟨rfl, k.1, k.2, ?_⟩
    rw [State.mapDpx_dpx, setMode_dpx, State.warnOn_dpx]
    rfl
  · rw [if_neg (by rw [h]; decide), if_neg (by rw [h3]; decide), State.mapDpx_dpx, acquireLease_dpx]
    exact ⟨rfl, rfl, rfl⟩

/-- TAKEOVER_BRINGUP_DONE (R436). -/
theorem takeoverBringupDone_effect :
  ∀ (s : State) (prep : Bool), s.mode.mode ≠ .safe → s.dpx.take = .live prep → Completes .takeoverBringupDone s (fun t => t.dpx = { s.dpx with take := .ready prep }) := by
  intro s prep hs h
  have ht : s.takeNow = s.dpx.take := by unfold State.takeNow; rw [if_neg (by simpa using hs)]
  refine ⟨_, rfl, ?_⟩
  rw [ht, h]
  rfl

/-- COLD_ACQUISITION (R430). -/
theorem coldAcquisition_effect :
  ∀ (s : State), s.waitsCold = true →
    (s.hubsSilent = true → s.nvOk = true → s.mode.mode ≠ .standby → Completes .coldAcquisition s (fun t => t.dpx.lease = true ∧
      t.dpx.epoch = nextEpoch (s.newestEpoch none) ∧ t.mode.mode = s.mode.mode)) ∧
    (s.hubsSilent = true → s.nvOk = true → s.mode.mode = .standby → Completes .coldAcquisition s (fun t => t.dpx.lease = true ∧
      t.dpx.epoch = nextEpoch (s.newestEpoch none) ∧ t.mode.mode = .blocked ∧ t.dpx.take = .idle ∧ t.dpx.takeovers = incSat 32 s.dpx.takeovers)) ∧
    (s.hubsSilent = false → Completes .coldAcquisition s (fun t => t.dpx = s.dpx ∧ t.mode.mode = s.mode.mode)) := by
  intro s h
  have hm : ∀ (u : State) a b c d e, ((u.acquireLease a b).warnOff c d).mode.mode = u.mode.mode ∧ (u.warnOn c d e).mode.mode = u.mode.mode := by
    intro u a b c d e
    refine ⟨?_, ?_⟩
    · unfold State.warnOff State.acquireLease; dsimp only; rw [State.note_mode]; rfl
    · unfold State.warnOn; dsimp only; split <;> simp
  refine ⟨fun a b c => ⟨_, rfl, ?_⟩, fun a b c => ⟨_, rfl, ?_⟩, fun a => ⟨_, rfl, ?_⟩⟩ <;> rw [if_neg (by rw [h]; decide)]
  · rw [if_pos (by rw [a, b]; rfl)]
    dsimp only
    rw [if_neg (by rw [(hm _ _ _ _ _ []).1]; simpa using c), State.warnOff_dpx, acquireLease_dpx]
    exact ⟨rfl, rfl, (hm _ _ _ _ _ []).1⟩
  · rw [if_pos (by rw [a, b]; rfl)]
    dsimp only
    rw [if_pos (by rw [(hm _ _ _ _ _ []).1, c]; rfl)]
    have e : ∀ u : State, (((u.setMode .blocked 0).warnOff 0x7022 0).warn 0x7023 [1]).dpx = u.dpx := fun u => by rw [State.warn_dpx, State.warnOff_dpx, setMode_dpx]
    refine ⟨?_, ?_, ?_, rfl, ?_⟩
    · rw [State.mapDpx_dpx, e, State.warnOff_dpx, acquireLease_dpx]
    · rw [State.mapDpx_dpx, e, State.warnOff_dpx, acquireLease_dpx]
    · rw [State.mapDpx_mode, State.warn_mode]
      exact (setMode_mode _ _ _ (open_standby (by rw [(hm _ _ _ _ _ []).1, c]) _)).1
    · rw [State.mapDpx_dpx, e, State.warnOff_dpx, acquireLease_dpx]
  · rw [if_neg (by rw [a]; simp)]
    exact ⟨State.warnOn_dpx .., (hm s 0 0 _ _ _).2⟩

/-- PREPARED_ENTRY (R441). -/
theorem preparedEntry_effect :
  ∀ (s : State) (x : BootIn) (t0 : Nat), s.dpx.goodSince = some t0 → s.mode.mode = .standby → s.mode.sub = 1 → s.dpx.downAt = none →
    s.dpx.take = .idle → (s.REVERT = 1 ∧ s.dpxRole = 0) ∨ s.STANDBY_PREP = 1 → t0 + ms s.SETTLE_T ≤ s.now →
    settleWindow t0 s.now ≤ settleWindow t0 s.dpx.lastCkpt + 1 →
    Completes (.preparedEntry x) s (fun t => t.mode.mode = .standby ∧ t.mode.sub = 2 ∧ t.dpx = s.dpx) := by
  intro s x t0 h1 h2 h3 h4 h5 h6 h7 h8
  refine ⟨_, rfl, ?_⟩
  rw [h1]
  dsimp only
  have h6' : ((s.REVERT == 1 && s.dpxRole == 0) || s.STANDBY_PREP == 1) = true := by rcases h6 with h6 | h6 <;> simp [h6]
  rw [if_pos (by rw [h2, h3, h4, h5, h6', decide_eq_true h7, decide_eq_true h8]; rfl), State.note_mode, State.note_dpx, setMode_dpx, wake_dpx]
  have k := setMode_mode (s.wake x true none) .standby 2 (open_standby ((wake_mode1 ..).trans h2) _)
  exact ⟨k.1, k.2, rfl⟩

/-- WARM_REACHED (R442). -/
theorem warmReached_effect :
  ∀ (s : State), s.WARM_TICKS ≤ s.dpx.run → s.dpx.warm = false → s.mode.mode = .standby → s.mode.sub = 2 →
    Completes .warmReached s (fun t => t.dpx = { s.dpx with warm := true }) := by
  intro s h1 h2 h3 h4
  refine ⟨_, rfl, ?_⟩
  unfold State.warmJudge
  dsimp only
  rw [if_pos (by rw [decide_eq_true h1, h2, h3, h4]; rfl), State.note_dpx]
  rfl

/-- HANDBACK_MODE_ENTRY (R444). -/
theorem handbackModeEntry_effect :
  ∀ (s : State) (b : CkptBuf), s.mode.mode = .standby → s.mode.sub = 2 → s.dpx.hbB ≠ 0 → s.dpx.hbIn = false → s.dpx.hbB ≤ s.nextTick + 3 * s.fp →
    s.newestCkpt = some b → Completes .handbackModeEntry s (fun t => t.dpx = { s.dpx with hbIn := true } ∧
      (s.edge = false → (s.safe.sf1 = false → t.mode.mode = b.mode.1 ∧ t.mode.sub = b.mode.2) ∧ (s.safe.sf1 = true → b.mode.1 = .forming → t.mode.mode = .blocked))) := by
  intro s b h1 h2 h3 h4 h5 h6
  refine ⟨_, rfl, ?_⟩
  rw [if_pos (by rw [h1, h2, h4, decide_eq_true h5]; simpa using h3), h6]
  dsimp only
  have k := setMode_mode (s.mapDpx (fun d => { d with hbIn := true })) b.mode.1 b.mode.2 (open_standby (by rw [State.mapDpx_mode]; exact h1) _)
  have kd := setMode_dpx (s.mapDpx (fun d => { d with hbIn := true })) b.mode.1 b.mode.2
  have ke : ((s.mapDpx (fun d => { d with hbIn := true })).setMode b.mode.1 b.mode.2).edge = s.edge := State.setMode_keeps.same .edge rfl
  generalize hu : (s.mapDpx (fun d => { d with hbIn := true })).setMode b.mode.1 b.mode.2 = u at *
  have r1 : ∀ (v : State) g, (v.restoreLaw b g).sf1Hold.dpx = v.dpx := fun v g => (State.sf1Hold_keeps.same .dpx rfl).trans (State.restoreLaw_keeps.same .dpx rfl)
  have r3 : ∀ (v : State) g, (v.restoreLaw b g).sf1Hold.edge = v.edge := fun v g => (State.sf1Hold_keeps.same .edge rfl).trans (State.restoreLaw_keeps.same .edge rfl)
  have r2 : ∀ (v : State) g, (v.restoreLaw b g).mode.mode = v.mode.mode ∧ (v.restoreLaw b g).mode.sub = v.mode.sub ∧ (v.restoreLaw b g).safe = v.safe := by
    intro v g
    refine ⟨?_, ?_, State.restoreLaw_keeps.same .safe rfl⟩ <;> (unfold State.restoreLaw State.armFresh; rfl)
  have ks : u.safe = s.safe := by rw [← hu]; exact State.setMode_keeps.same .safe rfl
  split
  · rename_i he
    rw [r3] at he
    refine ⟨?_, fun hf => ?_⟩
    · rw [State.lawPeriod_keeps.same .dpx rfl, r1]; exact kd
    · exfalso
      rw [← ke] at hf
      have he : u.edge = true := he
      rw [hf] at he
      exact absurd he (by decide)
  · refine ⟨(r1 ..).trans kd, fun _ => ?_⟩
    have q := r2 u (b.g u.nextTick)
    generalize u.restoreLaw b (b.g u.nextTick) = w at *
    unfold State.sf1Hold
    rw [q.1, q.2.2, k.1, ks]
    refine ⟨fun a => ?_, fun a c => ?_⟩
    · rw [if_neg (by rw [a]; simp)]
      exact ⟨q.1.trans k.1, q.2.1.trans k.2⟩
    · rw [if_pos (by rw [a, c]; rfl)]
      exact (setMode_mode w .blocked 0 (open_blocked (by rw [q.1, k.1, c]; decide) (by rw [q.1, k.1, c]; decide) _)).1

/-- HANDBACK_EPOCH_RAISE (R444). -/
theorem handbackEpochRaise_effect :
  ∀ (s : State), s.dpx.hbIn = true → s.dpx.hbRaised = false → s.dpx.hbB ≤ s.nextTick + 1 → s.nvOk = true →
    Completes .handbackEpochRaise s (fun t => t.dpx = { s.dpx with epoch := s.dpx.hbEpoch, stored := some s.dpx.hbEpoch, hbRaised := true }) := by
  intro s h1 h2 h3 h4
  refine ⟨_, rfl, ?_⟩
  rw [if_pos (by rw [h1, h2, decide_eq_true h3, h4]; rfl)]
  rfl

/-- HANDBACK_TRANSFER (R445). -/
theorem handbackTransfer_effect :
  ∀ (s : State), s.dpx.hbB ≠ 0 → s.dpx.hbB ≤ s.nextTick →
    (s.dpx.hbIn = true → s.mode.mode ≠ .safe → Completes .handbackTransfer s (fun t => t.dpx.lease = true ∧ t.dpx.hbIn = false ∧ t.dpx.hbB = 0 ∧ t.dpx.tookAt = some s.now ∧
      t.dpx.frozen = true ∧ t.dpx.epoch = (if s.dpx.hbRaised then s.dpx.epoch else s.dpx.hbEpoch))) ∧
    (s.dpx.hbIn = false → s.dpx.lease = true → s.dpx.hbAck = true → s.handFails = 0 → Completes .handbackTransfer s (fun t => t.dpx.lease = false ∧
      t.mode.mode = .standby ∧ t.mode.sub = 1 ∧ t.dpx.gaveAt = some s.now ∧ t.safe.outs = s.safe.outs.map (fun o => o.turnOff))) := by
  intro s h1 h2
  have hc : ¬ ((decide (s.dpx.hbB = 0) || decide (s.nextTick < s.dpx.hbB)) = true) := by
    simp only [Bool.or_eq_true, decide_eq_true_eq]
    omega
  refine ⟨fun h hs => ⟨_, rfl, ?_⟩, fun h a b c => ⟨_, rfl, ?_⟩⟩ <;> rw [if_neg hc]
  · rw [if_pos h, if_neg (show ¬ (s.mode.mode == .safe) = true by simpa using hs)]
    unfold State.handTake
    dsimp only
    have hn : ∀ (u : State) a b, (u.acquireLease a b).now = u.now := fun u a b => State.acquireLease_keeps.same .now rfl
    rw [State.alignUp_keeps.same .dpx rfl, State.restoreOuts_keeps.same .dpx rfl, State.mapDpx_dpx, acquireLease_dpx]
    simp only [hn]
    cases s.dpx.hbRaised <;> exact ⟨trivial, trivial, trivial, rfl, trivial, rfl⟩
  · rw [if_neg (by rw [h]; decide), if_pos (by rw [a, b, c]; rfl)]
    unfold State.handGive
    dsimp only
    have hm := handFails_mode c
    have k := setMode_mode ({ s with safe := { s.safe with outs := s.safe.outs.map (fun o => o.turnOff) } } : State) .standby 1
      (by rcases hm with hm | hm <;> (unfold State.modeOpen; dsimp only; rw [hm]))
    have ks : (({ s with safe := { s.safe with outs := s.safe.outs.map (fun o => o.turnOff) } } : State).setMode .standby 1).safe = _ := State.setMode_keeps.same .safe rfl
    have kn : (({ s with safe := { s.safe with outs := s.safe.outs.map (fun o => o.turnOff) } } : State).setMode .standby 1).now = s.now := State.setMode_keeps.same .now rfl
    generalize State.setMode _ _ _ = u at *
    exact ⟨rfl, k.1, k.2, congrArg some kn, congrArg SafeState.outs ks⟩

/-- HOLDER_OUTPUT_RELEASE (R445). -/
theorem holderOutputRelease_effect :
  ∀ (s : State) (t0 : Nat), s.dpx.gaveAt = some t0 → t0 + us 100 ≤ s.now → Completes .holderOutputRelease s (fun t =>
    t.dpx = { s.dpx with gaveAt := none, downAt := some s.now }) := by
  intro s t0 h1 h2
  refine ⟨_, rfl, ?_⟩
  rw [h1]
  dsimp only
  rw [if_pos h2, State.note_dpx]
  rfl

/-- POWER_DOWN_COLD_COMPLETE (R422). -/
theorem powerDownColdComplete_effect :
  ∀ (s : State), s.dpx.downAt ≠ none → s.mode.mode = .standby → s.mode.sub = 1 → Completes .powerDownColdComplete s (fun t =>
    t.pwr.domains = 3 ∧ t.dpx = { s.dpx with downAt := none } ∧ t.mode = s.mode ∧ t.objs = s.objs ∧ t.pwr.wake = some s.wakeRecord) := by
  intro s h1 h2 h3
  refine ⟨_, rfl, ?_⟩
  rw [if_pos (by rw [Option.isSome_iff_ne_none.2 h1, h2, h3]; rfl)]
  exact ⟨rfl, rfl, rfl, rfl, rfl⟩

/-- EVENT_OFFER (R455). -/
theorem eventOffer_effect :
  ∀ (s : State) (e : Offer), (assigned e.code = true → exec (.eventOffer [e]) s = .next (s.offer e.code e.cls e.region e.payload)) ∧
    (assigned e.code = false → exec (.eventOffer [e]) s = .next s) ∧
    (∀ f : Offer, assigned e.code = true → assigned f.code = true → f.region < e.region → exec (.eventOffer [e, f]) s =
      .next ((s.offer f.code f.cls f.region f.payload).offer e.code e.cls e.region e.payload)) ∧
    (assigned e.code = true → e.cls = .safe → s.recd.count < 28 → s.recd.scanned = true → (entry s.hdrs 6 {}).fenced = 0 → bypasses e.code e.cls = true →
      Completes (.eventOffer [e]) s (fun t => ∃ f, t.recd.margin = s.recd.margin ++ [f] ∧ f.code = e.code ∧ f.cls = e.cls ∧ f.seq = s.recd.newest + 1 ∧
        t.recd.newest = s.recd.newest + 1)) := by
  intro s e
  have one : exec (.eventOffer [e]) s = .next (if assigned e.code then s.offer e.code e.cls e.region e.payload else s) := rfl
  refine ⟨fun h => ?_, fun h => ?_, fun f h1 h2 h3 => ?_, fun h1 h2 h3 h4 h5 h6 => ?_⟩
  · rw [one, if_pos h]
  · rw [one, if_neg (by rw [h]; decide)]
  · have hx : exec (.eventOffer [e, f]) s = .next ((sortBy (fun e => e.region) [e, f]).foldl (fun s e => if assigned e.code then s.offer e.code e.cls e.region e.payload else s) s) := rfl
    rw [hx]
    have : sortBy (fun e => e.region) [e, f] = [f, e] := by
      unfold sortBy
      simp only [List.foldl_cons, List.foldl_nil]
      unfold insSorted
      unfold insSorted
      simp [h3]
    rw [this]
    simp only [List.foldl_cons, List.foldl_nil]
    rw [if_pos h2, if_pos h1]
  · refine ⟨_, one, ?_⟩
    rw [if_pos h1]
    unfold State.offer
    rw [if_pos h6]
    unfold State.accept
    dsimp only
    have hb : bit (entry s.hdrs 6 {}).fenced 1 = false := by rw [h5]; rfl
    rw [hb, h6, if_neg (by simp; omega), if_pos h4]
    exact ⟨_, rfl, rfl, rfl, rfl, rfl⟩

/-- FOLIO_WRITE (R457). -/
theorem folioWrite_effect :
  ∀ (s : State) (f : Folio) (rest : List Folio), s.ringOn = true → s.recd.margin = f :: rest →
    (s.run .record ≠ .stopping ∨ rest ≠ [] → s.recd.restoring = none → s.recd.dropEpisode = 0 → Completes (.folioWrite .good) s (fun t =>
      t.recd = { s.recd with ring := tput (fun _ => Slot.empty) s.recd.ring (f.seq % 65536) (.valid f), margin := rest, written := max s.recd.written f.seq })) ∧
    (∀ a : MemAnswer, a ≠ .good → s.run .record ≠ .stopping → Completes (.folioWrite a) s (fun t => t.recd.memFail = true ∧ t.recd.writing = false ∧
      t.recd.failSeq = s.recd.newest + 1 ∧ t.recd.ring = s.recd.ring)) ∧
    (s.run .record = .stopping → rest = [] → s.recd.restoring = none → s.recd.dropEpisode = 0 → Completes (.folioWrite .good) s (fun t =>
      t.run .record = .stopped)) := by
  intro s f rest h1 h2
  refine ⟨fun a b c => ⟨_, rfl, ?_⟩, fun x hx a => ⟨_, rfl, ?_⟩, fun a b c d => ⟨_, rfl, ?_⟩⟩ <;>
    (unfold State.folioWrite; rw [if_neg (by rw [h1]; decide), h2]; dsimp only)
  · rw [drained_same (s := { s with recd := { (s.recd.place f) with margin := rest, written := max s.recd.written f.seq } }) b c, if_neg]
    · rfl
    · intro h
      simp only [Bool.and_eq_true, beq_iff_eq, List.isEmpty_iff] at h
      rcases a with a | a
      · exact a h.1
      · exact a h.2
  · have hm : ∀ c, (s.memFailure f c).recd.memFail = true ∧ (s.memFailure f c).recd.writing = false ∧
        (s.memFailure f c).recd.failSeq = s.recd.newest + 1 ∧ (s.memFailure f c).recd.ring = s.recd.ring := by
      intro c
      unfold State.memFailure
      dsimp only
      rw [if_neg]
      · exact ⟨rfl, rfl, rfl, rfl⟩
      · intro h
        exact a (beq_iff_eq.1 h)
    cases x
    · exact absurd rfl hx
    · exact hm 1
    · exact hm 2
    · exact hm 3
  · rw [drained_same (s := { s with recd := { (s.recd.place f) with margin := rest, written := max s.recd.written f.seq } }) c d, if_pos]
    · exact setRun_run ..
    · rw [b]
      have : (s.run .record == Run.stopping) = true := by rw [a]; rfl
      exact (Bool.and_eq_true _ _).mpr ⟨this, rfl⟩

/-- LMS_TOKEN_REFILL (R481). -/
theorem lmsTokenRefill_effect :
  ∀ (s : State), s.sec.tokenAt + secs 675 ≤ s.now → Completes .lmsTokenRefill s (fun t =>
    t.sec = { s.sec with tokens := min 16 (s.sec.tokens + 1), tokenAt := s.sec.tokenAt + secs 675 }) := by
  intro s h
  refine ⟨_, rfl, ?_⟩
  rw [if_pos h]
  rfl

/-- SYNC_TIME_STORE (R487). -/
theorem syncTimeStore_effect :
  ∀ (s : State), s.synced = true → s.nvOk = true → s.sec.lastSyncAt + secs 3600 ≤ s.now → Completes .syncTimeStore s (fun t =>
    t.sec = { s.sec with lastSync := s.time.sec, lastSyncAt := s.now }) := by
  intro s h1 h2 h3
  refine ⟨_, rfl, ?_⟩
  rw [if_pos (by rw [h1, h2, decide_eq_true h3]; rfl)]
  rfl

/-- UNCORRECTABLE_ERROR (R512). -/
theorem uncorrectableError_effect :
  ∀ (s : State) (region : Fin 9) (b : Fin 16) (kind : Fin 3), s.Shape →
    (s.powered (blockDomain region.val b.val) = true → b.val < blocksOf region.val → s.fenced region.val b.val = false →
      Completes (.uncorrectableError region b kind false) s (fun t => t.fenced region.val b.val = true)) ∧
    (s.mode.mode ≠ .safe → Completes (.uncorrectableError region b kind true) s (fun t => t.mode.mode = .safe ∧ t.fab.escalation = 4)) := by
  intro s region b kind hs
  refine ⟨fun h1 h2 h3 => ⟨_, rfl, ?_⟩, fun h => ⟨_, rfl, ?_⟩⟩
  · rw [if_neg (by decide), if_pos h1]
    exact fenceBlock_fenced hs region b.val _ h2 h3
  · rw [if_pos rfl]
    exact escalate_safe h 4

/-- PARITY_ERROR (R510). -/
theorem parityError_effect :
  ∀ (s : State) (region : Fin 9) (b : Fin 16) (nth : Fin 4), s.Shape → s.fenced region.val b.val = false → s.powered (blockDomain region.val b.val) = true →
    b.val < blocksOf region.val →
    (nth.val < 3 → Completes (.parityError region b nth) s (fun t => t.fab.parRetries = incSat 32 s.fab.parRetries ∧
      (region.val < 8 → bit (entry t.hdrs region.val {}).err 6 = true) ∧ t.fenced region.val b.val = false)) ∧
    (nth.val = 3 → Completes (.parityError region b nth) s (fun t => t.fenced region.val b.val = true)) := by
  intro s region b nth hs h1 h2 h3
  have hc : ¬ ((s.fenced region.val b.val || !(s.powered (blockDomain region.val b.val)) || decide (blocksOf region.val ≤ b.val)) = true) := by
    rw [h1, h2, decide_eq_false (Nat.not_le.2 h3)]; decide
  refine ⟨fun h => ⟨_, rfl, ?_⟩, fun h => ⟨_, rfl, ?_⟩⟩ <;> rw [if_neg hc]
  · rw [if_pos h]
    dsimp only
    have e := entry_updAt (fun h : RegionHdr => { h with err := setBit h.err 6 }) {} s.hdrs region.val (by rw [hs.hdrs]; exact region.isLt)
    split
    · refine ⟨rfl, fun _ => ?_, ?_⟩
      · refine (congrArg (fun h : RegionHdr => bit h.err 6) e).trans (testBit_setBit ..)
      · exact (congrArg (fun h : RegionHdr => bit h.fenced b.val) e).trans h1
    · rename_i hr; exact ⟨rfl, fun hh => absurd hh hr, h1⟩
  · rw [if_neg (by omega)]
    exact fenceBlock_fenced hs region b.val _ h3 h1

/-- ECC_CORRECTED (R511). -/
theorem eccCorrected_effect :
  ∀ (s : State) (region : Fin 9), s.Shape → region.val < 8 → Completes (.eccCorrected region) s (fun t => t.fab.eccCorrected = incSat 32 s.fab.eccCorrected ∧
    bit (entry t.hdrs region.val {}).err 7 = true) := by
  intro s region hs h
  refine ⟨_, rfl, by rw [if_pos h]; rfl, ?_⟩
  rw [if_pos h]
  have e := entry_updAt (fun h : RegionHdr => { h with err := setBit h.err 7 }) {} s.hdrs region.val (by rw [hs.hdrs]; exact region.isLt)
  exact (congrArg (fun h : RegionHdr => bit h.err 7) e).trans (testBit_setBit ..)

/-- HANDSHAKE_TIMEOUT (R515). -/
theorem handshakeTimeout_effect :
  ∀ (s : State), s.Shape → (∀ c, c < 4 → s.fenced 8 c = false → Completes (.handshakeTimeout (some c)) s (fun t => t.fenced 8 c = true)) ∧
    (s.mode.mode ≠ .safe → Completes (.handshakeTimeout none) s (fun t => t.mode.mode = .safe ∧ t.fab.escalation = 5)) := by
  intro s hs
  refine ⟨fun c hc h => ⟨_, rfl, ?_⟩, fun h => ⟨_, rfl, ?_⟩⟩
  · exact fenceBlock_fenced hs 8 c _ hc h
  · exact escalate_safe h 5

/-- SEM_LEASE_EXPIRY (R517). -/
theorem semLeaseExpiry_effect :
  ∀ (s : State) (sem : Fin 16) (h : Nat), s.Shape → (entry s.fab.sems sem.val {}).holder = some h → (entry s.fab.sems sem.val {}).renewed + us s.SEM_LEASE ≤ s.now →
    Completes (.semLeaseExpiry sem) s (fun t => (entry t.fab.sems sem.val {}).holder = none) := by
  intro s sem h hs h1 h2
  refine ⟨_, rfl, ?_⟩
  dsimp only
  rw [h1]
  dsimp only
  rw [if_pos h2, State.warn_fab]
  have := entry_putAt ({} : Sem) {} s.fab.sems sem.val (by rw [hs.sems]; exact sem.isLt)
  exact (congrArg Sem.holder this).trans rfl

/-- QUEUE_STALL (R506). -/
theorem queueStall_effect :
  ∀ (s : State) (q : Fin 16) (x : MsgQ) (e : Nat × Nat) (rest : List (Nat × Nat)), s.Shape → entry s.fab.queues q.val {} = x → x.entries = e :: rest →
    e.2 + us s.QUEUE_STALL ≤ s.now → x.consumer < 4 → s.fenced 8 x.consumer = false →
    Completes (.queueStall q) s (fun t => t.fenced 8 x.consumer = true) := by
  intro s q x e rest hs h1 h2 h3 h4 h5
  refine ⟨_, rfl, ?_⟩
  dsimp only
  rw [h1, h2]
  dsimp only
  rw [if_pos h3]
  refine fenceBlock_fenced (s := s.mapFab (fun f => { f with queues := putAt q.val { x with entries := [] } f.queues })) ?_ 8 x.consumer _ h4 h5
  unfold State.Shape State.shape State.mapFab putAt at *
  simpa [updAt_length] using hs

/-- REFERENCE_QUALIFYING (R324). -/
theorem referenceQualifying_effect :
  ∀ (s : State), s.clk.ref = .lost → Completes .referenceQualifying s (fun t => t.clk = { s.clk with ref := .qualifying }) := by
  intro s h
  refine ⟨_, rfl, ?_⟩
  rw [if_pos (by rw [h]; rfl)]

/-- CONDUCTING_FEED_CHANGE (R418). -/
theorem conductingFeedChange_effect :
  ∀ (s : State) (va vb : BitVec 16), Completes (.conductingFeedChange va vb) s (fun t => t.pwr.feedA.volt = va.toNat ∧ t.pwr.feedB.volt = vb.toNat ∧
    (s.pwr.conduct = .a → va.toNat + 30 ≤ vb.toNat → t.pwr.conduct = .b) ∧ (s.pwr.conduct = .b → vb.toNat + 30 ≤ va.toNat → t.pwr.conduct = .a) ∧
    (s.pwr.conduct = .a → vb.toNat < va.toNat + 30 → t.pwr.conduct = .a) ∧ (s.pwr.conduct = .b → va.toNat < vb.toNat + 30 → t.pwr.conduct = .b)) := by
  intro s va vb
  refine ⟨_, rfl, rfl, rfl, fun a b => ?_, fun a b => ?_, fun a b => ?_, fun a b => ?_⟩ <;> (unfold State.mapPwr; dsimp only; rw [a])
  · rw [decide_eq_true b]; rfl
  · rw [decide_eq_true b]; rfl
  · rw [decide_eq_false (Nat.not_le.2 b)]; rfl
  · rw [decide_eq_false (Nat.not_le.2 b)]; rfl

/-- OUTPUT_COOLED (R371). -/
theorem outputCooled_effect :
  ∀ (s : State) (p : Fin 32), s.Shape → Completes (.outputCooled p) s (fun t => (t.pin p.val).hot = false ∧
    (∀ t0, (s.pin p.val).retryAt = some t0 → t0 ≤ s.now → s.command p.val = true → s.fieldSeen = true → (t.pin p.val).retryAt = none)) := by
  intro s p hs
  refine ⟨_, rfl, ?_⟩
  unfold State.pinRetry
  dsimp only
  rw [pin_putPin hs]
  have hc : (s.putPin p.val { s.pin p.val with hot := false }).command p.val = s.command p.val := command_putPin hs p _ rfl
  have hsh := putPin_Shape hs p.val { s.pin p.val with hot := false }
  dsimp only
  split
  · rename_i t0 h0
    split
    · rw [pin_field (State.note_field ..), pin_putPin hsh]
      exact ⟨rfl, fun _ _ _ _ _ => rfl⟩
    · rename_i hn
      rw [pin_putPin hs]
      refine ⟨rfl, fun t1 e a b hf => absurd ?_ hn⟩
      rw [h0] at e
      cases e
      have e2 : decide (t0 ≤ (s.putPin p.val { s.pin p.val with hot := false }).now) = true := decide_eq_true a
      rw [e2, hc, b]
      exact hf
  · rename_i h0
    rw [pin_putPin hs]
    exact ⟨rfl, fun t1 e => by rw [h0] at e; cases e⟩

/-- APPLICATION_FRAME (R503). -/
theorem applicationFrame_effect :
  ∀ (s : State) (p : Side) (rct : Option (Nat × Nat)) (nbits : Nat), Completes (.applicationFrame p rct nbits) s (fun t =>
    ∃ f, t = { s with fab := f } ∧ f.netUp = s.fab.netUp) := by
  intro s p rct nbits
  refine ⟨_, rfl, ?_⟩
  exact ingress_ind s p rct .other nbits (fun r => ∃ f, r.2 = { s with fab := f } ∧ f.netUp = s.fab.netUp) (fun a f hf => ⟨f, rfl, hf⟩)

end Sys2Proof.Machine
end

