-- ==== Sys2Proof/Laws/Exec.lean ====
section
/-! SUPPORT. What every command does: it answers a next state, keeps the form of the state, and changes only the parts of its
footprint. -/
namespace Sys2Proof.Machine

set_option Elab.async false
set_option linter.all false

/-- Every command answers a next state. -/
theorem exec_next (c : Instr) (s : State) : ∃ t, exec c s = .next t := by
  cases c <;> exact ⟨_, rfl⟩

theorem exec_fin {m : Nat} {c : Instr} {s t : State} (h : OutKeeps m s (exec c s)) (e : exec c s = .next t)
  (hf : covers m (footprint c) = true) : (s.Good → t.Good) ∧ ∀ p, p ∉ footprint c → p.same s t := by
  rw [e] at h
  exact ⟨h.good, h.parts hf⟩
/-- What every command keeps: the form of the state, and every part outside its footprint. -/
theorem exec_all {c : Instr} {s t : State} (e : exec c s = .next t) : (s.Good → t.Good) ∧ ∀ p, p ∉ footprint c → p.same s t := by
  cases c
  case psDatagram => exact exec_fin execPsDatagram_keeps e rfl
  case readRequest => exact exec_fin execReadRequest_keeps e rfl
  case writeRequest => exact exec_fin execWriteRequest_keeps e rfl
  case readBlock => exact exec_fin execReadBlock_keeps e rfl
  case writeBlock => exact exec_fin execWriteBlock_keeps e rfl
  case describeRequest => exact exec_fin execDescribeRequest_keeps e rfl
  case helloRequest => exact exec_fin execHelloRequest_keeps e rfl
  case openSession => exact exec_fin execOpenSession_keeps e rfl
  case closeSession => exact exec_fin execCloseSession_keeps e rfl
  case claimOwner => exact exec_fin execClaimOwner_keeps e rfl
  case stagedWriteApply => exact exec_fin execStagedWriteApply_keeps e rfl
  case clientStateExpiry => exact exec_fin execClientStateExpiry_keeps e rfl
  case runStart => exact exec_fin execRunStart_keeps e rfl
  case runStop => exact exec_fin execRunStop_keeps e rfl
  case startCheckDone => exact exec_fin execStartCheckDone_keeps e rfl
  case stopComplete => exact exec_fin execStopComplete_keeps e rfl
  case modeRequestCommission => exact exec_fin execModeRequestCommission_keeps e rfl
  case modeRequestBlocked => exact exec_fin execModeRequestBlocked_keeps e rfl
  case modeRequestForming => exact exec_fin execModeRequestForming_keeps e rfl
  case applicationResetCommand => exact exec_fin execApplicationResetCommand_keeps e rfl
  case systemResetCommand => exact exec_fin execSystemResetCommand_keeps e rfl
  case configCommit => exact exec_fin execConfigCommit_keeps e rfl
  case configCommitDone => exact exec_fin execConfigCommitDone_keeps e rfl
  case tickLengthWrite => exact exec_fin execTickLengthWrite_keeps e rfl
  case stationSetpointWrite => exact exec_fin execStationSetpointWrite_keeps e rfl
  case failNow => exact exec_fin execFailNow_keeps e rfl
  case failReasonWrite => exact exec_fin execFailReasonWrite_keeps e rfl
  case gdVerify => exact exec_fin execGdVerify_keeps e rfl
  case injCommand => exact exec_fin execInjCommand_keeps e rfl
  case clkCommit => exact exec_fin execClkCommit_keeps e rfl
  case timeSet => exact exec_fin execTimeSet_keeps e rfl
  case outSet => exact exec_fin execOutSet_keeps e rfl
  case outClear => exact exec_fin execOutClear_keeps e rfl
  case pinClear => exact exec_fin execPinClear_keeps e rfl
  case forceWrite => exact exec_fin execForceWrite_keeps e rfl
  case safeReset => exact exec_fin execSafeReset_keeps e rfl
  case safetyConfirm => exact exec_fin execSafetyConfirm_keeps e rfl
  case safetySetWrite => exact exec_fin execSafetySetWrite_keeps e rfl
  case protSetWrite => exact exec_fin execProtSetWrite_keeps e rfl
  case protStart => exact exec_fin execProtStart_keeps e rfl
  case attestRequest => exact exec_fin execAttestRequest_keeps e rfl
  case attestSigned => exact exec_fin execAttestSigned_keeps e rfl
  case ownerKeysWrite => exact exec_fin execOwnerKeysWrite_keeps e rfl
  case credMinGenWrite => exact exec_fin execCredMinGenWrite_keeps e rfl
  case fuseSvn => exact exec_fin execFuseSvn_keeps e rfl
  case appMinSvnWrite => exact exec_fin execAppMinSvnWrite_keeps e rfl
  case debugLockSet => exact exec_fin execDebugLockSet_keeps e rfl
  case sessionClose => exact exec_fin execSessionClose_keeps e rfl
  case switchover => exact exec_fin execSwitchover_keeps e rfl
  case recorderClear => exact exec_fin execRecorderClear_keeps e rfl
  case windowSnapshot => exact exec_fin execWindowSnapshot_keeps e rfl
  case registerWrite => exact exec_fin execRegisterWrite_keeps e rfl
  case selectRegisterWrite => exact exec_fin execSelectRegisterWrite_keeps e rfl
  case errorClear => exact exec_fin execErrorClear_keeps e rfl
  case unfence => exact exec_fin execUnfence_keeps e rfl
  case fenceSelftestDone => exact exec_fin execFenceSelftestDone_keeps e rfl
  case semAcquire => exact exec_fin execSemAcquire_keeps e rfl
  case semRelease => exact exec_fin execSemRelease_keeps e rfl
  case semRenew => exact exec_fin execSemRenew_keeps e rfl
  case queuePost => exact exec_fin execQueuePost_keeps e rfl
  case queueTake => exact exec_fin execQueueTake_keeps e rfl
  case recOffer => exact exec_fin execRecOffer_keeps e rfl
  case timeSecLoRead => exact exec_fin execTimeSecLoRead_keeps e rfl
  case recNewestLoRead => exact exec_fin execRecNewestLoRead_keeps e rfl
  case recOldestLoRead => exact exec_fin execRecOldestLoRead_keeps e rfl
  case dbgChallenge => exact exec_fin execDbgChallenge_keeps e rfl
  case dbgResponse => exact exec_fin execDbgResponse_keeps e rfl
  case dbgAccess => exact exec_fin execDbgAccess_keeps e rfl
  case dbgReset => exact exec_fin execDbgReset_keeps e rfl
  case dbgEnd => exact exec_fin execDbgEnd_keeps e rfl
  case extest => exact exec_fin execExtest_keeps e rfl
  case idcode => exact exec_fin execIdcode_keeps e rfl
  case bypass => exact exec_fin execBypass_keeps e rfl
  case samplePreload => exact exec_fin execSamplePreload_keeps e rfl
  case dbgLockoutEnd => exact exec_fin execDbgLockoutEnd_keeps e rfl
  case dbgIdleTimeout => exact exec_fin execDbgIdleTimeout_keeps e rfl
  case powerOnReset => exact exec_fin execPowerOnReset_keeps e rfl
  case sysResetN => exact exec_fin execSysResetN_keeps e rfl
  case hkWatchdogExpiry => exact exec_fin execHkWatchdogExpiry_keeps e rfl
  case appWatchdogExpiry => exact exec_fin execAppWatchdogExpiry_keeps e rfl
  case bootSequence => exact exec_fin execBootSequence_keeps e rfl
  case dpxListenWindowEnd => exact exec_fin execDpxListenWindowEnd_keeps e rfl
  case firmwareVerify => exact exec_fin execFirmwareVerify_keeps e rfl
  case feedStateChange => exact exec_fin execFeedStateChange_keeps e rfl
  case vdd3v3Check => exact exec_fin execVdd3v3Check_keeps e rfl
  case pmbusPoll => exact exec_fin execPmbusPoll_keeps e rfl
  case pmbAlert => exact exec_fin execPmbAlert_keeps e rfl
  case tick => exact exec_fin execTick_keeps e rfl
  case formingPeriodBoundary => exact exec_fin execFormingPeriodBoundary_keeps e rfl
  case extSlotsRun => exact exec_fin execExtSlotsRun_keeps e rfl
  case extSlotOverrun => exact exec_fin execExtSlotOverrun_keeps e rfl
  case extRestoreReached => exact exec_fin execExtRestoreReached_keeps e rfl
  case refsSend => exact exec_fin execRefsSend_keeps e rfl
  case periodLastTick => exact exec_fin execPeriodLastTick_keeps e rfl
  case markerMsg => exact exec_fin execMarkerMsg_keeps e rfl
  case shareMsg => exact exec_fin execShareMsg_keeps e rfl
  case spanReport => exact exec_fin execSpanReport_keeps e rfl
  case armState => exact exec_fin execArmState_keeps e rfl
  case rollCall => exact exec_fin execRollCall_keeps e rfl
  case spanPub => exact exec_fin execSpanPub_keeps e rfl
  case measMsg => exact exec_fin execMeasMsg_keeps e rfl
  case setpointMsg => exact exec_fin execSetpointMsg_keeps e rfl
  case refsMsg => exact exec_fin execRefsMsg_keeps e rfl
  case stateMsg => exact exec_fin execStateMsg_keeps e rfl
  case spineEcho => exact exec_fin execSpineEcho_keeps e rfl
  case spineEchoReply => exact exec_fin execSpineEchoReply_keeps e rfl
  case segmentMeasure => exact exec_fin execSegmentMeasure_keeps e rfl
  case spinePortLockLost => exact exec_fin execSpinePortLockLost_keeps e rfl
  case spinePortRestored => exact exec_fin execSpinePortRestored_keeps e rfl
  case markerWaitExpiry => exact exec_fin execMarkerWaitExpiry_keeps e rfl
  case markerMissing => exact exec_fin execMarkerMissing_keeps e rfl
  case markerLossTrip => exact exec_fin execMarkerLossTrip_keeps e rfl
  case tickLockAcquired => exact exec_fin execTickLockAcquired_keeps e rfl
  case shareMissing => exact exec_fin execShareMissing_keeps e rfl
  case shareMissTrip => exact exec_fin execShareMissTrip_keeps e rfl
  case reportMissingTrip => exact exec_fin execReportMissingTrip_keeps e rfl
  case armStateMissing => exact exec_fin execArmStateMissing_keeps e rfl
  case leadWaitExpiry => exact exec_fin execLeadWaitExpiry_keeps e rfl
  case refsLostTrip => exact exec_fin execRefsLostTrip_keeps e rfl
  case substituteLimitExpiry => exact exec_fin execSubstituteLimitExpiry_keeps e rfl
  case primaryRestore => exact exec_fin execPrimaryRestore_keeps e rfl
  case shadowMismatchLimit => exact exec_fin execShadowMismatchLimit_keeps e rfl
  case shadowMatchRestore => exact exec_fin execShadowMatchRestore_keeps e rfl
  case syncTimeout => exact exec_fin execSyncTimeout_keeps e rfl
  case syncFbTimeout => exact exec_fin execSyncFbTimeout_keeps e rfl
  case syncDwellElapsed => exact exec_fin execSyncDwellElapsed_keeps e rfl
  case syncPulseEnd => exact exec_fin execSyncPulseEnd_keeps e rfl
  case settleDwellElapsed => exact exec_fin execSettleDwellElapsed_keeps e rfl
  case bsRampComplete => exact exec_fin execBsRampComplete_keeps e rfl
  case bsStallExpiry => exact exec_fin execBsStallExpiry_keeps e rfl
  case rideEntry => exact exec_fin execRideEntry_keeps e rfl
  case rideTClearElapsed => exact exec_fin execRideTClearElapsed_keeps e rfl
  case recoverComplete => exact exec_fin execRecoverComplete_keeps e rfl
  case rideTMaxExpiry => exact exec_fin execRideTMaxExpiry_keeps e rfl
  case regionDwellExpiry => exact exec_fin execRegionDwellExpiry_keeps e rfl
  case refreshDue => exact exec_fin execRefreshDue_keeps e rfl
  case bsRecoverTimeout => exact exec_fin execBsRecoverTimeout_keeps e rfl
  case dwellExpiry => exact exec_fin execDwellExpiry_keeps e rfl
  case swPeriodEnd => exact exec_fin execSwPeriodEnd_keeps e rfl
  case telStaleExceeded => exact exec_fin execTelStaleExceeded_keeps e rfl
  case telLost => exact exec_fin execTelLost_keeps e rfl
  case appliedMismatchLimit => exact exec_fin execAppliedMismatchLimit_keeps e rfl
  case uplinkFrame => exact exec_fin execUplinkFrame_keeps e rfl
  case trunkEchoReply => exact exec_fin execTrunkEchoReply_keeps e rfl
  case delayAck => exact exec_fin execDelayAck_keeps e rfl
  case cellDelays => exact exec_fin execCellDelays_keeps e rfl
  case hubInfo => exact exec_fin execHubInfo_keeps e rfl
  case hubAlarm => exact exec_fin execHubAlarm_keeps e rfl
  case mgmtRequestTimeout => exact exec_fin execMgmtRequestTimeout_keeps e rfl
  case trunkTrainComplete => exact exec_fin execTrunkTrainComplete_keeps e rfl
  case trunkMeasureComplete => exact exec_fin execTrunkMeasureComplete_keeps e rfl
  case trunkAlignComplete => exact exec_fin execTrunkAlignComplete_keeps e rfl
  case trunkVerifyComplete => exact exec_fin execTrunkVerifyComplete_keeps e rfl
  case trunkRetryExpiry => exact exec_fin execTrunkRetryExpiry_keeps e rfl
  case trunkBlockLockLost => exact exec_fin execTrunkBlockLockLost_keeps e rfl
  case trunkLeavesUp => exact exec_fin execTrunkLeavesUp_keeps e rfl
  case mailboxReadTimeout => exact exec_fin execMailboxReadTimeout_keeps e rfl
  case periodicReadback => exact exec_fin execPeriodicReadback_keeps e rfl
  case senseCalibrationDone => exact exec_fin execSenseCalibrationDone_keeps e rfl
  case historyFilled => exact exec_fin execHistoryFilled_keeps e rfl
  case rotationHandover => exact exec_fin execRotationHandover_keeps e rfl
  case switchEdge => exact exec_fin execSwitchEdge_keeps e rfl
  case handoverDeferralLimit => exact exec_fin execHandoverDeferralLimit_keeps e rfl
  case calibrateComplete => exact exec_fin execCalibrateComplete_keeps e rfl
  case internalChannelConverted => exact exec_fin execInternalChannelConverted_keeps e rfl
  case comparatorCrossing => exact exec_fin execComparatorCrossing_keeps e rfl
  case comparatorRelease => exact exec_fin execComparatorRelease_keeps e rfl
  case frozenWindowEnd => exact exec_fin execFrozenWindowEnd_keeps e rfl
  case saturationLost => exact exec_fin execSaturationLost_keeps e rfl
  case saturationClear => exact exec_fin execSaturationClear_keeps e rfl
  case testInjection => exact exec_fin execTestInjection_keeps e rfl
  case ainTrigEdge => exact exec_fin execAinTrigEdge_keeps e rfl
  case injectedSampleDone => exact exec_fin execInjectedSampleDone_keeps e rfl
  case referenceLost => exact exec_fin execReferenceLost_keeps e rfl
  case referencePresent => exact exec_fin execReferencePresent_keeps e rfl
  case pllLock => exact exec_fin execPllLock_keeps e rfl
  case pllLockLost => exact exec_fin execPllLockLost_keeps e rfl
  case acquisitionTimeout => exact exec_fin execAcquisitionTimeout_keeps e rfl
  case freqMonitorWindow => exact exec_fin execFreqMonitorWindow_keeps e rfl
  case referenceLoss10s => exact exec_fin execReferenceLoss10s_keeps e rfl
  case backupSwitchDone => exact exec_fin execBackupSwitchDone_keeps e rfl
  case backupTrim => exact exec_fin execBackupTrim_keeps e rfl
  case monitorRatioMeasure => exact exec_fin execMonitorRatioMeasure_keeps e rfl
  case relockFDone => exact exec_fin execRelockFDone_keeps e rfl
  case relockPDone => exact exec_fin execRelockPDone_keeps e rfl
  case backupReturn => exact exec_fin execBackupReturn_keeps e rfl
  case heldCommitApply => exact exec_fin execHeldCommitApply_keeps e rfl
  case ptpSync => exact exec_fin execPtpSync_keeps e rfl
  case ptpFollowUp => exact exec_fin execPtpFollowUp_keeps e rfl
  case ptpAnnounce => exact exec_fin execPtpAnnounce_keeps e rfl
  case ptpPdelay => exact exec_fin execPtpPdelay_keeps e rfl
  case pdelayReqSend => exact exec_fin execPdelayReqSend_keeps e rfl
  case ptpMasterSend => exact exec_fin execPtpMasterSend_keeps e rfl
  case announceTimeout => exact exec_fin execAnnounceTimeout_keeps e rfl
  case syncLoss => exact exec_fin execSyncLoss_keeps e rfl
  case holdoverExpiry => exact exec_fin execHoldoverExpiry_keeps e rfl
  case secondRollover => exact exec_fin execSecondRollover_keeps e rfl
  case mdioLinkPoll => exact exec_fin execMdioLinkPoll_keeps e rfl
  case prpSupervisionSend => exact exec_fin execPrpSupervisionSend_keeps e rfl
  case prpSupervisionReceived => exact exec_fin execPrpSupervisionReceived_keeps e rfl
  case barrierFrame => exact exec_fin execBarrierFrame_keeps e rfl
  case barrierLinkDown => exact exec_fin execBarrierLinkDown_keeps e rfl
  case barrierLinkRestored => exact exec_fin execBarrierLinkRestored_keeps e rfl
  case inputDebounceChange => exact exec_fin execInputDebounceChange_keeps e rfl
  case outputOverload => exact exec_fin execOutputOverload_keeps e rfl
  case outputThermal => exact exec_fin execOutputThermal_keeps e rfl
  case outputRetry => exact exec_fin execOutputRetry_keeps e rfl
  case overloadFlagClear => exact exec_fin execOverloadFlagClear_keeps e rfl
  case wireBreak => exact exec_fin execWireBreak_keeps e rfl
  case outputDiagTimer => exact exec_fin execOutputDiagTimer_keeps e rfl
  case pinReversed => exact exec_fin execPinReversed_keeps e rfl
  case lpSample => exact exec_fin execLpSample_keeps e rfl
  case lpRestore => exact exec_fin execLpRestore_keeps e rfl
  case safetyCycle => exact exec_fin execSafetyCycle_keeps e rfl
  case protItemLatch => exact exec_fin execProtItemLatch_keeps e rfl
  case discrepancyTimeout => exact exec_fin execDiscrepancyTimeout_keeps e rfl
  case intlkDwellElapsed => exact exec_fin execIntlkDwellElapsed_keeps e rfl
  case lockstepMismatch => exact exec_fin execLockstepMismatch_keeps e rfl
  case lockstepSelftestFail => exact exec_fin execLockstepSelftestFail_keeps e rfl
  case soSwitchOnStep => exact exec_fin execSoSwitchOnStep_keeps e rfl
  case soTestPulseDue => exact exec_fin execSoTestPulseDue_keeps e rfl
  case soPulseEnd => exact exec_fin execSoPulseEnd_keeps e rfl
  case soDiagTimer => exact exec_fin execSoDiagTimer_keeps e rfl
  case safetyFrame => exact exec_fin execSafetyFrame_keeps e rfl
  case slProduce => exact exec_fin execSlProduce_keeps e rfl
  case slWatchdogExpiry => exact exec_fin execSlWatchdogExpiry_keeps e rfl
  case beatSend => exact exec_fin execBeatSend_keeps e rfl
  case beatMsg a b c d e1 f g => exact exec_fin (execBeatMsg_keeps) e rfl
  case ckpt => exact exec_fin execCkpt_keeps e rfl
  case mirror => exact exec_fin execMirror_keeps e rfl
  case handback => exact exec_fin execHandback_keeps e rfl
  case statusSend => exact exec_fin execStatusSend_keeps e rfl
  case statusMsg => exact exec_fin execStatusMsg_keeps e rfl
  case hbAck => exact exec_fin execHbAck_keeps e rfl
  case dpxLinkDown => exact exec_fin execDpxLinkDown_keeps e rfl
  case holderLeaseExpiry => exact exec_fin execHolderLeaseExpiry_keeps e rfl
  case yieldReset => exact exec_fin execYieldReset_keeps e rfl
  case storeLeaseExpiry => exact exec_fin execStoreLeaseExpiry_keeps e rfl
  case livenessCheck => exact exec_fin execLivenessCheck_keeps e rfl
  case takeoverBringupDone => exact exec_fin execTakeoverBringupDone_keeps e rfl
  case coldAcquisition => exact exec_fin execColdAcquisition_keeps e rfl
  case preparedEntry => exact exec_fin execPreparedEntry_keeps e rfl
  case warmReached => exact exec_fin execWarmReached_keeps e rfl
  case handbackModeEntry => exact exec_fin execHandbackModeEntry_keeps e rfl
  case handbackEpochRaise => exact exec_fin execHandbackEpochRaise_keeps e rfl
  case handbackTransfer => exact exec_fin execHandbackTransfer_keeps e rfl
  case holderOutputRelease => exact exec_fin execHolderOutputRelease_keeps e rfl
  case powerDownColdComplete => exact exec_fin execPowerDownColdComplete_keeps e rfl
  case eventOffer => exact exec_fin execEventOffer_keeps e rfl
  case folioWrite => exact exec_fin execFolioWrite_keeps e rfl
  case lmsTokenRefill => exact exec_fin execLmsTokenRefill_keeps e rfl
  case helloExpiry => exact exec_fin execHelloExpiry_keeps e rfl
  case sessionTimeout => exact exec_fin execSessionTimeout_keeps e rfl
  case syncTimeStore => exact exec_fin execSyncTimeStore_keeps e rfl
  case uncorrectableError => exact exec_fin execUncorrectableError_keeps e rfl
  case parityError => exact exec_fin execParityError_keeps e rfl
  case eccCorrected => exact exec_fin execEccCorrected_keeps e rfl
  case handshakeTimeout => exact exec_fin execHandshakeTimeout_keeps e rfl
  case semLeaseExpiry => exact exec_fin execSemLeaseExpiry_keeps e rfl
  case queueStall => exact exec_fin execQueueStall_keeps e rfl
  case referenceQualifying => exact exec_fin execReferenceQualifying_keeps e rfl
  case conductingFeedChange => exact exec_fin execConductingFeedChange_keeps e rfl
  case outputCooled => exact exec_fin execOutputCooled_keeps e rfl
  case applicationFrame => exact exec_fin execApplicationFrame_keeps e rfl

theorem exec_fin2 {m : Nat} {c : Instr} {s t : State} (hs : s.Shut) (h : OutKeeps m s (exec c s)) (e : exec c s = .next t)
  (hf : m.testBit 34 = false) : t.Shut := by
  rw [e] at h
  exact h.shut hf hs
/-- No command but the end of the listen window leads out of SAFE and BOOT to another mode. -/
theorem exec_shut {c : Instr} {s t : State} (n : c ≠ .dpxListenWindowEnd) (e : exec c s = .next t) (hs : s.Shut) : t.Shut := by
  cases c
  case psDatagram => exact exec_fin2 hs execPsDatagram_keeps e rfl
  case readRequest => exact exec_fin2 hs execReadRequest_keeps e rfl
  case writeRequest => exact exec_fin2 hs execWriteRequest_keeps e rfl
  case readBlock => exact exec_fin2 hs execReadBlock_keeps e rfl
  case writeBlock => exact exec_fin2 hs execWriteBlock_keeps e rfl
  case describeRequest => exact exec_fin2 hs execDescribeRequest_keeps e rfl
  case helloRequest => exact exec_fin2 hs execHelloRequest_keeps e rfl
  case openSession => exact exec_fin2 hs execOpenSession_keeps e rfl
  case closeSession => exact exec_fin2 hs execCloseSession_keeps e rfl
  case claimOwner => exact exec_fin2 hs execClaimOwner_keeps e rfl
  case stagedWriteApply => exact exec_fin2 hs execStagedWriteApply_keeps e rfl
  case clientStateExpiry => exact exec_fin2 hs execClientStateExpiry_keeps e rfl
  case runStart => exact exec_fin2 hs execRunStart_keeps e rfl
  case runStop => exact exec_fin2 hs execRunStop_keeps e rfl
  case startCheckDone => exact exec_fin2 hs execStartCheckDone_keeps e rfl
  case stopComplete => exact exec_fin2 hs execStopComplete_keeps e rfl
  case modeRequestCommission => exact exec_fin2 hs execModeRequestCommission_keeps e rfl
  case modeRequestBlocked => exact exec_fin2 hs execModeRequestBlocked_keeps e rfl
  case modeRequestForming => exact exec_fin2 hs execModeRequestForming_keeps e rfl
  case applicationResetCommand => exact exec_fin2 hs execApplicationResetCommand_keeps e rfl
  case systemResetCommand => exact exec_fin2 hs execSystemResetCommand_keeps e rfl
  case configCommit => exact exec_fin2 hs execConfigCommit_keeps e rfl
  case configCommitDone => exact exec_fin2 hs execConfigCommitDone_keeps e rfl
  case tickLengthWrite => exact exec_fin2 hs execTickLengthWrite_keeps e rfl
  case stationSetpointWrite => exact exec_fin2 hs execStationSetpointWrite_keeps e rfl
  case failNow => exact exec_fin2 hs execFailNow_keeps e rfl
  case failReasonWrite => exact exec_fin2 hs execFailReasonWrite_keeps e rfl
  case gdVerify => exact exec_fin2 hs execGdVerify_keeps e rfl
  case injCommand => exact exec_fin2 hs execInjCommand_keeps e rfl
  case clkCommit => exact exec_fin2 hs execClkCommit_keeps e rfl
  case timeSet => exact exec_fin2 hs execTimeSet_keeps e rfl
  case outSet => exact exec_fin2 hs execOutSet_keeps e rfl
  case outClear => exact exec_fin2 hs execOutClear_keeps e rfl
  case pinClear => exact exec_fin2 hs execPinClear_keeps e rfl
  case forceWrite => exact exec_fin2 hs execForceWrite_keeps e rfl
  case safeReset => exact exec_fin2 hs execSafeReset_keeps e rfl
  case safetyConfirm => exact exec_fin2 hs execSafetyConfirm_keeps e rfl
  case safetySetWrite => exact exec_fin2 hs execSafetySetWrite_keeps e rfl
  case protSetWrite => exact exec_fin2 hs execProtSetWrite_keeps e rfl
  case protStart => exact exec_fin2 hs execProtStart_keeps e rfl
  case attestRequest => exact exec_fin2 hs execAttestRequest_keeps e rfl
  case attestSigned => exact exec_fin2 hs execAttestSigned_keeps e rfl
  case ownerKeysWrite => exact exec_fin2 hs execOwnerKeysWrite_keeps e rfl
  case credMinGenWrite => exact exec_fin2 hs execCredMinGenWrite_keeps e rfl
  case fuseSvn => exact exec_fin2 hs execFuseSvn_keeps e rfl
  case appMinSvnWrite => exact exec_fin2 hs execAppMinSvnWrite_keeps e rfl
  case debugLockSet => exact exec_fin2 hs execDebugLockSet_keeps e rfl
  case sessionClose => exact exec_fin2 hs execSessionClose_keeps e rfl
  case switchover => exact exec_fin2 hs execSwitchover_keeps e rfl
  case recorderClear => exact exec_fin2 hs execRecorderClear_keeps e rfl
  case windowSnapshot => exact exec_fin2 hs execWindowSnapshot_keeps e rfl
  case registerWrite => exact exec_fin2 hs execRegisterWrite_keeps e rfl
  case selectRegisterWrite => exact exec_fin2 hs execSelectRegisterWrite_keeps e rfl
  case errorClear => exact exec_fin2 hs execErrorClear_keeps e rfl
  case unfence => exact exec_fin2 hs execUnfence_keeps e rfl
  case fenceSelftestDone => exact exec_fin2 hs execFenceSelftestDone_keeps e rfl
  case semAcquire => exact exec_fin2 hs execSemAcquire_keeps e rfl
  case semRelease => exact exec_fin2 hs execSemRelease_keeps e rfl
  case semRenew => exact exec_fin2 hs execSemRenew_keeps e rfl
  case queuePost => exact exec_fin2 hs execQueuePost_keeps e rfl
  case queueTake => exact exec_fin2 hs execQueueTake_keeps e rfl
  case recOffer => exact exec_fin2 hs execRecOffer_keeps e rfl
  case timeSecLoRead => exact exec_fin2 hs execTimeSecLoRead_keeps e rfl
  case recNewestLoRead => exact exec_fin2 hs execRecNewestLoRead_keeps e rfl
  case recOldestLoRead => exact exec_fin2 hs execRecOldestLoRead_keeps e rfl
  case dbgChallenge => exact exec_fin2 hs execDbgChallenge_keeps e rfl
  case dbgResponse => exact exec_fin2 hs execDbgResponse_keeps e rfl
  case dbgAccess => exact exec_fin2 hs execDbgAccess_keeps e rfl
  case dbgReset => exact exec_fin2 hs execDbgReset_keeps e rfl
  case dbgEnd => exact exec_fin2 hs execDbgEnd_keeps e rfl
  case extest => exact exec_fin2 hs execExtest_keeps e rfl
  case idcode => exact exec_fin2 hs execIdcode_keeps e rfl
  case bypass => exact exec_fin2 hs execBypass_keeps e rfl
  case samplePreload => exact exec_fin2 hs execSamplePreload_keeps e rfl
  case dbgLockoutEnd => exact exec_fin2 hs execDbgLockoutEnd_keeps e rfl
  case dbgIdleTimeout => exact exec_fin2 hs execDbgIdleTimeout_keeps e rfl
  case powerOnReset => exact exec_fin2 hs execPowerOnReset_keeps e rfl
  case sysResetN => exact exec_fin2 hs execSysResetN_keeps e rfl
  case hkWatchdogExpiry => exact exec_fin2 hs execHkWatchdogExpiry_keeps e rfl
  case appWatchdogExpiry => exact exec_fin2 hs execAppWatchdogExpiry_keeps e rfl
  case bootSequence => exact exec_fin2 hs execBootSequence_keeps e rfl
  case dpxListenWindowEnd => exact absurd rfl n
  case firmwareVerify => exact exec_fin2 hs execFirmwareVerify_keeps e rfl
  case feedStateChange => exact exec_fin2 hs execFeedStateChange_keeps e rfl
  case vdd3v3Check => exact exec_fin2 hs execVdd3v3Check_keeps e rfl
  case pmbusPoll => exact exec_fin2 hs execPmbusPoll_keeps e rfl
  case pmbAlert => exact exec_fin2 hs execPmbAlert_keeps e rfl
  case tick => exact exec_fin2 hs execTick_keeps e rfl
  case formingPeriodBoundary => exact exec_fin2 hs execFormingPeriodBoundary_keeps e rfl
  case extSlotsRun => exact exec_fin2 hs execExtSlotsRun_keeps e rfl
  case extSlotOverrun => exact exec_fin2 hs execExtSlotOverrun_keeps e rfl
  case extRestoreReached => exact exec_fin2 hs execExtRestoreReached_keeps e rfl
  case refsSend => exact exec_fin2 hs execRefsSend_keeps e rfl
  case periodLastTick => exact exec_fin2 hs execPeriodLastTick_keeps e rfl
  case markerMsg => exact exec_fin2 hs execMarkerMsg_keeps e rfl
  case shareMsg => exact exec_fin2 hs execShareMsg_keeps e rfl
  case spanReport => exact exec_fin2 hs execSpanReport_keeps e rfl
  case armState => exact exec_fin2 hs execArmState_keeps e rfl
  case rollCall => exact exec_fin2 hs execRollCall_keeps e rfl
  case spanPub => exact exec_fin2 hs execSpanPub_keeps e rfl
  case measMsg => exact exec_fin2 hs execMeasMsg_keeps e rfl
  case setpointMsg => exact exec_fin2 hs execSetpointMsg_keeps e rfl
  case refsMsg => exact exec_fin2 hs execRefsMsg_keeps e rfl
  case stateMsg => exact exec_fin2 hs execStateMsg_keeps e rfl
  case spineEcho => exact exec_fin2 hs execSpineEcho_keeps e rfl
  case spineEchoReply => exact exec_fin2 hs execSpineEchoReply_keeps e rfl
  case segmentMeasure => exact exec_fin2 hs execSegmentMeasure_keeps e rfl
  case spinePortLockLost => exact exec_fin2 hs execSpinePortLockLost_keeps e rfl
  case spinePortRestored => exact exec_fin2 hs execSpinePortRestored_keeps e rfl
  case markerWaitExpiry => exact exec_fin2 hs execMarkerWaitExpiry_keeps e rfl
  case markerMissing => exact exec_fin2 hs execMarkerMissing_keeps e rfl
  case markerLossTrip => exact exec_fin2 hs execMarkerLossTrip_keeps e rfl
  case tickLockAcquired => exact exec_fin2 hs execTickLockAcquired_keeps e rfl
  case shareMissing => exact exec_fin2 hs execShareMissing_keeps e rfl
  case shareMissTrip => exact exec_fin2 hs execShareMissTrip_keeps e rfl
  case reportMissingTrip => exact exec_fin2 hs execReportMissingTrip_keeps e rfl
  case armStateMissing => exact exec_fin2 hs execArmStateMissing_keeps e rfl
  case leadWaitExpiry => exact exec_fin2 hs execLeadWaitExpiry_keeps e rfl
  case refsLostTrip => exact exec_fin2 hs execRefsLostTrip_keeps e rfl
  case substituteLimitExpiry => exact exec_fin2 hs execSubstituteLimitExpiry_keeps e rfl
  case primaryRestore => exact exec_fin2 hs execPrimaryRestore_keeps e rfl
  case shadowMismatchLimit => exact exec_fin2 hs execShadowMismatchLimit_keeps e rfl
  case shadowMatchRestore => exact exec_fin2 hs execShadowMatchRestore_keeps e rfl
  case syncTimeout => exact exec_fin2 hs execSyncTimeout_keeps e rfl
  case syncFbTimeout => exact exec_fin2 hs execSyncFbTimeout_keeps e rfl
  case syncDwellElapsed => exact exec_fin2 hs execSyncDwellElapsed_keeps e rfl
  case syncPulseEnd => exact exec_fin2 hs execSyncPulseEnd_keeps e rfl
  case settleDwellElapsed => exact exec_fin2 hs execSettleDwellElapsed_keeps e rfl
  case bsRampComplete => exact exec_fin2 hs execBsRampComplete_keeps e rfl
  case bsStallExpiry => exact exec_fin2 hs execBsStallExpiry_keeps e rfl
  case rideEntry => exact exec_fin2 hs execRideEntry_keeps e rfl
  case rideTClearElapsed => exact exec_fin2 hs execRideTClearElapsed_keeps e rfl
  case recoverComplete => exact exec_fin2 hs execRecoverComplete_keeps e rfl
  case rideTMaxExpiry => exact exec_fin2 hs execRideTMaxExpiry_keeps e rfl
  case regionDwellExpiry => exact exec_fin2 hs execRegionDwellExpiry_keeps e rfl
  case refreshDue => exact exec_fin2 hs execRefreshDue_keeps e rfl
  case bsRecoverTimeout => exact exec_fin2 hs execBsRecoverTimeout_keeps e rfl
  case dwellExpiry => exact exec_fin2 hs execDwellExpiry_keeps e rfl
  case swPeriodEnd => exact exec_fin2 hs execSwPeriodEnd_keeps e rfl
  case telStaleExceeded => exact exec_fin2 hs execTelStaleExceeded_keeps e rfl
  case telLost => exact exec_fin2 hs execTelLost_keeps e rfl
  case appliedMismatchLimit => exact exec_fin2 hs execAppliedMismatchLimit_keeps e rfl
  case uplinkFrame => exact exec_fin2 hs execUplinkFrame_keeps e rfl
  case trunkEchoReply => exact exec_fin2 hs execTrunkEchoReply_keeps e rfl
  case delayAck => exact exec_fin2 hs execDelayAck_keeps e rfl
  case cellDelays => exact exec_fin2 hs execCellDelays_keeps e rfl
  case hubInfo => exact exec_fin2 hs execHubInfo_keeps e rfl
  case hubAlarm => exact exec_fin2 hs execHubAlarm_keeps e rfl
  case mgmtRequestTimeout => exact exec_fin2 hs execMgmtRequestTimeout_keeps e rfl
  case trunkTrainComplete => exact exec_fin2 hs execTrunkTrainComplete_keeps e rfl
  case trunkMeasureComplete => exact exec_fin2 hs execTrunkMeasureComplete_keeps e rfl
  case trunkAlignComplete => exact exec_fin2 hs execTrunkAlignComplete_keeps e rfl
  case trunkVerifyComplete => exact exec_fin2 hs execTrunkVerifyComplete_keeps e rfl
  case trunkRetryExpiry => exact exec_fin2 hs execTrunkRetryExpiry_keeps e rfl
  case trunkBlockLockLost => exact exec_fin2 hs execTrunkBlockLockLost_keeps e rfl
  case trunkLeavesUp => exact exec_fin2 hs execTrunkLeavesUp_keeps e rfl
  case mailboxReadTimeout => exact exec_fin2 hs execMailboxReadTimeout_keeps e rfl
  case periodicReadback => exact exec_fin2 hs execPeriodicReadback_keeps e rfl
  case senseCalibrationDone => exact exec_fin2 hs execSenseCalibrationDone_keeps e rfl
  case historyFilled => exact exec_fin2 hs execHistoryFilled_keeps e rfl
  case rotationHandover => exact exec_fin2 hs execRotationHandover_keeps e rfl
  case switchEdge => exact exec_fin2 hs execSwitchEdge_keeps e rfl
  case handoverDeferralLimit => exact exec_fin2 hs execHandoverDeferralLimit_keeps e rfl
  case calibrateComplete => exact exec_fin2 hs execCalibrateComplete_keeps e rfl
  case internalChannelConverted => exact exec_fin2 hs execInternalChannelConverted_keeps e rfl
  case comparatorCrossing => exact exec_fin2 hs execComparatorCrossing_keeps e rfl
  case comparatorRelease => exact exec_fin2 hs execComparatorRelease_keeps e rfl
  case frozenWindowEnd => exact exec_fin2 hs execFrozenWindowEnd_keeps e rfl
  case saturationLost => exact exec_fin2 hs execSaturationLost_keeps e rfl
  case saturationClear => exact exec_fin2 hs execSaturationClear_keeps e rfl
  case testInjection => exact exec_fin2 hs execTestInjection_keeps e rfl
  case ainTrigEdge => exact exec_fin2 hs execAinTrigEdge_keeps e rfl
  case injectedSampleDone => exact exec_fin2 hs execInjectedSampleDone_keeps e rfl
  case referenceLost => exact exec_fin2 hs execReferenceLost_keeps e rfl
  case referencePresent => exact exec_fin2 hs execReferencePresent_keeps e rfl
  case pllLock => exact exec_fin2 hs execPllLock_keeps e rfl
  case pllLockLost => exact exec_fin2 hs execPllLockLost_keeps e rfl
  case acquisitionTimeout => exact exec_fin2 hs execAcquisitionTimeout_keeps e rfl
  case freqMonitorWindow => exact exec_fin2 hs execFreqMonitorWindow_keeps e rfl
  case referenceLoss10s => exact exec_fin2 hs execReferenceLoss10s_keeps e rfl
  case backupSwitchDone => exact exec_fin2 hs execBackupSwitchDone_keeps e rfl
  case backupTrim => exact exec_fin2 hs execBackupTrim_keeps e rfl
  case monitorRatioMeasure => exact exec_fin2 hs execMonitorRatioMeasure_keeps e rfl
  case relockFDone => exact exec_fin2 hs execRelockFDone_keeps e rfl
  case relockPDone => exact exec_fin2 hs execRelockPDone_keeps e rfl
  case backupReturn => exact exec_fin2 hs execBackupReturn_keeps e rfl
  case heldCommitApply => exact exec_fin2 hs execHeldCommitApply_keeps e rfl
  case ptpSync => exact exec_fin2 hs execPtpSync_keeps e rfl
  case ptpFollowUp => exact exec_fin2 hs execPtpFollowUp_keeps e rfl
  case ptpAnnounce => exact exec_fin2 hs execPtpAnnounce_keeps e rfl
  case ptpPdelay => exact exec_fin2 hs execPtpPdelay_keeps e rfl
  case pdelayReqSend => exact exec_fin2 hs execPdelayReqSend_keeps e rfl
  case ptpMasterSend => exact exec_fin2 hs execPtpMasterSend_keeps e rfl
  case announceTimeout => exact exec_fin2 hs execAnnounceTimeout_keeps e rfl
  case syncLoss => exact exec_fin2 hs execSyncLoss_keeps e rfl
  case holdoverExpiry => exact exec_fin2 hs execHoldoverExpiry_keeps e rfl
  case secondRollover => exact exec_fin2 hs execSecondRollover_keeps e rfl
  case mdioLinkPoll => exact exec_fin2 hs execMdioLinkPoll_keeps e rfl
  case prpSupervisionSend => exact exec_fin2 hs execPrpSupervisionSend_keeps e rfl
  case prpSupervisionReceived => exact exec_fin2 hs execPrpSupervisionReceived_keeps e rfl
  case barrierFrame => exact exec_fin2 hs execBarrierFrame_keeps e rfl
  case barrierLinkDown => exact exec_fin2 hs execBarrierLinkDown_keeps e rfl
  case barrierLinkRestored => exact exec_fin2 hs execBarrierLinkRestored_keeps e rfl
  case inputDebounceChange => exact exec_fin2 hs execInputDebounceChange_keeps e rfl
  case outputOverload => exact exec_fin2 hs execOutputOverload_keeps e rfl
  case outputThermal => exact exec_fin2 hs execOutputThermal_keeps e rfl
  case outputRetry => exact exec_fin2 hs execOutputRetry_keeps e rfl
  case overloadFlagClear => exact exec_fin2 hs execOverloadFlagClear_keeps e rfl
  case wireBreak => exact exec_fin2 hs execWireBreak_keeps e rfl
  case outputDiagTimer => exact exec_fin2 hs execOutputDiagTimer_keeps e rfl
  case pinReversed => exact exec_fin2 hs execPinReversed_keeps e rfl
  case lpSample => exact exec_fin2 hs execLpSample_keeps e rfl
  case lpRestore => exact exec_fin2 hs execLpRestore_keeps e rfl
  case safetyCycle => exact exec_fin2 hs execSafetyCycle_keeps e rfl
  case protItemLatch => exact exec_fin2 hs execProtItemLatch_keeps e rfl
  case discrepancyTimeout => exact exec_fin2 hs execDiscrepancyTimeout_keeps e rfl
  case intlkDwellElapsed => exact exec_fin2 hs execIntlkDwellElapsed_keeps e rfl
  case lockstepMismatch => exact exec_fin2 hs execLockstepMismatch_keeps e rfl
  case lockstepSelftestFail => exact exec_fin2 hs execLockstepSelftestFail_keeps e rfl
  case soSwitchOnStep => exact exec_fin2 hs execSoSwitchOnStep_keeps e rfl
  case soTestPulseDue => exact exec_fin2 hs execSoTestPulseDue_keeps e rfl
  case soPulseEnd => exact exec_fin2 hs execSoPulseEnd_keeps e rfl
  case soDiagTimer => exact exec_fin2 hs execSoDiagTimer_keeps e rfl
  case safetyFrame => exact exec_fin2 hs execSafetyFrame_keeps e rfl
  case slProduce => exact exec_fin2 hs execSlProduce_keeps e rfl
  case slWatchdogExpiry => exact exec_fin2 hs execSlWatchdogExpiry_keeps e rfl
  case beatSend => exact exec_fin2 hs execBeatSend_keeps e rfl
  case beatMsg a b c d e1 f g => exact exec_fin2 hs (execBeatMsg_keeps) e rfl
  case ckpt => exact exec_fin2 hs execCkpt_keeps e rfl
  case mirror => exact exec_fin2 hs execMirror_keeps e rfl
  case handback => exact exec_fin2 hs execHandback_keeps e rfl
  case statusSend => exact exec_fin2 hs execStatusSend_keeps e rfl
  case statusMsg => exact exec_fin2 hs execStatusMsg_keeps e rfl
  case hbAck => exact exec_fin2 hs execHbAck_keeps e rfl
  case dpxLinkDown => exact exec_fin2 hs execDpxLinkDown_keeps e rfl
  case holderLeaseExpiry => exact exec_fin2 hs execHolderLeaseExpiry_keeps e rfl
  case yieldReset => exact exec_fin2 hs execYieldReset_keeps e rfl
  case storeLeaseExpiry => exact exec_fin2 hs execStoreLeaseExpiry_keeps e rfl
  case livenessCheck => exact exec_fin2 hs execLivenessCheck_keeps e rfl
  case takeoverBringupDone => exact exec_fin2 hs execTakeoverBringupDone_keeps e rfl
  case coldAcquisition => exact exec_fin2 hs execColdAcquisition_keeps e rfl
  case preparedEntry => exact exec_fin2 hs execPreparedEntry_keeps e rfl
  case warmReached => exact exec_fin2 hs execWarmReached_keeps e rfl
  case handbackModeEntry => exact exec_fin2 hs execHandbackModeEntry_keeps e rfl
  case handbackEpochRaise => exact exec_fin2 hs execHandbackEpochRaise_keeps e rfl
  case handbackTransfer => exact exec_fin2 hs execHandbackTransfer_keeps e rfl
  case holderOutputRelease => exact exec_fin2 hs execHolderOutputRelease_keeps e rfl
  case powerDownColdComplete => exact exec_fin2 hs execPowerDownColdComplete_keeps e rfl
  case eventOffer => exact exec_fin2 hs execEventOffer_keeps e rfl
  case folioWrite => exact exec_fin2 hs execFolioWrite_keeps e rfl
  case lmsTokenRefill => exact exec_fin2 hs execLmsTokenRefill_keeps e rfl
  case helloExpiry => exact exec_fin2 hs execHelloExpiry_keeps e rfl
  case sessionTimeout => exact exec_fin2 hs execSessionTimeout_keeps e rfl
  case syncTimeStore => exact exec_fin2 hs execSyncTimeStore_keeps e rfl
  case uncorrectableError => exact exec_fin2 hs execUncorrectableError_keeps e rfl
  case parityError => exact exec_fin2 hs execParityError_keeps e rfl
  case eccCorrected => exact exec_fin2 hs execEccCorrected_keeps e rfl
  case handshakeTimeout => exact exec_fin2 hs execHandshakeTimeout_keeps e rfl
  case semLeaseExpiry => exact exec_fin2 hs execSemLeaseExpiry_keeps e rfl
  case queueStall => exact exec_fin2 hs execQueueStall_keeps e rfl
  case referenceQualifying => exact exec_fin2 hs execReferenceQualifying_keeps e rfl
  case conductingFeedChange => exact exec_fin2 hs execConductingFeedChange_keeps e rfl
  case outputCooled => exact exec_fin2 hs execOutputCooled_keeps e rfl
  case applicationFrame => exact exec_fin2 hs execApplicationFrame_keeps e rfl

/-- All that a step can do: idle on an empty queue, or run the command in front with the rest as its queue. -/
theorem step_cases {s t : State} (e : step s = .next t) : (s.pending = [] ∧ t = s) ∨
    ∃ c rest, s.pending = c :: rest ∧ exec c { s with pending := rest } = .next t := by
  unfold step at e
  cases h : s.pending with
  | nil =>
    rw [h] at e
    injection e with e
    exact .inl ⟨rfl, e.symm⟩
  | cons c rest =>
    rw [h] at e
    exact .inr ⟨c, rest, rfl, e⟩

/-- A part is not in a list of parts. -/
def lacks (p : Part) (l : List Part) : Bool := !(l.any (fun q => q.ix == p.ix))
theorem lacks_iff (p : Part) (l : List Part) (h : lacks p l = true) : p ∉ l := by
  intro k
  unfold lacks at h
  simp at h
  exact h p k rfl
/-- No command changes the queue, the device number or the station number. -/
theorem foot_pending (c : Instr) : Part.pending ∉ footprint c ∧ Part.device ∉ footprint c ∧ Part.station ∉ footprint c := by
  have h : lacks .pending (footprint c) = true ∧ lacks .device (footprint c) = true ∧ lacks .station (footprint c) = true := by cases c <;> exact ⟨rfl, rfl, rfl⟩
  exact ⟨lacks_iff _ _ h.1, lacks_iff _ _ h.2.1, lacks_iff _ _ h.2.2⟩
/-- Only the completion of a commit writes the stored record. -/
theorem foot_stored (c : Instr) (h : c ≠ .configCommitDone) : Part.stored ∉ footprint c :=
  lacks_iff _ _ (by cases c <;> first | rfl | exact absurd rfl h)

end Sys2Proof.Machine
end

