-- ==== Sys2Proof/Laws/Frames.lean ====
section
/-! SUPPORT. What the commands of one cell, pin, input, trunk, safety output, PLL, semaphore, queue or master leave of the
others. -/
namespace Sys2Proof.Machine

set_option Elab.async false
set_option linter.all false

theorem otherCells_frame :
  ∀ (s t : State) (c : Fin 256) (d : Nat) (i : Instr), d ≠ c.val →
    ((∃ level, i = .failNow level c) ∨ (∃ level v, i = .failReasonWrite level c v) ∨ i ∈ [.refreshDue c, .bsRecoverTimeout c, .dwellExpiry c,
      .telStaleExceeded c, .telLost c, .appliedMismatchLimit c, .mailboxReadTimeout c]) →
    exec i s = .next t → t.cellAt d = s.cellAt d ∧ t.field = s.field ∧ t.sense = s.sense ∧ t.mode.mode = s.mode.mode ∧ t.fns = s.fns := by
  intro s t c d i h hi
  let K : State → Prop := fun t => t.cellAt d = s.cellAt d ∧ t.field = s.field ∧ t.sense = s.sense ∧ t.mode.mode = s.mode.mode ∧ t.fns = s.fns
  have z : K s := ⟨rfl, rfl, rfl, rfl, rfl⟩
  have hm : ∀ (u : State) f, K u → K (u.mapCell c.val f) := fun u f k => ⟨(cellAt_mapCell_ne u h f).trans k.1, k.2.1, k.2.2.1, k.2.2.2.1, k.2.2.2.2⟩
  have hw : ∀ (u : State) a b p, K u → K (u.warnOn a b p) := fun u a b p k => ⟨(cellAt_cell (State.warnOn_cell ..) d).trans k.1,
    (State.warnOn_field ..).trans k.2.1, (State.warnOn_sense ..).trans k.2.2.1, (warnOn_mode1 ..).trans k.2.2.2.1, (State.warnOn_fns ..).trans k.2.2.2.2⟩
  have ho : ∀ (u : State) a b, K u → K (u.warnOff a b) := fun u a b k => k
  have hn : ∀ (u : State) a p, K u → K (u.note a p) := fun u a p k => ⟨(cellAt_cell (State.note_cell ..) d).trans k.1,
    (State.note_field ..).trans k.2.1, (State.note_sense ..).trans k.2.2.1, (congrArg ModeState.mode (State.note_mode ..)).trans k.2.2.2.1, (State.note_fns ..).trans k.2.2.2.2⟩
  have ha : ∀ (u : State) a p, K u → K (u.warn a p) := fun u a p k => ⟨(cellAt_cell (State.warn_cell ..) d).trans k.1,
    (State.warn_field ..).trans k.2.1, (State.warn_sense ..).trans k.2.2.1, (congrArg ModeState.mode (State.warn_mode ..)).trans k.2.2.2.1, (State.warn_fns ..).trans k.2.2.2.2⟩
  have hk : ∀ (u : State) a b p, K u → K (u.warnKeep a b p) := fun u a b p k => ⟨(cellAt_cell (State.warnKeep_cell ..) d).trans k.1,
    (State.warnKeep_field ..).trans k.2.1, (State.warnKeep_sense ..).trans k.2.2.1, (warnKeep_mode ..).trans k.2.2.2.1, (State.warnKeep_fns ..).trans k.2.2.2.2⟩
  have hx : ∀ (u : State) (g : CellState → CellState), (∀ x, (g x).cells = x.cells) → K u → K { u with cell := g u.cell } := fun u g e k =>
    ⟨(show entry (g u.cell).cells d {} = entry u.cell.cells d {} by rw [e]).trans k.1, k.2⟩
  have mk : ∀ (u : State) r, K u → K (u.markFail c.val r) := by
    intro u r k
    unfold State.markFail
    refine ite_ind (P := K) (hw _ _ _ _ ?_) k
    refine ite_ind (P := K) ?_ (hm _ _ k)
    exact hx _ (fun x => { x with promote := x.promote + 1 }) (fun _ => rfl) (hm _ _ k)
  simp only [List.mem_cons, List.not_mem_nil, or_false] at hi
  rcases hi with ⟨l, rfl⟩ | ⟨l, v, rfl⟩ | rfl | rfl | rfl | rfl | rfl | rfl | rfl <;> intro e
  · have k : K (if 2 ≤ l && s.populated c.val then s.failNow c.val else s) := ite_ind (P := K) (hm _ _ z) z
    cases e; exact k
  · have k2 : K (s.setFail c.val v.toNat) := by
      unfold State.setFail
      refine ite_ind (P := K) ?_ (mk _ _ z)
      exact ho _ _ _ (ho _ _ _ (hm _ _ z))
    have k : K (if s.failStatus l c.val v.toNat = stOk then s.setFail c.val v.toNat else s) := ite_ind (P := K) k2 z
    cases e; exact k
  · cases e
    refine ite_ind (P := K) ?_ z
    exact hx _ (fun x => { x with refreshes := incSat 32 x.refreshes }) (fun _ => rfl) (hm _ _ z)
  · have k : K (s.refreshJudge c.val s.tick) := by
      unfold State.refreshJudge
      dsimp only
      split
      · exact z
      · exact ite_ind (P := K) (hm _ _ z) (ite_ind (P := K) (mk _ _ z) z)
    cases e; exact k
  · cases e; exact ite_ind (P := K) z (hm _ _ z)
  · have k : K (s.staleJudge c.val s.tick) := by
      unfold State.staleJudge
      dsimp only
      exact ite_ind (P := K) z (ite_ind (P := K) (hn _ _ _ (hm _ _ z)) (hm _ _ z))
    have k2 : K (if s.populated c.val then s.staleJudge c.val s.tick else s) := ite_ind (P := K) k z
    cases e; exact k2
  · have k : K (s.lostJudge c.val) := by
      unfold State.lostJudge
      exact ite_ind (P := K) (mk _ _ z) z
    cases e; exact k
  · have k : K (s.mismatchJudge c.val) := by
      unfold State.mismatchJudge
      exact ite_ind (P := K) (mk _ _ z) z
    cases e; exact k
  · have k3 : ∀ (u : State) gd, K u → K (u.mailFail c.val gd) := by
      intro u gd k
      unfold State.mailFail
      dsimp only
      exact ite_ind (P := K) (mk _ _ (hm _ _ k)) (hk _ _ _ _ (mk _ _ (hm _ _ k)))
    have k : K (s.mailLate c.val s.tick) := by
      unfold State.mailLate
      split
      · exact ite_ind (P := K) (k3 _ _ z) z
      · exact z
    cases e; exact k

theorem otherPins_frame :
  ∀ (s t : State) (p : Fin 32) (q : Nat) (i : Instr), q ≠ p.val →
    ((∃ level, i = .pinClear level p) ∨ (∃ b, i = .wireBreak p b) ∨ (∃ d b, i = .outputDiagTimer p d b) ∨ (∃ b, i = .pinReversed p b) ∨
      i ∈ [.inputDebounceChange p, .outputOverload p, .outputThermal p, .outputRetry p, .overloadFlagClear p, .outputCooled p]) →
    exec i s = .next t → t.pin q = s.pin q ∧ t.cell = s.cell ∧ t.safe = s.safe ∧ t.mode.mode = s.mode.mode ∧ t.fns = s.fns := by
  intro s t p q i h hi
  let K : State → Prop := fun t => t.pin q = s.pin q ∧ t.cell = s.cell ∧ t.safe = s.safe ∧ t.mode.mode = s.mode.mode ∧ t.fns = s.fns
  have z : K s := ⟨rfl, rfl, rfl, rfl, rfl⟩
  have hm : ∀ (u : State) x, K u → K (u.putPin p.val x) := fun u x k => ⟨(entry_updAt_ne (fun _ => x) _ _ _ _ h).trans k.1, k.2.1, k.2.2.1, k.2.2.2.1, k.2.2.2.2⟩
  have hw : ∀ (u : State) a b d, K u → K (u.warnOn a b d) := fun u a b d k => ⟨(pin_field (State.warnOn_field ..) q).trans k.1,
    (State.warnOn_cell ..).trans k.2.1, (State.warnOn_safe ..).trans k.2.2.1, (warnOn_mode1 ..).trans k.2.2.2.1, (State.warnOn_fns ..).trans k.2.2.2.2⟩
  have ho : ∀ (u : State) a b, K u → K (u.warnOff a b) := fun u a b k => k
  have hn : ∀ (u : State) a d, K u → K (u.note a d) := fun u a d k => ⟨(pin_field (State.note_field ..) q).trans k.1,
    (State.note_cell ..).trans k.2.1, (State.note_safe ..).trans k.2.2.1, (congrArg ModeState.mode (State.note_mode ..)).trans k.2.2.2.1, (State.note_fns ..).trans k.2.2.2.2⟩
  have hr : ∀ u : State, K u → K (u.pinRetry p.val) := by
    intro u k
    unfold State.pinRetry
    dsimp only
    split
    · exact ite_ind (hn _ _ _ (hm _ _ k)) k
    · exact k
  simp only [List.mem_cons, List.not_mem_nil, or_false] at hi
  rcases hi with ⟨l, rfl⟩ | ⟨b, rfl⟩ | ⟨d, b, rfl⟩ | ⟨b, rfl⟩ | rfl | rfl | rfl | rfl | rfl | rfl <;> intro e <;> cases e
  · exact ite_ind (P := K) (ho _ _ _ (ho _ _ _ (hm _ _ z))) z
  · exact ite_ind (P := K) (ite_ind (hw _ _ _ _ (hm _ _ z)) (ite_ind (hn _ _ _ (ho _ _ _ (hm _ _ z))) z)) z
  · exact ite_ind (P := K) (ite_ind (hw _ _ _ _ (hm _ _ z)) (ite_ind (hn _ _ _ (ho _ _ _ (hm _ _ z))) z)) z
  · exact ite_ind (P := K) (ite_ind (hw _ _ _ _ (hm _ _ z)) (ho _ _ _ (hm _ _ z))) z
  · exact ite_ind (P := K) (hm _ _ z) z
  · exact ite_ind (P := K) (hw _ _ _ _ (hm _ _ (hm _ _ z))) z
  · exact ite_ind (P := K) (hw _ _ _ _ (hm _ _ (hm _ _ z))) z
  · exact hr _ z
  · exact ite_ind (P := K) (ho _ _ _ (ho _ _ _ (hm _ _ z))) z
  · exact hr _ (hm _ _ z)

theorem otherInputs_frame :
  ∀ (s t : State) (c : Fin 16) (d : Nat) (i : Instr), d ≠ c.val →
    ((∃ level k, k.val = c.val ∧ i = .injCommand level k) ∨ (∃ codes, i = .historyFilled c codes) ∨ (∃ codes, i = .comparatorCrossing c codes) ∨
      (∃ codes, i = .saturationLost c codes) ∨ (∃ codes code, i = .injectedSampleDone c codes code) ∨
      i ∈ [.comparatorRelease c, .frozenWindowEnd c, .saturationClear c, .testInjection c]) →
    exec i s = .next t → t.ain d = s.ain d := by
  intro s t c d i h hi
  let K : State → Prop := fun t => t.ain d = s.ain d
  have z : K s := rfl
  have hm : ∀ (u : State) f, K u → K (u.mapAin c.val f) := fun u f k => (entry_updAt_ne f _ _ _ _ h).trans k
  have hs : ∀ (u v : State), v.sense = u.sense → K u → K v := fun u v e k => (ain_sense e d).trans k
  have hw : ∀ (u : State) a b d, K u → K (u.warnOn a b d) := fun u a b d k => hs u _ (State.warnOn_sense ..) k
  have ho : ∀ (u : State) a b, K u → K (u.warnOff a b) := fun u a b k => k
  have hn : ∀ (u : State) a d, K u → K (u.note a d) := fun u a d k => hs u _ (State.note_sense ..) k
  have hb : ∀ (u : State) k (b : Bool), K u → K (u.countEdges c.val k b) := fun u k b h => (countEdges_ain ..).1.trans h
  have hg : ∀ (u : State) x, K u → K (u.give c.val x) := by
    intro u x k
    have k2 : K ((u.push c.val x).compare c.val) := frame_compare c.val d hm hs (frame_push c.val d x hm k)
    unfold State.give State.countWindow
    exact ite_ind (P := K) k2 (hm _ _ k2)
  have hf : ∀ (u : State) x, K u → K (u.feedOne c.val x) := by
    intro u x k
    unfold State.feedOne State.countSat
    refine ite_ind (P := K) ?_ (hm _ _ (hg _ _ k))
    dsimp only
    exact ite_ind (P := K) (hw _ _ _ _ (hm _ _ (hm _ _ (hg _ _ k)))) (hm _ _ (hg _ _ k))
  have hq : ∀ (u : State) r, K u → K (u.injRequest c.val r) := by
    intro u r k
    unfold State.injRequest State.injOverrun State.injRegister
    dsimp only
    exact ite_ind (P := K) (ite_ind (P := K) (hm _ _ k) (hn _ _ _ (hm _ _ k))) (hm _ _ k)
  have hdue : ∀ (u : State) i, K u → K (u.injDue c.val i) := by
    intro u i k
    have : ∀ (l : List Arrival) (v : State), K v → K (l.foldl (fun s r => s.injRequest c.val r) v) := by
      intro l
      induction l with
      | nil => intro v k; exact k
      | cons a l ih => intro v k; exact ih _ (hq _ _ k)
    unfold State.injDue
    exact this _ _ (hm _ _ k)
  have hleave : ∀ (u : State) r, K u → K (u.injLeave c.val r) := by
    intro u r k
    unfold State.injLeave
    dsimp only
    exact ite_ind (P := K) (frame_testJudge c.val d _ _ hm hs (hm _ _ k)) (hm _ _ k)
  have htake : ∀ (u : State) n i r x, K u → K (u.injTake n c.val i r x) := by
    intro u n i r x k
    have k2 : K (u.feedRepeat c.val) := by unfold State.feedRepeat; exact hg _ _ k
    exact hm _ _ k2
  have hedge : ∀ (u : State) n x, K u → K (u.feedEdge n c.val x) := by
    intro u n x k
    unfold State.feedEdge
    dsimp only
    have k1 := hdue u ((u.ain c.val).fed + 1) k
    split
    · exact hb _ _ _ (hf _ _ k1)
    · refine ite_ind (P := K) (ite_ind (P := K) (hleave _ _ (hb _ _ _ (hf _ _ k1))) (hb _ _ _ (hf _ _ k1))) ?_
      exact ite_ind (P := K) (hb _ _ _ (htake _ _ _ _ _ k1)) (hb _ _ _ (hf _ _ k1))
  have hfeed : ∀ (u : State) n l, K u → K (u.feed n c.val l) := by
    intro u n l k
    unfold State.feed
    refine ite_ind (P := K) ?_ k
    have : ∀ (l : List Int) (v : State), K v → K (l.foldl (fun s x => s.feedEdge n c.val (clampI (-32768) 32767 x)) v) := by
      intro l
      induction l with
      | nil => intro v k; exact k
      | cons a l ih => intro v k; exact ih _ (hedge _ _ _ k)
    exact this _ _ k
  simp only [List.mem_cons, List.not_mem_nil, or_false] at hi
  rcases hi with ⟨l, k, hk, rfl⟩ | ⟨x, rfl⟩ | ⟨x, rfl⟩ | ⟨x, rfl⟩ | ⟨x, y, rfl⟩ | rfl | rfl | rfl | rfl <;> intro e
  · have kk : K (if s.injStatus l k.val = stOk then s.injSoftware k.val else s) := by
      rw [hk]; exact ite_ind (P := K) (hm _ _ z) z
    cases e; exact kk
  · have k := hfeed s s.sampleTick x z
    cases e; exact k
  · have k := hfeed s s.sampleTick x z
    cases e; exact k
  · have k := hfeed s s.sampleTick x z
    cases e; exact k
  · have k := hfeed s s.sampleTick (x ++ [y]) z
    cases e; exact k
  · have k : K (s.cmpRelease c.val) := by
      unfold State.cmpRelease
      exact ite_ind (P := K) (hm _ _ z) z
    have k2 : K (if s.edges ≤ (s.ain c.val).fed then s.cmpRelease c.val else s) := ite_ind (P := K) k z
    cases e; exact k2
  · have k : K (s.frozenDecide c.val) := by
      unfold State.frozenDecide
      dsimp only
      exact ite_ind (P := K) (hm _ _ z) (ite_ind (P := K) (ite_ind (P := K) (hm _ _ z) (hw _ _ _ _ (hm _ _ (hm _ _ z)))) (ite_ind (P := K) (hn _ _ _ (ho _ _ _ (hm _ _ (hm _ _ z)))) (hm _ _ z)))
    cases e
    exact ite_ind (P := K) (hm _ _ k) z
  · have k : K (s.satClear c.val) := by
      unfold State.satClear
      dsimp only
      exact ite_ind (P := K) (hn _ _ _ (ho _ _ _ (hm _ _ z))) z
    have k2 : K (if s.edges ≤ (s.ain c.val).fed then s.satClear c.val else s) := ite_ind (P := K) k z
    cases e; exact k2
  · have k : ∀ r, K (s.injArrive c.val r) := by
      intro r
      unfold State.injArrive
      exact ite_ind (P := K) (ite_ind (P := K) (hq _ _ z) (hm _ _ z)) z
    cases e
    exact ite_ind (P := K) (k _) z

theorem otherPlls_frame :
  ∀ (s t : State) (p : Fin 5) (j : Nat) (i : Instr), j < 5 → j ≠ p.val →
    ((∃ err, i = .freqMonitorWindow p err) ∨ (∃ err, i = .relockFDone ⟨p, err⟩) ∨ i ∈ [.pllLock p, .pllLockLost p, .acquisitionTimeout p, .backupTrim p, .relockPDone p, .backupReturn p]) →
    exec i s = .next t → t.clk.pll j = s.clk.pll j ∧ t.clk.ref = s.clk.ref ∧ t.clk.lostAt = s.clk.lostAt := by
  intro s t p j i hj h hi
  let K : State → Prop := fun t => t.clk.pll j = s.clk.pll j ∧ t.clk.ref = s.clk.ref ∧ t.clk.lostAt = s.clk.lostAt
  have z : K s := ⟨rfl, rfl, rfl⟩
  have hc : ∀ u v : State, v.clk = u.clk → K u → K v := fun u v e k => by show v.clk.pll j = _ ∧ v.clk.ref = _ ∧ v.clk.lostAt = _; rw [e]; exact k
  have hm : ∀ (u : State) x, K u → K (u.putPll p.val x) := fun u x k => by
    have := putPll_clk u p.val x
    exact ⟨(this.2.2 j hj p.isLt h).trans k.1, this.1.1.trans k.2.1, this.1.2.1.trans k.2.2⟩
  have hw : ∀ (u : State) a b p, K u → K (u.warnOn a b p) := fun u a b p k => hc _ _ (State.warnOn_clk ..) k
  have ho : ∀ (u : State) a b, K u → K (u.warnOff a b) := fun u a b k => k
  have hn : ∀ (u : State) a p, K u → K (u.note a p) := fun u a p k => hc _ _ (State.note_clk ..) k
  have ha : ∀ (u : State) a p, K u → K (u.warn a p) := fun u a p k => hc _ _ (State.warn_clk ..) k
  have hs : ∀ (u : State), K u → K u.clockSettle := fun u k => hc _ _ (State.clockSettle_keeps.same .clk rfl) k
  have hk : ∀ (u : State) a b p, K u → K (u.warnKeep a b p) := fun u a b p k => hc _ _ (State.warnKeep_clk ..) k
  have hco : ∀ u : State, K u → K (u.coast p.val) := by
    intro u k
    unfold State.coast
    dsimp only
    exact ite_ind (P := K) (hw _ _ _ _ (hm _ _ k)) k
  simp only [List.mem_cons, List.not_mem_nil, or_false] at hi
  rcases hi with ⟨x, rfl⟩ | ⟨x, rfl⟩ | rfl | rfl | rfl | rfl | rfl | rfl <;> intro e
  · cases e
    refine ite_ind (P := K) ?_ (hm _ _ z)
    unfold State.drifts
    dsimp only
    exact ite_ind (P := K) (hm _ _ (hm _ _ z)) (hm _ _ z)
  · cases e; exact ite_ind (P := K) (hm _ _ z) z
  · have k : K (s.pllLock p.val) := by
      unfold State.pllLock
      dsimp only
      exact ite_ind (P := K) (hs _ (hn _ _ _ (ho _ _ _ (ho _ _ _ (hm _ _ z))))) z
    cases e; exact k
  · have k : K ((s.coast p.val).relock p.val) := by
      have k1 := hco s z
      unfold State.relock
      dsimp only
      exact ite_ind (P := K) (hm _ _ k1) k1
    cases e
    exact ite_ind (P := K) k z
  · have k : K (s.acqNext p.val) := by
      unfold State.acqNext
      dsimp only
      refine ite_ind (P := K) ?_ z
      split
      · exact hm _ _ z
      · exact hs _ (hk _ _ _ _ (ho _ _ _ (hm _ _ z)))
    have k2 : K (s.acqTimeout p.val) := by
      unfold State.acqTimeout
      exact ite_ind (P := K) k z
    cases e; exact k2
  · cases e; exact ite_ind (P := K) (hm _ _ z) z
  · cases e; exact ite_ind (P := K) (hs _ (hn _ _ _ (ho _ _ _ (hm _ _ z)))) z
  · cases e
    refine ite_ind (P := K) ?_ z
    have k := hn _ 0x0206 (pllName p.val) (ho _ 0x0204 p.val (hm s { s.clk.pll p.val with backup := false } z))
    exact ite_ind (P := K) (ho _ _ _ (hc _ _ rfl k)) (ite_ind (P := K) (ho _ _ _ k) k)

theorem otherTrunks_frame :
  ∀ (s t : State) (q : Fin 8) (j : Nat) (i : Instr), j ≠ q.val →
    ((∃ head words, i = .uplinkFrame q head words) ∨ (∃ a b c, i = .trunkEchoReply q a b c) ∨ (∃ b, i = .delayAck q b) ∨ (∃ ds, i = .cellDelays q ds) ∨
      (∃ d, i = .hubInfo q d) ∨ (∃ a b, i = .hubAlarm q a b) ∨ (∃ b, i = .trunkTrainComplete q b) ∨
      i ∈ [.mgmtRequestTimeout q, .trunkMeasureComplete q, .trunkAlignComplete q, .trunkRetryExpiry q]) →
    exec i s = .next t → t.trk j = s.trk j ∧ t.mode.mode = s.mode.mode ∧ t.fns = s.fns := by
  intro s t q j i h hi
  let K : State → Prop := fun t => t.trk j = s.trk j ∧ t.mode.mode = s.mode.mode ∧ t.fns = s.fns
  have z : K s := ⟨rfl, rfl, rfl⟩
  have hc : ∀ u v : State, v.cell.trunks = u.cell.trunks → v.mode.mode = u.mode.mode → v.fns = u.fns → K u → K v := fun u v e a b k => by
    refine ⟨?_, a.trans k.2.1, b.trans k.2.2⟩
    refine Eq.trans ?_ k.1
    show entry v.cell.trunks j {} = entry u.cell.trunks j {}
    rw [e]
  have hm : ∀ (u : State) f, K u → K (u.mapTrk q.val f) := fun u f k => ⟨(entry_updAt_ne f _ _ _ _ h).trans k.1, k.2.1, k.2.2⟩
  have hw : ∀ (u : State) a b p, K u → K (u.warnOn a b p) := fun u a b p k => hc u _ (by rw [State.warnOn_cell]) (warnOn_mode1 ..) (State.warnOn_fns ..) k
  have ho : ∀ (u : State) a b, K u → K (u.warnOff a b) := fun u a b k => k
  have ha : ∀ (u : State) a p, K u → K (u.warn a p) := fun u a p k => hc u _ (by rw [State.warn_cell]) (by rw [State.warn_mode]) (State.warn_fns ..) k
  have hd : ∀ (u : State) ty, K u → K (u.mgmtDone q.val ty) := by
    intro u ty k
    unfold State.mgmtDone
    split
    · exact ite_ind (P := K) (hm _ _ k) k
    · exact k
  have hk : ∀ (u : State) a b p, K u → K (u.warnKeep a b p) := fun u a b p k => hc u _ (by rw [State.warnKeep_cell]) (warnKeep_mode ..) (State.warnKeep_fns ..) k
  have hh : ∀ (u : State) a b, K u → K (u.warnHold a b) := fun u a b k => hc u _ rfl rfl rfl k
  have hab : ∀ u : State, K u → K (u.abandon q.val) := fun u k =>
    ⟨(abandon_trk _ _ _).trans k.1, (congrArg ModeState.mode (State.abandon_keeps.same .mode rfl)).trans k.2.1, (State.abandon_keeps.same .fns rfl).trans k.2.2⟩
  have hb : ∀ (u : State) a b p, K u → K (u.bringFail q.val a b p) := by
    intro u a b p k
    unfold State.bringFail
    dsimp only
    exact ite_ind (P := K) (hh _ _ _ (hab _ (hm _ _ k))) (hk _ _ _ _ (hab _ (hm _ _ k)))
  simp only [List.mem_cons, List.not_mem_nil, or_false] at hi
  rcases hi with ⟨x, y, rfl⟩ | ⟨a, b, c, rfl⟩ | ⟨b, rfl⟩ | ⟨d, rfl⟩ | ⟨d, rfl⟩ | ⟨a, b, rfl⟩ | ⟨b, rfl⟩ | rfl | rfl | rfl | rfl <;> intro e
  · cases e
    exact ite_ind (P := K) (hm _ _ z) (ite_ind (P := K) (hm _ _ z) z)
  · cases e
    split
    · exact ite_ind (P := K) (hm _ _ z) z
    · exact z
  · cases e; exact ite_ind (P := K) (hm _ _ (hd _ _ z)) z
  · cases e
    refine ite_ind (P := K) z ?_
    have : ∀ (l : List Nat) (v : State), K v → K (l.foldl (fun s w => s.mapCell (32 * q.val + w) (fun x => { x with delay := entry (padTo 32 d) w 0 })) v) := by
      intro l
      induction l with
      | nil => intro v k; exact k
      | cons a l ih => intro v k; exact ih _ (hc v _ rfl rfl rfl k)
    exact this _ _ (hm _ _ (hd _ _ z))
  · cases e; exact ite_ind (P := K) z (hm _ _ (hd _ _ z))
  · have k : K (s.alarmChange q.val a.toNat b.toNat) := by
      unfold State.alarmChange
      dsimp only
      exact ite_ind (P := K) z (ite_ind (P := K) (ho _ _ _ (hm _ _ z)) (hw _ _ _ _ (ho _ _ _ (hm _ _ z))))
    cases e; exact ite_ind (P := K) z k
  · cases e; exact ite_ind (P := K) (ite_ind (P := K) (hm _ _ z) (ite_ind (P := K) (hb _ _ _ _ z) z)) z
  · have k : K (s.mgmtAgain q.val) := by
      unfold State.mgmtAgain
      split
      · refine ite_ind (P := K) ?_ z
        exact hc _ _ rfl rfl rfl (hm _ (fun t => { t with seq := ((s.trk q.val).seq + 1) % 256, req := some (_, _, s.tick) }) z)
      · exact z
    cases e; exact k
  · cases e; exact ite_ind (P := K) (ite_ind (P := K) (ite_ind (P := K) (hb _ _ _ _ (hm _ _ z)) (hm _ _ z)) (ite_ind (P := K) (hb _ _ _ _ z) z)) z
  · cases e
    refine ite_ind (P := K) ?_ z
    exact ite_ind (P := K) (hb _ _ _ _ (hm _ _ z)) (ite_ind (P := K) (hb _ _ _ _ (hm _ _ z)) (ite_ind (P := K) (hm _ _ (hab _ (hm _ _ z))) (hm _ _ z)))
  · cases e; exact ite_ind (P := K) (hm _ _ z) z

theorem otherOutputs_frame :
  ∀ (s t : State) (n : Fin 4) (m : Nat) (i : Instr), m ≠ n.val →
    ((∃ w b, i = .soDiagTimer n w b) ∨ i ∈ [.soSwitchOnStep n, .soTestPulseDue n, .soPulseEnd n]) → exec i s = .next t →
    t.so m = s.so m ∧ t.safe.sf1 = s.safe.sf1 ∧ t.safe.sf2 = s.safe.sf2 ∧ t.safe.conns = s.safe.conns ∧ t.field = s.field ∧ t.fns = s.fns := by
  intro s t n m i h hi
  let K : State → Prop := fun t => t.so m = s.so m ∧ t.safe.sf1 = s.safe.sf1 ∧ t.safe.sf2 = s.safe.sf2 ∧ t.safe.conns = s.safe.conns ∧ t.field = s.field ∧ t.fns = s.fns
  have z : K s := ⟨rfl, rfl, rfl, rfl, rfl, rfl⟩
  have hc : ∀ u v : State, v.safe = u.safe → v.field = u.field → v.fns = u.fns → K u → K v := fun u v e a b k => by
    refine ⟨(so_safe e m).trans k.1, ?_, ?_, ?_, a.trans k.2.2.2.2.1, b.trans k.2.2.2.2.2⟩ <;> rw [e]
    · exact k.2.1
    · exact k.2.2.1
    · exact k.2.2.2.1
  have hm : ∀ (u : State) x, K u → K (u.putSo n.val x) := fun u x k => ⟨(entry_updAt_ne (fun _ => x) _ _ _ _ h).trans k.1, k.2⟩
  have hw : ∀ (u : State) a b p, K u → K (u.warnOn a b p) := fun u a b p k => hc u _ (State.warnOn_safe ..) (State.warnOn_field ..) (State.warnOn_fns ..) k
  have ho : ∀ (u : State) a b, K u → K (u.warnOff a b) := fun u a b k => k
  have hn : ∀ (u : State) a p, K u → K (u.note a p) := fun u a p k => hc u _ (State.note_safe ..) (State.note_field ..) (State.note_fns ..) k
  have hf : ∀ c, K (s.soFault n.val c) := fun c => hw _ _ _ _ (hm _ _ z)
  simp only [List.mem_cons, List.not_mem_nil, or_false] at hi
  rcases hi with ⟨w, b, rfl⟩ | rfl | rfl | rfl <;> intro e <;> cases e
  · refine ite_ind (P := K) z ?_
    split
    · exact ite_ind (P := K) (hf _) z
    · exact ite_ind (P := K) (hf _) z
    · exact ite_ind (P := K) (hf _) z
    · exact ite_ind (P := K) (ite_ind (hf _) z) (ho _ _ _ (hm _ _ z))
    · exact ite_ind (P := K) (hw _ _ _ _ (hm _ _ z)) (ite_ind (ho _ _ _ (hm _ _ z)) z)
  · unfold State.soStep
    dsimp only
    split
    · exact ite_ind (P := K) (ite_ind (ite_ind (hn _ _ _ (hm _ _ z)) (hm _ _ z)) (hf _)) z
    · exact z
  · split
    · exact ite_ind (P := K) (hm _ _ z) z
    · exact z
  · unfold State.pulseEnd
    dsimp only
    split
    · exact ite_ind (P := K) (ite_ind (hm _ _ z) (ite_ind (hm _ _ z) (hw _ _ _ _ (hm _ _ z)))) z
    · exact z

theorem fabricFrames_frame :
  ∀ (s t : State) (m : Fin 7) (x : Fin 16) (y : Nat), y ≠ x.val →
    (∀ i ∈ [Instr.semAcquire m x, .semRelease m x, .semRenew m x], exec i s = .next t →
      entry t.fab.sems y {} = entry s.fab.sems y {} ∧ t.fab.queues = s.fab.queues ∧ t.mode = s.mode ∧ t.recd = s.recd) ∧
    (∀ i, (∃ w, i = Instr.queuePost m x w) ∨ i = .queueTake m x → exec i s = .next t →
      entry t.fab.queues y {} = entry s.fab.queues y {} ∧ t.fab.sems = s.fab.sems ∧ t.mode = s.mode ∧ t.recd = s.recd) := by
  intro s t m x y h
  let K : State → Prop := fun t => entry t.fab.sems y {} = entry s.fab.sems y {} ∧ t.fab.queues = s.fab.queues ∧ t.mode = s.mode ∧ t.recd = s.recd
  have z : K s := ⟨rfl, rfl, rfl, rfl⟩
  have hc : ∀ u v : State, v.fab = u.fab → v.mode = u.mode → v.recd = u.recd → K u → K v := fun u v e a b k => by
    refine ⟨?_, ?_, a.trans k.2.2.1, b.trans k.2.2.2⟩ <;> rw [e]
    · exact k.1
    · exact k.2.1
  have he : ∀ (u : State) a b, K u → K (u.errBit a b) := fun u a b k => hc u _ (State.errBit_fab ..) (State.errBit_mode ..) (State.errBit_recd ..) k
  have ha : ∀ (u : State) a b, K u → K (u.answer a b) := fun u a b k => hc u _ (State.answer_fab ..) (State.answer_mode ..) (State.answer_recd ..) k
  have hp : ∀ v, K { s with fab := { s.fab with sems := putAt x.val v s.fab.sems } } := fun v => ⟨entry_updAt_ne (fun _ => v) _ _ _ _ h, rfl, rfl, rfl⟩
  let L : State → Prop := fun t => entry t.fab.queues y {} = entry s.fab.queues y {} ∧ t.fab.sems = s.fab.sems ∧ t.mode = s.mode ∧ t.recd = s.recd
  have z' : L s := ⟨rfl, rfl, rfl, rfl⟩
  have hc' : ∀ u v : State, v.fab = u.fab → v.mode = u.mode → v.recd = u.recd → L u → L v := fun u v e a b k => by
    refine ⟨?_, ?_, a.trans k.2.2.1, b.trans k.2.2.2⟩ <;> rw [e]
    · exact k.1
    · exact k.2.1
  have he' : ∀ (u : State) a b, L u → L (u.errBit a b) := fun u a b k => hc' u _ (State.errBit_fab ..) (State.errBit_mode ..) (State.errBit_recd ..) k
  have ha' : ∀ (u : State) a b, L u → L (u.answer a b) := fun u a b k => hc' u _ (State.answer_fab ..) (State.answer_mode ..) (State.answer_recd ..) k
  have hp' : ∀ v, L { s with fab := { s.fab with queues := putAt x.val v s.fab.queues } } := fun v => ⟨entry_updAt_ne (fun _ => v) _ _ _ _ h, rfl, rfl, rfl⟩
  refine ⟨fun i hi => ?_, fun i hi => ?_⟩
  · simp only [List.mem_cons, List.not_mem_nil, or_false] at hi
    rcases hi with rfl | rfl | rfl <;> intro e <;> cases e
    · refine ite_ind (P := K) (he _ _ _ (ha _ _ _ z)) ?_
      split
      · exact ha _ _ _ (hp _)
      · exact ha _ _ _ z
    · exact ite_ind (P := K) (he _ _ _ z) (ite_ind (hp _) (he _ _ _ z))
    · exact ite_ind (P := K) (he _ _ _ z) (ite_ind (hp _) (he _ _ _ z))
  · rcases hi with ⟨w, rfl⟩ | rfl <;> intro e <;> cases e
    · exact ite_ind (P := L) (he' _ _ _ z') (ite_ind (he' _ _ _ z') (ite_ind (hp' _) (hp' _)))
    · refine ite_ind (P := L) (he' _ _ _ (ha' _ _ _ z')) (ite_ind (he' _ _ _ (ha' _ _ _ z')) ?_)
      split
      · exact ha' _ _ _ z'
      · exact ha' _ _ _ (hp' _)

theorem otherMasters_frame :
  ∀ (s t : State) (m : Fin 7) (j : Nat) (i : Instr), j ≠ m.val →
    ((∃ g v, i = .selectRegisterWrite m g v) ∨ i ∈ [.windowSnapshot m, .timeSecLoRead m, .recNewestLoRead m, .recOldestLoRead m]) →
    exec i s = .next t → entry t.masters j {} = entry s.masters j {} ∧ t.ps = s.ps ∧ t.objs = s.objs := by
  intro s t m j i h hi
  let K : State → Prop := fun t => entry t.masters j {} = entry s.masters j {} ∧ t.ps = s.ps ∧ t.objs = s.objs
  have z : K s := ⟨rfl, rfl, rfl⟩
  have hm : ∀ (u : State) f, K u → K { u with masters := updAt m.val f u.masters } := fun u f k => ⟨(entry_updAt_ne f _ _ _ _ h).trans k.1, k.2.1, k.2.2⟩
  have he : ∀ (u : State) a b, K u → K (u.errBit a b) := fun u a b k => ⟨(congrArg (fun l => entry l j {}) (State.errBit_masters ..)).trans k.1, (State.errBit_ps ..).trans k.2.1, (State.errBit_objs ..).trans k.2.2⟩
  simp only [List.mem_cons, List.not_mem_nil, or_false] at hi
  rcases hi with ⟨g, v, rfl⟩ | rfl | rfl | rfl | rfl <;> intro e <;> cases e
  · have k : K (s.writeSelect m.val (groupRegion g.val) g.val v.toNat) := by
      unfold State.writeSelect
      exact ite_ind (P := K) (he _ _ _ z) (ite_ind (P := K) (hm _ _ z) (he _ _ _ z))
    exact ite_ind (P := K) (he _ _ _ z) k
  · exact hm _ _ z
  · exact hm _ _ z
  · exact hm { s with recd := { s.recd with newestHi := s.recd.newest / 4294967296 } } _ z
  · exact hm { s with recd := { s.recd with oldestHi := s.recd.oldest / 4294967296 } } _ z

end Sys2Proof.Machine
end

