-- ==== Sys2Proof/WellFormed.lean ====
section
/-! DEFINITION. Which commands the outside can send: every operand within the width and the shape the manual gives it. The
meanings are total and do not ask for it; the queue of a run holds well-formed commands only. -/
namespace Sys2Proof

/-- A privilege level P0 to P3. -/
def isLevel (l : Nat) : Bool := l ≤ 3

/-- A value of w bits. -/
def fits (w v : Nat) : Bool := v < 2 ^ w

/-- A string of bytes. -/
def isBytes (b : List Nat) : Bool := b.all (fun x => x < 256)

/-- A string of n bytes. -/
def isBytesN (n : Nat) (b : List Nat) : Bool := b.length == n && isBytes b

/-- A signed value of w bits. -/
def fitsI (w : Nat) (v : Int) : Bool := -(2 ^ (w - 1) : Nat) ≤ v && v < (2 ^ (w - 1) : Nat)

/-- Conversion codes of 16 bits. -/
def areCodes (l : List Int) : Bool := l.all (fitsI 16)

/-- A redundancy trailer: source address of 48 bits, sequence number of 16 (R536). -/
def isTrailer : Option (Nat × Nat) → Bool
  | some (src, seq) => fits 48 src && fits 16 seq
  | none => true

/-- Coefficients of the seventeen converters (R281). -/
def isCal (l : List (Option (Int × Int))) : Bool :=
  l.length == 17 && l.all (fun x => match x with | some (o, g) => fitsI 16 o && fitsI 32 g | none => true)

/-- What the outside answers while the boot sequence runs. -/
def BootIn.wf (x : BootIn) : Bool := fits 4 x.straps && isCal x.cal

/-- An Announce's data. -/
def Foreign.wf (f : Foreign) : Bool :=
  isBytesN 8 f.gm && isBytesN 8 f.sender && fits 8 f.p1 && fits 8 f.cls && fits 8 f.acc && fits 16 f.var && fits 8 f.p2 &&
    fits 16 f.steps && fits 16 f.utc

/-- A peer-delay message. -/
def Pdelay.wf : Pdelay → Bool
  | .req seq _ _ => fits 16 seq
  | .resp seq _ _ _ => fits 16 seq

/-- An offered event: code, region 0 to 8, at most 16 payload bytes (R453, R454). -/
def Offer.wf (e : Offer) : Bool := fits 16 e.code && e.region ≤ 8 && e.payload.length ≤ 16 && isBytes e.payload

/-- The payload of a spine message, at most 2044 bytes (Table 9-1). -/
def isSpine (b : List Nat) : Bool := b.length ≤ 2044 && isBytes b

/-- A command whose only free-form operand is a level. -/
def Instr.levelOf : Instr → Option Nat
  | .runStart l _ | .runStop l _ | .modeRequestCommission l | .modeRequestBlocked l | .modeRequestForming l
  | .applicationResetCommand l | .systemResetCommand l | .configCommit l | .tickLengthWrite l _ | .stationSetpointWrite l _ _
  | .failNow l _ | .failReasonWrite l _ _ | .gdVerify l | .injCommand l _ | .clkCommit l | .timeSet l _ _ | .outSet l _
  | .outClear l _ | .pinClear l _ | .safeReset l | .safetyConfirm l _ | .protStart l | .fuseSvn l _ | .debugLockSet l _
  | .sessionClose l _ | .switchover l => some l
  | _ => none

/-- The well-formed commands. -/
def Instr.wf (i : Instr) : Bool :=
  (match i.levelOf with | some l => isLevel l | none => true) &&
  match i with
  | .psDatagram p t src sport d => isTrailer t && fits 128 src && fits 128 p.addr && fits 16 sport && isBytes d
  | .clientStateExpiry src sport => fits 128 src && fits 16 sport
  | .forceWrite l _ v => isLevel l && fits 8 v
  | .safetySetWrite ses l idx sub chan v => fits 32 ses && isLevel l && fits 16 idx && fits 8 sub && fits 8 chan && isBytes v
  | .protSetWrite ses l sub v => fits 32 ses && isLevel l && fits 8 sub && isBytes v
  | .attestRequest ses l n _ _ => fits 32 ses && isLevel l && isBytesN 32 n
  | .ownerKeysWrite ses l d => fits 32 ses && isLevel l && isBytes d
  | .credMinGenWrite ses l _ => fits 32 ses && isLevel l
  | .appMinSvnWrite ses l _ => fits 32 ses && isLevel l
  | .recorderClear ses l v => fits 32 ses && isLevel l && fits 32 v
  | .dbgResponse c g => isBytes c && isBytes g
  | .powerOnReset va vb => fits 16 va && fits 16 vb
  | .bootSequence x => x.wf
  | .storeLeaseExpiry x => x.wf
  | .preparedEntry x => x.wf
  | .pmbusPoll ans => ans.all (fun a => match a with | some v => fits 16 v | none => true)
  | .tick codes => codes.length ≤ 16 && codes.all areCodes
  | .markerMsg _ _ d _ => isSpine d
  | .shareMsg _ _ d _ => isSpine d
  | .spanReport _ _ d _ => isSpine d
  | .armState _ _ d _ => isSpine d
  | .rollCall _ _ d _ => isSpine d
  | .spanPub _ _ d _ => isSpine d
  | .measMsg _ _ d _ => isSpine d
  | .setpointMsg _ _ d _ => isSpine d
  | .refsMsg _ _ d _ => isSpine d
  | .stateMsg _ _ d _ => isSpine d
  | .spineEcho _ _ d _ => isSpine d
  | .spineEchoReply _ _ d _ => isSpine d
  | .uplinkFrame _ h ws => isBytesN 8 h && ws.length == 32 && ws.all (isBytesN 12)
  | .cellDelays _ ds => isBytesN 32 ds
  | .hubInfo _ d => isBytesN 12 d
  | .senseCalibrationDone t cal => fitsI 16 t && isCal cal
  | .historyFilled _ cs => areCodes cs
  | .comparatorCrossing _ cs => areCodes cs
  | .saturationLost _ cs => areCodes cs
  | .injectedSampleDone _ cs c => areCodes cs && fitsI 16 c
  | .calibrateComplete o g _ => fitsI 16 o && fitsI 32 g
  | .internalChannelConverted _ v => fitsI 32 v
  | .ptpSync _ dom seq _ _ _ _ => fits 8 dom && fits 16 seq
  | .ptpFollowUp _ dom seq _ _ => fits 8 dom && fits 16 seq
  | .ptpAnnounce _ dom f => fits 8 dom && f.wf
  | .ptpPdelay _ dom m => fits 8 dom && m.wf
  | .prpSupervisionReceived src => fits 48 src
  | .barrierFrame ls vs cs so _ =>
    ls.length == 4 && ls.all (fits 32) && vs.length == 32 && vs.all (fitsI 16) && cs.length == 32 && cs.all (fits 16) && so.length == 4
  | .safetyFrame _ t src b => isTrailer t && fits 128 src && isBytes b
  | .ckpt _ _ _ d => isBytesN 256 d
  | .mirror _ _ _ _ _ _ _ ws => ws.length == 256 && ws.all (fun w => w < 4)
  | .eventOffer evs => evs.all Offer.wf
  | .handshakeTimeout c => match c with | some k => decide (k < 4) | none => true
  | .applicationFrame _ t _ => isTrailer t
  | _ => true

end Sys2Proof
end

