-- ==== Sys2Proof/Tests/Slice0.lean ====
section
/-! SUPPORT. Tests: ill-formed commands are refused; for every clause of a statement that has conditions, a state and operands
that meet them together; a few single steps with results worked out from the manual. -/
namespace Sys2Proof.Tests
open Sys2Proof Sys2Proof.Machine
set_option Elab.async false
set_option maxRecDepth 100000
set_option linter.all false

/-! ### States of the witnesses -/

/-- Every function RUNNING. -/
def allUp : Fns := ⟨⟨.running, 0, false⟩, ⟨.running, 0, false⟩, ⟨.running, 0, false⟩, ⟨.running, 0, false⟩, ⟨.running, 0, false⟩,
  ⟨.running, 0, false⟩, ⟨.running, 0, false⟩, ⟨.running, 0, false⟩, ⟨.running, 0, false⟩, ⟨.running, 0, false⟩⟩
/-- A device in FORMING, RUN, every function RUNNING, every domain powered, the lease held, on the ring, an hour after reset. -/
def up : State := { State.reset with
  now := 100000000000000, tick := 100000000, fns := allUp, mode := { mode := .forming, sub := 3, bootStep := 8, config := 2 },
  pwr := { domains := 4095 }, dpx := { lease := true, epoch := 1 }, sec := { fwRun := true },
  recd := { scanned := true, writing := true }, form := { b := { sub := 3 } }, field := { up := true },
  spn := { joined := true, locked := true, numbered := true, member := true } }
/-- The same device in BLOCKED. -/
def blk : State := { up with mode := { up.mode with mode := .blocked, sub := 0 } }
/-- The same device in COMMISSION, its functions STOPPED. -/
def com : State := { up with fns := {}, mode := { up.mode with mode := .commission, sub := 0 } }
/-- The same device in STANDBY, PREPARED, without the lease. -/
def stb : State := { up with mode := { up.mode with mode := .standby, sub := 2 }, dpx := { link := true } }
/-- One cell changed. -/
def cellW (s : State) (x : Cell) : State := { s with cell := { s.cell with cells := putAt 0 x s.cell.cells } }
/-- One trunk changed. -/
def trkW (s : State) (x : Trunk) : State := { s with cell := { s.cell with trunks := putAt 0 x s.cell.trunks } }
/-- One analog input changed. -/
def ainW (s : State) (x : AIn) : State := { s with sense := { s.sense with ins := putAt 0 x s.sense.ins } }
/-- One pin changed. -/
def pinW (s : State) (x : Pin) : State := { s with field := { s.field with pins := putAt 0 x s.field.pins } }
/-- One safety output changed. -/
def soW (s : State) (x : SafeOut) : State := { s with safe := { s.safe with outs := putAt 0 x s.safe.outs } }
/-- A request with a code and a payload. -/
def reqW (code session counter : Nat) (p : List Nat) : Request := ⟨9, 9, 7, .a, code, 0, session, counter, p, {}, none⟩
/-- The service with one waiting request. -/
def askW (s : State) (r : Request) : State := { s with ps := { s.ps with queue := [r] } }
theorem soleW {s : State} {r : Request} {c : Nat} (h : s.ps.exec = none ∧ s.ps.queue = [r] ∧ r.session = 0 ∧ r.code = c ∧ s.netUp r.port = true) :
    s.sole r c := ⟨h.1, h.2.1, .inl h.2.2.1, h.2.2.2⟩
/-- At the end of a period, with a staged write that waits for its boundary. -/
def stagedW : State := { State.reset with
  pwr := { domains := 4095 }, tick := 9, k := 9, lastDone := true, mode := { mode := .blocked, bootStep := 8 }
  ps := { State.reset.ps with exec := some ⟨reqW 2 0 0 [], .boundary []⟩ } }
/-- The check value of a message between the duplex partners. -/
def dcW (type n : Nat) (data : List Nat) : BitVec 32 := BitVec.ofNat 32 (crc32 ([type, 0] ++ le 2 data.length ++ le 2 n ++ data))
/-- A numeric object written. -/
def objW (s : State) (i j c : Nat) (n : Int) : State := s.setObj i j c (.num n)
/-- The header of a spine message from device 7. -/
def hdrW (type n tick : Nat) : BitVec 64 := BitVec.ofNat 64 (spineHeader type 7 0 n tick 0)
/-- Its data with the CRC. -/
def datW (type tick : Nat) (p : List Nat) : List Nat :=
  p ++ le 4 (crc32 (le 8 (spineHeader type 7 0 ((p.length + 4) / 8) tick 0) ++ p))
/-- A roll call of device d at a position. -/
def callW (d pos : Nat) : RollCall := ⟨d, 0, 3, 3, 255, 255, pos, 1, 1, 0, 0, 0, 0, 0, 0⟩
/-- The boot inputs of a sound device. -/
def bootW : BootIn := ⟨0, 0, true, [], true, true, [], true, 400, List.replicate 17 (some (0, 16384))⟩
/-- The row of an object. -/
def rowW (i j : Nat) : ObjRow := (findObj i j).getD ⟨0, 0, 0, .u8, .ro, [], .num 0, 0, 0, 0, false, false⟩
/-- A session. -/
def sessW : Session := ⟨5, 3, 0, [], 0xFFFFFFFF, 0xFFFFFFFF, 0, 0, List.replicate 48 0, 1, 0, [], {}, 0, true, 0, []⟩
/-- The service with that session. -/
def sesW (s : State) : State := { s with ps := { s.ps with sessions := [sessW] } }
/-- A debug session at level 3, just used. -/
def dbgW (s : State) : State := { s with sec := { s.sec with dbg := some ⟨3, [], 9999999, s.now⟩ } }
/-- In BLOCKED with every condition of Table 3-8 met. -/
def readyW : State :=
  let s := objW (objW (objW (objW (objW (objW blk 0x4001 1 0 1) 0x4001 1 1 1) 0x6200 1 0 0) 0x6200 3 0 1) 0x6200 6 0 100) 0x3100 1 0 0
  let s := objW (objW (objW (objW (objW (objW s 0x2001 0x0E 0 1) 0x2001 0x0F 0 1) 0x2001 0x10 0 1) 0x2001 0x11 0 1) 0x2001 0x12 0 1) 0x2001 0x13 0 1
  let l : List Int := [0, 8388352, 1, 8388352, 65535, 100, 21810381, 10066330, 2, 7]
  { s with
    safe := { s.safe with line := false, confirmed := true, prot := { s.safe.prot with run := true, stored := l, crc := crc32c (protBytes l) } }
    sense := { s.sense with ins := List.replicate 16 { flags := 1 } } }
/-- In BLOCKED with a stored safety set equal to the live one. -/
def confW : State := { blk with mode := { blk.mode with config := 1 }, stored := some ⟨[], true⟩ }
/-- A device with block 3 of Housekeeping fenced. -/
def fencedW : State := { blk with hdrs := putAt 0 { fenced := 8 } blk.hdrs }
/-- Device 7 at position 1 in the roll calls. -/
def rosW : State := { up with spn := { up.spn with roster := [callW 7 1] } }
/-- References in force for a further period, none held for the next one. -/
def refW : State := { up with k := 9, tick := 100000009, arm := { up.arm with refs := some ⟨0, 0, 0, 0, 0, 0, 3, 0, false, []⟩, extended := true } }
/-- FORMING with the law as given. -/
def lawW (b : LawBlock) : State := { up with form := { b := b } }
/-- A cell inserted for longer than it may be. -/
def insW : State :=
  trkW (cellW (objW up 0x3002 1 0 1) { hist := List.replicate 24 .insert, age := 4294967295, bsSeen := true, latched := some 100000000 }) { st := 5 }
/-- SENSE STARTING with stored coefficients. -/
def calW : State := { blk with
  fns := { blk.fns with sense := ⟨.starting, 0, false⟩ }
  sense := { blk.sense with calSince := some 0, stored := some ⟨List.replicate 17 (0, 16384), 400, true⟩ } }
/-- A hand-over of the rotation in progress. -/
def rotW : State := { up with sense := { up.sense with phase := 1, spare := 16, x := 0, comp := 256, convs := putAt 0 { input := some 0 } up.sense.convs } }
/-- One small PLL as given, a part of it. -/
def pllW (p : Pll) : State := { up with clk := { up.clk with a := { p with act := up.clk.a.act } } }
/-- What a grandmaster announces. -/
def forW : Foreign := ⟨List.replicate 8 1, 1, 6, 0x21, 0, 1, 0, List.replicate 8 1, 37, true, false, false⟩
/-- A port with a grandmaster. -/
def ptpW : State := { up with time := { up.time with pa := { fms := [(forW, up.now)], wait := some ⟨1, 5, 0⟩, preq := some (1, 3) } } }
/-- An output pin that is on. -/
def outW : State :=
  let s := pinW (objW up 0x5001 1 0 3) { cmd := true }
  { s with field := { s.field with up := true } }
/-- An item of protection violated for all but one of PROT_N cycles. -/
def protW : State :=
  let s := ainW (objW up 0x6200 1 0 0) { value := 8388607 }
  { s with safe := { s.safe with prot := { s.safe.prot with run := true, counts := [1, 0, 0, 0, 0, 0] } } }
/-- A safety input whose channels have disagreed for long. -/
def discW : State :=
  let s := pinW (objW (objW (objW up 0x6110 1 0 0) 0x6110 2 0 1) 0x5001 1 0 1) { deb := true, raw := true }
  { s with field := { s.field with up := true }, safe := { s.safe with first := false, ins := List.replicate 8 { disc := some 0 } } }
/-- A consumed connection in RUN. -/
def slW : State :=
  let s := (objW up 0x6130 1 0 1).setObj 0x6130 3 0 (.oct (be 16 9))
  { s with safe := { s.safe with conns := List.replicate 8 { st := .run, seq := some 5 } } }
/-- A safe-data frame for it. -/
def slFrameW : List Nat :=
  let b := le 4 (slW.SL_CONN_ID 0) ++ le 4 6 ++ le 2 (slW.SL_WATCHDOG 0) ++ List.replicate 10 0
  b ++ le 4 (crc32c b)
/-- Hubs that have not been commanded. -/
def coldW (s : State) : State :=
  let s := trkW (objW s 0x8200 1 0 1) { st := 5, dlRun := 16 }
  { s with dpx := { s.dpx with lease := false } }
/-- A folio. -/
def folW : Folio := ⟨1, 0x0110, .note, 0, 0, 0, 0, 0, 0, 0, []⟩
/-- A holder with a scheduled, accepted hand-back whose conditions hold. -/
def handW : State := { blk with dpx := { blk.dpx with
  hbB := 5, hbAck := true, switchover := true, partner := some ⟨5, false, 0, 0, blk.cfgCrc, 7⟩ } }
theorem handW_ok : handW.handFails = 0 := by
  have e : (handW.cfgCrc == handW.cfgCrc) = true := by simp
  have a : (!blk.dpx.switchover || true) = true := by decide +kernel
  unfold State.handFails
  show firstFail [true, ((handW.REVERT == 1 && handW.dpxRole == 1) || true), (handW.cfgCrc == handW.cfgCrc), (decide (blk.dpx.delay ≤ 250)), ((List.range 4).all (fun n => handW.SO_FUNC n == 0 || decide (160 ≤ handW.SO_PULSE n))), ((blk.mode.mode == .blocked || (blk.mode.mode == .forming && blk.mode.sub == 3)) && blk.noTrip)] = 0
  rw [e, Bool.or_true]
  decide +kernel
theorem readyW_prot : readyW.protCheck = 0 := by
  have e : (crc32c (protBytes readyW.safe.prot.stored) != readyW.safe.prot.crc) = false := by
    rw [show readyW.safe.prot.crc = crc32c (protBytes readyW.safe.prot.stored) by unfold readyW; dsimp only]
    simp
  unfold State.protCheck
  dsimp only
  rw [if_neg, if_neg, e]
  · rfl
  · decide +kernel
  · decide +kernel
theorem readyW_ok : readyW.formingFails = 0 := by
  unfold State.formingFails
  rw [readyW_prot]
  decide +kernel
theorem crcBits_lt : ∀ (k c : Nat), c < 2 ^ 32 → crcBits 0x82F63B78 k c < 2 ^ 32
  | 0, _, h => h
  | k + 1, c, h => by
    unfold crcBits
    split
    · exact crcBits_lt k _ (Nat.xor_lt_two_pow (by omega) (by decide))
    · exact crcBits_lt k _ (by omega)
theorem crcRefl_lt : ∀ (bs : List Nat) (c : Nat), c < 2 ^ 32 → crcRefl 0x82F63B78 c bs < 2 ^ 32
  | [], _, h => h
  | b :: bs, c, h => by
    unfold crcRefl
    rw [List.foldl_cons]
    exact crcRefl_lt bs _ (crcBits_lt 8 _ (Nat.xor_lt_two_pow h (by omega)))
theorem crc32c_lt (bs : List Nat) : crc32c bs < 2 ^ 32 :=
  Nat.xor_lt_two_pow (crcRefl_lt bs _ (by decide)) (by decide)
theorem confW_crc : (BitVec.ofNat 32 confW.safetyCrc).toNat = confW.safetyCrc := by
  rw [BitVec.toNat_ofNat]
  exact Nat.mod_eq_of_lt (crc32c_lt _)
theorem bucket (u x y m : Nat) (h : u = 0) : u - y + 1 * m ≤ (x + 1) * m := by
  rw [h, Nat.zero_sub, Nat.zero_add]
  exact Nat.mul_le_mul_right m (by omega)
theorem policed_fits (s : State) (p : Side) (k : Traffic) (cost : Nat)
    (h : (entry s.fab.policers p.code {}).used k - (s.police p.code k).1 * (s.now - entry (entry s.fab.policers p.code {}).at_ k.ix 0) +
      cost * 1000000000 ≤ (s.police p.code k).2 * 1000000000) : (s.policed p k cost).1 = true := by
  have g : ∀ {c : Prop} [Decidable c] {a b : State}, c → (if c then (true, a) else (false, b)).1 = true := by
    intro c _ a b h
    rw [if_pos h]
  unfold State.policed
  exact g h
theorem ingress_none (s : State) (k : Traffic) (cost : Nat) (e : s.fenced 4 1 = false) (f : s.powered .net = true) :
    s.ingress .a none k cost = s.policed .a k cost := by
  have n : ¬ ((s.fenced 4 (1 + Side.a.code) || !(s.powered .net)) = true) := by
    rw [show (1 + Side.a.code) = 1 from rfl, e, f]; decide
  have q : s.prp none = (true, s) := rfl
  unfold State.ingress
  rw [if_neg n, q]
  exact if_pos rfl
theorem policed_domain (s : State) (k : Traffic) (cost : Nat) : (s.policed .a k cost).2.DOMAIN = s.DOMAIN := by
  exact policed_ind s .a k cost (fun x => x.2.DOMAIN = s.DOMAIN) (fun _ _ _ => rfl)
theorem ptpIn_fits {s : State} (cost : Nat) (k : Traffic) (h : s.ptpOn .a = true) (e : s.fenced 4 1 = false) (f : s.powered .net = true)
    (g : (s.policed .a .ptp 1).1 = true) (d : s.DOMAIN = 0) : (s.ptpIn .a 0).1 = true := by
  unfold State.ptpIn
  rw [if_pos h, ingress_none s _ _ e f]
  have q := policed_domain s .ptp 1
  generalize s.policed .a .ptp 1 = z at g q
  obtain ⟨a, b⟩ := z
  show (a && 0 == b.DOMAIN) = true
  simp only at g q
  rw [g, q, d]
  rfl
theorem ptpIn_ptpW {s : State} (h : s.ptpOn .a = true ∧ s.fenced 4 1 = false ∧ s.powered .net = true ∧
    entry s.fab.policers 0 {} = {} ∧ s.DOMAIN = 0) : (s.ptpIn .a 0).1 = true :=
  ptpIn_fits 1 .ptp h.1 h.2.1 h.2.2.1 (policed_fits s .a .ptp 1 (by
    rw [show entry s.fab.policers Side.a.code {} = {} from h.2.2.2.1]
    exact bucket _ _ _ _ rfl)) h.2.2.2.2

/-! ### Ill-formed commands are refused -/

theorem test_wf_good : (Instr.runStart 3 .form).wf = true ∧ (Instr.configCommit 3).wf = true ∧ (Instr.tick []).wf = true := by decide
theorem test_wf_level : (Instr.runStart 4 .form).wf = false := by decide
theorem test_wf_fits : (Instr.clientStateExpiry 1 65536).wf = false := by decide
theorem test_wf_bytes : (Instr.dbgResponse [256] []).wf = false := by decide
theorem test_wf_bytesN : (Instr.cellDelays 0 [1]).wf = false := by decide
theorem test_wf_fitsI : (Instr.calibrateComplete 32768 0 true).wf = false := by decide
theorem test_wf_codes : (Instr.historyFilled 0 [-32769]).wf = false := by decide
theorem test_wf_trailer : (Instr.applicationFrame .a (some (0, 65536)) 512).wf = false := by decide
theorem test_wf_cal : (Instr.senseCalibrationDone 400 []).wf = false := by decide
theorem test_wf_boot : (Instr.bootSequence { bootW with straps := 16 }).wf = false := by decide +kernel
theorem test_wf_announce : (Instr.ptpAnnounce .a 0 { forW with gm := [1] }).wf = false := by decide
theorem test_wf_pdelay : (Instr.ptpPdelay .a 0 (.req 65536 0 0)).wf = false := by decide
theorem test_wf_offer : (Instr.eventOffer [⟨0x0110, .note, 9, []⟩]).wf = false := by decide
theorem test_wf_spine : (Instr.shareMsg .a 0 [256] false).wf = false := by decide
theorem test_wf_tick : (Instr.tick [[40000]]).wf = false := by decide
theorem test_wf_uplink : (Instr.uplinkFrame 0 (List.replicate 8 0) []).wf = false := by decide
theorem test_wf_mirror : (Instr.mirror ⟨1, 0⟩ 0 0 0 0 0 0 [0]).wf = false := by decide
theorem test_wf_core : (Instr.handshakeTimeout (some 4)).wf = false := by decide

/-! ### Results worked out from the manual -/

/-- R159 with n = 7, A_o = 3, A = 6: floor((2·7·3 + 6) / 12) = 4; a tie goes to the other span: n = 1, A_o = 1, A = 2 gives 1. -/
theorem test_share : shareOf 7 3 6 = 4 ∧ shareOf 1 1 2 = 1 := by decide
/-- R127: the lowest of 5, 3, 3 is 3, candidate 2. -/
theorem test_lowest : lowest 5 [3, 3] = (3, 2) := by decide
/-- CRC-32 and CRC-32C of the nine digits are the published check values of the two polynomials (R206, R401). -/
theorem test_crc : crc32 (List.map Char.toNat "123456789".toList) = 0xCBF43926 ∧
    crc32c (List.map Char.toNat "123456789".toList) = 0xE3069283 := by decide +kernel
/-- R392: a safety reset given in FORMING is held. -/
theorem test_safeReset : (match exec (.safeReset 1) up with | .next t => t.safe.reset | _ => false) = true := by decide +kernel
/-- R84: SYS_RESET_N low for 10 µs is a SYSTEM reset; shorter than 1 µs it is none. -/
theorem test_sysReset : (match exec (.sysResetN 10000) up with | .next t => t.mode.mode == .boot | _ => false) = true ∧
    (match exec (.sysResetN 999) up with | .next t => t.mode.mode == .forming | _ => false) = true := by decide +kernel
/-- R368: OUT_SET turns on a digital output of the application and leaves its neighbour. -/
theorem test_outSet : (match exec (.outSet 1 2) { objW up 0x5001 1 1 3 with field := { up.field with up := true } } with
    | .next t => (t.pin 1).cmd && !(t.pin 0).cmd | _ => false) = true := by decide +kernel

/-! ### The conditions of the statements on the whole machine can be met -/

theorem witness_StepKeepsForm : ∃ s t : State, s.Canon ∧ s.Shape ∧ step s = .next t :=
  ⟨State.reset, State.reset, ⟨⟨by decide +kernel, by decide +kernel⟩, trivial, ⟨by decide +kernel, by decide +kernel⟩⟩,
    by unfold State.Shape; decide +kernel, rfl⟩
theorem step_front (c : Instr) (s : State) (rest : List Instr) (h : s.pending = c :: rest) : ∃ t, step s = .next t := by
  obtain ⟨t, e⟩ := exec_next c { s with pending := rest }
  exact ⟨t, by unfold step; rw [h]; exact e⟩
theorem witness_SafeIsShut : ∃ s t : State, s.mode.mode = .safe ∧ step s = .next t := by
  obtain ⟨t, e⟩ := step_front (.sysResetN 10000) { up with mode := { up.mode with mode := .safe }, pending := [.sysResetN 10000] } [] rfl
  exact ⟨_, t, rfl, e⟩
theorem witness_StepFootprint : ∃ (c : Instr) (rest : List Instr) (s t : State) (p : Part), s.pending = c :: rest ∧ step s = .next t ∧
    p ∉ footprint c ∧ p ≠ .pending := by
  obtain ⟨t, e⟩ := step_front (.configCommit 3) { com with pending := [.configCommit 3] } [] rfl
  exact ⟨.configCommit 3, [], { com with pending := [.configCommit 3] }, t, .objs, rfl, e, by decide, by decide⟩
theorem witness_StoredConfigKept : ∃ s t : State, step s = .next t ∧ ∀ rest, s.pending ≠ .configCommitDone :: rest := by
  obtain ⟨t, e⟩ := step_front (.configCommit 3) { com with pending := [.configCommit 3] } [] rfl
  exact ⟨{ com with pending := [.configCommit 3] }, t, e, fun rest h => by injection h with h; cases h⟩
theorem witness_frame_cell : ∃ (s t : State) (c : Fin 256) (d : Nat) (i : Instr), d ≠ c.val ∧ i = .telLost c ∧ exec i s = .next t := by
  obtain ⟨t, e⟩ := exec_next (.telLost 255) up
  exact ⟨up, t, 255, 0, _, by decide, rfl, e⟩
theorem witness_frame_trunk : ∃ (s t : State) (q : Fin 8) (j : Nat) (i : Instr), j ≠ q.val ∧ i = .trunkRetryExpiry q ∧ exec i s = .next t := by
  obtain ⟨t, e⟩ := exec_next (.trunkRetryExpiry 7) up
  exact ⟨up, t, 7, 0, _, by decide, rfl, e⟩
theorem witness_frame_pin : ∃ (s t : State) (p : Fin 32) (q : Nat) (i : Instr), q ≠ p.val ∧ i = .outputRetry p ∧ exec i s = .next t := by
  obtain ⟨t, e⟩ := exec_next (.outputRetry 31) up
  exact ⟨up, t, 31, 0, _, by decide, rfl, e⟩
theorem witness_frame_output : ∃ (s t : State) (n : Fin 4) (m : Nat) (i : Instr), m ≠ n.val ∧ i = .soPulseEnd n ∧ exec i s = .next t := by
  obtain ⟨t, e⟩ := exec_next (.soPulseEnd 3) up
  exact ⟨up, t, 3, 0, _, by decide, rfl, e⟩
theorem witness_frame_input : ∃ (s t : State) (c : Fin 16) (d : Nat) (i : Instr), d ≠ c.val ∧ i = .testInjection c ∧ exec i s = .next t := by
  obtain ⟨t, e⟩ := exec_next (.testInjection 15) up
  exact ⟨up, t, 15, 0, _, by decide, rfl, e⟩
theorem witness_frame_pll : ∃ (s t : State) (p : Fin 5) (j : Nat) (i : Instr), j < 5 ∧ j ≠ p.val ∧ i = .pllLock p ∧ exec i s = .next t := by
  obtain ⟨t, e⟩ := exec_next (.pllLock 4) up
  exact ⟨up, t, 4, 0, _, by decide, by decide, rfl, e⟩
theorem witness_frame_fabric : ∃ (s t : State) (m : Fin 7) (x : Fin 16) (y : Nat), y ≠ x.val ∧ exec (.semAcquire m x) s = .next t := by
  obtain ⟨t, e⟩ := exec_next (.semAcquire 0 15) up
  exact ⟨up, t, 0, 15, 0, by decide, e⟩
theorem witness_frame_queue : ∃ (s t : State) (m : Fin 7) (x : Fin 16) (y : Nat), y ≠ x.val ∧ exec (.queueTake m x) s = .next t := by
  obtain ⟨t, e⟩ := exec_next (.queueTake 0 15) up
  exact ⟨up, t, 0, 15, 0, by decide, e⟩
theorem witness_frame_master : ∃ (s t : State) (m : Fin 7) (j : Nat), j ≠ m.val ∧ exec (.windowSnapshot m) s = .next t := by
  obtain ⟨t, e⟩ := exec_next (.windowSnapshot 6) up
  exact ⟨up, t, 6, 0, by decide, e⟩
theorem witness_frame_force : ∃ (s t : State) (j k d level : Nat) (p : Fin 32) (v : Nat), objKey j k d ≠ objKey 0x5001 9 p.val ∧
    exec (.forceWrite level p v) s = .next t := by
  obtain ⟨t, e⟩ := exec_next (.forceWrite 2 0 1) com
  exact ⟨com, t, 0x5001, 1, 0, 2, 0, 1, by decide, e⟩
theorem witness_frame_prot : ∃ (s t : State) (j k d session level sub : Nat) (value : List Nat), objKey j k d ≠ objKey 0x6200 sub 0 ∧
    s.writeStatus (.sess session) level 0x6200 sub 0 value = stOk ∧ exec (.protSetWrite session level sub value) s = .next t := by
  obtain ⟨t, e⟩ := exec_next (.protSetWrite 0 3 9 [2]) com
  exact ⟨com, t, 0x6200, 10, 0, 0, 3, 9, [2], by decide, by decide +kernel, e⟩
theorem witness_SpanShare : ∃ n aO a : Nat, 0 < a ∧ aO ≤ a ∧ n ≤ a := ⟨1, 1, 1, by decide, by decide, by decide⟩
theorem witness_ApplicationEvents : ∃ c d : BitVec 16, 0xF000 ≤ c.toNat ∧ d.toNat < 0xF000 := ⟨0xF000, 0xEFFF, by decide, by decide⟩
theorem witness_ParityRetries : ∃ (s : State) (region : Fin 9) (b : Fin 16), s.Shape ∧ s.fenced region.val b.val = false ∧
    s.powered (blockDomain region.val b.val) = true ∧ b.val < blocksOf region.val :=
  ⟨up, 2, 0, by unfold State.Shape; decide +kernel, by decide +kernel, by decide +kernel, by decide +kernel⟩
theorem witness_LeadWaitTrip : ∃ s u : State, s.mode.mode = .forming ∧ s.isRun .form = true ∧ s.LEAD_WAIT ≤ s.form.leadWait ∧
    u.mode.mode = .forming ∧ u.isRun .form = true ∧ u.form.leadWait < u.LEAD_WAIT :=
  ⟨{ up with form := { up.form with leadWait := up.LEAD_WAIT } }, up, by decide +kernel, by decide +kernel, by decide +kernel,
    by decide +kernel, by decide +kernel, by decide +kernel⟩
theorem witness_AvailableCountTrip : ∃ s : State, s.isRun .select = true ∧ 0 < s.AV_MIN :=
  ⟨objW up 0x3200 10 0 1, by decide +kernel, by decide +kernel⟩
theorem witness_SelectionOrder : ∃ (s : State) (rules : List Nat), (∀ c < 256, -2147483648 ≤ (s.cellAt c).bkey ∧ (s.cellAt c).bkey ≤ 2147483647) ∧
    entry rules 255 0 = 10 := ⟨up, List.replicate 256 10, by decide +kernel, by decide +kernel⟩

/-! ### The conditions of every clause can be met -/

theorem witness0_psDatagram : ∃ (s : State) (port : Side) (rct : Option (Nat × Nat)) (src sport dst : Nat) (data : List Nat), (((s.ingress port rct .ps 1).1 = true) ∧ (s.fenced 4 5 = false) ∧ (s.datagramOk data = true) ∧ (s.tagOk data = true) ∧ (numAt data 0 1 = 1) ∧ (knownCode (numAt data 1 1) = true) ∧ (s.ps.exec = none) ∧ (s.ps.queue = []) ∧ ((numAt data 8 4 = 0 ∨ ∃ x, s.session (numAt data 8 4) = some x ∧ x.counter < numAt data 12 4))) :=
  ⟨up, .a, none, 9, 9, 7, [1, 1, 0, 0, 0, 0, 0, 0, 0, 0, 0, 0, 0, 0, 0, 0], by decide +kernel⟩
theorem witness0_readRequest : ∃ (s : State) (r : Request) (es : List (Nat × Nat × List Nat)), (s.sole r 1) ∧ (entryList r.payload = some es) :=
  ⟨askW up (reqW 1 0 0 [1, 0, 0, 0, 1, 16, 1, 0, 0, 0]), reqW 1 0 0 [1, 0, 0, 0, 1, 16, 1, 0, 0, 0], [(0x1001, 1, [])], soleW (by decide +kernel), by decide +kernel⟩
theorem witness0_readBlock : ∃ (s : State) (r : Request) (idx sub cnt : Nat), (s.sole r 3) ∧ (blockEntry r.payload = some (idx, sub, cnt, [])) :=
  ⟨askW up (reqW 3 0 0 [1, 16, 1, 2, 0, 0]), reqW 3 0 0 [1, 16, 1, 2, 0, 0], 0x1001, 1, 2, soleW (by decide +kernel), by decide +kernel⟩
theorem witness0_writeRequest : ∃ (s u : State) (r : Request) (x : Session) (es : List (Nat × Nat × List Nat)), ((s.ps.exec = none) ∧ (s.ps.queue = [r]) ∧ (r.code = 2) ∧ (r.session ≠ 0) ∧ (s.session r.session = some x) ∧ (x.counter < r.counter) ∧ (entryList r.payload = some es)) ∧ (s.popHead.writeAll r.caller (s.popHead.levelOf r.caller) none es = (stOk, 255, u, [])) ∧ ((u.ps = s.popHead.ps) ∧ (u.netUp r.port = true) ∧ (u.mode.mode ≠ .boot) ∧ (u.stillOwed (namesOf es) = none) ∧ ((namesOf es).contains (0x9001, 1) = false)) :=
  ⟨(sesW (askW com (reqW 2 5 2 [1, 0, 0, 0, 1, 32, 14, 0, 2, 0, 5, 0]))), ((sesW (askW com (reqW 2 5 2 [1, 0, 0, 0, 1, 32, 14, 0, 2, 0, 5, 0]))).popHead.writeAll (reqW 2 5 2 [1, 0, 0, 0, 1, 32, 14, 0, 2, 0, 5, 0]).caller ((sesW (askW com (reqW 2 5 2 [1, 0, 0, 0, 1, 32, 14, 0, 2, 0, 5, 0]))).popHead.levelOf (reqW 2 5 2 [1, 0, 0, 0, 1, 32, 14, 0, 2, 0, 5, 0]).caller) none [(0x2001, 14, [5, 0])]).2.2.1, (reqW 2 5 2 [1, 0, 0, 0, 1, 32, 14, 0, 2, 0, 5, 0]), sessW, [(0x2001, 14, [5, 0])], by decide +kernel, rfl, by decide +kernel⟩
theorem witness0_writeBlock : ∃ (s u : State) (r : Request) (x : Session) (es : List (Nat × Nat × List Nat)), ((s.ps.exec = none) ∧ (s.ps.queue = [r]) ∧ (r.code = 4) ∧ (r.session ≠ 0) ∧ (s.session r.session = some x) ∧ (x.counter < r.counter) ∧ (blockWrites r.payload = some es)) ∧ (s.popHead.writeAll r.caller (s.popHead.levelOf r.caller) (some r.sel) es = (stOk, 255, u, [])) ∧ ((u.ps = s.popHead.ps) ∧ (u.netUp r.port = true) ∧ (u.mode.mode ≠ .boot) ∧ (u.stillOwed (namesOf es) = none) ∧ ((namesOf es).contains (0x9001, 1) = false)) :=
  ⟨(sesW (askW com (reqW 4 5 2 [1, 32, 14, 1, 2, 0, 5, 0]))), ((sesW (askW com (reqW 4 5 2 [1, 32, 14, 1, 2, 0, 5, 0]))).popHead.writeAll (reqW 4 5 2 [1, 32, 14, 1, 2, 0, 5, 0]).caller ((sesW (askW com (reqW 4 5 2 [1, 32, 14, 1, 2, 0, 5, 0]))).popHead.levelOf (reqW 4 5 2 [1, 32, 14, 1, 2, 0, 5, 0]).caller) (some (reqW 4 5 2 [1, 32, 14, 1, 2, 0, 5, 0]).sel) [(0x2001, 14, [5, 0])]).2.2.1, (reqW 4 5 2 [1, 32, 14, 1, 2, 0, 5, 0]), sessW, [(0x2001, 14, [5, 0])], by decide +kernel, rfl, by decide +kernel⟩
theorem witness0_describeRequest : ∃ (s : State) (r : Request) (idx sub : Nat) (o : ObjRow), (s.sole r 5) ∧ ((describeEntry r.payload = some (idx, sub)) ∧ (findObj idx sub = some o)) :=
  ⟨askW up (reqW 5 0 0 [0, 48, 0, 0, 0, 0]), reqW 5 0 0 [0, 48, 0, 0, 0, 0], 0x3000, 0, rowW 0x3000 0, soleW (by decide +kernel), by decide +kernel⟩
theorem witness0_helloRequest : ∃ (s : State) (r : Request), (s.sole r 0x10) ∧ ((r.session = 0) ∧ (s.sessionStatus = stOk) ∧ (r.payload.length = 128)) :=
  ⟨askW up (reqW 0x10 0 0 (List.replicate 128 1)), reqW 0x10 0 0 (List.replicate 128 1), soleW (by decide +kernel), by decide +kernel⟩
theorem witness0_openSession : ∃ (s : State) (r : Request), (s.sole r 0x11) ∧ ((r.session = 0) ∧ (s.sessionStatus = stOk) ∧ (r.payload.length = 368) ∧ (s.ps.sessions.length < 8)) :=
  ⟨askW up (reqW 0x11 0 0 (List.replicate 368 1)), reqW 0x11 0 0 (List.replicate 368 1), soleW (by decide +kernel), by decide +kernel⟩
theorem witness0_claimOwner : ∃ (s : State) (r : Request), (s.sole r 0x13) ∧ ((r.session = 0) ∧ (s.secUp = true) ∧ (s.nvOk = true) ∧ (s.mode.mode = .commission) ∧ (s.sec.owner = none) ∧ (r.payload.length = 256) ∧ (ownerOk r.payload = true)) :=
  ⟨askW com (reqW 0x13 0 0 (1 :: List.replicate 255 0)), reqW 0x13 0 0 (1 :: List.replicate 255 0), soleW (by decide +kernel), by decide +kernel⟩
theorem witness0_closeSession : ∃ (s : State) (r : Request) (x : Session), ((s.ps.exec = none) ∧ (s.ps.queue = [r]) ∧ (r.code = 0x12) ∧ (r.session ≠ 0) ∧ (s.session r.session = some x) ∧ (x.counter < r.counter) ∧ (r.payload = []) ∧ (s.netUp r.port = true)) :=
  ⟨sesW (askW up (reqW 0x12 5 2 [])), reqW 0x12 5 2 [], sessW, by decide +kernel⟩
theorem witness0_stagedWriteApply : ∃ (s : State) (r : Request) (ws : List WEntry), ((s.ps.exec = some ⟨r, .boundary ws⟩) ∧ (s.atEnd = true)) :=
  ⟨stagedW, reqW 2 0 0 [], [], by decide +kernel⟩
theorem witness1_stagedWriteApply : ∃ (s u v : State) (r : Request) (ws : List WEntry), ((s.ps.exec = some ⟨r, .boundary ws⟩) ∧ (s.atEnd = true) ∧ (s.advance.ctlUp = true)) ∧ (v = s.advance.boundaryRegs) ∧ ((v.ps.exec = some ⟨r, .boundary ws⟩) ∧ (v.published ws = true)) ∧ (v.applyStaged r.caller (v.levelOf r.caller) ws = (stOk, 255, u)) ∧ ((u.ps.queue = []) ∧ (u.netUp r.port = true) ∧ (u.mode.mode ≠ .boot) ∧ (u.stillOwed (ws.map (fun e => (e.index, e.sub))) = none) ∧ ((ws.map (fun e => (e.index, e.sub))).contains (0x9001, 1) = false)) :=
  ⟨stagedW, (stagedW.advance.boundaryRegs.applyStaged (reqW 2 0 0 []).caller (stagedW.advance.boundaryRegs.levelOf (reqW 2 0 0 []).caller) []).2.2, stagedW.advance.boundaryRegs, reqW 2 0 0 [], [], by decide +kernel, rfl, by decide +kernel, rfl, by decide +kernel⟩
theorem witness0_sessionClose : ∃ (s : State) (level : Nat) (id : BitVec 32), ((3 ≤ level) ∧ (s.mode.mode ≠ .boot) ∧ (s.mode.mode ≠ .standby) ∧ (s.mode.mode ≠ .safe) ∧ (s.secUp = true)) :=
  ⟨up, 3, 5, by decide +kernel⟩
theorem witness0_sessionTimeout : ∃ (s : State) (id : BitVec 32) (x : Session), ((s.session id.toNat = some x) ∧ ((x.last + secs s.sec.sessionIdle ≤ s.now ∨ s.pastEnd x.notAfter = true ∨ x.opened + secs 86400 ≤ s.now))) :=
  ⟨sesW up, 5, sessW, by decide +kernel⟩
theorem witness0_runStart : ∃ (s : State) (level : Nat) (n : Fn), ((n.level ≤ level) ∧ (s.runAllowed n 1 = true) ∧ (s.isDown n = true) ∧ ((n.needs.all (fun m => s.isRun m)) = true)) :=
  ⟨com, 3, .record, by decide +kernel⟩
theorem witness0_runStop : ∃ (s : State) (level : Nat) (n : Fn), ((n.level ≤ level) ∧ (s.runAllowed n 2 = true) ∧ ((s.run n = .starting ∨ s.run n = .running)) ∧ ((n.users.all (fun m => s.isDown m)) = true)) :=
  ⟨blk, 3, .record, by decide +kernel⟩
theorem witness0_startCheckDone : ∃ (s : State) (n : Fn) (memOk : Bool), ((s.run n = .starting) ∧ ((s.fns.get n).due = true) ∧ (s.checkOf memOk n ≠ 0)) :=
  ⟨{ com with fns := { com.fns with trunk := ⟨.starting, 0, true⟩ } }, .trunk, true, by decide +kernel⟩
theorem witness1_startCheckDone : ∃ (s : State) (n : Fn) (memOk : Bool), ((s.run n = .starting) ∧ ((s.fns.get n).due = true) ∧ (s.checkOf memOk n = 0) ∧ (n ≠ .sense) ∧ (n ≠ .clock)) :=
  ⟨{ com with fns := { com.fns with record := ⟨.starting, 0, true⟩ } }, .record, true, by decide +kernel⟩
theorem witness0_stopComplete : ∃ (s : State) (n : Fn), ((s.run n = .stopping) ∧ ((n = .record → s.recd.margin = []))) :=
  ⟨{ com with fns := { com.fns with record := ⟨.stopping, 0, false⟩ } }, .record, by decide +kernel⟩
theorem witness0_modeRequestCommission : ∃ (s : State) (level : Nat), ((3 ≤ level) ∧ (s.mode.mode = .blocked) ∧ (s.mode.pend = none) ∧ (s.isDown .form = true) ∧ (s.isDown .arm = true)) :=
  ⟨{ com with mode := { com.mode with mode := .blocked } }, 3, by decide +kernel⟩
theorem witness0_modeRequestBlocked : ∃ (s : State) (level : Nat), ((1 ≤ level) ∧ (s.mode.mode = .forming ∨ (s.mode.mode = .commission ∧ s.mode.config ≠ 0))) :=
  ⟨up, 1, by decide +kernel⟩
theorem witness1_modeRequestBlocked : ∃ (s : State) (level : Nat), ((1 ≤ level) ∧ (s.mode.mode = .blocked)) :=
  ⟨blk, 1, by decide +kernel⟩
theorem witness0_modeRequestForming : ∃ (s : State) (level : Nat), ((2 ≤ level) ∧ (s.mode.mode = .blocked) ∧ (s.mode.pend = none)) ∧ (s.formingFails = 0) :=
  ⟨readyW, 2, by decide +kernel, readyW_ok⟩
theorem witness1_modeRequestForming : ∃ (s : State) (level : Nat), ((2 ≤ level) ∧ (s.mode.mode = .blocked) ∧ (s.mode.pend = none) ∧ (s.formingFails ≠ 0)) :=
  ⟨{ blk with fns := {} }, 2, by decide +kernel⟩
theorem witness0_applicationResetCommand : ∃ (s : State) (level : Nat), ((2 ≤ level) ∧ (s.mode.mode ≠ .boot) ∧ (s.mode.mode ≠ .standby) ∧ (s.mode.mode ≠ .safe)) :=
  ⟨up, 2, by decide +kernel⟩
theorem witness0_systemResetCommand : ∃ (s : State) (level : Nat), ((3 ≤ level) ∧ (s.mode.mode ≠ .boot) ∧ (s.mode.mode ≠ .standby)) :=
  ⟨up, 3, by decide +kernel⟩
theorem witness0_configCommit : ∃ (s : State) (level : Nat), ((3 ≤ level) ∧ ((s.mode.mode = .commission ∨ s.mode.mode = .blocked)) ∧ (bit (entry s.hdrs 0 {}).fenced 2 = false)) :=
  ⟨blk, 3, by decide +kernel⟩
theorem witness0_configCommitDone : ∃ (s : State), ((s.commitAt.isSome = true) ∧ (bit (entry s.hdrs 0 {}).fenced 2 = false)) :=
  ⟨{ blk with commitAt := some 1 }, by decide +kernel⟩
theorem witness0_tickLengthWrite : ∃ (s : State) (level : Nat) (v : BitVec 8), ((2 ≤ level) ∧ ((v = 1 ∨ v = 2 ∨ v = 4)) ∧ (s.mode.mode = .blocked) ∧ (([Fn.arm, .select, .trunk, .sense].all (fun n => s.run n == .stopped)) = true)) :=
  ⟨{ com with mode := { com.mode with mode := .blocked } }, 2, 4, by decide +kernel⟩
theorem witness0_stationSetpointWrite : ∃ (s : State) (level : Nat) (sub : Fin 4) (value : BitVec 32) (o : ObjRow), ((findObj 0x2002 (sub.val + 1) = some o) ∧ (o.wl ≤ level) ∧ (o.admits (signed 32 value.toNat) = true) ∧ (s.fenced 4 0 = false) ∧ (s.spnActive = true)) :=
  ⟨up, 3, 0, 100, rowW 0x2002 1, by decide +kernel⟩
theorem witness0_failNow : ∃ (s : State) (level : Nat) (c : Fin 256), (s.Shape) ∧ ((2 ≤ level) ∧ (s.populated c.val = true)) :=
  ⟨objW up 0x3002 1 0 1, 2, 0, by unfold State.Shape; decide +kernel, by decide +kernel⟩
theorem witness0_failReasonWrite : ∃ (s : State) (level : Nat) (c : Fin 256) (v : BitVec 8), (s.Shape) ∧ ((2 ≤ level) ∧ (s.isDown .select = true) ∧ (v = 0) ∧ (s.CELL_CLASS c.val ≠ 0)) :=
  ⟨objW com 0x3002 1 0 1, 2, 0, 0, by unfold State.Shape; decide +kernel, by decide +kernel⟩
theorem witness1_failReasonWrite : ∃ (s : State) (level : Nat) (c : Fin 256) (v : BitVec 8), (s.Shape) ∧ ((2 ≤ level) ∧ (s.isDown .select = true) ∧ (v = 7) ∧ (s.populated c.val = true) ∧ ((s.cellAt c.val).fail = 0)) :=
  ⟨objW com 0x3002 1 0 1, 2, 0, 7, by unfold State.Shape; decide +kernel, by decide +kernel⟩
theorem witness0_gdVerify : ∃ (s : State) (level : Nat) (c : Fin 256), (s.Shape) ∧ (2 ≤ level) :=
  ⟨up, 2, 255, by unfold State.Shape; decide +kernel, by decide +kernel⟩
theorem witness0_injCommand : ∃ (s : State) (level : Nat) (c : Fin 25), (s.Shape) ∧ ((2 ≤ level) ∧ (c.val < 16) ∧ (s.AIN_ENABLE c.val ≠ 0) ∧ (s.isRun .sense = true) ∧ (s.injBusy c.val = false)) :=
  ⟨objW up 0x4001 1 0 1, 2, 0, by unfold State.Shape; decide +kernel, by decide +kernel⟩
theorem witness0_clkCommit : ∃ (s : State) (level : Nat), ((3 ≤ level) ∧ (s.isDown .clock = true) ∧ (s.clk.ref ≠ .present)) :=
  ⟨{ com with clk := { com.clk with ref := .lost } }, 3, by decide +kernel⟩
theorem witness1_clkCommit : ∃ (s : State) (level : Nat), ((3 ≤ level) ∧ (s.isDown .clock = true) ∧ (s.clk.ref = .present)) :=
  ⟨com, 3, by decide +kernel⟩
theorem witness0_timeSet : ∃ (s : State) (level : Nat) (sec : BitVec 64) (ns : BitVec 32), ((2 ≤ level) ∧ (ns.toNat ≤ 999999999) ∧ (s.isDown .time = true)) :=
  ⟨com, 2, 5, 999999999, by decide +kernel⟩
theorem witness0_outSet : ∃ (s : State) (level : Nat) (mask : BitVec 32), ((1 ≤ level) ∧ ((s.mode.mode = .commission ∨ s.mode.mode = .blocked ∨ s.mode.mode = .forming)) ∧ (s.maskOk mask.toNat = true)) :=
  ⟨objW blk 0x5001 1 0 3, 1, 1, by decide +kernel⟩
theorem witness0_outClear : ∃ (s : State) (level : Nat) (mask : BitVec 32), ((1 ≤ level) ∧ ((s.mode.mode = .commission ∨ s.mode.mode = .blocked ∨ s.mode.mode = .forming)) ∧ (s.maskOk mask.toNat = true)) :=
  ⟨objW blk 0x5001 1 0 3, 1, 1, by decide +kernel⟩
theorem witness0_pinClear : ∃ (s : State) (level : Nat) (p : Fin 32), (s.Shape) ∧ ((2 ≤ level) ∧ ((s.mode.mode = .commission ∨ s.mode.mode = .blocked ∨ s.mode.mode = .forming))) :=
  ⟨blk, 2, 31, by unfold State.Shape; decide +kernel, by decide +kernel⟩
theorem witness0_forceWrite : ∃ (s : State) (level : Nat) (p : Fin 32) (v : Nat), (s.Canon) ∧ ((2 ≤ level) ∧ (v ≤ 2) ∧ (s.mode.mode = .commission) ∧ (s.FIO_MODE p = 3) ∧ (s.owner p.val = 0) ∧ (s.FORCE p.val ≠ v)) :=
  ⟨objW com 0x5001 1 3 3, 2, 3, 2, by refine ⟨⟨by decide +kernel, by decide +kernel⟩, trivial, ⟨by decide +kernel, by decide +kernel⟩⟩, by decide +kernel⟩
theorem witness0_safeReset : ∃ (s : State) (level : Nat), ((1 ≤ level) ∧ ((s.mode.mode = .commission ∨ s.mode.mode = .blocked ∨ s.mode.mode = .forming))) :=
  ⟨blk, 1, by decide +kernel⟩
theorem witness0_safetyConfirm : ∃ (s : State) (level : Nat) (v : BitVec 32), ((3 ≤ level) ∧ ((s.mode.mode = .commission ∨ s.mode.mode = .blocked)) ∧ (s.mode.config = 1) ∧ (s.storedImage = some s.safetyImage)) ∧ (v.toNat = s.safetyCrc) :=
  ⟨confW, 3, BitVec.ofNat 32 confW.safetyCrc, by decide +kernel, confW_crc⟩
theorem witness0_safetySetWrite : ∃ (s : State) (session level idx sub chan : Nat) (value : List Nat) (o : ObjRow), (s.Canon) ∧ ((s.inSafetySet idx sub chan = true) ∧ (findObj idx sub = some o) ∧ (s.writeStatus (.sess session) level idx sub chan value = stOk)) :=
  ⟨com, 0, 3, 0x6100, 1, 0, [1, 0], rowW 0x6100 1, by refine ⟨⟨by decide +kernel, by decide +kernel⟩, trivial, ⟨by decide +kernel, by decide +kernel⟩⟩, by decide +kernel⟩
theorem witness0_protSetWrite : ∃ (s : State) (session level sub : Nat) (value : List Nat) (o : ObjRow), (s.Canon) ∧ ((findObj 0x6200 sub = some o) ∧ (s.writeStatus (.sess session) level 0x6200 sub 0 value = stOk)) :=
  ⟨com, 0, 3, 9, [2], rowW 0x6200 9, by refine ⟨⟨by decide +kernel, by decide +kernel⟩, trivial, ⟨by decide +kernel, by decide +kernel⟩⟩, by decide +kernel⟩
theorem witness0_protStart : ∃ (s : State) (level : Nat), ((2 ≤ level) ∧ ((s.mode.mode = .commission ∨ s.mode.mode = .blocked ∨ s.mode.mode = .forming))) :=
  ⟨blk, 2, by decide +kernel⟩
theorem witness0_attestRequest : ∃ (s : State) (session level : Nat) (nonce : List Nat), ((1 ≤ level) ∧ (nonce.length = 32) ∧ ((s.mode.mode = .commission ∨ s.mode.mode = .blocked ∨ s.mode.mode = .forming)) ∧ (s.secUp = true) ∧ (s.sec.signing = none) ∧ (s.sec.tokens ≠ 0) ∧ (s.lmsOut = false) ∧ (s.fenced 0 2 = false)) :=
  ⟨blk, 5, 1, List.replicate 32 0, by decide +kernel⟩
theorem witness1_attestRequest : ∃ (s : State) (session level : Nat) (nonce : List Nat), ∃ x, ((1 ≤ level) ∧ (nonce.length = 32) ∧ ((s.mode.mode = .commission ∨ s.mode.mode = .blocked ∨ s.mode.mode = .forming)) ∧ (s.secUp = true) ∧ (s.sec.signing = none) ∧ (s.sec.tokens = 0) ∧ (s.session session = some x)) :=
  ⟨{ sesW blk with sec := { blk.sec with tokens := 0 } }, 5, 1, List.replicate 32 0, sessW, by decide +kernel⟩
theorem witness0_attestSigned : ∃ (s : State) (g : Signing), ((s.sec.signing = some g) ∧ (s.secUp = true)) :=
  ⟨{ blk with sec := { blk.sec with signing := some ⟨5, [], 3⟩ } }, ⟨5, [], 3⟩, by decide +kernel⟩
theorem witness0_ownerKeysWrite : ∃ (s : State) (session level : Nat) (data : List Nat), ((3 ≤ level) ∧ ((s.mode.mode = .commission ∨ s.mode.mode = .blocked)) ∧ (s.secUp = true) ∧ (s.nvOk = true) ∧ (ownerOk data = true)) :=
  ⟨blk, 5, 3, 1 :: List.replicate 255 0, by decide +kernel⟩
theorem witness0_credMinGenWrite : ∃ (s : State) (session level : Nat) (v : BitVec 32), ((3 ≤ level) ∧ ((s.mode.mode = .commission ∨ s.mode.mode = .blocked ∨ s.mode.mode = .forming)) ∧ (s.secUp = true) ∧ (s.nvOk = true) ∧ (s.sec.credMinGen ≤ v.toNat)) :=
  ⟨blk, 5, 3, 7, by decide +kernel⟩
theorem witness0_fuseSvn : ∃ (s : State) (level : Nat) (v : BitVec 16), ((3 ≤ level) ∧ ((s.mode.mode = .commission ∨ s.mode.mode = .blocked ∨ s.mode.mode = .forming)) ∧ (s.secUp = true) ∧ (v.toNat ≤ 63) ∧ (s.sec.fusedSvn ≤ v.toNat) ∧ (v.toNat ≤ s.sec.secSvn)) :=
  ⟨{ blk with sec := { blk.sec with secSvn := 63 } }, 3, 63, by decide +kernel⟩
theorem witness0_appMinSvnWrite : ∃ (s : State) (session level : Nat) (v : BitVec 16), ((3 ≤ level) ∧ (s.secUp = true) ∧ (s.nvOk = true) ∧ ((s.mode.mode = .commission ∨ s.mode.mode = .blocked ∨ s.mode.mode = .forming)) ∧ (v.toNat ≤ 63) ∧ (s.sec.appMinSvn ≤ v.toNat) ∧ (v.toNat ≤ s.sec.appSvn)) :=
  ⟨{ blk with sec := { blk.sec with appSvn := 63 } }, 5, 3, 63, by decide +kernel⟩
theorem witness0_debugLockSet : ∃ (s : State) (level : Nat), ((3 ≤ level) ∧ (s.mode.mode = .commission)) :=
  ⟨com, 3, by decide +kernel⟩
theorem witness0_switchover : ∃ (s : State) (level : Nat) (p : PartnerStatus), ((2 ≤ level) ∧ (s.dpx.lease = true) ∧ (s.dpx.partner = some p) ∧ (p.state = 4)) :=
  ⟨{ up with dpx := { up.dpx with partner := some ⟨4, false, 0, 0, 0, 7⟩ } }, 2, ⟨4, false, 0, 0, 0, 7⟩, by decide +kernel⟩
theorem witness0_recorderClear : ∃ (s : State) (session level : Nat), ((3 ≤ level) ∧ (s.isRun .record = true) ∧ (s.recd.memFail = false)) :=
  ⟨up, 5, 3, by decide +kernel⟩
theorem witness0_windowSnapshot : ∃ (s : State) (m : Fin 7), (s.Shape) :=
  ⟨up, 6, by unfold State.Shape; decide +kernel⟩
theorem witness0_registerWrite : ∃ (s : State) (m : Fin 7) (w : BitVec 32) (c : Nat), (s.Canon) ∧ ((2 ≤ s.mlevel m.val) ∧ (m.val ≠ 5) ∧ ((entry s.masters m.val {}).sel.ain = c) ∧ (s.regDead m.val 3 0x114 = false) ∧ (s.writeStatus (.master m.val) (s.mlevel m.val) 0x4001 0x0A c (objBytes 0x4001 0x0A (.num w.toNat)) = stOk) ∧ (wrap 32 (s.regCurrent m.val 0x4001 0x0A c).int ≠ w.toNat)) :=
  ⟨blk, 4, 1000, 0, by refine ⟨⟨by decide +kernel, by decide +kernel⟩, trivial, ⟨by decide +kernel, by decide +kernel⟩⟩, by decide +kernel⟩
theorem witness1_registerWrite : ∃ (s : State) (m : Fin 7) (w : BitVec 32), (s.Shape) ∧ ((m.val ≠ 5) ∧ (s.regDead m.val 1 0 = false)) :=
  ⟨up, 6, 0, by unfold State.Shape; decide +kernel, by decide +kernel⟩
theorem witness0_selectRegisterWrite : ∃ (s : State) (m : Fin 7) (g : Fin 5) (v : BitVec 32), (s.Shape) ∧ (((m.val = 5 → s.dbgReadOnly = false)) ∧ (2 ≤ s.mlevel m.val) ∧ (v.toNat ≤ selMax g.val)) :=
  ⟨up, 6, 0, 255, by unfold State.Shape; decide +kernel, by decide +kernel⟩
theorem witness1_selectRegisterWrite : ∃ (s : State) (m : Fin 7) (g : Fin 5) (v : BitVec 32), (s.Shape) ∧ (((m.val = 5 → s.dbgReadOnly = false)) ∧ (2 ≤ s.mlevel m.val) ∧ (selMax g.val < v.toNat)) :=
  ⟨up, 6, 0, 256, by unfold State.Shape; decide +kernel, by decide +kernel⟩
theorem witness2_selectRegisterWrite : ∃ (s : State) (m : Fin 7) (g : Fin 5) (v : BitVec 32), (s.Shape) ∧ (((m.val = 5 → s.dbgReadOnly = false)) ∧ (s.mlevel m.val < 2)) :=
  ⟨{ blk with sec := { blk.sec with dbg := some ⟨1, [], 9999999, blk.now⟩ } }, 5, 0, 0, by unfold State.Shape; decide +kernel, by decide +kernel⟩
theorem witness0_errorClear : ∃ (s : State) (m : Fin 7) (region : Fin 8) (mask : BitVec 32), (s.Shape) ∧ ((if region.val = 7 then 3 else 2) ≤ s.mlevel m.val) :=
  ⟨up, 6, 7, 511, by unfold State.Shape; decide +kernel, by decide +kernel⟩
theorem witness0_unfence : ∃ (s : State) (m : Fin 7) (region : Fin 9) (b : Fin 16), ((3 ≤ s.mlevel m.val) ∧ (s.releasable region.val b.val = true)) :=
  ⟨fencedW, 6, 0, 3, by decide +kernel⟩
theorem witness0_fenceSelftestDone : ∃ (s : State) (region : Fin 9) (b : Fin 16), (s.Shape) ∧ (s.fab.tests.contains ⟨region.val, b.val⟩ = true) :=
  ⟨{ up with fab := { up.fab with tests := [⟨0, 3⟩] } }, 0, 3, by unfold State.Shape; decide +kernel, by decide +kernel⟩
theorem witness0_semAcquire : ∃ (s : State) (m : Fin 7) (sem : Fin 16), (s.Shape) ∧ ((s.fenced 0 5 = false) ∧ ((entry s.fab.sems sem.val {}).holder = none)) :=
  ⟨up, 6, 15, by unfold State.Shape; decide +kernel, by decide +kernel⟩
theorem witness1_semAcquire : ∃ (s : State) (m : Fin 7) (sem : Fin 16), ∃ h, (s.Shape) ∧ ((s.fenced 0 5 = false) ∧ ((entry s.fab.sems sem.val {}).holder = some h)) :=
  ⟨{ up with fab := { up.fab with sems := List.replicate 16 ⟨some 2, 0⟩ } }, 6, 15, 2, by unfold State.Shape; decide +kernel, by decide +kernel⟩
theorem witness0_semRelease : ∃ (s : State) (m : Fin 7) (sem : Fin 16), (s.Shape) ∧ ((s.fenced 0 5 = false) ∧ ((entry s.fab.sems sem.val {}).holder = some m.val)) :=
  ⟨{ up with fab := { up.fab with sems := List.replicate 16 ⟨some 6, 0⟩ } }, 6, 15, by unfold State.Shape; decide +kernel, by decide +kernel⟩
theorem witness0_semRenew : ∃ (s : State) (m : Fin 7) (sem : Fin 16), (s.Shape) ∧ ((s.fenced 0 5 = false) ∧ ((entry s.fab.sems sem.val {}).holder = some m.val)) :=
  ⟨{ up with fab := { up.fab with sems := List.replicate 16 ⟨some 6, 0⟩ } }, 6, 15, by unfold State.Shape; decide +kernel, by decide +kernel⟩
theorem witness0_queuePost : ∃ (s : State) (m : Fin 7) (q : Fin 16) (w : BitVec 32) (x : MsgQ), (s.Shape) ∧ ((s.fenced 0 5 = false) ∧ (entry s.fab.queues q.val {} = x) ∧ (x.enable = true) ∧ (x.producer = m.val) ∧ (x.entries.length < 32)) :=
  ⟨{ up with fab := { up.fab with queues := List.replicate 16 ⟨6, 1, true, false, List.replicate 31 (0, 0)⟩ } }, 6, 15, 1, ⟨6, 1, true, false, List.replicate 31 (0, 0)⟩, by unfold State.Shape; decide +kernel, by decide +kernel⟩
theorem witness1_queuePost : ∃ (s : State) (m : Fin 7) (q : Fin 16) (w : BitVec 32) (x : MsgQ), (s.Shape) ∧ ((s.fenced 0 5 = false) ∧ (entry s.fab.queues q.val {} = x) ∧ (x.enable = true) ∧ (x.producer = m.val) ∧ (32 ≤ x.entries.length)) :=
  ⟨{ up with fab := { up.fab with queues := List.replicate 16 ⟨6, 1, true, false, List.replicate 32 (0, 0)⟩ } }, 6, 15, 1, ⟨6, 1, true, false, List.replicate 32 (0, 0)⟩, by unfold State.Shape; decide +kernel, by decide +kernel⟩
theorem witness0_queueTake : ∃ (s : State) (m : Fin 7) (q : Fin 16) (x : MsgQ) (e : Nat × Nat) (l : List (Nat × Nat)), (s.Shape) ∧ ((s.fenced 0 5 = false) ∧ (entry s.fab.queues q.val {} = x) ∧ (x.consumer = m.val) ∧ (x.entries = e :: l)) :=
  ⟨{ up with fab := { up.fab with queues := List.replicate 16 ⟨6, 1, true, false, [(5, 0)]⟩ } }, 1, 15, ⟨6, 1, true, false, [(5, 0)]⟩, (5, 0), [], by unfold State.Shape; decide +kernel, by decide +kernel⟩
theorem witness0_recOffer : ∃ (s : State) (core : Fin 4) (code : BitVec 16) (warn : Bool), (0xF000 ≤ code.toNat) :=
  ⟨up, 3, 0xF000, true, by decide +kernel⟩
theorem witness0_timeSecLoRead : ∃ (s : State) (m : Fin 7), (s.Shape) :=
  ⟨up, 6, by unfold State.Shape; decide +kernel⟩
theorem witness0_recNewestLoRead : ∃ (s : State) (m : Fin 7), (s.Shape) :=
  ⟨up, 6, by unfold State.Shape; decide +kernel⟩
theorem witness0_recOldestLoRead : ∃ (s : State) (m : Fin 7), (s.Shape) :=
  ⟨up, 6, by unfold State.Shape; decide +kernel⟩
theorem witness0_dbgChallenge : ∃ (s : State), ((s.sec.debugLock = false) ∧ (s.secUp = true)) :=
  ⟨up, by decide +kernel⟩
theorem witness0_dbgResponse : ∃ (s : State) (cred sig n : List Nat), ((s.sec.debugLock = false) ∧ (s.secUp = true) ∧ (s.sec.dbg = none)) ∧ ((∀ e, s.sec.dbgLockout = some e → e ≤ s.now)) ∧ (s.sec.dbgNonce = some n) :=
  ⟨{ up with sec := { up.sec with dbgNonce := some [1] } }, [], [], [1], by decide +kernel, (fun e h => by cases h), by decide +kernel⟩
theorem witness1_dbgResponse : ∃ (s : State) (cred sig n : List Nat), ((s.sec.debugLock = false) ∧ (s.secUp = true) ∧ (s.sec.dbg = none)) ∧ ((∀ e, s.sec.dbgLockout = some e → e ≤ s.now)) ∧ ((s.sec.dbgNonce = some n) ∧ ((bit (numAt cred 2 1) 0 = false ∨ s.credCheck cred sig (s.challenge n) ≠ 0))) :=
  ⟨{ up with sec := { up.sec with dbgNonce := some [1] } }, [], [], [1], by decide +kernel, (fun e h => by cases h), by decide +kernel⟩
theorem witness0_dbgAccess : ∃ (s : State) (d : DebugSession), ∃ (addr w : BitVec 32), ((s.sec.debugLock = false) ∧ (s.sec.dbg = some d)) :=
  ⟨dbgW up, ⟨3, [], 9999999, 100000000000000⟩, 0, 0, by decide +kernel⟩
theorem witness1_dbgAccess : ∃ (s : State) (d : DebugSession), ∃ (addr w : BitVec 32) (c : Fin 4), ((s.sec.debugLock = false) ∧ (s.sec.dbg = some d) ∧ (s.dbgReadOnly = false)) :=
  ⟨dbgW blk, ⟨3, [], 9999999, 100000000000000⟩, 0, 0, 3, by decide +kernel⟩
theorem witness2_dbgAccess : ∃ (s : State) (d : DebugSession), ∃ (addr w : BitVec 32) (c : Fin 4), ((s.sec.debugLock = false) ∧ (s.sec.dbg = some d) ∧ (s.dbgReadOnly = true)) :=
  ⟨dbgW up, ⟨3, [], 9999999, 100000000000000⟩, 0, 0, 3, by decide +kernel⟩
theorem witness0_dbgReset : ∃ (s : State), ((2 ≤ s.dbgLevel) ∧ (s.dbgReadOnly = false)) :=
  ⟨dbgW blk, by decide +kernel⟩
theorem witness1_dbgReset : ∃ (s : State), ((2 ≤ s.dbgLevel) ∧ (s.dbgReadOnly = true)) :=
  ⟨dbgW up, by decide +kernel⟩
theorem witness0_dbgEnd : ∃ (s : State), (s.sec.dbg.isSome = true) :=
  ⟨dbgW blk, by decide +kernel⟩
theorem witness0_extest : ∃ (s : State) (pins tdi : List Bool), (s.extestOk = true) :=
  ⟨{ dbgW blk with mode := { blk.mode with straps := 4 } }, [true], [], by decide +kernel⟩
theorem witness0_dbgLockoutEnd : ∃ (s : State) (e : Nat), ((s.sec.dbgLockout = some e) ∧ (e ≤ s.now)) :=
  ⟨{ up with sec := { up.sec with dbgLockout := some 5 } }, 5, by decide +kernel⟩
theorem witness0_dbgIdleTimeout : ∃ (s : State) (d : DebugSession), ((s.sec.dbg = some d) ∧ ((d.last + secs 600 ≤ s.now ∨ s.pastEnd d.notAfter = true))) :=
  ⟨{ up with sec := { up.sec with dbg := some ⟨3, [], 9999999, 0⟩ } }, ⟨3, [], 9999999, 0⟩, by decide +kernel⟩
theorem witness0_powerOnReset : ∃ (s : State) (va vb : Nat), ((va < 2500) ∧ (vb < 2500)) :=
  ⟨up, 2499, 2499, by decide +kernel⟩
theorem witness0_sysResetN : ∃ (s : State) (low : Nat), (10000 ≤ low) :=
  ⟨up, 10000, by decide +kernel⟩
theorem witness1_sysResetN : ∃ (s : State) (low : Nat), (low < 1000) :=
  ⟨up, 999, by decide +kernel⟩
theorem witness0_hkWatchdogExpiry : ∃ (s : State), (s.powered .hk = true) :=
  ⟨up, by decide +kernel⟩
theorem witness0_appWatchdogExpiry : ∃ (s : State) (core : Fin 4), ((s.powered .app = true) ∧ (bit s.sec.coresHeld core.val = false)) :=
  ⟨{ up with sec := { up.sec with coresHeld := 0 } }, 3, by decide +kernel⟩
theorem witness0_bootSequence : ∃ (s : State) (x : BootIn), ((s.mode.mode = .boot) ∧ (s.mode.bootStep = 0) ∧ (s.mode.halted = false)) :=
  ⟨State.reset, bootW, by decide +kernel⟩
theorem witness0_dpxListenWindowEnd : ∃ (s : State), ((s.mode.mode = .boot) ∧ (s.mode.bootStep = 8) ∧ (s.mode.listenAt + s.listenWindow ≤ s.now)) :=
  ⟨{ State.reset with now := 100000000000, mode := { mode := .boot, bootStep := 8 } }, by decide +kernel⟩
theorem witness0_firmwareVerify : ∃ (s : State), ((s.sec.fwRun = false) ∧ (s.secUp = true) ∧ ((s.mode.mode = .blocked ∨ s.mode.mode = .forming))) :=
  ⟨{ up with sec := {} }, by decide +kernel⟩
theorem witness0_vdd3v3Check : ∃ (s : State) (mv : BitVec 16), ((s.powered .hk = true) ∧ (s.pwr.vddAt + ms 1 ≤ s.now)) :=
  ⟨up, 3300, by decide +kernel⟩
theorem witness0_pmbusPoll : ∃ (s : State) (ans : List (Option Nat)), ((s.powered .hk = true) ∧ ((s.pwr.pollDue = true ∨ s.pwr.pollAt + ms 10 ≤ s.now))) :=
  ⟨up, [], by decide +kernel⟩
theorem witness1_pmbusPoll : ∃ (s : State) (ans : List (Option Nat)), ∃ a w, ((s.powered .hk = true) ∧ ((s.pwr.pollDue = true ∨ s.pwr.pollAt + ms 10 ≤ s.now)) ∧ (s.PMBUS_DEV = [a]) ∧ (ans = [some w]) ∧ (s.fenced 0 3 = false)) :=
  ⟨up.setObj 0x8101 1 0 (.oct [0x40]), [some 7], 0x40, 7, by decide +kernel⟩
theorem witness0_pmbAlert : ∃ (s : State), (s.powered .hk = true) :=
  ⟨up, by decide +kernel⟩
theorem witness0_tick : ∃ (s : State) (codes : List (List Int)), ((s.edge = false) ∧ (s.ps.opened = false) ∧ ((s.tick + 1) % s.fp ≠ 0) ∧ (s.k + 2 ≠ s.fp)) :=
  ⟨up, [], by decide +kernel⟩
theorem witness1_tick : ∃ (s : State) (codes : List (List Int)), ((s.edge = true) ∧ (s.ps.opened = false)) :=
  ⟨{ up with edge := true }, [], by decide +kernel⟩
theorem witness0_formingPeriodBoundary : ∃ (s : State), ((s.ps.opened = false) ∧ (s.atEnd = true) ∧ (s.advance.ctlUp = true) ∧ (s.advance.boundaryOpen.ctlUp = true)) :=
  ⟨{ State.reset with pwr := { domains := 4095 }, tick := 9, k := 9, lastDone := true, refsDone := true }, by decide +kernel⟩
theorem witness1_formingPeriodBoundary : ∃ (s : State), ((s.ps.opened = true) ∧ (s.ctlUp = true)) :=
  ⟨{ blk with ps := { blk.ps with opened := true } }, by decide +kernel⟩
theorem witness0_extSlotsRun : ∃ (s : State), ((s.forming = true) ∧ (s.extDone = false) ∧ (2 ≤ s.k) ∧ (s.k + 3 ≤ s.fp)) :=
  ⟨{ up with k := 2 }, by decide +kernel⟩
theorem witness1_extSlotsRun : ∃ (s : State), ∃ i, ((s.forming = true) ∧ (s.extDone = false) ∧ (2 ≤ s.k) ∧ (s.k + 3 ≤ s.fp) ∧ (s.slotsNow = [i]) ∧ (s.fenced 1 2 = false)) :=
  ⟨{ objW up 0x2030 1 0 1 with k := 7 }, 0, by decide +kernel⟩
theorem witness0_extSlotOverrun : ∃ (s : State), ((s.forming = true) ∧ (s.form.overran = true) ∧ (s.law.exN = 0)) :=
  ⟨{ up with form := { up.form with overran := true } }, by decide +kernel⟩
theorem witness1_extSlotOverrun : ∃ (s : State), ((s.forming = true) ∧ (s.form.overran = true) ∧ (s.law.exN = 1)) :=
  ⟨{ up with form := { up.form with overran := true, b := { up.form.b with exN := 1 } } }, by decide +kernel⟩
theorem witness2_extSlotOverrun : ∃ (s : State), ((s.forming = true) ∧ (s.form.overran = true) ∧ (2 ≤ s.law.exN) ∧ (s.isDown .form = false)) :=
  ⟨{ up with form := { up.form with overran := true, b := { up.form.b with exN := 2 } } }, by decide +kernel⟩
theorem witness0_extRestoreReached : ∃ (s : State), (s.restoreDue = true) :=
  ⟨{ up with form := { up.form with b := { up.form.b with exSt := 2, exRun := 4294967295 } } }, by decide +kernel⟩
theorem witness0_refsSend : ∃ (s : State) (r : RefSet), ((s.k + 2 = s.fp) ∧ (s.refsDone = false) ∧ (s.edge = false) ∧ (s.slotsFinish.form.refs = some r) ∧ (s.slotsFinish.forming = true) ∧ (s.slotsFinish.spn.leader = some s.slotsFinish.device) ∧ (s.slotsFinish.holdsLease = true)) :=
  ⟨{ up with k := 8, extDone := true, spn := { up.spn with leader := some 0 }, form := { up.form with refs := some ⟨0, 0, 0, 0, 0, 0, 3, 0, false, []⟩ } }, ⟨0, 0, 0, 0, 0, 0, 3, 0, false, []⟩, by decide +kernel⟩
theorem witness0_periodLastTick : ∃ (s : State), ((s.ctlUp = true) ∧ (s.k + 1 = s.fp) ∧ (s.lastDone = false) ∧ (s.edge = false)) :=
  ⟨{ up with k := 9, tick := 100000009 }, by decide +kernel⟩
theorem witness0_markerMsg : ∃ (s : State) (p : Side) (header : BitVec 64) (data : List Nat) (arrival : Int), ((s.spnActive = true) ∧ ((spineParse header.toNat).type = 0x01) ∧ (spineGood header.toNat data = true) ∧ ((spineParse header.toNat).src ≠ s.device) ∧ (s.firstCopy (spineParse header.toNat) p.code = true) ∧ ((spineParse header.toNat).station ≠ s.station ∨ entry data 0 0 ≠ s.tickCode)) :=
  ⟨up, .a, hdrW 1 1 0, datW 1 0 [1, 0, 0, 0], 0, by decide +kernel⟩
theorem witness1_markerMsg : ∃ (s : State) (p : Side) (header : BitVec 64) (data : List Nat) (arrival : Int), ((s.spnActive = true) ∧ ((spineParse header.toNat).type = 0x01) ∧ (spineGood header.toNat data = true) ∧ ((spineParse header.toNat).src ≠ s.device) ∧ (s.firstCopy (spineParse header.toNat) p.code = true) ∧ ((spineParse header.toNat).station = s.station) ∧ (entry data 0 0 = s.tickCode) ∧ (s.spn.isMaster = false) ∧ (s.spn.master = some (spineParse header.toNat).src)) :=
  ⟨{ up with spn := { up.spn with master := some 7 } }, .a, hdrW 1 1 0, datW 1 0 [0, 0, 0, 0], 0, by decide +kernel⟩
theorem witness0_shareMsg : ∃ (s : State) (p : Side) (header : BitVec 64) (data : List Nat), (s.hears 0x10 0 header data s.forThis) ∧ ((s.ARM_LEAD = 0) ∧ (s.activeOf s.ARM_PARTNER_POS = some (spineParse header.toNat).src)) :=
  ⟨objW (objW rosW 0x3100 6 0 0) 0x3100 7 0 1, .a, hdrW 0x10 2 100000001, datW 0x10 100000001 [20, 0, 0, 0, 0, 0, 1, 0, 0, 0, 0, 0], by unfold State.hears; decide +kernel, by decide +kernel⟩
theorem witness0_spanReport : ∃ (s : State) (p : Side) (header : BitVec 64) (data : List Nat), (s.hears 0x11 0 header data s.forLast) ∧ ((s.leads2 = true) ∧ (s.activeOf s.ARM_PARTNER_POS = some (spineParse header.toNat).src) ∧ (bit (entry data 0 0) 0 = false)) :=
  ⟨objW rosW 0x3100 7 0 1, .a, hdrW 0x11 2 100000000, datW 0x11 100000000 [0, 0, 1, 0, 2, 0, 0, 0, 0, 0, 0, 0], by unfold State.hears; decide +kernel, by decide +kernel⟩
theorem witness1_spanReport : ∃ (s : State) (p : Side) (header : BitVec 64) (data : List Nat), (s.hears 0x11 0 header data s.forLast) ∧ ((s.leads2 = true) ∧ (s.activeOf s.ARM_PARTNER_POS = some (spineParse header.toNat).src) ∧ (bit (entry data 0 0) 0 = true) ∧ (s.flagOf (s.nextTick - 1) = some false) ∧ (s.mode.mode = .forming) ∧ (s.isRun .arm = true)) :=
  ⟨objW { rosW with arm := { rosW.arm with flags := [(100000000, false)] } } 0x3100 7 0 1, .a, hdrW 0x11 2 100000000, datW 0x11 100000000 [1, 0, 1, 0, 2, 0, 0, 0, 0, 0, 0, 0], by unfold State.hears; decide +kernel, by decide +kernel⟩
theorem witness0_armState : ∃ (s : State) (p : Side) (header : BitVec 64) (data : List Nat), (s.hears 0x12 0 header data s.forLast) :=
  ⟨rosW, .a, hdrW 0x12 1 100000000, datW 0x12 100000000 [5, 2, 0, 0], by unfold State.hears; decide +kernel⟩
theorem witness1_armState : ∃ (s : State) (p : Side) (header : BitVec 64) (data : List Nat), (s.hears 0x12 0 header data s.forLast) ∧ ((s.ARM_LEAD = 1) ∧ (s.mode.mode = .forming) ∧ (s.isRun .arm = true) ∧ (entry data 0 0 % 8 ≠ s.ownArm) ∧ (bit (entry data 1 0) 0 = true) ∧ (bit (entry data 1 0) 1 = true)) :=
  ⟨rosW, .a, hdrW 0x12 1 100000000, datW 0x12 100000000 [5, 3, 0, 0], by unfold State.hears; decide +kernel, by decide +kernel⟩
theorem witness0_rollCall : ∃ (s : State) (p : Side) (header : BitVec 64) (data : List Nat), (s.hears 0x20 0 header data s.forPeriod) ∧ ((s.spn.master ≠ some (spineParse header.toNat).src ∨ s.spn.numbered = true)) :=
  ⟨{ up with k := 8 }, .a, hdrW 0x20 4 100000009, datW 0x20 100000009 (List.replicate 28 0), by unfold State.hears; decide +kernel, by decide +kernel⟩
theorem witness0_spanPub : ∃ (s : State) (p : Side) (header : BitVec 64) (data : List Nat), (s.hears 0x21 0 header data s.forPeriod) :=
  ⟨{ up with k := 8 }, .a, hdrW 0x21 3 100000009, datW 0x21 100000009 (List.replicate 20 0), by unfold State.hears; decide +kernel⟩
theorem witness0_measMsg : ∃ (s : State) (p : Side) (header : BitVec 64) (data : List Nat) (m : MeasItem), (s.hears 0x22 (entry data 0 0 + 16 * (if entry data 0 0 = 4 then ofLe ((data.drop 2).take 2) else 0)) header data s.forPeriod) ∧ (MeasItem.ofBytes data = some m) :=
  ⟨{ up with k := 8 }, .a, hdrW 0x22 3 100000009, datW 0x22 100000009 (4 :: List.replicate 19 0), .arm 0 ⟨false, 0, false, 0⟩, by unfold State.hears; decide +kernel, by decide +kernel⟩
theorem witness0_setpointMsg : ∃ (s : State) (p : Side) (header : BitVec 64) (data : List Nat), (s.hears 0x23 (entry data 2 0) header data s.forPeriod) ∧ (ofLe (data.take 2) = 0x2002) :=
  ⟨{ up with k := 8 }, .a, hdrW 0x23 2 100000009, datW 0x23 100000009 ([2, 32, 1, 0] ++ List.replicate 8 0), by unfold State.hears; decide +kernel, by decide +kernel⟩
theorem witness0_refsMsg : ∃ (s : State) (p : Side) (header : BitVec 64) (data : List Nat), (s.hears 0x30 0 header data s.forRefs) ∧ (s.spn.leader = some (spineParse header.toNat).src) :=
  ⟨{ up with k := 8, spn := { up.spn with leader := some 7 } }, .a, hdrW 0x30 8 100000008, datW 0x30 100000008 (List.replicate 60 0), by unfold State.hears; decide +kernel, by decide +kernel⟩
theorem witness1_refsMsg : ∃ (s : State) (p : Side) (header : BitVec 64) (data : List Nat), (s.hears 0x30 0 header data s.forRefs) ∧ (s.spn.leader ≠ some (spineParse header.toNat).src) :=
  ⟨{ up with k := 8 }, .a, hdrW 0x30 8 100000008, datW 0x30 100000008 (List.replicate 60 0), by unfold State.hears; decide +kernel, by decide +kernel⟩
theorem witness0_stateMsg : ∃ (s : State) (p : Side) (header : BitVec 64) (data : List Nat), (s.hears 0x31 0 header data s.forRefs) ∧ (s.spn.leader = some (spineParse header.toNat).src) :=
  ⟨{ up with k := 8, spn := { up.spn with leader := some 7 } }, .a, hdrW 0x31 32 100000008, datW 0x31 100000008 (List.replicate 252 0), by unfold State.hears; decide +kernel, by decide +kernel⟩
theorem witness0_spineEcho : ∃ (s : State) (p : Side) (header : BitVec 64) (data : List Nat) (hold : BitVec 16), ((s.spineUsable 0x40 header.toNat data = true) ∧ (s.firstCopy (spineParse header.toNat) (echoItem p data) = true)) :=
  ⟨up, .b, hdrW 0x40 1 0, datW 0x40 0 [1, 2, 3, 4], 100, by decide +kernel⟩
theorem witness0_spineEchoReply : ∃ (s : State) (p : Side) (header : BitVec 64) (data : List Nat) (rx : BitVec 32), ((s.spineUsable 0x41 header.toNat data = true) ∧ ((s.port p).lock = true) ∧ (s.firstCopy (spineParse header.toNat) (echoItem p data) = true) ∧ ((s.port p).sentAt = some (ofLe (data.take 4))) ∧ ((s.port p).echoes.length < 15)) :=
  ⟨{ up with spn := { up.spn with east := { lock := true }, west := { lock := true, sentAt := some 0 } } }, .b, hdrW 0x41 2 0, datW 0x41 0 (List.replicate 12 0), 100, by decide +kernel⟩
theorem witness0_segmentMeasure : ∃ (s : State) (p : Side), ((s.spnActive = true) ∧ ((s.port p).lock = true)) :=
  ⟨{ up with spn := { up.spn with east := { lock := true }, west := { lock := true } } }, .b, by decide +kernel⟩
theorem witness0_spinePortLockLost : ∃ (s : State) (p : Side), ((s.port p).lock = true) :=
  ⟨{ up with spn := { up.spn with east := { lock := true }, west := { lock := true } } }, .b, by decide +kernel⟩
theorem witness0_spinePortRestored : ∃ (s : State) (p : Side), ((s.port p).lock = false) :=
  ⟨up, .b, by decide +kernel⟩
theorem witness0_markerWaitExpiry : ∃ (s : State), ((s.spnActive = true) ∧ (s.TICK_MASTER_EN = 1) ∧ (s.spn.heard = false) ∧ (s.spn.isMaster = false) ∧ (s.MARKER_WAIT ≤ s.spn.markWait)) :=
  ⟨{ up with spn := { up.spn with markWait := 10000 } }, by decide +kernel⟩
theorem witness0_markerMissing : ∃ (s : State), ((s.spnActive = true) ∧ (s.spn.isMaster = false) ∧ (s.spn.master.isSome = true) ∧ (s.MARKER_MISS_MAX ≤ s.spn.markMiss) ∧ (s.nextMaster = none)) :=
  ⟨{ up with spn := { up.spn with master := some 7, markMiss := 65535 } }, by decide +kernel⟩
theorem witness1_markerMissing : ∃ (s : State), ((s.spnActive = true) ∧ (s.spn.isMaster = false) ∧ (s.spn.master.isSome = true) ∧ (s.MARKER_MISS_MAX ≤ s.spn.markMiss) ∧ (s.nextMaster = some s.device)) :=
  ⟨{ rosW with spn := { rosW.spn with master := some 9, markMiss := 65535, roster := [callW 0 1] } }, by decide +kernel⟩
theorem witness2_markerMissing : ∃ (s : State), ∃ d, ((s.spnActive = true) ∧ (s.spn.isMaster = false) ∧ (s.spn.master.isSome = true) ∧ (s.MARKER_MISS_MAX ≤ s.spn.markMiss) ∧ (s.nextMaster = some d) ∧ (d ≠ s.device)) :=
  ⟨{ rosW with spn := { rosW.spn with master := some 9, markMiss := 65535 } }, 7, by decide +kernel⟩
theorem witness0_markerLossTrip : ∃ (s : State), ((s.mode.mode = .forming) ∧ (s.spn.isMaster = false) ∧ (s.MARKER_LOSS_TRIP ≤ s.spn.lossRun) ∧ (s.isRun .trunk = true)) :=
  ⟨{ up with spn := { up.spn with lossRun := 65535 } }, by decide +kernel⟩
theorem witness0_tickLockAcquired : ∃ (s : State), ((s.spnActive = true) ∧ (s.lockTicks ≤ s.spn.lockRun)) :=
  ⟨{ up with spn := { up.spn with lockRun := 1000 } }, by decide +kernel⟩
theorem witness0_shareMissing : ∃ (s : State), ((s.ARM_LEAD = 0) ∧ (s.mode.mode = .forming) ∧ (s.isRun .arm = true) ∧ (s.shareFor s.nextTick = none) ∧ (s.arm.holdNow = false)) :=
  ⟨objW up 0x3100 6 0 0, by decide +kernel⟩
theorem witness0_shareMissTrip : ∃ (s : State), ((s.ARM_LEAD = 0) ∧ (s.mode.mode = .forming) ∧ (s.isRun .arm = true) ∧ (s.SHARE_MISS_MAX ≤ s.arm.missRun)) :=
  ⟨objW { up with arm := { up.arm with missRun := 255 } } 0x3100 6 0 0, by decide +kernel⟩
theorem witness0_reportMissingTrip : ∃ (s : State), ((s.leads2 = true) ∧ (s.mode.mode = .forming) ∧ (s.isRun .arm = true) ∧ (s.SHARE_MISS_MAX ≤ s.arm.repMiss)) :=
  ⟨objW { up with arm := { up.arm with repMiss := 255 } } 0x3100 7 0 1, by decide +kernel⟩
theorem witness0_armStateMissing : ∃ (s : State), (s.armSilent = true) :=
  ⟨{ up with spn := { up.spn with arms := List.replicate 8 ⟨true, 0⟩ } }, by decide +kernel⟩
theorem witness0_leadWaitExpiry : ∃ (s : State), ((s.mode.mode = .forming) ∧ (s.isRun .form = true) ∧ (s.LEAD_WAIT ≤ s.form.leadWait)) :=
  ⟨{ up with form := { up.form with leadWait := 65535 } }, by decide +kernel⟩
theorem witness0_refsLostTrip : ∃ (s : State), ((s.arm.extended = true) ∧ (s.arm.refs.isSome = true) ∧ (s.arm.next = none) ∧ (s.k + 1 = s.fp) ∧ (s.edge = false) ∧ (s.ARM_LEAD = 0)) :=
  ⟨objW refW 0x3100 6 0 0, by decide +kernel⟩
theorem witness1_refsLostTrip : ∃ (s : State), ((s.arm.extended = true) ∧ (s.arm.refs.isSome = true) ∧ (s.arm.next = none) ∧ (s.k + 1 = s.fp) ∧ (s.edge = false) ∧ (s.ARM_LEAD = 1) ∧ (s.mode.mode = .forming) ∧ (s.isRun .arm = true)) :=
  ⟨refW, by decide +kernel⟩
theorem witness0_substituteLimitExpiry : ∃ (s : State) (i : Nat), ((i < 4) ∧ (s.mode.mode = .forming) ∧ (s.isRun .form = true) ∧ (s.subExpired i = true)) :=
  ⟨{ up with form := { up.form with b := { up.form.b with subN := List.replicate 4 100000000 } } }, 0, by decide +kernel⟩
theorem witness0_primaryRestore : ∃ (s : State), ((s.mode.mode = .forming) ∧ (s.isRun .form = true) ∧ (s.form.srcPcc.use = 1) ∧ (16 ≤ s.form.srcPcc.primRun)) :=
  ⟨{ up with form := { up.form with srcPcc := ⟨1, 16, false, 0⟩ } }, by decide +kernel⟩
theorem witness0_shadowMismatchLimit : ∃ (s : State), ((3 ≤ s.form.mism) ∧ (s.form.barred = false)) :=
  ⟨{ up with form := { up.form with mism := 3 } }, by decide +kernel⟩
theorem witness0_shadowMatchRestore : ∃ (s : State), ((s.form.barred = true) ∧ (16 ≤ s.form.matchRun)) :=
  ⟨{ up with form := { up.form with barred := true, matchRun := 16 } }, by decide +kernel⟩
theorem witness0_syncTimeout : ∃ (s : State), ((s.syncTimeoutDue = true) ∧ (s.isDown .form = false)) :=
  ⟨lawW { sub := 2, syT := 100000000 }, by decide +kernel⟩
theorem witness0_syncFbTimeout : ∃ (s : State), (s.bsCloseDue = true) :=
  ⟨lawW { sub := 1, phase := 1, phT := 100000000 }, by decide +kernel⟩
theorem witness1_syncFbTimeout : ∃ (s : State), ((s.closeFailed = true) ∧ (s.SYNC_RETRY < s.law.fails + 1)) :=
  ⟨lawW { sub := 2, phase := 3, phT := 100000000, fails := 255 }, by decide +kernel⟩
theorem witness2_syncFbTimeout : ∃ (s : State), ((s.closeFailed = true) ∧ (s.law.fails + 1 ≤ s.SYNC_RETRY)) :=
  ⟨lawW { sub := 2, phase := 3, phT := 100000000 }, by decide +kernel⟩
theorem witness0_syncDwellElapsed : ∃ (s : State), (s.matchDue = true) :=
  ⟨{ lawW { sub := 2, phase := 2, phT := 100000000 } with form := { b := { sub := 2, phase := 2, phT := 100000000 }, syncOk := true } }, by decide +kernel⟩
theorem witness0_syncPulseEnd : ∃ (s : State), ((s.inPhase 2 3 = true) ∧ (s.SYNC_PULSE ≤ s.law.phT)) :=
  ⟨lawW { sub := 2, phase := 3, phT := 100000000 }, by decide +kernel⟩
theorem witness0_settleDwellElapsed : ∃ (s : State), ((s.settleDue = true) ∧ (s.brkClosed = true)) :=
  ⟨{ lawW { sub := 1, phase := 3, phT := 100000000 } with form := { b := { sub := 1, phase := 3, phT := 100000000, vf := 72057594037927936 }, brk := some true } }, by decide +kernel⟩
theorem witness1_settleDwellElapsed : ∃ (s : State), ((s.settleDue = true) ∧ (s.brkClosed = false)) :=
  ⟨lawW { sub := 1, phase := 3, phT := 100000000, vf := 72057594037927936 }, by decide +kernel⟩
theorem witness0_bsRampComplete : ∃ (s : State), (s.rampDue = true) :=
  ⟨lawW { sub := 1, phase := 2, tr := 100000000 }, by decide +kernel⟩
theorem witness0_bsStallExpiry : ∃ (s : State), (s.bsStallDue = true) :=
  ⟨lawW { sub := 1, phase := 2, phT := 100000000 }, by decide +kernel⟩
theorem witness0_rideEntry : ∃ (s : State), (s.rideDue = true) :=
  ⟨lawW { sub := 3, rideN := 255 }, by decide +kernel⟩
theorem witness0_rideTClearElapsed : ∃ (s : State), ((s.clearDue = true) ∧ (s.T_REC = 0)) :=
  ⟨objW { up with form := { b := { sub := 4, phase := 1, phT := 100000000 }, vRaw := 16777216 } } 0x2007 7 0 0, by decide +kernel⟩
theorem witness1_rideTClearElapsed : ∃ (s : State), ((s.clearDue = true) ∧ (s.T_REC ≠ 0)) :=
  ⟨{ up with form := { b := { sub := 4, phase := 1, phT := 100000000 }, vRaw := 16777216 } }, by decide +kernel⟩
theorem witness0_recoverComplete : ∃ (s : State), (s.recoverDue = true) :=
  ⟨lawW { sub := 4, phase := 2, phT := 100000000 }, by decide +kernel⟩
theorem witness0_rideTMaxExpiry : ∃ (s : State), (s.rideMaxDue = true) :=
  ⟨lawW { sub := 4, phase := 1, riT := 100000000 }, by decide +kernel⟩
theorem witness0_regionDwellExpiry : ∃ (s : State) (c : Nat), ((s.forming = true) ∧ (s.law.sub ≠ 4) ∧ (s.law.rpend = 255) ∧ (s.regionDue = true) ∧ (s.regionFor = some c) ∧ (c = s.law.region)) :=
  ⟨lawW { sub := 3, dwell := 10000000 }, 0, by decide +kernel⟩
theorem witness1_regionDwellExpiry : ∃ (s : State) (c : Nat), ((s.forming = true) ∧ (s.law.sub ≠ 4) ∧ (s.law.rpend = 255) ∧ (s.regionDue = true) ∧ (s.regionFor = some c) ∧ (c ≠ s.law.region)) :=
  ⟨lawW { sub := 3, dwell := 10000000, region := 1 }, 0, by decide +kernel⟩
theorem witness0_refreshDue : ∃ (s : State) (c : Fin 256), (s.Shape) ∧ ((s.isRun .select = true) ∧ ((s.cellAt c.val).refresh = none) ∧ (s.ruleOf s.tick c.val (s.stale c.val s.tick) (s.staleness c.val s.tick == 0) = 7) ∧ (s.refreshDue (s.cellAt c.val) (s.staleness c.val s.tick == 0) = true)) :=
  ⟨insW, 0, by unfold State.Shape; decide +kernel, by decide +kernel⟩
theorem witness0_bsRecoverTimeout : ∃ (s : State) (c : Fin 256) (ar : Nat), (s.Shape) ∧ (((s.cellAt c.val).refresh = some ar) ∧ (s.populated c.val = true) ∧ ((s.cellAt c.val).fail = 0) ∧ (ar + s.T_BS_RECOVER + 2 ≤ s.tick) ∧ (((s.cellAt c.val).bsGood = false ∨ (s.cellAt c.val).latched ≠ some s.tick))) :=
  ⟨cellW (objW up 0x3002 1 0 1) { refresh := some 5 }, 0, 5, by unfold State.Shape; decide +kernel, by decide +kernel⟩
theorem witness0_dwellExpiry : ∃ (s : State) (c : Fin 256) (b : Nat), (s.Shape) ∧ (((s.cellAt c.val).change = some b) ∧ (b + s.T_DWELL_MIN ≤ s.tick + 1 + s.APPLY_DELAY)) :=
  ⟨cellW up { change := some 5 }, 0, 5, by unfold State.Shape; decide +kernel, by decide +kernel⟩
theorem witness0_swPeriodEnd : ∃ (s : State) (c : Fin 256), (s.Shape) ∧ (s.SW_PERIOD ≤ s.cell.swCount) :=
  ⟨{ up with cell := { up.cell with swCount := 2500 } }, 255, by unfold State.Shape; decide +kernel, by decide +kernel⟩
theorem witness0_telStaleExceeded : ∃ (s : State) (c : Fin 256), (s.Shape) ∧ (s.populated c.val = true) :=
  ⟨objW up 0x3002 1 0 1, 0, by unfold State.Shape; decide +kernel, by decide +kernel⟩
theorem witness0_telLost : ∃ (s : State) (c : Fin 256), (s.Shape) ∧ ((s.populated c.val = true) ∧ ((s.cellAt c.val).fail = 0) ∧ (s.TEL_LOST ≤ (s.cellAt c.val).lostRun)) :=
  ⟨cellW (objW up 0x3002 1 0 1) { lostRun := 65535 }, 0, by unfold State.Shape; decide +kernel, by decide +kernel⟩
theorem witness0_appliedMismatchLimit : ∃ (s : State) (c : Fin 256), (s.Shape) ∧ ((s.populated c.val = true) ∧ ((s.cellAt c.val).fail = 0) ∧ (16 ≤ (s.cellAt c.val).misRun)) :=
  ⟨cellW (objW up 0x3002 1 0 1) { misRun := 16 }, 0, by unfold State.Shape; decide +kernel, by decide +kernel⟩
theorem witness0_uplinkFrame : ∃ (s : State) (q : Fin 8) (head : List Nat) (words : List (List Nat)), (s.Shape) ∧ ((2 ≤ (s.trk q.val).st) ∧ (head.length = 8) ∧ (crc8 (head.take 7) = entry head 7 0) ∧ (ofLe head % 16777216 = s.tick % 16777216)) :=
  ⟨trkW { up with tick := 5 } { st := 2 }, 0, [5, 0, 0, 0, 0, 0, 0, crc8 [5, 0, 0, 0, 0, 0, 0]], [], by unfold State.Shape; decide +kernel, by decide +kernel⟩
theorem witness0_trunkEchoReply : ∃ (s : State) (q : Fin 8) (sent : BitVec 32) (hold : BitVec 16) (rt x : Nat), (s.Shape) ∧ (((s.trk q.val).st = 2) ∧ ((s.trk q.val).req = some (1, le 4 sent.toNat, x))) :=
  ⟨trkW up { st := 2, req := some (1, le 4 9, 3) }, 0, 9, 100, 500, 3, by unfold State.Shape; decide +kernel, by decide +kernel⟩
theorem witness0_delayAck : ∃ (s : State) (q : Fin 8) (aligned : Bool), (s.Shape) ∧ ((s.trk q.val).st = 3) :=
  ⟨trkW up { st := 3 }, 0, true, by unfold State.Shape; decide +kernel, by decide +kernel⟩
theorem witness0_cellDelays : ∃ (s : State) (q : Fin 8) (ds : List Nat), (s.Shape) ∧ ((s.trk q.val).st ≠ 0) :=
  ⟨trkW up { st := 3 }, 0, [7, 255], by unfold State.Shape; decide +kernel, by decide +kernel⟩
theorem witness0_hubInfo : ∃ (s : State) (q : Fin 8) (data : List Nat), (s.Shape) ∧ ((s.trk q.val).st ≠ 0) :=
  ⟨trkW up { st := 3 }, 0, [7], by unfold State.Shape; decide +kernel, by decide +kernel⟩
theorem witness0_hubAlarm : ∃ (s : State) (q : Fin 8) (code : BitVec 8) (detail : BitVec 32), (s.Shape) ∧ ((s.trk q.val).st ≠ 0) :=
  ⟨trkW up { st := 5 }, 0, 3, 0, by unfold State.Shape; decide +kernel, by decide +kernel⟩
theorem witness0_mgmtRequestTimeout : ∃ (s : State) (q : Fin 8) (ty sent : Nat) (p : List Nat), (s.Shape) ∧ (((s.trk q.val).req = some (ty, p, sent)) ∧ (sent + 8 ≤ s.tick)) :=
  ⟨trkW up { st := 2, req := some (1, [], 3) }, 0, 1, 3, [], by unfold State.Shape; decide +kernel, by decide +kernel⟩
theorem witness0_trunkTrainComplete : ∃ (s : State) (q : Fin 8), (s.Shape) ∧ ((s.trk q.val).st = 1) :=
  ⟨trkW up { st := 1 }, 0, by unfold State.Shape; decide +kernel, by decide +kernel⟩
theorem witness1_trunkTrainComplete : ∃ (s : State) (q : Fin 8), (s.Shape) ∧ (((s.trk q.val).st = 1) ∧ ((s.trk q.val).at_ + ms 2 ≤ s.now)) :=
  ⟨trkW up { st := 1 }, 0, by unfold State.Shape; decide +kernel, by decide +kernel⟩
theorem witness0_trunkMeasureComplete : ∃ (s : State) (q : Fin 8) (lo hi mean : Nat), (s.Shape) ∧ (((s.trk q.val).st = 2) ∧ (64 ≤ (s.trk q.val).echoes.length) ∧ ((s.trk q.val).echoes.foldl Nat.min ((s.trk q.val).echoes.headD 0) = lo) ∧ (maxN 0 (s.trk q.val).echoes = hi) ∧ ((divNearUp (sumN (s.trk q.val).echoes) 128).toNat = mean) ∧ (hi ≤ lo + 8) ∧ (mean ≤ 760)) :=
  ⟨trkW up { st := 2, echoes := List.replicate 64 1520 }, 0, 1520, 1520, 760, by unfold State.Shape; decide +kernel, by decide +kernel⟩
theorem witness1_trunkMeasureComplete : ∃ (s : State) (q : Fin 8) (lo hi mean : Nat), (s.Shape) ∧ (((s.trk q.val).st = 2) ∧ (64 ≤ (s.trk q.val).echoes.length) ∧ ((s.trk q.val).echoes.foldl Nat.min ((s.trk q.val).echoes.headD 0) = lo) ∧ (maxN 0 (s.trk q.val).echoes = hi) ∧ ((divNearUp (sumN (s.trk q.val).echoes) 128).toNat = mean) ∧ (lo + 8 < hi ∨ 760 < mean)) :=
  ⟨trkW up { st := 2, echoes := 1529 :: List.replicate 63 1520 }, 0, 1520, 1529, 760, by unfold State.Shape; decide +kernel, by decide +kernel⟩
theorem witness0_trunkAlignComplete : ∃ (s : State) (q : Fin 8), (s.Shape) ∧ (((s.trk q.val).st = 3) ∧ ((s.trk q.val).aligned = true) ∧ ((s.trk q.val).gotInfo = true) ∧ ((s.trk q.val).gotDelays = true) ∧ ((s.trk q.val).tCell ≤ 155) ∧ (1278 + (s.trk q.val).tTrk + (s.trk q.val).tCell ≤ s.APPLY_DELAY * s.tickNs) ∧ (s.holdsLease = true) ∧ (s.mode.mode ≠ .standby)) :=
  ⟨trkW up { st := 3, aligned := true, gotInfo := true, gotDelays := true, tCell := 155, tTrk := 760 }, 0, by unfold State.Shape; decide +kernel, by decide +kernel⟩
theorem witness1_trunkAlignComplete : ∃ (s : State) (q : Fin 8), (s.Shape) ∧ (((s.trk q.val).st = 3) ∧ ((s.trk q.val).aligned = true) ∧ ((s.trk q.val).gotInfo = true) ∧ ((s.trk q.val).gotDelays = true) ∧ (155 < (s.trk q.val).tCell ∨ s.APPLY_DELAY * s.tickNs < 1278 + (s.trk q.val).tTrk + (s.trk q.val).tCell)) :=
  ⟨trkW up { st := 3, aligned := true, gotInfo := true, gotDelays := true, tCell := 156, tTrk := 760 }, 0, by unfold State.Shape; decide +kernel, by decide +kernel⟩
theorem witness0_trunkVerifyComplete : ∃ (s : State) (q : Fin 8), (s.Shape) ∧ (s.verifyOver q.val = true) :=
  ⟨trkW up { st := 4, ticks := 160 }, 0, by unfold State.Shape; decide +kernel, by decide +kernel⟩
theorem witness0_trunkRetryExpiry : ∃ (s : State) (q : Fin 8), (s.Shape) ∧ (((s.trk q.val).st = 6) ∧ ((s.trk q.val).at_ + ms 100 ≤ s.now)) :=
  ⟨trkW up { st := 6 }, 0, by unfold State.Shape; decide +kernel, by decide +kernel⟩
theorem witness0_trunkBlockLockLost : ∃ (s : State) (q : Fin 8) (down : Bool), (s.Shape) ∧ ((s.trk q.val).st = 5) :=
  ⟨trkW up { st := 5 }, 0, true, by unfold State.Shape; decide +kernel, by decide +kernel⟩
theorem witness1_trunkBlockLockLost : ∃ (s : State) (q : Fin 8) (down : Bool), (s.Shape) ∧ ((s.trk q.val).st = 2 ∨ (s.trk q.val).st = 3 ∨ (s.trk q.val).st = 4) :=
  ⟨trkW up { st := 4 }, 0, true, by unfold State.Shape; decide +kernel, by decide +kernel⟩
theorem witness2_trunkBlockLockLost : ∃ (s : State) (q : Fin 8) (down : Bool), (s.Shape) ∧ ((s.trk q.val).st ≤ 1 ∨ 6 ≤ (s.trk q.val).st) :=
  ⟨trkW up { st := 6 }, 0, true, by unfold State.Shape; decide +kernel, by decide +kernel⟩
theorem witness0_trunkLeavesUp : ∃ (s : State) (q : Fin 8), (s.Shape) ∧ (((s.trk q.val).st = 5) ∧ (s.LINK_MISS_MAX ≤ (s.trk q.val).missRun ∨ s.LINK_MISS_MAX ≤ (s.trk q.val).dlRun ∨ s.LINK_MISS_MAX ≤ (s.trk q.val).unbound)) :=
  ⟨trkW up { st := 5, missRun := 255 }, 0, by unfold State.Shape; decide +kernel, by decide +kernel⟩
theorem witness0_mailboxReadTimeout : ∃ (s : State) (c : Fin 256) (m : MailTx), (s.Shape) ∧ (((s.cellAt c.val).mail = some m) ∧ (m.again = true) ∧ (m.sent + 16 ≤ s.tick) ∧ (s.populated c.val = true) ∧ ((s.cellAt c.val).fail = 0)) :=
  ⟨cellW (objW up 0x3002 1 0 1) { mail := some ⟨0, .verify, 3, true, []⟩ }, 0, ⟨0, .verify, 3, true, []⟩, by unfold State.Shape; decide +kernel, by decide +kernel⟩
theorem witness0_periodicReadback : ∃ (s : State) (q : Fin 8) (w : Nat), (s.Shape) ∧ (((s.trk q.val).st = 5) ∧ (s.VERIFY_T ≠ 0) ∧ (s.VERIFY_T ≤ (s.trk q.val).vCount) ∧ (((List.range 32).map (fun i => ((s.trk q.val).pos + i) % 32)).find? (fun w => s.populated (32 * q.val + w)) = some w)) :=
  ⟨trkW (objW up 0x3002 1 3 1) { st := 5, vCount := 1000 }, 0, 3, by unfold State.Shape; decide +kernel, by decide +kernel⟩
theorem witness0_senseCalibrationDone : ∃ (s : State) (temp : Int) (cal : List (Option (Int × Int))) (t0 : Nat), ((s.sense.calSince = some t0) ∧ (s.run .sense = .starting) ∧ (s.storedUsable temp = true)) :=
  ⟨calW, 400, [], 0, by decide +kernel⟩
theorem witness1_senseCalibrationDone : ∃ (s : State) (temp : Int) (cal : List (Option (Int × Int))) (t0 : Nat), ((s.sense.calSince = some t0) ∧ (s.run .sense = .starting) ∧ (s.storedUsable temp = false) ∧ (s.sense.calFg = true) ∧ (t0 + 1310720 ≤ s.now)) :=
  ⟨{ calW with sense := { calW.sense with stored := none, calFg := true } }, 400, [], 0, by decide +kernel⟩
theorem witness2_senseCalibrationDone : ∃ (s : State) (temp : Int) (cal : List (Option (Int × Int))) (t0 : Nat), ((s.sense.calSince = some t0) ∧ (s.run .sense = .starting) ∧ (s.storedUsable temp = false) ∧ (s.sense.calFg = true) ∧ (s.now < t0 + 1310720)) :=
  ⟨{ calW with now := 1310719, sense := { calW.sense with stored := none, calFg := true } }, 400, [], 0, by decide +kernel⟩
theorem witness3_senseCalibrationDone : ∃ (s : State) (temp : Int) (cal : List (Option (Int × Int))) (t0 : Nat), ((s.sense.calSince = some t0) ∧ (s.run .sense = .starting) ∧ (s.storedUsable temp = false) ∧ (s.sense.calFg = false)) :=
  ⟨{ calW with sense := { calW.sense with stored := none } }, 400, [], 0, by decide +kernel⟩
theorem witness0_historyFilled : ∃ (s : State) (c : Fin 16) (x : Int), (s.Shape) ∧ ((s.converts c.val = true) ∧ ((s.ain c.val).fed < s.edges) ∧ (-32768 ≤ x) ∧ (x ≤ 32767) ∧ ((s.ain c.val).inj = none) ∧ ((s.ain c.val).arriving = [])) :=
  ⟨objW up 0x4001 1 0 1, 0, 32767, by unfold State.Shape; decide +kernel, by decide +kernel⟩
theorem witness0_comparatorCrossing : ∃ (s : State) (c : Fin 16) (x y z w : Int) (l : List Int), (s.Shape) ∧ ((s.converts c.val = true) ∧ ((s.ain c.val).fed < s.edges) ∧ (-32768 ≤ x) ∧ (x ≤ 32767) ∧ ((s.ain c.val).inj = none) ∧ ((s.ain c.val).arriving = []) ∧ ((s.ain c.val).hist = y :: z :: w :: l) ∧ (4 * s.CMP_HI c.val < x + y + z + w) ∧ (s.CMP_CONFIRM c.val ≤ (s.ain c.val).hiRun + 1) ∧ ((s.ain c.val).hiX = false) ∧ (s.CMP_ACTION c.val ≠ 0)) :=
  ⟨objW (objW (ainW (objW up 0x4001 1 0 1) { hist := [100, 100, 100], hiRun := 0 }) 0x4001 3 0 1) 0x4001 4 0 10, 0, 100, 100, 100, 100, [], by unfold State.Shape; decide +kernel, by decide +kernel⟩
theorem witness1_comparatorCrossing : ∃ (s : State) (c : Fin 16) (x y z w : Int) (l : List Int), (s.Shape) ∧ ((s.converts c.val = true) ∧ ((s.ain c.val).fed < s.edges) ∧ (-32768 ≤ x) ∧ (x ≤ 32767) ∧ ((s.ain c.val).inj = none) ∧ ((s.ain c.val).arriving = []) ∧ ((s.ain c.val).hist = y :: z :: w :: l) ∧ (4 * s.CMP_HI c.val < x + y + z + w) ∧ (s.CMP_CONFIRM c.val ≤ (s.ain c.val).hiRun + 1) ∧ ((s.ain c.val).hiX = false) ∧ (s.CMP_ACTION c.val = 2)) :=
  ⟨objW (objW (ainW (objW up 0x4001 1 0 1) { hist := [100, 100, 100], hiRun := 0 }) 0x4001 3 0 2) 0x4001 4 0 10, 0, 100, 100, 100, 100, [], by unfold State.Shape; decide +kernel, by decide +kernel⟩
theorem witness0_saturationLost : ∃ (s : State) (c : Fin 16) (x : Int), (s.Shape) ∧ ((s.converts c.val = true) ∧ ((s.ain c.val).fed < s.edges) ∧ (x = 32767 ∨ x = -32768) ∧ ((s.ain c.val).inj = none) ∧ ((s.ain c.val).arriving = [])) :=
  ⟨objW up 0x4001 1 0 1, 0, -32768, by unfold State.Shape; decide +kernel, by decide +kernel⟩
theorem witness0_rotationHandover : ∃ (s : State), (s.Shape) ∧ ((s.isRun .sense = true) ∧ (s.sense.phase = 0) ∧ (s.ROT_STEP ≠ 0) ∧ (s.tick % s.ROT_STEP = 0) ∧ (s.sense.spare < 17)) :=
  ⟨up, by unfold State.Shape; decide +kernel, by decide +kernel⟩
theorem witness0_switchEdge : ∃ (s : State) (sumX sumS : Int), (s.Shape) ∧ ((s.switchNow = true) ∧ (s.sense.spare < 17) ∧ (s.sense.x < 17) ∧ (s.sense.x ≠ s.sense.spare) ∧ (absI (sumS - sumX) ≤ 256 * s.CAL_MATCH) ∧ (s.rotInput < 16)) :=
  ⟨rotW, 0, 2048, by unfold State.Shape; decide +kernel, by decide +kernel⟩
theorem witness1_switchEdge : ∃ (s : State) (sumX sumS : Int), (s.Shape) ∧ ((s.switchNow = true) ∧ (s.sense.spare < 17) ∧ (s.sense.x < 17) ∧ (s.sense.x ≠ s.sense.spare) ∧ (256 * s.CAL_MATCH < absI (sumS - sumX)) ∧ ((s.conv s.sense.spare).fails < 2)) :=
  ⟨rotW, 0, 2049, by unfold State.Shape; decide +kernel, by decide +kernel⟩
theorem witness2_switchEdge : ∃ (s : State) (sumX sumS : Int), (s.Shape) ∧ ((s.switchNow = true) ∧ (s.sense.spare < 17) ∧ (s.sense.x < 17) ∧ (s.sense.x ≠ s.sense.spare) ∧ (256 * s.CAL_MATCH < absI (sumS - sumX)) ∧ (2 ≤ (s.conv s.sense.spare).fails)) :=
  ⟨{ rotW with sense := { rotW.sense with convs := putAt 16 { fails := 2 } rotW.sense.convs } }, 0, -2049, by unfold State.Shape; decide +kernel, by decide +kernel⟩
theorem witness0_handoverDeferralLimit : ∃ (s : State), ((s.sense.phase = 1) ∧ (s.sense.refuse = false) ∧ (1024 < s.sense.excess)) :=
  ⟨{ up with sense := { up.sense with phase := 1, excess := 1025 } }, by decide +kernel⟩
theorem witness0_calibrateComplete : ∃ (s : State) (offset gain : Int) (k : Nat), (s.Shape) ∧ ((s.sense.cal = some k) ∧ (k < 17) ∧ (s.sense.phase = 2) ∧ (s.sense.at_ + 1310720 ≤ s.now)) :=
  ⟨{ up with sense := { up.sense with phase := 2, cal := some 16 } }, 1, 2, 16, by unfold State.Shape; decide +kernel, by decide +kernel⟩
theorem witness0_internalChannelConverted : ∃ (s : State) (ch : Fin 8) (v : Int), (s.Shape) ∧ ((s.isRun .sense = true) ∧ (s.sense.phase = 0) ∧ (s.sense.pass = ch.val) ∧ (s.sense.passAt + 3200 ≤ s.now) ∧ (ch.val < 5)) :=
  ⟨{ up with sense := { up.sense with pass := 4 } }, 4, 100, by unfold State.Shape; decide +kernel, by decide +kernel⟩
theorem witness1_internalChannelConverted : ∃ (s : State) (ch : Fin 8) (v : Int), (s.Shape) ∧ ((s.isRun .sense = true) ∧ (s.sense.phase = 0) ∧ (s.sense.pass = ch.val) ∧ (s.sense.passAt + 3200 ≤ s.now) ∧ (5 ≤ ch.val) ∧ (v ≤ s.TJ_TRIP * 16)) :=
  ⟨{ up with sense := { up.sense with pass := 5 } }, 5, 100, by unfold State.Shape; decide +kernel, by decide +kernel⟩
theorem witness2_internalChannelConverted : ∃ (s : State) (ch : Fin 8) (v : Int), (s.Shape) ∧ ((s.isRun .sense = true) ∧ (s.sense.phase = 0) ∧ (s.sense.pass = ch.val) ∧ (s.sense.passAt + 3200 ≤ s.now) ∧ (5 ≤ ch.val) ∧ (s.TJ_TRIP * 16 < v) ∧ ((entry s.sense.ints ch.val {}).trips = 1)) :=
  ⟨{ up with sense := { up.sense with pass := 5, ints := List.replicate 8 { ok := true, trips := 1 } } }, 5, 100000, by unfold State.Shape; decide +kernel, by decide +kernel⟩
theorem witness0_comparatorRelease : ∃ (s : State) (c : Fin 16), (s.Shape) ∧ ((s.edges ≤ (s.ain c.val).fed) ∧ ((s.ain c.val).cmpOn = true) ∧ ((s.ain c.val).within = true)) :=
  ⟨ainW up { fed := 100, cmpOn := true }, 0, by unfold State.Shape; decide +kernel, by decide +kernel⟩
theorem witness0_frozenWindowEnd : ∃ (s : State) (c : Fin 16), (s.Shape) ∧ ((s.edges ≤ (s.ain c.val).fed) ∧ ((s.ain c.val).ended = false) ∧ (s.FROZEN_WIN c.val ≠ 0) ∧ (s.FROZEN_WIN c.val ≤ (s.ain c.val).winT + 1) ∧ (2 ≤ (s.ain c.val).winN)) :=
  ⟨objW (ainW up { fed := 100, winT := 9, winN := 2 }) 0x4001 8 0 10, 0, by unfold State.Shape; decide +kernel, by decide +kernel⟩
theorem witness0_saturationClear : ∃ (s : State) (c : Fin 16), (s.Shape) ∧ ((s.edges ≤ (s.ain c.val).fed) ∧ ((s.ain c.val).lostSat = true) ∧ ((s.ain c.val).satTick = false)) :=
  ⟨ainW up { fed := 100, lostSat := true }, 0, by unfold State.Shape; decide +kernel, by decide +kernel⟩
theorem witness0_testInjection : ∃ (s : State) (c : Fin 16), (s.Shape) ∧ ((s.TEST_T c.val ≠ 0) ∧ (s.sampleTick % s.TEST_T c.val = 0) ∧ (s.converts c.val = true) ∧ ((s.ain c.val).fed < 50)) :=
  ⟨objW (objW up 0x4001 1 0 1) 0x4001 0x0A 0 1000, 0, by unfold State.Shape; decide +kernel, by decide +kernel⟩
theorem witness1_testInjection : ∃ (s : State) (c : Fin 16), (s.Shape) ∧ ((s.TEST_T c.val ≠ 0) ∧ (s.sampleTick % s.TEST_T c.val = 0) ∧ (s.converts c.val = true) ∧ (50 ≤ (s.ain c.val).fed) ∧ (s.injBusy c.val = false)) :=
  ⟨objW (ainW (objW up 0x4001 1 0 1) { fed := 60 }) 0x4001 0x0A 0 1000, 0, by unfold State.Shape; decide +kernel, by decide +kernel⟩
theorem witness2_testInjection : ∃ (s : State) (c : Fin 16), (s.Shape) ∧ ((s.TEST_T c.val ≠ 0) ∧ (s.sampleTick % s.TEST_T c.val = 0) ∧ (s.converts c.val = true) ∧ (50 ≤ (s.ain c.val).fed) ∧ (s.injBusy c.val = true)) :=
  ⟨objW (ainW (objW up 0x4001 1 0 1) { fed := 60, inj := some { mode := 0, test := false, due := 5 } }) 0x4001 0x0A 0 1000, 0, by unfold State.Shape; decide +kernel, by decide +kernel⟩
theorem witness0_referenceLost : ∃ (s : State), (s.clk.ref ≠ .lost) :=
  ⟨up, by decide +kernel⟩
theorem witness0_referencePresent : ∃ (s : State), (s.clk.ref = .qualifying) :=
  ⟨{ up with clk := { up.clk with ref := .qualifying } }, by decide +kernel⟩
theorem witness0_pllLock : ∃ (s : State) (p : Fin 5), ((s.clk.pll p.val).st = .acquire) :=
  ⟨pllW { act := ⟨0, 0, 0, 0, []⟩, st := .acquire }, 0, by decide +kernel⟩
theorem witness0_pllLockLost : ∃ (s : State) (p : Fin 5), (((s.clk.pll p.val).st = .locked) ∧ (s.clk.ref = .present)) :=
  ⟨pllW { act := ⟨0, 0, 0, 0, []⟩, st := .locked }, 0, by decide +kernel⟩
theorem witness0_acquisitionTimeout : ∃ (s : State) (p : Fin 5), ∃ e rest, (((s.clk.pll p.val).st = .acquire) ∧ ((s.clk.pll p.val).at_ + us 200 ≤ s.now) ∧ ((s.clk.pll p.val).tries = e :: rest)) :=
  ⟨pllW { act := ⟨0, 0, 0, 0, []⟩, st := .acquire, tries := [3] }, 0, 3, [], by decide +kernel⟩
theorem witness1_acquisitionTimeout : ∃ (s : State) (p : Fin 5), (((s.clk.pll p.val).st = .acquire) ∧ ((s.clk.pll p.val).at_ + us 200 ≤ s.now) ∧ ((s.clk.pll p.val).tries = [])) :=
  ⟨pllW { act := ⟨0, 0, 0, 0, []⟩, st := .acquire }, 0, by decide +kernel⟩
theorem witness0_freqMonitorWindow : ∃ (s : State) (p : Fin 5) (err : Int), (absI err ≤ 50000) :=
  ⟨up, 0, -50000, by decide +kernel⟩
theorem witness1_freqMonitorWindow : ∃ (s : State) (p : Fin 5) (err : Int), ((50000 < absI err) ∧ ((s.clk.pll p.val).st = .coast)) :=
  ⟨pllW { act := ⟨0, 0, 0, 0, []⟩, st := .coast }, 0, 50001, by decide +kernel⟩
theorem witness0_referenceLoss10s : ∃ (s : State) (t0 : Nat), ((s.clk.lostAt = some t0) ∧ (t0 + secs 10 ≤ s.now)) :=
  ⟨{ up with clk := { up.clk with lostAt := some 0 } }, 0, by decide +kernel⟩
theorem witness0_backupSwitchDone : ∃ (s : State) (p : Fin 5), ((s.clk.pll p.val).pending = true) :=
  ⟨pllW { act := ⟨0, 0, 0, 0, []⟩, pending := true }, 0, by decide +kernel⟩
theorem witness0_backupTrim : ∃ (s : State) (p : Fin 5), ((s.clk.ref = .present) ∧ ((s.clk.pll p.val).trimmed + ms 1 ≤ s.now)) :=
  ⟨up, 4, by decide +kernel⟩
theorem witness0_monitorRatioMeasure : ∃ (s : State) (ppm : Int), ((s.clk.ref = .present) ∧ (s.clk.ratioAt + ms 1 ≤ s.now)) :=
  ⟨up, 3, by decide +kernel⟩
theorem witness0_relockFDone : ∃ (s : State) (p : Fin 5) (err : Int), ((s.clk.pll p.val).st = .relockF) :=
  ⟨pllW { act := ⟨0, 0, 0, 0, []⟩, st := .relockF }, 0, 5, by decide +kernel⟩
theorem witness0_ainTrigEdge : ∃ (s : State) (rising : Bool) (c : Nat), (s.Shape) ∧ ((c < 16) ∧ (s.converts c = true) ∧ (s.INJ_SOURCE c = 3 ∨ s.INJ_SOURCE c = (if rising then 1 else 2))) :=
  ⟨objW (objW up 0x4001 1 0 1) 0x4001 0x0E 0 3, true, 0, by unfold State.Shape; decide +kernel, by decide +kernel⟩
theorem witness1_ainTrigEdge : ∃ (s : State) (rising : Bool) (c : Nat), (s.Shape) ∧ ((c < 16) ∧ (s.converts c = true) ∧ (s.INJ_SOURCE c ≠ 3) ∧ (s.INJ_SOURCE c ≠ (if rising then 1 else 2))) :=
  ⟨objW up 0x4001 1 0 1, true, 0, by unfold State.Shape; decide +kernel, by decide +kernel⟩
theorem witness0_injectedSampleDone : ∃ (s : State) (c : Fin 16) (x : Int) (r : InjReq), (s.Shape) ∧ ((s.converts c.val = true) ∧ ((s.ain c.val).fed < s.edges) ∧ ((s.ain c.val).arriving = []) ∧ ((s.ain c.val).inj = some r) ∧ (-32768 ≤ x) ∧ (x ≤ 32767) ∧ (r.taken = false) ∧ (r.due ≤ ((s.ain c.val).fed : Int) + 1)) :=
  ⟨ainW (objW up 0x4001 1 0 1) { inj := some { mode := 0, test := false, due := 1 } }, 0, 32767, { mode := 0, test := false, due := 1 }, by unfold State.Shape; decide +kernel, by decide +kernel⟩
theorem witness1_injectedSampleDone : ∃ (s : State) (c : Fin 16) (x : Int) (r : InjReq), (s.Shape) ∧ ((s.converts c.val = true) ∧ ((s.ain c.val).fed < s.edges) ∧ ((s.ain c.val).arriving = []) ∧ ((s.ain c.val).inj = some r) ∧ (-32768 ≤ x) ∧ (x ≤ 32767) ∧ (r.taken = true) ∧ (r.leaves ≤ ((s.ain c.val).fed : Int) + 1)) :=
  ⟨ainW (objW up 0x4001 1 0 1) { inj := some { mode := 0, test := false, due := 1, taken := true, leaves := 1 } }, 0, -32768, { mode := 0, test := false, due := 1, taken := true, leaves := 1 }, by unfold State.Shape; decide +kernel, by decide +kernel⟩
theorem witness0_relockPDone : ∃ (s : State) (p : Fin 5), (((s.clk.pll p.val).st = .relockP) ∧ ((s.clk.pll p.val).offset = 0)) :=
  ⟨pllW { act := ⟨0, 0, 0, 0, []⟩, st := .relockP }, 0, by decide +kernel⟩
theorem witness0_backupReturn : ∃ (s : State) (p : Fin 5), (((s.clk.pll p.val).backup = true) ∧ ((s.clk.pll p.val).st = .locked)) :=
  ⟨pllW { act := ⟨0, 0, 0, 0, []⟩, st := .locked, backup := true }, 0, by decide +kernel⟩
theorem witness0_heldCommitApply : ∃ (s : State), ((s.clk.commit = true) ∧ (s.clk.ref = .present) ∧ ((∀ i < 4, (s.clk.pll i).pending = false))) :=
  ⟨{ up with clk := { up.clk with commit := true } }, by decide +kernel⟩
theorem witness0_ptpSync : ∃ (s : State) (p : Side) (domain seq : Nat) (two : Bool) (t1 capture corr : Int), ((s.ptpIn p domain).1 = true) ∧ ((s.qualified p ≠ none) ∧ (s.fenced 4 3 = false) ∧ (two = true)) :=
  ⟨ptpW, .a, 0, 1, true, 0, 0, 0, ptpIn_ptpW (by decide +kernel), by decide +kernel⟩
theorem witness1_ptpSync : ∃ (s : State) (p : Side) (domain seq : Nat) (two : Bool) (t1 capture corr : Int), ((s.ptpIn p domain).1 = true) ∧ ((s.qualified p ≠ none) ∧ (s.fenced 4 3 = false) ∧ (two = false) ∧ (s.time.slaveLost = none) ∧ (s.time.slave ≠ some p)) :=
  ⟨ptpW, .a, 0, 1, false, 0, 0, 0, ptpIn_ptpW (by decide +kernel), by decide +kernel⟩
theorem witness2_ptpSync : ∃ (s : State) (p : Side) (domain seq : Nat) (two : Bool) (t1 capture corr : Int), ((s.ptpIn p domain).1 = true) ∧ ((s.qualified p ≠ none) ∧ (s.fenced 4 3 = false) ∧ (two = false) ∧ (s.time.slaveLost = none) ∧ (s.time.slave = some p) ∧ (s.time.servo = .free) ∧ (s.time.onBackup = false)) :=
  ⟨{ ptpW with time := { ptpW.time with slave := some .a } }, .a, 0, 1, false, 0, 0, 0, ptpIn_ptpW (by decide +kernel), by decide +kernel⟩
theorem witness0_ptpFollowUp : ∃ (s : State) (p : Side) (domain : Nat) (t1 corr : Int) (w : SyncWait), ((s.ptpIn p domain).1 = true) ∧ (((s.time.port p).wait = some w) ∧ (s.fenced 4 3 = false) ∧ (s.time.slaveLost = none) ∧ (s.time.slave ≠ some p)) :=
  ⟨ptpW, .a, 0, 0, 0, ⟨1, 5, 0⟩, ptpIn_ptpW (by decide +kernel), by decide +kernel⟩
theorem witness1_ptpFollowUp : ∃ (s : State) (p : Side) (domain : Nat) (t1 corr : Int) (w : SyncWait), ((s.ptpIn p domain).1 = true) ∧ (((s.time.port p).wait = some w) ∧ (s.fenced 4 3 = false) ∧ (s.time.slaveLost = none) ∧ (s.time.slave = some p) ∧ (s.time.servo = .free) ∧ (s.time.onBackup = false)) :=
  ⟨{ ptpW with time := { ptpW.time with slave := some .a } }, .a, 0, 0, 0, ⟨1, 5, 0⟩, ptpIn_ptpW (by decide +kernel), by decide +kernel⟩
theorem witness0_ptpAnnounce : ∃ (s : State) (p : Side) (domain : Nat) (f : Foreign), ((s.ptpIn p domain).1 = true) :=
  ⟨ptpW, .a, 0, forW, ptpIn_ptpW (by decide +kernel)⟩
theorem witness0_ptpPdelay : ∃ (s : State) (p : Side) (domain seq : Nat) (capture : Int), ∃ egress : Int, ((s.ptpIn p domain).1 = true) :=
  ⟨ptpW, .a, 0, 1, 0, 0, ptpIn_ptpW (by decide +kernel)⟩
theorem witness1_ptpPdelay : ∃ (s : State) (p : Side) (domain seq : Nat) (capture : Int), ∃ turn corr t1 : Int, ((s.ptpIn p domain).1 = true) ∧ ((s.time.port p).preq = some (seq, t1)) :=
  ⟨ptpW, .a, 0, 1, 0, 0, 0, 3, ptpIn_ptpW (by decide +kernel), by decide +kernel⟩
theorem witness0_pdelayReqSend : ∃ (s : State) (p : Side) (capture : Int), (s.ptpOn p = true) ∧ ((∀ t0, (s.time.port p).pdAt = some t0 → t0 + secs 1 ≤ s.now)) :=
  ⟨up, .a, 0, by decide +kernel, (fun e h => by cases h)⟩
theorem witness0_ptpMasterSend : ∃ (s : State) (ca cb : Int) (p : Side), (((s.time.port p).st = .master) ∧ ((∀ t0, (s.time.port p).mAt = some t0 → t0 + secs 1 ≤ s.now))) :=
  ⟨{ up with time := { up.time with pa := { st := .master } } }, 0, 0, .a, by decide +kernel⟩
theorem witness0_syncLoss : ∃ (s : State), ((s.isRun .time = true) ∧ (s.time.syncAt + secs 3 ≤ s.now) ∧ (s.time.servo = .locked)) :=
  ⟨{ up with time := { up.time with servo := .locked } }, by decide +kernel⟩
theorem witness1_syncLoss : ∃ (s : State), ((s.isRun .time = true) ∧ (s.time.syncAt + secs 3 ≤ s.now) ∧ (s.time.servo = .acquire)) :=
  ⟨{ up with time := { up.time with servo := .acquire } }, by decide +kernel⟩
theorem witness0_holdoverExpiry : ∃ (s : State), ((s.time.servo = .holdover) ∧ (s.time.holdAt + secs s.TIME_HOLD_T ≤ s.now)) :=
  ⟨{ up with now := 100000000000000000, time := { up.time with servo := .holdover } }, by decide +kernel⟩
theorem witness0_secondRollover : ∃ (s : State), (s.time.rolled = true) :=
  ⟨{ up with time := { up.time with rolled := true } }, by decide +kernel⟩
theorem witness0_prpSupervisionSend : ∃ (s : State), ((∀ t0, s.fab.superAt = some t0 → t0 + ms 2000 ≤ s.now)) ∧ (s.powered .net = true) :=
  ⟨up, (fun e h => by cases h), by decide +kernel⟩
theorem witness0_barrierFrame : ∃ (s : State) (levels : List Nat) (volts : List Int) (amps : List Nat) (so : List (Int × Int)) (crc : BitVec 32), ((s.masterRuns = true) ∧ (crc32 ((s.dieSamples levels).dieFrame volts amps so) = crc.toNat)) :=
  ⟨up, [], [], [], [], BitVec.ofNat 32 (crc32 ((up.dieSamples []).dieFrame [] [] [])), by decide +kernel⟩
theorem witness1_barrierFrame : ∃ (s : State) (levels : List Nat) (volts : List Int) (amps : List Nat) (so : List (Int × Int)) (crc : BitVec 32), ((s.masterRuns = true) ∧ (crc32 ((s.dieSamples levels).dieFrame volts amps so) ≠ crc.toNat)) :=
  ⟨up, [], [], [], [], 0, by decide +kernel⟩
theorem witness0_barrierLinkDown : ∃ (s : State), ((8 ≤ s.field.missRun ∨ s.field.lastOk + us 8 ≤ s.slotTime) ∧ (s.field.up = true)) :=
  ⟨{ up with field := { up.field with up := true } }, by decide +kernel⟩
theorem witness0_barrierLinkRestored : ∃ (s : State) (t0 : Nat), ((s.field.goodSince = some t0) ∧ (t0 + ms 1 ≤ s.slotTime) ∧ (s.slotTime < s.field.lastOk + us 8) ∧ (s.masterRuns = true)) :=
  ⟨{ up with field := { up.field with up := false, goodSince := some 0, lastOk := up.now } }, 0, by decide +kernel⟩
theorem witness0_inputDebounceChange : ∃ (s : State) (p : Fin 32), (s.Shape) ∧ ((s.mode.mode ≠ .boot) ∧ ((s.pin p.val).lvl ≠ (s.pin p.val).dieDeb) ∧ (4 * s.DEBOUNCE p.val < (s.pin p.val).run)) :=
  ⟨pinW up { lvl := true, run := 4001 }, 0, by unfold State.Shape; decide +kernel, by decide +kernel⟩
theorem witness0_outputOverload : ∃ (s : State) (p : Fin 32), (s.Shape) ∧ (s.pinOn p.val = true) :=
  ⟨outW, 0, by unfold State.Shape; decide +kernel, by decide +kernel⟩
theorem witness0_outputThermal : ∃ (s : State) (p : Fin 32), (s.Shape) ∧ (s.pinOn p.val = true) :=
  ⟨outW, 0, by unfold State.Shape; decide +kernel, by decide +kernel⟩
theorem witness0_outputRetry : ∃ (s : State) (p : Fin 32) (t0 : Nat), (s.Shape) ∧ (((s.pin p.val).retryAt = some t0) ∧ (t0 ≤ s.now) ∧ ((s.pin p.val).hot = false) ∧ (s.command p.val = true) ∧ (s.fieldSeen = true)) :=
  ⟨pinW (objW up 0x5001 1 0 3) { cmd := true, retryAt := some 5 }, 0, 5, by unfold State.Shape; decide +kernel, by decide +kernel⟩
theorem witness0_overloadFlagClear : ∃ (s : State) (p : Fin 32), (s.Shape) ∧ (s.pinOn p.val = true) :=
  ⟨outW, 0, by unfold State.Shape; decide +kernel, by decide +kernel⟩
theorem witness0_wireBreak : ∃ (s : State) (p : Fin 32), (s.Shape) ∧ ((s.FIO_MODE p.val = 1 ∨ s.FIO_MODE p.val = 2) ∧ (bit (s.DIAG_EN p.val) 0 = true) ∧ (s.monitorMode = false) ∧ (s.fieldSeen = true) ∧ (s.readsOn p.val = false) ∧ ((s.pin p.val).wire = false)) :=
  ⟨objW (objW up 0x5001 1 0 1) 0x5001 4 0 1, 0, by unfold State.Shape; decide +kernel, by decide +kernel⟩
theorem witness1_wireBreak : ∃ (s : State) (p : Fin 32), (s.Shape) ∧ ((s.FIO_MODE p.val = 1 ∨ s.FIO_MODE p.val = 2) ∧ (bit (s.DIAG_EN p.val) 0 = true) ∧ (s.monitorMode = false) ∧ (s.fieldSeen = true) ∧ ((s.pin p.val).wire = true)) :=
  ⟨pinW (objW (objW up 0x5001 1 0 1) 0x5001 4 0 1) { wire := true }, 0, by unfold State.Shape; decide +kernel, by decide +kernel⟩
theorem witness0_outputDiagTimer : ∃ (s : State) (p : Fin 32) (d : Fin 4) (b en code : Nat) (on : Bool), (s.Shape) ∧ ((diagRow d.val = (b, en, on, code)) ∧ (s.FIO_MODE p.val = 3) ∧ (bit (s.DIAG_EN p.val) en = true) ∧ (s.suppressed p.val = false) ∧ (s.fieldSeen = true) ∧ (s.pinOn p.val = on) ∧ ((s.pin p.val).flag b = false)) :=
  ⟨objW outW 0x5001 4 0 255, 0, 2, 2, 2, 0x6404, true, by unfold State.Shape; decide +kernel, by decide +kernel⟩
theorem witness1_outputDiagTimer : ∃ (s : State) (p : Fin 32) (d : Fin 4) (b en code : Nat) (on : Bool), (s.Shape) ∧ ((diagRow d.val = (b, en, on, code)) ∧ (s.FIO_MODE p.val = 3) ∧ (bit (s.DIAG_EN p.val) en = true) ∧ (s.suppressed p.val = false) ∧ (s.fieldSeen = true) ∧ ((s.pin p.val).flag b = true)) :=
  ⟨pinW (objW outW 0x5001 4 0 255) { openOn := true }, 0, 2, 2, 2, 0x6404, true, by unfold State.Shape; decide +kernel, by decide +kernel⟩
theorem witness0_pinReversed : ∃ (s : State) (p : Fin 32) (low : Bool), (s.Shape) ∧ ((s.FIO_MODE p.val ≠ 0) ∧ (s.fieldSeen = true) ∧ (low ≠ (s.pin p.val).reversed)) :=
  ⟨objW up 0x5001 1 0 1, 0, true, by unfold State.Shape; decide +kernel, by decide +kernel⟩
theorem witness0_lpSample : ∃ (s : State) (mv : Int), (s.fieldSeen = true) :=
  ⟨up, 24000, by decide +kernel⟩
theorem witness0_safetyCycle : ∃ (s : State), (s.isRun .safety = true) :=
  ⟨up, by decide +kernel⟩
theorem witness0_protItemLatch : ∃ (s : State) (i : Fin 6), ((s.isRun .safety = true) ∧ (s.safe.prot.run = true) ∧ (s.PROT_N ≤ entry s.safe.prot.counts i.val 0 + 1) ∧ ((s.protItem (i.val + 1)).1 = true) ∧ (bit s.safe.prot.latched i.val = false)) :=
  ⟨protW, 0, by decide +kernel⟩
theorem witness0_discrepancyTimeout : ∃ (s : State) (i : Fin 8), (s.Shape) ∧ ((s.isRun .safety = true) ∧ (s.safe.first = false) ∧ ((s.siJudge i.val false false).newFault = true)) :=
  ⟨discW, 0, by unfold State.Shape; decide +kernel, by decide +kernel⟩
theorem witness0_intlkDwellElapsed : ∃ (s : State) (t0 : Nat) (door earth : Bool), ((s.safe.sf1Since = some t0) ∧ (s.isRun .safety = true) ∧ (s.safe.first = false) ∧ (t0 + secs s.INTLK_DWELL ≤ s.now) ∧ (door = (s.releaseOk (s.sf1Causes != 0 || s.safe.door || s.safe.earth) && bit s.REL_REQ 0 && (s.DOOR_REQ_SI == 255 || !(s.si s.DOOR_REQ_SI).demand))) ∧ (earth = (s.releaseOk (s.sf1Causes != 0 || s.safe.door || s.safe.earth) && bit s.REL_REQ 1))) :=
  ⟨{ up with safe := { up.safe with first := false } }, 0, false, false, by decide +kernel⟩
theorem witness0_lockstepMismatch : ∃ (s : State), (s.powered .safe = true) :=
  ⟨up, by decide +kernel⟩
theorem witness0_lockstepSelftestFail : ∃ (s : State), (s.powered .safe = true) :=
  ⟨up, by decide +kernel⟩
theorem witness0_soSwitchOnStep : ∃ (s : State) (n : Fin 4) (t0 : Nat), (s.Shape) ∧ (((s.so n.val).step = some t0) ∧ (t0 + us 100 ≤ s.now) ∧ ((s.so n.val).low = true)) :=
  ⟨soW up { step := some 5 }, 0, 5, by unfold State.Shape; decide +kernel, by decide +kernel⟩
theorem witness1_soSwitchOnStep : ∃ (s : State) (n : Fin 4) (t0 : Nat), (s.Shape) ∧ (((s.so n.val).step = some t0) ∧ (t0 + us 100 ≤ s.now) ∧ ((s.so n.val).low = false)) :=
  ⟨soW up { step := some 5, volt := (3000, 0) }, 0, 5, by unfold State.Shape; decide +kernel, by decide +kernel⟩
theorem witness0_soTestPulseDue : ∃ (s : State) (n : Fin 4) (t0 : Nat), (s.Shape) ∧ (((s.so n.val).onSince = some t0) ∧ (t0 + ms (s.SO_TEST_T n.val) ≤ s.now) ∧ ((s.so n.val).h = true) ∧ ((s.so n.val).l = true) ∧ ((s.so n.val).pulse = none)) :=
  ⟨soW up { onSince := some 5, h := true, l := true }, 0, 5, by unfold State.Shape; decide +kernel, by decide +kernel⟩
theorem witness0_soPulseEnd : ∃ (s : State) (n : Fin 4) (onH : Bool) (t0 : Nat), (s.Shape) ∧ (((s.so n.val).pulse = some (onH, t0)) ∧ (t0 + us (s.SO_PULSE n.val) ≤ s.now) ∧ ((s.so n.val).spoiled = true ∨ (s.so n.val).cmd = false)) :=
  ⟨soW up { pulse := some (true, 5), spoiled := true }, 0, true, 5, by unfold State.Shape; decide +kernel, by decide +kernel⟩
theorem witness1_soPulseEnd : ∃ (s : State) (n : Fin 4) (onH : Bool) (t0 : Nat), (s.Shape) ∧ (((s.so n.val).pulse = some (onH, t0)) ∧ (t0 + us (s.SO_PULSE n.val) ≤ s.now) ∧ ((s.so n.val).spoiled = false) ∧ ((s.so n.val).cmd = true) ∧ (s.pulsePasses (s.so n.val) onH = true)) :=
  ⟨soW up { pulse := some (true, 5), cmd := true }, 0, true, 5, by unfold State.Shape; decide +kernel, by decide +kernel⟩
theorem witness2_soPulseEnd : ∃ (s : State) (n : Fin 4) (onH : Bool) (t0 : Nat), (s.Shape) ∧ (((s.so n.val).pulse = some (onH, t0)) ∧ (t0 + us (s.SO_PULSE n.val) ≤ s.now) ∧ ((s.so n.val).spoiled = false) ∧ ((s.so n.val).cmd = true) ∧ (s.pulsePasses (s.so n.val) onH = false)) :=
  ⟨soW up { pulse := some (true, 5), cmd := true, volt := (3000, 0) }, 0, true, 5, by unfold State.Shape; decide +kernel, by decide +kernel⟩
theorem witness0_soDiagTimer : ∃ (s : State) (n : Fin 4) (pr : Bool), (s.Shape) ∧ ((s.fieldSeen = true) ∧ (s.isRun .safety = true) ∧ (lasted (s.so n.val).highAt (ms 1) s.now = true) ∧ ((s.so n.val).shortH = false)) :=
  ⟨soW up { highAt := some 0 }, 0, true, by unfold State.Shape; decide +kernel, by decide +kernel⟩
theorem witness1_soDiagTimer : ∃ (s : State) (n : Fin 4) (pr : Bool), (s.Shape) ∧ ((s.fieldSeen = true) ∧ (s.isRun .safety = true) ∧ (lasted (s.so n.val).devAt (ms 1) s.now = true) ∧ ((s.so n.val).readback = false)) :=
  ⟨soW up { devAt := some 0 }, 0, true, by unfold State.Shape; decide +kernel, by decide +kernel⟩
theorem witness2_soDiagTimer : ∃ (s : State) (n : Fin 4) (pr : Bool), (s.Shape) ∧ ((s.fieldSeen = true) ∧ (s.isRun .safety = true) ∧ ((s.so n.val).h = true ∨ (s.so n.val).l = true)) :=
  ⟨soW up { h := true }, 0, true, by unfold State.Shape; decide +kernel, by decide +kernel⟩
theorem witness3_soDiagTimer : ∃ (s : State) (n : Fin 4) (pr : Bool), (s.Shape) ∧ ((s.fieldSeen = true) ∧ (s.isRun .safety = true)) :=
  ⟨soW up { h := true }, 0, true, by unfold State.Shape; decide +kernel, by decide +kernel⟩
theorem witness4_soDiagTimer : ∃ (s : State) (n : Fin 4) (pr : Bool), (s.Shape) ∧ ((s.fieldSeen = true) ∧ (s.isRun .safety = true) ∧ (lasted (s.so n.val).openAt (ms 10) s.now = true) ∧ ((s.so n.val).open_ = false)) :=
  ⟨soW up { openAt := some 0 }, 0, true, by unfold State.Shape; decide +kernel, by decide +kernel⟩
theorem witness5_soDiagTimer : ∃ (s : State) (n : Fin 4) (pr : Bool), (s.Shape) ∧ ((s.fieldSeen = true) ∧ (s.isRun .safety = true) ∧ (lasted (s.so n.val).openAt (ms 10) s.now = false) ∧ (lasted (s.so n.val).loadAt (ms 10) s.now = true) ∧ ((s.so n.val).open_ = true)) :=
  ⟨soW up { open_ := true, loadAt := some 0 }, 0, true, by unfold State.Shape; decide +kernel, by decide +kernel⟩
theorem witness0_safetyFrame : ∃ (s : State) (p : Side) (rct : Option (Nat × Nat)) (src : Nat) (bytes : List Nat), (((s.ingress p rct .sl 1).1 = true) ∧ (s.isRun .safety = true) ∧ (s.fenced 4 6 = false) ∧ ((List.range 8).filter (fun c => s.consumes c && s.SL_PEER c == be 16 src) = [])) :=
  ⟨up, .a, none, 9, [], by decide +kernel⟩
theorem witness1_safetyFrame : ∃ (s : State) (p : Side) (rct : Option (Nat × Nat)) (src : Nat) (bytes : List Nat), ∃ c : Fin 8, (((s.ingress p rct .sl 1).1 = true) ∧ (s.isRun .safety = true) ∧ (s.fenced 4 6 = false)) ∧ (s.Shape) ∧ (((List.range 8).filter (fun c => s.consumes c && s.SL_PEER c == be 16 src) = [c.val]) ∧ ((s.conn c.val).st = .run) ∧ (s.slFields c.val bytes = true) ∧ ((s.conn c.val).follows (ofLe ((bytes.drop 4).take 4)) = true)) :=
  ⟨slW, .a, none, 9, slFrameW, 0, by decide +kernel, by unfold State.Shape; decide +kernel, by decide +kernel⟩
theorem witness0_slProduce : ∃ (s : State) (c : Fin 8), (s.Shape) ∧ ((s.isRun .safety = true) ∧ (s.SL_DIR c.val = 2)) ∧ ((∀ t0, (s.conn c.val).txAt = some t0 → t0 + ms (s.SL_CYCLE c.val) ≤ s.now)) :=
  ⟨objW up 0x6130 1 0 2, 0, by unfold State.Shape; decide +kernel, by decide +kernel, (fun e h => by cases h)⟩
theorem witness0_slWatchdogExpiry : ∃ (s : State) (c : Fin 8), (s.Shape) ∧ ((s.consumes c.val = true) ∧ ((s.conn c.val).st = .run) ∧ ((s.conn c.val).at_ + ms (s.SL_WATCHDOG c.val) ≤ s.now)) :=
  ⟨slW, 0, by unfold State.Shape; decide +kernel, by decide +kernel⟩
theorem witness0_beatSend : ∃ (s : State), (s.beatDue = true) :=
  ⟨objW up 0x8200 1 0 1, by decide +kernel⟩
theorem witness0_beatMsg : ∃ (s : State) (seq : BitVec 16) (tick : BitVec 64) (epoch : BitVec 16) (dev : Fin 512) (mode flags : BitVec 8) (crc : BitVec 32), ((s.dpxHears = true) ∧ (dpxGood 0x01 seq.toNat (le 8 tick.toNat ++ le 2 epoch.toNat ++ le 2 dev.val ++ [mode.toNat, flags.toNat, 0, 0]) crc.toNat = false)) :=
  ⟨objW up 0x8200 1 0 1, 1, 1, 1, 7, 3, 0, 0, by decide +kernel⟩
theorem witness1_beatMsg : ∃ (s : State) (seq : BitVec 16) (tick : BitVec 64) (epoch : BitVec 16) (dev : Fin 512) (mode flags : BitVec 8) (crc : BitVec 32), ((s.dpxHears = true) ∧ (dpxGood 0x01 seq.toNat (le 8 tick.toNat ++ le 2 epoch.toNat ++ le 2 dev.val ++ [mode.toNat, flags.toNat, 0, 0]) crc.toNat = true)) :=
  ⟨objW up 0x8200 1 0 1, 1, 1, 1, 7, 3, 0, dcW 1 1 (le 8 1 ++ le 2 1 ++ le 2 7 ++ [3, 0, 0, 0]), by decide +kernel⟩
theorem witness0_ckpt : ∃ (s : State) (seq : BitVec 32) (idx : Fin 32) (data : List Nat) (n : BitVec 16) (crc : BitVec 32), ((s.dpxHears = true) ∧ (dpxGood 0x02 n.toNat (le 4 seq.toNat ++ [idx.val, 0, 0, 0] ++ data) crc.toNat = false)) :=
  ⟨objW stb 0x8200 1 0 1, 1, 0, [], 1, 0, by decide +kernel⟩
theorem witness1_ckpt : ∃ (s : State) (seq : BitVec 32) (idx : Fin 32) (data : List Nat) (n : BitVec 16) (crc : BitVec 32), ((s.dpxHears = true) ∧ (dpxGood 0x02 n.toNat (le 4 seq.toNat ++ [idx.val, 0, 0, 0] ++ data) crc.toNat = true) ∧ (s.listens = true) ∧ (s.dpx.frozen = false) ∧ (idx.val = 0) ∧ (s.dpx.rx = none)) :=
  ⟨objW stb 0x8200 1 0 1, 1, 0, [], 1, dcW 2 1 (le 4 1 ++ [0, 0, 0, 0]), by decide +kernel⟩
theorem witness2_ckpt : ∃ (s : State) (seq : BitVec 32) (idx : Fin 32) (data : List Nat) (n : BitVec 16) (crc : BitVec 32), ((s.dpxHears = true) ∧ (dpxGood 0x02 n.toNat (le 4 seq.toNat ++ [idx.val, 0, 0, 0] ++ data) crc.toNat = true) ∧ (s.listens = true) ∧ (s.dpx.frozen = false) ∧ (idx.val = 0) ∧ (s.dpx.rx ≠ none)) :=
  ⟨objW { stb with dpx := { stb.dpx with rx := some ⟨1, []⟩ } } 0x8200 1 0 1, 1, 0, [], 1, dcW 2 1 (le 4 1 ++ [0, 0, 0, 0]), by decide +kernel⟩
theorem witness3_ckpt : ∃ (s : State) (seq : BitVec 32) (idx : Fin 32) (data : List Nat) (n : BitVec 16) (crc : BitVec 32), ∃ r : CkptRx, ((s.dpxHears = true) ∧ (dpxGood 0x02 n.toNat (le 4 seq.toNat ++ [idx.val, 0, 0, 0] ++ data) crc.toNat = true) ∧ (s.listens = true) ∧ (s.dpx.frozen = false) ∧ (idx.val ≠ 0) ∧ (s.dpx.rx = some r) ∧ (r.seq = seq.toNat) ∧ ((r.segs.filter (fun p => p.1 != idx.val)).length < 31)) :=
  ⟨objW { stb with dpx := { stb.dpx with rx := some ⟨1, []⟩ } } 0x8200 1 0 1, 1, 31, [], 1, dcW 2 1 (le 4 1 ++ [31, 0, 0, 0]), ⟨1, []⟩, by decide +kernel⟩
theorem witness4_ckpt : ∃ (s : State) (seq : BitVec 32) (idx : Fin 32) (data : List Nat) (n : BitVec 16) (crc : BitVec 32), ∃ r : CkptRx, ((s.dpxHears = true) ∧ (dpxGood 0x02 n.toNat (le 4 seq.toNat ++ [idx.val, 0, 0, 0] ++ data) crc.toNat = true) ∧ (s.listens = true) ∧ (s.dpx.frozen = false) ∧ (idx.val ≠ 0) ∧ (s.dpx.rx = some r) ∧ (r.seq ≠ seq.toNat)) :=
  ⟨objW { stb with dpx := { stb.dpx with rx := some ⟨1, []⟩ } } 0x8200 1 0 1, 2, 31, [], 1, dcW 2 1 (le 4 2 ++ [31, 0, 0, 0]), ⟨1, []⟩, by decide +kernel⟩
theorem witness0_handback : ∃ (s : State) (b : BitVec 64) (epoch : BitVec 16) (n : BitVec 16) (crc : BitVec 32), ((s.dpxHears = true) ∧ (dpxGood 0x04 n.toNat (le 8 b.toNat ++ le 2 epoch.toNat ++ [0, 0]) crc.toNat = true) ∧ (b.toNat = 0) ∧ (s.dpx.hbIn = true)) :=
  ⟨objW { stb with dpx := { stb.dpx with hbIn := true } } 0x8200 1 0 1, 0, 1, 1, dcW 4 1 (le 8 0 ++ le 2 1 ++ [0, 0]), by decide +kernel⟩
theorem witness1_handback : ∃ (s : State) (b : BitVec 64) (epoch : BitVec 16) (n : BitVec 16) (crc : BitVec 32), ((s.dpxHears = true) ∧ (dpxGood 0x04 n.toNat (le 8 b.toNat ++ le 2 epoch.toNat ++ [0, 0]) crc.toNat = true) ∧ (b.toNat = 0) ∧ (s.dpx.hbIn = false)) :=
  ⟨objW stb 0x8200 1 0 1, 0, 1, 1, dcW 4 1 (le 8 0 ++ le 2 1 ++ [0, 0]), by decide +kernel⟩
theorem witness2_handback : ∃ (s : State) (b : BitVec 64) (epoch : BitVec 16) (n : BitVec 16) (crc : BitVec 32), ((s.dpxHears = true) ∧ (dpxGood 0x04 n.toNat (le 8 b.toNat ++ le 2 epoch.toNat ++ [0, 0]) crc.toNat = true) ∧ (b.toNat ≠ 0) ∧ (s.mode.mode = .standby) ∧ (s.mode.sub = 2) ∧ (s.dpx.take = .idle)) :=
  ⟨objW stb 0x8200 1 0 1, 200000000, 1, 1, dcW 4 1 (le 8 200000000 ++ le 2 1 ++ [0, 0]), by decide +kernel⟩
theorem witness0_statusSend : ∃ (s : State), (((s.mode.mode = .standby ∧ s.mode.sub = 2) ∨ s.dpx.hbIn = true) ∧ (s.dpxSends = true)) ∧ ((∀ t0, s.dpx.statusAt = some t0 → t0 + us 10 ≤ s.now)) :=
  ⟨objW stb 0x8200 1 0 1, by decide +kernel, (fun e h => by cases h)⟩
theorem witness0_statusMsg : ∃ (s : State) (state flags : BitVec 8) (beat hold : BitVec 16) (ckpt run cfg : BitVec 32) (dev : Fin 512) (n : BitVec 16) (crc : BitVec 32), ((s.dpxHears = true) ∧ (dpxGood 0x81 n.toNat ([state.toNat, flags.toNat] ++ le 2 beat.toNat ++ le 2 hold.toNat ++ le 4 ckpt.toNat ++ le 4 run.toNat ++ le 4 cfg.toNat ++ le 2 dev.val ++ [0, 0]) crc.toNat = false)) :=
  ⟨objW up 0x8200 1 0 1, 4, 0, 0, 0, 0, 0, 0, 7, 1, 0, by decide +kernel⟩
theorem witness1_statusMsg : ∃ (s : State) (state flags : BitVec 8) (beat hold : BitVec 16) (ckpt run cfg : BitVec 32) (dev : Fin 512) (n : BitVec 16) (crc : BitVec 32), ((s.dpxHears = true) ∧ (dpxGood 0x81 n.toNat ([state.toNat, flags.toNat] ++ le 2 beat.toNat ++ le 2 hold.toNat ++ le 4 ckpt.toNat ++ le 4 run.toNat ++ le 4 cfg.toNat ++ le 2 dev.val ++ [0, 0]) crc.toNat = true) ∧ (s.dpx.lease = true)) :=
  ⟨objW up 0x8200 1 0 1, 4, 0, 0, 0, 0, 0, 0, 7, 1, dcW 0x81 1 ([4, 0] ++ List.replicate 16 0 ++ [7, 0, 0, 0]), by decide +kernel⟩
theorem witness0_hbAck : ∃ (s : State) (b : BitVec 64) (result : BitVec 8) (n : BitVec 16) (crc : BitVec 32), ((s.dpxHears = true) ∧ (dpxGood 0x84 n.toNat (le 8 b.toNat ++ [result.toNat, 0, 0, 0]) crc.toNat = false)) :=
  ⟨objW up 0x8200 1 0 1, 0, 1, 1, 0, by decide +kernel⟩
theorem witness1_hbAck : ∃ (s : State) (b : BitVec 64) (result : BitVec 8) (n : BitVec 16) (crc : BitVec 32), ((s.dpxHears = true) ∧ (dpxGood 0x84 n.toNat (le 8 b.toNat ++ [result.toNat, 0, 0, 0]) crc.toNat = true) ∧ (s.dpx.lease = true) ∧ (s.dpx.hbB ≠ 0) ∧ (s.dpx.hbB = b.toNat) ∧ (result.toNat = 1)) :=
  ⟨objW { up with dpx := { up.dpx with hbB := 5 } } 0x8200 1 0 1, 5, 1, 1, dcW 0x84 1 (le 8 5 ++ [1, 0, 0, 0]), by decide +kernel⟩
theorem witness2_hbAck : ∃ (s : State) (b : BitVec 64) (result : BitVec 8) (n : BitVec 16) (crc : BitVec 32), ((s.dpxHears = true) ∧ (dpxGood 0x84 n.toNat (le 8 b.toNat ++ [result.toNat, 0, 0, 0]) crc.toNat = true) ∧ (s.dpx.lease = true) ∧ (s.dpx.hbB ≠ 0) ∧ (s.dpx.hbB = b.toNat) ∧ (result.toNat ≠ 1)) :=
  ⟨objW { up with dpx := { up.dpx with hbB := 5 } } 0x8200 1 0 1, 5, 0, 1, dcW 0x84 1 (le 8 5 ++ [0, 0, 0, 0]), by decide +kernel⟩
theorem witness0_dpxLinkDown : ∃ (s : State) (t0 : Nat), ((s.dpx.lastRx = some t0) ∧ (s.dpx.link = true) ∧ (t0 + us 100 ≤ s.now)) :=
  ⟨{ up with dpx := { up.dpx with link := true, lastRx := some 5 } }, 5, by decide +kernel⟩
theorem witness0_holderLeaseExpiry : ∃ (s : State) (beat : BitVec 16), ((s.DPX_ENABLE ≠ 0) ∧ (s.dpx.lease = true) ∧ (s.ackOld beat.toNat = true)) :=
  ⟨objW { up with dpx := { up.dpx with beats := [(3, 5)] } } 0x8200 1 0 1, 3, by decide +kernel⟩
theorem witness0_mirror : ∃ (s : State) (n : BitVec 16) (tick : BitVec 64) (target count nc : BitVec 16) (im out : BitVec 32) (words : List Nat) (crc : BitVec 32) (m : MirrorRec) (data : List Nat), ((s.dpxHears = true) ∧ (m = { tick := tick.toNat, target := target.toNat, count := count.toNat, nc := signed 16 nc.toNat, im := signed 32 im.toNat, out := out.toNat, words := (padTo 256 words).map (fun w => w % 4) }) ∧ (data = le 8 tick.toNat ++ le 2 target.toNat ++ le 2 count.toNat ++ le 2 nc.toNat ++ le 4 im.toNat ++ le 4 out.toNat ++ mirrorBytes words ++ [0, 0]) ∧ (dpxGood 0x03 n.toNat data crc.toNat = false)) :=
  ⟨objW stb 0x8200 1 0 1, 1, 5, 0, 0, 0, 0, 0, [], 0, { tick := 5, target := 0, count := 0, nc := 0, im := 0, out := 0, words := List.replicate 256 0 }, le 8 5 ++ List.replicate 14 0 ++ List.replicate 64 170 ++ [0, 0], by decide +kernel⟩
theorem witness1_mirror : ∃ (s : State) (n : BitVec 16) (tick : BitVec 64) (target count nc : BitVec 16) (im out : BitVec 32) (words : List Nat) (crc : BitVec 32) (m : MirrorRec) (data : List Nat), ((s.dpxHears = true) ∧ (m = { tick := tick.toNat, target := target.toNat, count := count.toNat, nc := signed 16 nc.toNat, im := signed 32 im.toNat, out := out.toNat, words := (padTo 256 words).map (fun w => w % 4) }) ∧ (data = le 8 tick.toNat ++ le 2 target.toNat ++ le 2 count.toNat ++ le 2 nc.toNat ++ le 4 im.toNat ++ le 4 out.toNat ++ mirrorBytes words ++ [0, 0]) ∧ (dpxGood 0x03 n.toNat data crc.toNat = true) ∧ ((s.mode.mode = .standby ∧ s.mode.sub = 2 ∧ s.dpx.take = .idle) ∨ s.dpx.hbIn = true) ∧ (s.dpx.yielded = none)) :=
  ⟨objW stb 0x8200 1 0 1, 1, 5, 0, 0, 0, 0, 0, [], dcW 3 1 (le 8 5 ++ List.replicate 14 0 ++ List.replicate 64 170 ++ [0, 0]), { tick := 5, target := 0, count := 0, nc := 0, im := 0, out := 0, words := List.replicate 256 0 }, le 8 5 ++ List.replicate 14 0 ++ List.replicate 64 170 ++ [0, 0], by decide +kernel⟩
theorem witness0_yieldReset : ∃ (s : State) (t0 : Nat), ((s.dpx.yielded = some t0) ∧ (t0 + ms 1 ≤ s.now)) :=
  ⟨{ up with dpx := { up.dpx with yielded := some 5 } }, 5, by decide +kernel⟩
theorem witness0_storeLeaseExpiry : ∃ (s : State) (x : BootIn), ((s.dpx.holder ≠ none) ∧ (s.dpx.frozen = false) ∧ (s.dpx.renewed + us 50 ≤ s.now)) :=
  ⟨{ stb with dpx := { stb.dpx with holder := some (7, 1) } }, bootW, by decide +kernel⟩
theorem witness0_livenessCheck : ∃ (s : State) (prep : Bool), ((s.mode.mode ≠ .safe) ∧ (s.mode.mode ≠ .boot) ∧ (s.dpx.take = .begun prep) ∧ (s.alignedTrunks.any (fun q => (entry s.dpx.live q (0, true)).1 < 4) = false) ∧ (s.alignedTrunks.any (fun q => (entry s.dpx.live q (0, true)).2) = true)) :=
  ⟨trkW { stb with dpx := { stb.dpx with take := .begun true, live := List.replicate 8 (4, true) } } { st := 4 } |> fun s => objW s 0x3300 1 0 1, true, by decide +kernel⟩
theorem witness1_livenessCheck : ∃ (s : State) (prep : Bool), ((s.mode.mode ≠ .safe) ∧ (s.mode.mode ≠ .boot) ∧ (s.dpx.take = .begun prep) ∧ (s.alignedTrunks.any (fun q => (entry s.dpx.live q (0, true)).1 < 4) = false) ∧ (s.alignedTrunks.any (fun q => (entry s.dpx.live q (0, true)).2) = false) ∧ (s.nvOk = true)) :=
  ⟨{ stb with dpx := { stb.dpx with take := .begun true } }, true, by decide +kernel⟩
theorem witness0_takeoverBringupDone : ∃ (s : State) (prep : Bool), ((s.mode.mode ≠ .safe) ∧ (s.dpx.take = .live prep)) :=
  ⟨{ stb with dpx := { stb.dpx with take := .live true } }, true, by decide +kernel⟩
theorem witness0_coldAcquisition : ∃ (s : State), ((s.waitsCold = true) ∧ (s.hubsSilent = true) ∧ (s.nvOk = true) ∧ (s.mode.mode ≠ .standby)) :=
  ⟨coldW blk, by decide +kernel⟩
theorem witness1_coldAcquisition : ∃ (s : State), ((s.waitsCold = true) ∧ (s.hubsSilent = true) ∧ (s.nvOk = true) ∧ (s.mode.mode = .standby)) :=
  ⟨coldW { stb with dpx := { stb.dpx with take := .abandoned } }, by decide +kernel⟩
theorem witness2_coldAcquisition : ∃ (s : State), ((s.waitsCold = true) ∧ (s.hubsSilent = false)) :=
  ⟨objW { blk with dpx := {} } 0x8200 1 0 1, by decide +kernel⟩
theorem witness0_preparedEntry : ∃ (s : State) (x : BootIn) (t0 : Nat), ((s.dpx.goodSince = some t0) ∧ (s.mode.mode = .standby) ∧ (s.mode.sub = 1) ∧ (s.dpx.downAt = none) ∧ (s.dpx.take = .idle) ∧ ((s.REVERT = 1 ∧ s.dpxRole = 0) ∨ s.STANDBY_PREP = 1) ∧ (t0 + ms s.SETTLE_T ≤ s.now) ∧ (settleWindow t0 s.now ≤ settleWindow t0 s.dpx.lastCkpt + 1)) :=
  ⟨objW { stb with mode := { stb.mode with sub := 1 }, dpx := { stb.dpx with goodSince := some 0, lastCkpt := 100000000000000 } } 0x8200 5 0 1, bootW, 0, by decide +kernel⟩
theorem witness0_warmReached : ∃ (s : State), ((s.WARM_TICKS ≤ s.dpx.run) ∧ (s.dpx.warm = false) ∧ (s.mode.mode = .standby) ∧ (s.mode.sub = 2)) :=
  ⟨{ stb with dpx := { stb.dpx with run := 4294967295 } }, by decide +kernel⟩
theorem witness0_handbackModeEntry : ∃ (s : State) (b : CkptBuf), ((s.mode.mode = .standby) ∧ (s.mode.sub = 2) ∧ (s.dpx.hbB ≠ 0) ∧ (s.dpx.hbIn = false) ∧ (s.dpx.hbB ≤ s.nextTick + 3 * s.fp) ∧ (s.newestCkpt = some b)) :=
  ⟨{ stb with dpx := { stb.dpx with hbB := 100000000, buf0 := ⟨true, []⟩ } }, ⟨true, []⟩, by decide +kernel⟩
theorem witness0_handbackEpochRaise : ∃ (s : State), ((s.dpx.hbIn = true) ∧ (s.dpx.hbRaised = false) ∧ (s.dpx.hbB ≤ s.nextTick + 1) ∧ (s.nvOk = true)) :=
  ⟨{ stb with dpx := { stb.dpx with hbIn := true, hbB := 5 } }, by decide +kernel⟩
theorem witness0_handbackTransfer : ∃ (s : State), ((s.dpx.hbB ≠ 0) ∧ (s.dpx.hbB ≤ s.nextTick) ∧ (s.dpx.hbIn = true) ∧ (s.mode.mode ≠ .safe)) :=
  ⟨{ stb with dpx := { stb.dpx with hbIn := true, hbB := 5 } }, by decide +kernel⟩
theorem witness1_handbackTransfer : ∃ (s : State), ((s.dpx.hbB ≠ 0) ∧ (s.dpx.hbB ≤ s.nextTick) ∧ (s.dpx.hbIn = false) ∧ (s.dpx.lease = true) ∧ (s.dpx.hbAck = true)) ∧ (s.handFails = 0) :=
  ⟨handW, by decide +kernel, handW_ok⟩
theorem witness0_holderOutputRelease : ∃ (s : State) (t0 : Nat), ((s.dpx.gaveAt = some t0) ∧ (t0 + us 100 ≤ s.now)) :=
  ⟨{ stb with dpx := { stb.dpx with gaveAt := some 5 } }, 5, by decide +kernel⟩
theorem witness0_powerDownColdComplete : ∃ (s : State), ((s.dpx.downAt ≠ none) ∧ (s.mode.mode = .standby) ∧ (s.mode.sub = 1)) :=
  ⟨{ stb with mode := { stb.mode with sub := 1 }, dpx := { stb.dpx with downAt := some 5 } }, by decide +kernel⟩
theorem witness0_eventOffer : ∃ (s : State) (e : Offer), (assigned e.code = true) :=
  ⟨up, ⟨0x0010, .note, 0, []⟩, by decide +kernel⟩
theorem witness1_eventOffer : ∃ (s : State) (e : Offer), (assigned e.code = false) :=
  ⟨up, ⟨0xA000, .note, 0, []⟩, by decide +kernel⟩
theorem witness2_eventOffer : ∃ (s : State) (e : Offer), ∃ f : Offer, ((assigned e.code = true) ∧ (assigned f.code = true) ∧ (f.region < e.region)) :=
  ⟨up, ⟨0x0010, .note, 5, []⟩, ⟨0x0010, .note, 4, []⟩, by decide +kernel⟩
theorem witness3_eventOffer : ∃ (s : State) (e : Offer), ((assigned e.code = true) ∧ (e.cls = .safe) ∧ (s.recd.count < 28) ∧ (s.recd.scanned = true) ∧ ((entry s.hdrs 6 {}).fenced = 0) ∧ (bypasses e.code e.cls = true)) :=
  ⟨up, ⟨0x0303, .safe, 0, []⟩, by decide +kernel⟩
theorem witness0_folioWrite : ∃ (s : State) (f : Folio) (rest : List Folio), ((s.ringOn = true) ∧ (s.recd.margin = f :: rest) ∧ (s.run .record ≠ .stopping ∨ rest ≠ []) ∧ (s.recd.restoring = none) ∧ (s.recd.dropEpisode = 0)) :=
  ⟨{ up with recd := { up.recd with margin := [folW] } }, folW, [], by decide +kernel⟩
theorem witness1_folioWrite : ∃ (s : State) (f : Folio) (rest : List Folio), ∃ a : MemAnswer, ((s.ringOn = true) ∧ (s.recd.margin = f :: rest) ∧ (a ≠ .good) ∧ (s.run .record ≠ .stopping)) :=
  ⟨{ up with recd := { up.recd with margin := [folW] } }, folW, [], MemAnswer.ecc, by decide +kernel⟩
theorem witness2_folioWrite : ∃ (s : State) (f : Folio) (rest : List Folio), ((s.ringOn = true) ∧ (s.recd.margin = f :: rest) ∧ (s.run .record = .stopping) ∧ (rest = []) ∧ (s.recd.restoring = none) ∧ (s.recd.dropEpisode = 0)) :=
  ⟨{ up with fns := { up.fns with record := ⟨.stopping, 0, false⟩ }, recd := { up.recd with margin := [folW] } }, folW, [], by decide +kernel⟩
theorem witness0_lmsTokenRefill : ∃ (s : State), (s.sec.tokenAt + secs 675 ≤ s.now) :=
  ⟨{ up with now := 1000000000000000 }, by decide +kernel⟩
theorem witness0_syncTimeStore : ∃ (s : State), ((s.synced = true) ∧ (s.nvOk = true) ∧ (s.sec.lastSyncAt + secs 3600 ≤ s.now)) :=
  ⟨{ up with now := 10000000000000000, time := { up.time with servo := .locked } }, by decide +kernel⟩
theorem witness0_uncorrectableError : ∃ (s : State) (region : Fin 9) (b : Fin 16) (kind : Fin 3), (s.Shape) ∧ ((s.powered (blockDomain region.val b.val) = true) ∧ (b.val < blocksOf region.val) ∧ (s.fenced region.val b.val = false)) :=
  ⟨up, 2, 10, 1, by unfold State.Shape; decide +kernel, by decide +kernel⟩
theorem witness1_uncorrectableError : ∃ (s : State) (region : Fin 9) (b : Fin 16) (kind : Fin 3), (s.Shape) ∧ (s.mode.mode ≠ .safe) :=
  ⟨up, 2, 10, 1, by unfold State.Shape; decide +kernel, by decide +kernel⟩
theorem witness0_parityError : ∃ (s : State) (region : Fin 9) (b : Fin 16) (nth : Fin 4), (s.Shape) ∧ ((s.fenced region.val b.val = false) ∧ (s.powered (blockDomain region.val b.val) = true) ∧ (b.val < blocksOf region.val) ∧ (nth.val < 3)) :=
  ⟨up, 2, 10, 2, by unfold State.Shape; decide +kernel, by decide +kernel⟩
theorem witness1_parityError : ∃ (s : State) (region : Fin 9) (b : Fin 16) (nth : Fin 4), (s.Shape) ∧ ((s.fenced region.val b.val = false) ∧ (s.powered (blockDomain region.val b.val) = true) ∧ (b.val < blocksOf region.val) ∧ (nth.val = 3)) :=
  ⟨up, 2, 10, 3, by unfold State.Shape; decide +kernel, by decide +kernel⟩
theorem witness0_eccCorrected : ∃ (s : State) (region : Fin 9), (s.Shape) ∧ (region.val < 8) :=
  ⟨up, 7, by unfold State.Shape; decide +kernel, by decide +kernel⟩
theorem witness0_handshakeTimeout : ∃ (s : State), ∃ c, (s.Shape) ∧ ((c < 4) ∧ (s.fenced 8 c = false)) :=
  ⟨up, 3, by unfold State.Shape; decide +kernel, by decide +kernel⟩
theorem witness1_handshakeTimeout : ∃ (s : State), (s.Shape) ∧ (s.mode.mode ≠ .safe) :=
  ⟨up, by unfold State.Shape; decide +kernel, by decide +kernel⟩
theorem witness0_semLeaseExpiry : ∃ (s : State) (sem : Fin 16) (h : Nat), (s.Shape) ∧ (((entry s.fab.sems sem.val {}).holder = some h) ∧ ((entry s.fab.sems sem.val {}).renewed + us s.SEM_LEASE ≤ s.now)) :=
  ⟨{ up with fab := { up.fab with sems := List.replicate 16 ⟨some 6, 0⟩ } }, 15, 6, by unfold State.Shape; decide +kernel, by decide +kernel⟩
theorem witness0_queueStall : ∃ (s : State) (q : Fin 16) (x : MsgQ) (e : Nat × Nat) (rest : List (Nat × Nat)), (s.Shape) ∧ ((entry s.fab.queues q.val {} = x) ∧ (x.entries = e :: rest) ∧ (e.2 + us s.QUEUE_STALL ≤ s.now) ∧ (x.consumer < 4) ∧ (s.fenced 8 x.consumer = false)) :=
  ⟨{ up with fab := { up.fab with queues := List.replicate 16 ⟨6, 1, true, false, [(5, 0)]⟩ } }, 15, ⟨6, 1, true, false, [(5, 0)]⟩, (5, 0), [], by unfold State.Shape; decide +kernel, by decide +kernel⟩
theorem witness0_referenceQualifying : ∃ (s : State), (s.clk.ref = .lost) :=
  ⟨{ up with clk := { up.clk with ref := .lost } }, by decide +kernel⟩
theorem witness0_outputCooled : ∃ (s : State) (p : Fin 32), (s.Shape) :=
  ⟨up, 0, by unfold State.Shape; decide +kernel⟩

end Sys2Proof.Tests
end

section
/-! The selection of a group (05, R127): the scan over the candidates keeps the lowest one seen with its number. -/
namespace Sys2Proof.Machine

/-- R127 over the candidates `l`: code `r.1` stands at number `r.2`, counted from 1, every candidate before it is
greater and none after it is lower. -/
def IsLowestAt (l : List Int) (r : Int × Nat) : Prop :=
  ∃ p q, l = p ++ r.1 :: q ∧ r.2 = p.length + 1 ∧ (∀ y ∈ p, r.1 < y) ∧ (∀ y ∈ q, r.1 ≤ y)

theorem isLowestAt_singleton (y : Int) : IsLowestAt [y] (y, 1) :=
  ⟨[], [], rfl, rfl, by simp, by simp⟩

theorem IsLowestAt.le_of_mem {l : List Int} {r : Int × Nat} (h : IsLowestAt l r) : ∀ y ∈ l, r.1 ≤ y := by
  obtain ⟨p, q, rfl, -, before, after⟩ := h
  intro y hy
  rcases List.mem_append.mp hy with hp | hq
  · exact Int.le_of_lt (before y hp)
  · rcases List.mem_cons.mp hq with rfl | hq
    · exact Int.le_refl _
    · exact after y hq

/-- A further candidate that is no lower, an equal one included, leaves the selection. -/
theorem IsLowestAt.concat_of_le {l : List Int} {r : Int × Nat} (h : IsLowestAt l r) {y : Int} (hy : r.1 ≤ y) :
    IsLowestAt (l ++ [y]) r := by
  obtain ⟨p, q, rfl, number, before, after⟩ := h
  refine ⟨p, q ++ [y], by simp, number, before, fun z hz => ?_⟩
  rcases List.mem_append.mp hz with hq | hz
  · exact after z hq
  · exact List.mem_singleton.mp hz ▸ hy

/-- A further candidate that is lower is selected under its own number. -/
theorem IsLowestAt.concat_of_lt {l : List Int} {r : Int × Nat} (h : IsLowestAt l r) {y : Int} (hy : y < r.1) :
    IsLowestAt (l ++ [y]) (y, l.length + 1) :=
  ⟨l, [], rfl, rfl, fun z hz => Int.lt_of_lt_of_le hy (h.le_of_mem z hz), by simp⟩

/-- The scan extends the selection from the candidates seen to those and the ones still to come. -/
theorem isLowestAt_lowestGo {seen : List Int} {v : Int} {w : Nat} (h : IsLowestAt seen (v, w)) (ys : List Int) :
    IsLowestAt (seen ++ ys) (lowestGo v w (seen.length + 1) ys) := by
  induction ys generalizing seen v w with
  | nil => simpa [lowestGo] using h
  | cons y ys ih =>
    rw [List.append_cons, lowestGo]
    by_cases hy : y < v
    · simpa [hy] using ih (h.concat_of_lt hy)
    · simpa [hy] using ih (h.concat_of_le (Int.not_lt.mp hy))

theorem isLowestAt_lowest (y1 : Int) (ys : List Int) : IsLowestAt (y1 :: ys) (lowest y1 ys) :=
  isLowestAt_lowestGo (isLowestAt_singleton y1) ys

/-- Settles O14, by the scan's invariant started at candidate 1. -/
theorem lowestCandidate : Obligations.LowestCandidate :=
  isLowestAt_lowest

end Sys2Proof.Machine
end

section
/-! The arm lead's split of the count (06, R159): rounding keeps every whole-number bound of the exact proportion n · A_o / A. -/
namespace Sys2Proof.Machine

theorem shareOf_of_pos {a : Nat} (ha : 0 < a) (n aO : Nat) : shareOf n aO a = (2 * n * aO + a) / (2 * a) :=
  if_neg (Nat.ne_of_gt ha)

/-- The count and the other span's available count play the same part in the split. -/
theorem shareOf_comm (n aO a : Nat) : shareOf n aO a = shareOf aO n a := by
  simp only [shareOf, Nat.mul_right_comm 2 n aO, Nat.mul_assoc 2 aO n]

theorem shareOf_le {n aO a c : Nat} (ha : 0 < a) (h : n * aO ≤ a * c) : shareOf n aO a ≤ c := by
  rw [shareOf_of_pos ha, ← Nat.lt_add_one_iff, Nat.div_lt_iff_lt_mul (by omega), Nat.add_mul, Nat.mul_left_comm c 2 a,
    Nat.mul_comm c a, Nat.mul_assoc 2 n aO]
  omega

theorem le_shareOf {n aO a c : Nat} (ha : 0 < a) (h : a * c ≤ n * aO) : c ≤ shareOf n aO a := by
  rw [shareOf_of_pos ha, Nat.le_div_iff_mul_le (by omega), Nat.mul_left_comm c 2 a, Nat.mul_comm c a, Nat.mul_assoc 2 n aO]
  omega

theorem shareOf_le_available {n aO a : Nat} (ha : 0 < a) (hn : n ≤ a) : shareOf n aO a ≤ aO :=
  shareOf_le ha (Nat.mul_le_mul_right aO hn)

theorem shareOf_le_count {n aO a : Nat} (ha : 0 < a) (hO : aO ≤ a) : shareOf n aO a ≤ n :=
  shareOf_comm n aO a ▸ shareOf_le_available ha hO

/-- The lead's own share. Where its span has x = A − A_o available, the other span takes at least n − x, because
A · (n − x) ≤ n · A_o. -/
theorem leadShare_le_available {n aO a : Nat} (ha : 0 < a) (hO : aO ≤ a) (hn : n ≤ a) :
    n - shareOf n aO a ≤ a - aO := by
  obtain ⟨x, rfl⟩ := Nat.exists_eq_add_of_le hO
  have rest : (aO + x) * (n - x) ≤ n * aO := by
    rcases Nat.le_total n x with hx | hx
    · rw [Nat.sub_eq_zero_of_le hx, Nat.mul_zero]
      exact Nat.zero_le _
    · obtain ⟨z, rfl⟩ := Nat.exists_eq_add_of_le hx
      have hz : x * z ≤ x * aO := Nat.mul_le_mul_left x (by omega)
      calc (aO + x) * (x + z - x) = aO * z + x * z := by rw [Nat.add_sub_cancel_left, Nat.add_mul]
        _ ≤ aO * z + x * aO := Nat.add_le_add_left hz _
        _ = (x + z) * aO := by rw [Nat.add_mul, Nat.mul_comm z aO, Nat.add_comm]
  have := le_shareOf ha rest
  omega

/-- Settles O15, by the bounds that rounding keeps and the symmetry of the split. -/
theorem spanShare : Obligations.SpanShare :=
  fun n aO _ ha hO hn => ⟨shareOf_of_pos ha n aO, shareOf_le_available ha hn, leadShare_le_available ha hO hn,
    shareOf_le_count ha hO⟩

end Sys2Proof.Machine
end

section
/-! The events of the application cores (16, R466): a code of the application range is offered, any other one marks the
header of the recorder's region. -/
namespace Sys2Proof.Machine

/-- A marked error changes the region headers alone. -/
theorem errBit_eq_hdrs (s : State) (region b : Nat) : s.errBit region b = { s with hdrs := (s.errBit region b).hdrs } := rfl

@[simp] theorem length_errBit_hdrs (s : State) (region b : Nat) : (s.errBit region b).hdrs.length = s.hdrs.length :=
  updAt_length ..

/-- The header of every region after an error is marked in one of them (Table 2-15). -/
theorem entry_errBit_hdrs {s : State} {region : Nat} (hr : region < s.hdrs.length) (b i : Nat) :
    entry (s.errBit region b).hdrs i {} =
      if i = region then { entry s.hdrs region {} with err := setBit (entry s.hdrs region {}).err b }
      else entry s.hdrs i {} := by
  split
  next marked =>
    subst marked
    exact entry_updAt _ _ _ _ hr
  next other => exact entry_updAt_ne _ _ _ _ _ other

/-- R466, for a code below the application range: region 6 marks RSVD (bit 4). -/
theorem exec_recOffer_of_lt {code : BitVec 16} (h : code.toNat < 0xF000) (core : Fin 4) (warn : Bool) (s : State) :
    exec (.recOffer core code warn) s = .next (s.errBit 6 4) := by
  have outside : ¬(0xF000 ≤ code.toNat && code.toNat ≤ 0xFFFF) = true := by simp [Nat.not_le.mpr h]
  exact congrArg Host.Outcome.next (if_neg outside)

/-- Settles O16, by the outcome of REC_OFFER on each side of 0xF000. -/
theorem applicationEvents : Obligations.ApplicationEvents := by
  intro s core code warn
  refine ⟨recOffer_effect s core code warn, fun reserved =>
    ⟨s.errBit 6 4, exec_recOffer_of_lt reserved core warn s, errBit_eq_hdrs s 6 4, fun shape => ⟨?_, fun i _ => ?_⟩⟩⟩
  · rw [length_errBit_hdrs, shape.hdrs]
  · exact entry_errBit_hdrs (by rw [shape.hdrs]; decide) 4 i

end Sys2Proof.Machine
end

section
/-! Parity errors (18, R510): up to three are retried, the fourth on the same access is one the block cannot correct. -/
namespace Sys2Proof.Machine

/-- R511: an error that a block of a powered region cannot correct fences it, for the cause of its kind. -/
theorem exec_uncorrectableError_of_powered {s : State} {region : Fin 9} {b : Fin 16}
    (on : s.powered (blockDomain region.val b.val) = true) (kind : Fin 3) :
    exec (.uncorrectableError region b kind false) s = .next (s.fenceBlock region.val b.val (kind.val + 1)) :=
  congrArg Host.Outcome.next ((if_neg Bool.false_ne_true).trans (if_pos on))

/-- R510: the error after the third retry fences the block for an error passed up by its slice (cause 2). -/
theorem exec_parityError_of_retried {s : State} {region : Fin 9} {b : Fin 16} {nth : Fin 4}
    (unfenced : s.fenced region.val b.val = false) (on : s.powered (blockDomain region.val b.val) = true)
    (present : b.val < blocksOf region.val) (fourth : nth.val = 3) :
    exec (.parityError region b nth) s = .next (s.fenceBlock region.val b.val 2) := by
  have handled : ¬(s.fenced region.val b.val || !s.powered (blockDomain region.val b.val) ||
      blocksOf region.val ≤ b.val) = true := by
    simp [unfenced, on, Nat.not_le.mpr present]
  have retried : ¬nth.val < 3 := by omega
  exact congrArg Host.Outcome.next ((if_neg handled).trans (if_neg retried))

/-- Settles O17: a retry by the effect of PARITY_ERROR, the fourth error by the one fence that both commands answer. -/
theorem parityRetries : Obligations.ParityRetries := by
  intro s region b nth shape unfenced on present
  obtain ⟨retry, -⟩ := parityError_effect s region b nth shape unfenced on present
  refine ⟨retry, fun fourth => ?_⟩
  calc exec (.parityError region b nth) s
      = .next (s.fenceBlock region.val b.val 2) := exec_parityError_of_retried unfenced on present fourth
    _ = exec (.uncorrectableError region b 1 false) s := (exec_uncorrectableError_of_powered on 1).symm

end Sys2Proof.Machine
end

section
/-! The step (95): it runs the command in front, and what every command keeps (Laws/Exec.lean) holds of the step. -/
namespace Sys2Proof.Machine

theorem step_of_nil {s : State} (idle : s.pending = []) : step s = .next s := by
  unfold step
  rw [idle]

theorem step_of_cons {c : Instr} {rest : List Instr} {s : State} (front : s.pending = c :: rest) :
    step s = exec c { s with pending := rest } := by
  unfold step
  rw [front]

/-- Settles O1, by the two branches of the step; the table's rows give no bits, so a word never adds a command. -/
theorem stepRunsFront : Obligations.StepRunsFront :=
  ⟨fun _ _ _ => step_of_cons rfl, fun _ => step_of_nil, fun _ _ _ => ⟨rfl, rfl⟩⟩

/-- Settles O2, by the next state that every command answers. -/
theorem stepNeverStops : Obligations.StepNeverStops := by
  refine ⟨exec_next, fun s => ?_⟩
  cases queue : s.pending with
  | nil => exact ⟨s, step_of_nil queue⟩
  | cons c rest => exact step_of_cons queue ▸ exec_next c _

/-- The queue is no part that the form of a state looks at. -/
theorem good_pending {s : State} (rest : List Instr) : State.Good { s with pending := rest } ↔ s.Good := Iff.rfl

/-- Settles O5: the form is kept by every command, and the queue has no say in it. -/
theorem stepKeepsForm : Obligations.StepKeepsForm := by
  intro s t canon shape e
  have good : s.Good := (good_iff s).mpr ⟨canon, shape⟩
  rcases step_cases e with ⟨-, rfl⟩ | ⟨c, rest, -, run⟩
  · exact ⟨canon, shape⟩
  · exact (good_iff t).mp ((exec_all run).1 ((good_pending rest).mpr good))

/-- The end of the listen window acts in BOOT only (R91). -/
theorem exec_dpxListenWindowEnd_of_ne_boot {s : State} (h : s.mode.mode ≠ .boot) : exec .dpxListenWindowEnd s = .next s := by
  have closed : ¬(s.mode.mode == .boot && s.mode.bootStep == 8 && decide (s.mode.listenAt + s.listenWindow ≤ s.now)) = true := by
    simp [h]
  exact congrArg Host.Outcome.next (if_neg closed)

/-- R87, for one command: the one that leaves the two modes SAFE and BOOT does nothing in SAFE. -/
theorem exec_shut_of_safe {c : Instr} {s t : State} (safe : s.mode.mode = .safe) (e : exec c s = .next t) : t.Shut := by
  by_cases listen : c = .dpxListenWindowEnd
  · subst listen
    rw [exec_dpxListenWindowEnd_of_ne_boot (by simp [safe])] at e
    cases e
    exact .inl safe
  · exact exec_shut listen e (.inl safe)

/-- Settles O6, by what every command does in SAFE. -/
theorem safeIsShut : Obligations.SafeIsShut := by
  intro s t safe e
  rcases step_cases e with ⟨-, rfl⟩ | ⟨c, rest, -, run⟩
  · exact .inl safe
  · exact exec_shut_of_safe (s := { s with pending := rest }) safe run

/-- Agreement with a state whose queue has moved on is agreement with the state, in every part but the queue. -/
theorem same_pending {p : Part} {rest : List Instr} {s t : State} (h : p ≠ .pending) :
    p.same { s with pending := rest } t ↔ p.same s t := by
  cases p
  case pending => exact absurd rfl h
  all_goals exact Iff.rfl

/-- Settles O7, by the footprint of the command run on the state with the rest of the queue. -/
theorem stepFootprint : Obligations.StepFootprint := by
  intro c rest s t front e
  have kept := (exec_all (step_of_cons front ▸ e)).2
  exact ⟨kept .pending (foot_pending c).1, fun p outside other => (same_pending other).mp (kept p outside)⟩

/-- Settles O8: no footprint has the device or the station number, and only that of CONFIG_COMMIT_DONE the stored record. -/
theorem storedConfigKept : Obligations.StoredConfigKept := by
  intro s t e
  cases queue : s.pending with
  | nil =>
    cases (step_of_nil queue).symm.trans e
    exact ⟨rfl, rfl, fun _ => rfl⟩
  | cons c rest =>
    obtain ⟨-, kept⟩ := stepFootprint c rest s t queue e
    obtain ⟨-, device, station⟩ := foot_pending c
    refine ⟨kept .device device nofun, kept .station station nofun, fun noCommit => ?_⟩
    have stored : Part.stored ∉ footprint c := foot_stored c fun commit => noCommit rest (commit ▸ rfl)
    exact kept .stored stored nofun

end Sys2Proof.Machine
end

section
/-! The reset (02, 03): its values, and the form of O5 that it begins in. -/
namespace Sys2Proof.Machine

theorem tget_nil {α : Type} (d : Nat → α) (k : Nat) : tget d [] k = d k := rfl

/-- Settles O3, field by field of the reset state. -/
theorem resetValues : Obligations.ResetValues := by
  have functions : ∀ n : Fn, State.reset.run n = .stopped := by intro n; cases n <;> rfl
  exact ⟨rfl, rfl, functions, fun _ _ _ => tget_nil objDefault _, by decide, by decide, rfl, rfl, rfl, by decide, by decide, by decide, rfl⟩

/-- Settles O4: at reset the sparse stores list nothing, and the register files are as their definitions say. -/
theorem resetInForm : Obligations.ResetInForm :=
  ⟨⟨tcanon_nil, trivial, tcanon_nil⟩, by simp only [State.Shape, State.shape, State.reset, List.length_replicate, List.length_cons, List.length_nil]⟩

end Sys2Proof.Machine
end

section
/-! Frames: what the commands of one cell, trunk, pin, output, input, PLL, semaphore, queue, master or object leave of the
others. -/
namespace Sys2Proof.Machine

/-- Settles O9, by the frames of a cell and of a trunk. -/
theorem cellAndTrunkFrames : Obligations.CellAndTrunkFrames :=
  ⟨otherCells_frame, otherTrunks_frame⟩

/-- Settles O10, by the frames of a pin and of a safety output. -/
theorem pinAndOutputFrames : Obligations.PinAndOutputFrames :=
  ⟨otherPins_frame, otherOutputs_frame⟩

/-- Settles O11, by the frames of an input and of a PLL. -/
theorem inputAndPllFrames : Obligations.InputAndPllFrames :=
  ⟨otherInputs_frame, otherPlls_frame⟩

/-- Settles O12, by the frames of the fabric and of a bus master. -/
theorem fabricAndMasterFrames : Obligations.FabricAndMasterFrames :=
  ⟨fabricFrames_frame, otherMasters_frame⟩

/-- R364: a write of FORCE changes the FORCE of its pin alone. -/
theorem val_forcePin_of_ne {j k d p : Nat} (other : objKey j k d ≠ objKey 0x5001 9 p) (s : State) (v : Nat) :
    (s.forcePin p v).val j k d = s.val j k d := by
  unfold State.forcePin
  split
  next => rfl
  next => exact (val_objs (State.note_objs ..) j k d).trans (val_setObj_other other _)

/-- Field and safety objects (0x5001 to 0x6200) whose write is no command of its own (02). -/
def PlainWrite (idx sub : Nat) : Prop :=
  0x5001 ≤ idx ∧ idx ≤ 0x6200 ∧ idx ≠ 0x5002 ∧ idx ≠ 0x5010 ∧ idx ≠ 0x6101 ∧ (idx = 0x5001 → sub ≠ 9)

theorem plainWrite_of_inSafetySet {s : State} {idx sub chan : Nat} (member : s.inSafetySet idx sub chan = true) :
    PlainWrite idx sub := by
  simp only [State.inSafetySet, State.safetyField, Bool.or_eq_true, Bool.and_eq_true, beq_iff_eq, decide_eq_true_eq] at member
  unfold PlainWrite
  omega

theorem plainWrite_protSet (sub : Nat) : PlainWrite 0x6200 sub := by
  unfold PlainWrite
  omega

theorem writeEffect_of_plain {e : WEntry} (plain : PlainWrite e.index e.sub) (s : State) (c : Caller) (level : Nat) :
    s.writeEffect c level e = s.putObj c e := by
  obtain ⟨low, high, notClear, notMask, notSafety, notForce⟩ := plain
  unfold State.writeEffect
  dsimp only
  split
  case h_32 => rfl -- the default branch: no row of its own
  all_goals exfalso; omega

/-- A write judged OK, of an object whose write is no command, changes that object alone. -/
theorem val_writeObj_of_ne {s : State} {c : Caller} {level idx sub chan j k d : Nat} {b : List Nat}
    (other : objKey j k d ≠ objKey idx sub chan) (ok : s.writeStatus c level idx sub chan b = stOk)
    (plain : PlainWrite idx sub) :
    (s.writeObj c level idx sub chan b).2.val j k d = s.val j k d := by
  have written : (s.writeObj c level idx sub chan b).2 = s.putObj c (entryOf idx sub chan b 0) := 
    (if_pos ok).trans (writeEffect_of_plain plain s c level)
  exact written ▸ putObj_other (e := entryOf idx sub chan b 0) other c

/-- Settles O13: FORCE by its own frame, the two sets by that of a plain write. -/
theorem objectFrames : Obligations.ObjectFrames := by
  intro s t j k d
  refine ⟨fun level p v other e => ?_, fun session level idx sub chan value other ok e => ?_,
    fun session level sub value other ok e => ?_⟩
  · cases e
    exact ite_ind (P := fun u : State => u.val j k d = s.val j k d) (val_forcePin_of_ne other s v) rfl
  · cases e
    split
    next member => exact val_writeObj_of_ne other ok (plainWrite_of_inSafetySet member)
    next => rfl
  · cases e
    exact val_writeObj_of_ne other ok (plainWrite_protSet sub)

end Sys2Proof.Machine
end

section
/-! Two trips: FORMING without references (09, R263) and an available count below AV_MIN (07, R180). -/
namespace Sys2Proof.Machine

theorem exec_leadWaitExpiry_of_due {s : State} (forming : s.forming = true) (due : s.LEAD_WAIT ≤ s.form.leadWait) :
    exec .leadWaitExpiry s = .next (s.trip 0x5223 .form []) :=
  congrArg Host.Outcome.next (if_pos (by simp [forming, due]))

theorem exec_leadWaitExpiry_of_lt {s : State} (early : s.form.leadWait < s.LEAD_WAIT) : exec .leadWaitExpiry s = .next s :=
  congrArg Host.Outcome.next (if_neg (by simp [early]))

/-- Settles O18, by the two sides of the limit and what a trip of a running function leaves. -/
theorem leadWaitTrip : Obligations.LeadWaitTrip := by
  intro s mode run
  have forming : s.forming = true := by simp [State.forming, mode, run]
  exact ⟨fun due => ⟨exec_leadWaitExpiry_of_due forming due, trip_tripped s 0x5223 .form [] (isRun_up run)⟩,
    exec_leadWaitExpiry_of_lt⟩

theorem avCheck_of_lt {s : State} {av : Nat} (run : s.isRun .select = true) (low : av < s.AV_MIN) :
    s.avCheck av = ({ s with cell := { s.cell with avail := av, avLow := true } }).trip 0x2110 .select [] := by
  have trips : (s.isRun .select && decide (av < s.AV_MIN)) = true := by simp [run, low]
  exact if_pos trips

theorem avCheck_of_le {s : State} {av : Nat} (enough : s.AV_MIN ≤ av) :
    s.avCheck av = { s with cell := { s.cell with avail := av } } := by
  have stays : ¬(s.isRun .select && decide (av < s.AV_MIN)) = true := by simp [Nat.not_lt.mpr enough]
  exact if_neg stays

/-- Settles O19, by the two sides of AV_MIN and what a trip of a running function leaves. -/
theorem availableCountTrip : Obligations.AvailableCountTrip := by
  intro s av
  refine ⟨fun run low => ?_, fun enough => avCheck_of_le (by omega)⟩
  have trips := avCheck_of_lt run low
  exact ⟨trips, trips ▸ trip_tripped _ 0x2110 .select [] (isRun_up (n := .select) run)⟩

end Sys2Proof.Machine
end

section
/-! The order of the free cells (07, R190): the insertion sort is stable, so equal keys stand by cell number. -/
namespace Sys2Proof.Machine

theorem insSorted_perm {α : Type} (key : α → Nat) (x : α) (l : List α) : (insSorted key x l).Perm (x :: l) := by
  induction l with
  | nil => exact .refl _
  | cons y ys ih =>
    unfold insSorted
    split
    · exact .refl _
    · exact (ih.cons y).trans (.swap x y ys)

theorem foldl_insSorted_perm {α : Type} (key : α → Nat) (l acc : List α) :
    (l.foldl (fun acc x => insSorted key x acc) acc).Perm (l ++ acc) := by
  induction l generalizing acc with
  | nil => exact .refl _
  | cons x l ih => exact (ih _).trans (((insSorted_perm key x acc).append_left l).trans List.perm_middle)

theorem sortBy_perm {α : Type} (key : α → Nat) (l : List α) : (sortBy key l).Perm l :=
  (foldl_insSorted_perm key l []).trans (.of_eq (List.append_nil l))

/-- `a` stands before `b` in a stable sort: by a lower key, or by an equal one and the relation `r` that stood before. -/
def StableBefore {α : Type} (key : α → Nat) (r : α → α → Prop) (a b : α) : Prop :=
  key a < key b ∨ key a = key b ∧ r a b

theorem StableBefore.key_le {α : Type} {key : α → Nat} {r : α → α → Prop} {a b : α} (h : StableBefore key r a b) :
    key a ≤ key b :=
  h.elim Nat.le_of_lt fun equal => Nat.le_of_eq equal.1

/-- An entry that `r` puts after all the sorted ones takes its place among them. -/
theorem pairwise_insSorted {α : Type} {key : α → Nat} {r : α → α → Prop} {x : α} {l : List α}
    (sorted : l.Pairwise (StableBefore key r)) (last : ∀ y ∈ l, r y x) : (insSorted key x l).Pairwise (StableBefore key r) := by
  induction l with
  | nil => exact List.pairwise_singleton _ x
  | cons y ys ih =>
    obtain ⟨first, sortedRest⟩ := List.pairwise_cons.mp sorted
    unfold insSorted
    split
    next lower =>
      refine List.pairwise_cons.mpr ⟨fun z hz => .inl ?_, sorted⟩
      rcases List.mem_cons.mp hz with rfl | hz
      · exact lower
      · exact Nat.lt_of_lt_of_le lower (first z hz).key_le
    next notLower =>
      have beforeX : StableBefore key r y x :=
        (Nat.lt_or_eq_of_le (Nat.not_lt.mp notLower)).imp_right fun equal => ⟨equal, last y List.mem_cons_self⟩
      refine List.pairwise_cons.mpr ⟨fun z hz => ?_, ih sortedRest fun z hz => last z (List.mem_cons_of_mem y hz)⟩
      rcases List.mem_cons.mp ((insSorted_perm key x ys).mem_iff.mp hz) with rfl | hz
      · exact beforeX
      · exact first z hz

theorem pairwise_foldl_insSorted {α : Type} {key : α → Nat} {r : α → α → Prop} {l acc : List α} (order : l.Pairwise r)
    (sorted : acc.Pairwise (StableBefore key r)) (after : ∀ y ∈ acc, ∀ x ∈ l, r y x) :
    (l.foldl (fun acc x => insSorted key x acc) acc).Pairwise (StableBefore key r) := by
  induction l generalizing acc with
  | nil => exact sorted
  | cons x l ih =>
    obtain ⟨first, orderRest⟩ := List.pairwise_cons.mp order
    refine ih orderRest (pairwise_insSorted sorted fun y hy => after y hy x List.mem_cons_self) fun y hy z hz => ?_
    rcases List.mem_cons.mp ((insSorted_perm key x acc).mem_iff.mp hy) with rfl | hy
    · exact first z hz
    · exact after y hy z (List.mem_cons_of_mem x hz)

theorem pairwise_sortBy {α : Type} (key : α → Nat) {r : α → α → Prop} {l : List α} (order : l.Pairwise r) :
    (sortBy key l).Pairwise (StableBefore key r) :=
  pairwise_foldl_insSorted order .nil (by simp)

/-- The cells that rule 10 decides, by number. -/
def freeCells (rules : List Nat) : List Nat :=
  (List.range 256).filter (fun c => entry rules c 0 == 10)

theorem mem_freeCells {rules : List Nat} {c : Nat} : c ∈ freeCells rules ↔ c < 256 ∧ entry rules c 0 = 10 := by
  simp [freeCells]

theorem pairwise_freeCells (rules : List Nat) : (freeCells rules).Pairwise (· < ·) :=
  List.pairwise_lt_range.filter _

/-- The number that a cell's biased key is sorted by: ascending while charging, descending otherwise. -/
def State.sortKey (s : State) (c : Nat) : Nat :=
  (if s.charging then (s.cellAt c).bkey + 4294967296 else 4294967296 - (s.cellAt c).bkey).toNat

theorem freeOrder_eq_sortBy (s : State) (rules : List Nat) : s.freeOrder rules = sortBy s.sortKey (freeCells rules) := rfl

theorem mem_freeOrder {s : State} {rules : List Nat} {c : Nat} : c ∈ s.freeOrder rules ↔ c < 256 ∧ entry rules c 0 = 10 := by
  rw [freeOrder_eq_sortBy, (sortBy_perm _ _).mem_iff, mem_freeCells]

theorem nodup_freeOrder (s : State) (rules : List Nat) : (s.freeOrder rules).Nodup := by
  rw [freeOrder_eq_sortBy, (sortBy_perm _ _).nodup_iff]
  exact List.nodup_range.filter _

/-- On signed 32-bit keys the number sorted by is the key, shifted while charging and mirrored otherwise. -/
theorem stableBefore_sortKey_iff {s : State} {a b : Nat} (ha : -2147483648 ≤ (s.cellAt a).bkey ∧ (s.cellAt a).bkey ≤ 2147483647)
    (hb : -2147483648 ≤ (s.cellAt b).bkey ∧ (s.cellAt b).bkey ≤ 2147483647) :
    StableBefore s.sortKey (· < ·) a b ↔
      (if s.charging then (s.cellAt a).bkey < (s.cellAt b).bkey else (s.cellAt b).bkey < (s.cellAt a).bkey) ∨
        ((s.cellAt a).bkey = (s.cellAt b).bkey ∧ a < b) := by
  unfold StableBefore State.sortKey
  split <;> omega

theorem pairwise_freeOrder {s : State} (rules : List Nat)
    (keys : ∀ c < 256, -2147483648 ≤ (s.cellAt c).bkey ∧ (s.cellAt c).bkey ≤ 2147483647) :
    (s.freeOrder rules).Pairwise (fun a b =>
      (if s.charging then (s.cellAt a).bkey < (s.cellAt b).bkey else (s.cellAt b).bkey < (s.cellAt a).bkey) ∨
        ((s.cellAt a).bkey = (s.cellAt b).bkey ∧ a < b)) :=
  (pairwise_sortBy s.sortKey (pairwise_freeCells rules)).imp_of_mem fun ha hb before =>
    (stableBefore_sortKey_iff (keys _ (mem_freeOrder (s := s).mp ha).1) (keys _ (mem_freeOrder (s := s).mp hb).1)).mp before

/-- The word of a free cell: INSERT for the first cells of the order, BYPASS for the rest (Table 7-2, rule 10). -/
theorem entry_wordsOf_of_free (s : State) {rules : List Nat} (order : List Nat) (ins : Nat) {c : Nat} (hc : c < 256)
    (free : entry rules c 0 = 10) : entry (s.wordsOf rules order ins) c 0 = if (order.take ins).contains c then 1 else 0 := by
  have range : entry (List.range 256) c 0 = c := by simp [entry, hc]
  unfold State.wordsOf
  rw [entry_map _ (List.range 256) c 0 0 (by simpa using hc), range, free]
  rfl

theorem warnHold_cell (s : State) (code key : Nat) : (s.warnHold code key).cell = s.cell :=
  State.warnHold_keeps.same .cell rfl

/-- What is counted and recorded of a shortfall leaves the delivered number. -/
theorem delivered_shortfall (s : State) (t want lockI free m7 : Nat) :
    (s.shortfall t want lockI free m7).cell.delivered = s.cell.delivered := by
  unfold State.shortfall
  dsimp only
  refine ite_ind (P := fun u : State => u.cell.delivered = s.cell.delivered) ?held ?noted
  case held =>
    rw [warnHold_cell]
    exact ite_ind (P := fun u : State => u.cell.delivered = s.cell.delivered) rfl
      (Eq.trans (congrArg CellState.delivered (State.warn_cell ..)) rfl)
  case noted =>
    exact ite_ind (P := fun u : State => u.cell.delivered = s.cell.delivered)
      (Eq.trans (congrArg CellState.delivered (State.note_cell ..)) rfl) rfl

/-- Settles O20, by the stable sort, the word of a free cell and the clamp that selectRun stores. -/
theorem selectionOrder : Obligations.SelectionOrder := by
  refine ⟨fun s rules => ⟨nodup_freeOrder s rules, fun c => mem_freeOrder, pairwise_freeOrder rules⟩,
    fun s rules order ins c hc free => ?_, fun s n t => delivered_shortfall ..⟩
  rw [entry_wordsOf_of_free s order ins hc free]
  split <;> simp_all

end Sys2Proof.Machine
end

section
/-! Completion: each statement is the conjunction of its commands' effects (Laws/Effect01 to Effect12), in the order of its
clauses. A log entry named is a choice of the model on a point that the manual does not state. -/
namespace Sys2Proof.Machine

/-! ### Service, modes, resets and boot (02, 03, 15, 17) -/

/-- Settles O21, by the effect of each command (log entries 21, 119, 120 and 121). -/
theorem serviceRequestsComplete : Obligations.ServiceRequestsComplete :=
  ⟨psDatagram_effect, readRequest_effect, readBlock_effect, describeRequest_effect, stagedWriteApply_effect,
    clientStateExpiry_effect⟩

/-- Settles O22, by the effect of each command (log entry 121). -/
theorem serviceWritesComplete : Obligations.ServiceWritesComplete :=
  ⟨writeRequest_effect, writeBlock_effect⟩

/-- Settles O23, by the effect of each command (log entries 74, 79 and 82). -/
theorem sessionsComplete : Obligations.SessionsComplete :=
  ⟨helloRequest_effect, openSession_effect, claimOwner_effect, closeSession_effect, sessionClose_effect,
    sessionTimeout_effect, helloExpiry_effect⟩

/-- Settles O24, by the effect of each command. -/
theorem runStatesComplete : Obligations.RunStatesComplete :=
  ⟨runStart_effect, runStop_effect, startCheckDone_effect, stopComplete_effect⟩

/-- Settles O25, by the effect of each command (log entry 123). -/
theorem modeCommandsComplete : Obligations.ModeCommandsComplete :=
  ⟨modeRequestCommission_effect, modeRequestBlocked_effect, modeRequestForming_effect, configCommit_effect,
    configCommitDone_effect, tickLengthWrite_effect, stationSetpointWrite_effect⟩

/-- Settles O26, by the effect of each command (log entries 66 and 68). -/
theorem resetsComplete : Obligations.ResetsComplete :=
  ⟨applicationResetCommand_effect, systemResetCommand_effect, powerOnReset_effect, sysResetN_effect,
    hkWatchdogExpiry_effect, appWatchdogExpiry_effect, yieldReset_effect, dbgReset_effect⟩

/-- Settles O27, by the effect of each command. -/
theorem bootComplete : Obligations.BootComplete :=
  ⟨bootSequence_effect, dpxListenWindowEnd_effect, firmwareVerify_effect⟩

/-! ### Commands of COMMISSION, outputs, safety and security (07, 10 to 14, 17) -/

/-- Settles O28, by the effect of each command (log entries 35 and 135). -/
theorem commissioningComplete : Obligations.CommissioningComplete :=
  ⟨failNow_effect, failReasonWrite_effect, gdVerify_effect, injCommand_effect, clkCommit_effect, timeSet_effect⟩

/-- Settles O29, by the effect of each command. -/
theorem outputCommandsComplete : Obligations.OutputCommandsComplete :=
  ⟨outSet_effect, outClear_effect, pinClear_effect, forceWrite_effect⟩

/-- Settles O30, by the effect of each command. -/
theorem safetyCommandsComplete : Obligations.SafetyCommandsComplete :=
  ⟨safeReset_effect, safetyConfirm_effect, safetySetWrite_effect, protSetWrite_effect, protStart_effect⟩

/-- Settles O31, by the effect of each command. -/
theorem securityCommandsComplete : Obligations.SecurityCommandsComplete :=
  ⟨attestRequest_effect, attestSigned_effect, ownerKeysWrite_effect, credMinGenWrite_effect, fuseSvn_effect,
    appMinSvnWrite_effect, debugLockSet_effect⟩

/-! ### Recorder, fabric, debug and supply (15 to 18) -/

/-- Settles O32, by the effect of each command. -/
theorem recorderComplete : Obligations.RecorderComplete :=
  ⟨recorderClear_effect, windowSnapshot_effect, registerWrite_effect, selectRegisterWrite_effect,
    timeSecLoRead_effect, recNewestLoRead_effect, recOldestLoRead_effect, recOffer_effect, eventOffer_effect,
    folioWrite_effect⟩

/-- Settles O33, by the effect of each command. -/
theorem fencingComplete : Obligations.FencingComplete :=
  ⟨errorClear_effect, unfence_effect, fenceSelftestDone_effect, uncorrectableError_effect, parityError_effect,
    eccCorrected_effect, handshakeTimeout_effect⟩

/-- Settles O34, by the effect of each command. -/
theorem semaphoresAndQueuesComplete : Obligations.SemaphoresAndQueuesComplete :=
  ⟨semAcquire_effect, semRelease_effect, semRenew_effect, queuePost_effect, queueTake_effect,
    semLeaseExpiry_effect, queueStall_effect, applicationFrame_effect⟩

/-- Settles O35, by the effect of each command (log entries 19 and 107). -/
theorem debugComplete : Obligations.DebugComplete :=
  ⟨dbgChallenge_effect, dbgResponse_effect, dbgAccess_effect, dbgEnd_effect, extest_effect, idcode_effect,
    bypass_effect, samplePreload_effect, dbgLockoutEnd_effect, dbgIdleTimeout_effect⟩

/-- Settles O36, by the effect of each command (log entry 17). -/
theorem supplyComplete : Obligations.SupplyComplete :=
  ⟨feedStateChange_effect, vdd3v3Check_effect, pmbusPoll_effect, pmbAlert_effect, conductingFeedChange_effect,
    powerDownColdComplete_effect⟩

/-! ### Time base and spine (01, 06, 09) -/

/-- Settles O37, by the effect of each command (log entries 6 and 24). -/
theorem timeBaseComplete : Obligations.TimeBaseComplete :=
  ⟨tick_effect, formingPeriodBoundary_effect, extSlotsRun_effect, extSlotOverrun_effect,
    extRestoreReached_effect, refsSend_effect, periodLastTick_effect⟩

/-- Settles O38, by the effect of each command (log entries 6 and 13). -/
theorem spineMessagesComplete : Obligations.SpineMessagesComplete :=
  ⟨markerMsg_effect, shareMsg_effect, spanReport_effect, armState_effect, rollCall_effect, spanPub_effect,
    measMsg_effect, setpointMsg_effect, refsMsg_effect, stateMsg_effect⟩

/-- Settles O39, by the effect of each command (log entry 13). -/
theorem spineLinkComplete : Obligations.SpineLinkComplete :=
  ⟨spineEcho_effect, spineEchoReply_effect, segmentMeasure_effect, spinePortLockLost_effect,
    spinePortRestored_effect, markerWaitExpiry_effect, markerMissing_effect, markerLossTrip_effect,
    tickLockAcquired_effect⟩

/-- Settles O40, by the effect of each command (log entry 61). -/
theorem spineTimersComplete : Obligations.SpineTimersComplete :=
  ⟨shareMissing_effect, shareMissTrip_effect, reportMissingTrip_effect, armStateMissing_effect,
    leadWaitExpiry_effect, refsLostTrip_effect, substituteLimitExpiry_effect, primaryRestore_effect,
    shadowMismatchLimit_effect, shadowMatchRestore_effect⟩

/-! ### Forming (04, 05) -/

/-- Settles O41, by the effect of each command (log entries 12, 55 and 126). -/
theorem formingEntryComplete : Obligations.FormingEntryComplete :=
  ⟨syncTimeout_effect, syncFbTimeout_effect, syncDwellElapsed_effect, syncPulseEnd_effect,
    settleDwellElapsed_effect, bsRampComplete_effect, bsStallExpiry_effect⟩

/-- Settles O42, by the effect of each command (log entries 12 and 126). -/
theorem rideThroughComplete : Obligations.RideThroughComplete :=
  ⟨rideEntry_effect, rideTClearElapsed_effect, recoverComplete_effect, rideTMaxExpiry_effect,
    regionDwellExpiry_effect⟩

/-! ### Cells and trunks (07, 08) -/

/-- Settles O43, by the effect of each command. -/
theorem cellTimersComplete : Obligations.CellTimersComplete :=
  ⟨refreshDue_effect, bsRecoverTimeout_effect, dwellExpiry_effect, swPeriodEnd_effect, telStaleExceeded_effect,
    telLost_effect, appliedMismatchLimit_effect⟩

/-- Settles O44, by the effect of each command. -/
theorem trunkFramesComplete : Obligations.TrunkFramesComplete :=
  ⟨uplinkFrame_effect, trunkEchoReply_effect, delayAck_effect, cellDelays_effect, hubInfo_effect,
    hubAlarm_effect, mgmtRequestTimeout_effect, mailboxReadTimeout_effect, periodicReadback_effect⟩

/-- Settles O45, by the effect of each command. -/
theorem trunkBringUpComplete : Obligations.TrunkBringUpComplete :=
  ⟨trunkTrainComplete_effect, trunkMeasureComplete_effect, trunkAlignComplete_effect, trunkVerifyComplete_effect,
    trunkRetryExpiry_effect, trunkBlockLockLost_effect, trunkLeavesUp_effect⟩

/-! ### Sensing and clocks (10, 11, 12) -/

/-- Settles O46, by the effect of each command (log entry 135). -/
theorem calibrationComplete : Obligations.CalibrationComplete :=
  ⟨senseCalibrationDone_effect, rotationHandover_effect, switchEdge_effect, handoverDeferralLimit_effect,
    calibrateComplete_effect, internalChannelConverted_effect, historyFilled_effect⟩

/-- Settles O47, by the effect of each command (log entries 39 and 135). -/
theorem inputChecksComplete : Obligations.InputChecksComplete :=
  ⟨comparatorCrossing_effect, comparatorRelease_effect, frozenWindowEnd_effect, saturationLost_effect,
    saturationClear_effect, testInjection_effect, ainTrigEdge_effect, injectedSampleDone_effect⟩

/-- Settles O48, by the effect of each command. -/
theorem referenceAndLockComplete : Obligations.ReferenceAndLockComplete :=
  ⟨referenceLost_effect, referencePresent_effect, referenceQualifying_effect, pllLock_effect, pllLockLost_effect,
    acquisitionTimeout_effect, freqMonitorWindow_effect⟩

/-- Settles O49, by the effect of each command. -/
theorem clockBackupComplete : Obligations.ClockBackupComplete :=
  ⟨referenceLoss10s_effect, backupSwitchDone_effect, backupTrim_effect, monitorRatioMeasure_effect,
    relockFDone_effect, relockPDone_effect, backupReturn_effect, heldCommitApply_effect⟩

/-- Settles O50, by the effect of each command (log entries 29, 47 and 137). -/
theorem timeComplete : Obligations.TimeComplete :=
  ⟨ptpSync_effect, ptpFollowUp_effect, ptpAnnounce_effect, ptpPdelay_effect, pdelayReqSend_effect,
    ptpMasterSend_effect, announceTimeout_effect, syncLoss_effect, holdoverExpiry_effect, secondRollover_effect⟩

/-! ### Ports, pins and safety outputs (13, 14, 18) -/

/-- Settles O51, by the effect of each command (log entry 138). -/
theorem networkPortsComplete : Obligations.NetworkPortsComplete :=
  ⟨mdioLinkPoll_effect, prpSupervisionSend_effect, prpSupervisionReceived_effect, barrierFrame_effect,
    barrierLinkDown_effect, barrierLinkRestored_effect⟩

/-- Settles O52, by the effect of each command (log entry 31). -/
theorem fieldPinsComplete : Obligations.FieldPinsComplete :=
  ⟨inputDebounceChange_effect, outputOverload_effect, outputThermal_effect, outputRetry_effect,
    overloadFlagClear_effect, wireBreak_effect, outputDiagTimer_effect, pinReversed_effect, lpSample_effect,
    lpRestore_effect, outputCooled_effect⟩

/-- Settles O54, by the effect of each command (log entries 51 and 139). -/
theorem safetyOutputsComplete : Obligations.SafetyOutputsComplete :=
  ⟨soSwitchOnStep_effect, soTestPulseDue_effect, soPulseEnd_effect, soDiagTimer_effect, safetyFrame_effect,
    slProduce_effect, slWatchdogExpiry_effect⟩

/-! ### Duplex operation and keeping (15, 17) -/

/-- Settles O55, by the effect of each command (log entry 17). -/
theorem duplexMessagesComplete : Obligations.DuplexMessagesComplete :=
  ⟨beatSend_effect, beatMsg_effect, ckpt_effect, mirror_effect, statusSend_effect, statusMsg_effect,
    hbAck_effect, handback_effect⟩

/-- Settles O56, by the effect of each command (log entry 17). -/
theorem leasesComplete : Obligations.LeasesComplete :=
  ⟨dpxLinkDown_effect, holderLeaseExpiry_effect, storeLeaseExpiry_effect, livenessCheck_effect,
    takeoverBringupDone_effect, coldAcquisition_effect, preparedEntry_effect, warmReached_effect,
    switchover_effect⟩

/-- Settles O57, by the effect of each command (log entries 17 and 109). -/
theorem handBackComplete : Obligations.HandBackComplete :=
  ⟨handbackModeEntry_effect, handbackEpochRaise_effect, handbackTransfer_effect, holderOutputRelease_effect⟩

/-- Settles O58, by the effect of each command. -/
theorem keepingComplete : Obligations.KeepingComplete :=
  ⟨lmsTokenRefill_effect, syncTimeStore_effect⟩

end Sys2Proof.Machine
end
